-- ==== Sys2Proof/Word.lean ====
section
/-! DEFINITION. The machine words of the GY6448-IB and the index types that name its instances (00, 01). -/

namespace Sys2Proof

/-- A byte of host or local memory. -/
abbrev Byte := BitVec 8
/-- Stall 0 to stall 63 (R167). -/
abbrev StallId := Fin 64
/-- Ring 0 to ring 255 (R220). -/
abbrev RingId := Fin 256
/-- Halter source HS0 to HS95 (R641). -/
abbrev HsId := Fin 96
/-- Event source EV0 to EV319 (R732). -/
abbrev EvId := Fin 320
/-- A unit with a crib, numbered as UNIT is: CL0-CL31, DL0-DL15, BN0-BN7 (R230, R548). -/
abbrev UnitId := Fin 56
/-- Switched power domain PD0 to PD63 (R702). -/
abbrev PdId := Fin 64
/-- Manger slice MS0 to MS15 (R522). -/
abbrev SliceId := Fin 16
/-- Memory channel MC0 to MC3, and Manger group MG0 to MG3 (R522, R569). -/
abbrev ChanId := Fin 4
/-- Noise source NS0 or NS1 (R487). -/
abbrev NsId := Fin 2
/-- Tamper input 0 to 7, and 8 for EXT_FAULT_IN (R679). -/
abbrev InputId := Fin 9
/-- Measurement register MR0 to MR47 (R431). -/
abbrev MrId := Fin 48
/-- OTP slot TS0 to TS511 (R316). -/
abbrev SlotId := Fin 512
/-- Keyed-state handle (R343). -/
abbrev Handle := Fin 2048
/-- Line number A of R524: local address bits [33:9]. -/
abbrev LineNo := BitVec 25

end Sys2Proof
end

