-- ==== Sys2Proof/Syntax.lean ====
section
/-! DEFINITION. The commands the block takes: one constructor for each row of spec/opcode_table.json.
The table gives no operand and no bits; the operands of each row are the model's (assumption 6): what the rule
that the row names makes the moment depend on and the state does not hold. -/

namespace Sys2Proof

/-- A physical function (R113). -/
inductive Fn where
  | pf0 | pf1
  deriving DecidableEq, Repr

/-- What the SFDP read finds (R52): the reachable bytes, 1-4-4 fast read with its dummy cycles, the quad-enable encoding,
4-byte addressing required and advertised. -/
structure Sfdp where
  bytes : Nat
  fast144 : Bool
  dummyCycles : BitVec 8
  quadEnable : BitVec 3
  needs4 : Bool
  has4 : Bool
  deriving DecidableEq, Repr

/-- The capabilities that R108 and R112 name: those that a function may carry, and those that none does. -/
inductive Cap where
  | powerManagement | pciExpress | msix | aer | pasid | ltr
  | msi | srIov | ats | pri | ide | tph | resizableBar | vpd | l1PmSubstates
  deriving DecidableEq, Repr

/-- A configuration request to a field that this spec names (R108, R111-R113, R122-R124, R131, R132, R135-R137, R141). -/
inductive CfgOp where
  | readIds
  | readMultiFunction
  | readSubsystem
  | readCapability (cap : Cap)
  | readLinkCaps
  | readDeviceCaps
  | readDeviceStatus
  | readPasidCaps
  | readMsixCaps
  | readControls
  | readAer
  | readBar (i : Fin 6)
  | writeBar (i : Fin 6) (v : BitVec 32)
  | setMsixEnable (v : Bool)
  | setFunctionMask (v : Bool)
  | setPasidEnable (v : Bool)
  | setRelaxedOrdering (v : Bool)
  | setTag10 (v : Bool)
  | setCompletionTimeout (v : BitVec 4)
  | setMaxRead (v : BitVec 3)
  | setMaxPayload (v : BitVec 3)
  | setFatalReporting (v : Bool)
  | setSeverity (v : BitVec 10)
  | clearAer (uncorrectable : BitVec 10) (correctable : BitVec 6)
  deriving DecidableEq, Repr

/-- A run of a request's operation on a unit, and whether the two AES cores agree on the blob that it may make (R315). -/
structure CoreRun where
  req : Nat
  agree : Bool
  deriving DecidableEq, Repr

/-- A write of TKR_PROG_CTL with GO, and whether the two AES cores agree on the blob that it may open (R315, R319). -/
structure GoWrite where
  value : BitVec 32
  agree : Bool
  deriving DecidableEq, Repr

/-- A read command on I2C: the data bytes that the master writes after the command byte, and the bytes that it then reads
(R147). -/
structure I2cRead where
  written : Nat
  reads : Nat
  deriving DecidableEq, Repr

/-- What the host answers to one read of the device (R791). -/
inductive HostAnswer where
  | data (bytes : List Byte)
  | ur
  | ca
  | poisoned
  deriving DecidableEq, Repr

/-- The pools of R272. -/
inductive Pool where
  | cipher | digest | bignum | random | key | memory | measurement
  deriving DecidableEq, Repr

/-- A BAR4 access: a read of so many bytes, or a write whose absent bytes have their byte enable clear (R127, R129). -/
inductive Bar4Acc where
  | read (len : Nat)
  | write (bytes : List (Option Byte)) (poisoned : Bool)
  deriving DecidableEq, Repr

/-- A configuration register of a ring (R268-R270). -/
inductive RingReg where
  | base | cpl | hwb | ctl
  deriving DecidableEq, Repr

/-- A configuration register that the Halter checks by parity: HLT_SRC_CFGk or HLT_SEV_REACT (R665). -/
inductive HltPart where
  | source (src : HsId)
  | sevReact
  deriving DecidableEq, Repr

/-- A word of a Paddock entry (R215). -/
inductive PkWord where
  | base | limit | mask | rights
  deriving DecidableEq, Repr

/-- A health-test failure cause (R488, R491). -/
inductive HealthCause where
  | rct | apt | freq
  deriving DecidableEq, Repr

/-- A consumer of DRBG output that may wait (R498, R499). -/
inductive Consumer where
  | request (req : Nat)
  | root
  | slotProgram
  | debugNonce
  | mask (unit : UnitId)
  deriving DecidableEq, Repr

/-- The access that misses in a slice (R531, R537). -/
inductive AccKind where
  | read | write | reduction
  deriving DecidableEq, Repr

/-- Where an uncorrectable slice error lies (R558, R568). -/
inductive SliceErr where
  | data (line : LineNo) (way : BitVec 4) (sector : Fin 8)
  | reserved (req : Nat)
  | tag
  | directory
  deriving DecidableEq, Repr

/-- What a scrub read finds (R591). -/
inductive EccResult where
  | clean | correctable | uncorrectable
  deriving DecidableEq, Repr

/-- An SRAM word of the structures of R581. -/
inductive SramWord where
  | manger (slice : SliceId) (err : SliceErr) (stall : Option StallId)
  | crib (unit : UnitId) (line : LineNo)
  | store (handle : Handle)
  | entropyQueue (entry : Nat)
  | bridle (req : Option Nat)
  deriving DecidableEq, Repr

/-- A structure of R581 behind a SECDED checker (R582). -/
inductive SramPart where
  | slice (slice : SliceId)
  | crib (unit : UnitId)
  | store
  | entropyQueue
  | bridle
  deriving DecidableEq, Repr

/-- A monitor condition of R690. -/
inductive MonCond where
  | coreLo | sramLo | aonLo | hi | io
  | tempHi | tempLo | trip
  | refclk | coreClk | aonOsc
  deriving DecidableEq, Repr

/-- A link error of R135. -/
inductive LinkErr where
  | receiver | badTlp | badDllp | replayRollover | replayTimeout
  | dataLinkProtocol | receiverOverflow | flowControl | malformedTlp
  deriving DecidableEq, Repr

/-- The commands of spec/opcode_table.json, in its order. -/
inductive Instr where
  /-- POWER_ON_RESET (R89) -/
  | powerOnReset (i2cAddr : BitVec 3) (refclkSel testMode : Bool) (imgSel : BitVec 2)
  /-- PERST_N_ASSERT (R89) -/
  | perstNAssert
  /-- PERST_N_DEASSERT (R37) -/
  | perstNDeassert (imgSel : BitVec 2)
  /-- CFG_SW_RESET (R106) -/
  | cfgSwReset (fn : Fn) (value : BitVec 32)
  /-- CHIP_RESET (R91) -/
  | chipReset (perst halter software : Bool) (imgSel : BitVec 2)
  /-- RESET_PHASE_END (R38) -/
  | resetPhaseEnd
  /-- OTP_PHASE_END (R46) -/
  | otpPhaseEnd
  /-- PLL_LOCK (R41) -/
  | pllLock
  /-- PLL_LOCK_TIMEOUT (R99) -/
  | pllLockTimeout
  /-- PRELOAD_TEST_END (R76) -/
  | preloadTestEnd (halterOk mrbOk ms0Ok : Bool) (sfdp : Option Sfdp)
  /-- LOAD_PHASE_END (R39) -/
  | loadPhaseEnd (copyA copyB : List Byte) (bnuPass : BitVec 8)
  /-- APPLY_PHASE_END (R63) -/
  | applyPhaseEnd
  /-- MEMORY_PHASE_END (R40) -/
  | memoryPhaseEnd (tablesOk : Bool) (badSram : List SramPart)
  /-- SELF_TEST_PHASE_END (R76) -/
  | selfTestPhaseEnd (failed : BitVec 64)
  /-- ROOT_GEN (R86) -/
  | rootGen (readbackOk : Bool)
  /-- HELD_ENTRY (R45) -/
  | heldEntry
  /-- READY_ENTRY (R80) -/
  | readyEntry
  /-- CFG_BOOT_CTL_RELEASE (R82) -/
  | cfgBootCtlRelease (fn : Fn) (value : BitVec 32)
  /-- CONFIG_REQUEST (R75) -/
  | configRequest (fn : Fn) (op : CfgOp)
  /-- FLR (R139) -/
  | flr (fn : Fn)
  /-- FLR_COMPLETE (R141) -/
  | flrComplete (fn : Fn)
  /-- HOT_RESET (R142) -/
  | hotReset
  /-- LINK_RETRAIN (R153) -/
  | linkRetrain (rate width : BitVec 4)
  /-- D3HOT_ENTRY (R143) -/
  | d3hotEntry (fn : Fn)
  /-- D0_RETURN (R143) -/
  | d0Return (fn : Fn)
  /-- BAR_ACCESS_MALFORMED (R114) -/
  | barAccessMalformed (fn : Fn) (isWrite : Bool)
  /-- UNSUPPORTED_REQUEST (R135) -/
  | unsupportedRequest (fn : Fn)
  /-- BRD_DB_TAIL_WRITE (R222) -/
  | brdDbTailWrite (fn : Fn) (ring : RingId) (value : BitVec 32)
  /-- ALARM_TOKEN_REFILL (R284) -/
  | alarmTokenRefill
  /-- DESCRIPTOR_FETCH_ISSUE (R227) -/
  | descriptorFetchIssue (ring : RingId)
  /-- HOST_READ_COMPLETION (R791) -/
  | hostReadCompletion (rd : Nat) (ans : HostAnswer)
  /-- COMPLETION_TIMEOUT (R138) -/
  | completionTimeout (rd : Nat)
  /-- LATE_COMPLETION (R153) -/
  | lateCompletion (rd : Nat)
  /-- FETCH_ERR_CLEAR (R155) -/
  | fetchErrClear (fn : Fn) (ring : RingId) (value : BitVec 32)
  /-- CHAIN_OVERLENGTH_REJECT (R795) -/
  | chainOverlengthReject (ring : RingId)
  /-- CANDIDATE_ADMISSION (R249) -/
  | candidateAdmission (ring : RingId)
  /-- BLOB_UNWRAP_DONE (R334) -/
  | blobUnwrapDone (req : Nat) (coresAgree : Bool)
  /-- PREEMPT_SUSPEND (R292) -/
  | preemptSuspend (unit : UnitId)
  /-- SUSPENDED_RESUME (R292) -/
  | suspendedResume (unit : UnitId)
  /-- CHAIN_MEMBER_START (R255) -/
  | chainMemberStart (req : Nat)
  /-- COOP_HOLD_COMPLETE (R278) -/
  | coopHoldComplete
  /-- COOP_HOLD_TIMEOUT (R473) -/
  | coopHoldTimeout
  /-- KAT_DUE (R295) -/
  | katDue (pool : Pool)
  /-- KAT_START (R296) -/
  | katStart (unit : UnitId)
  /-- KAT_END (R299) -/
  | katEnd (unit : UnitId) (pass : Bool)
  /-- UNIT_FAULT_CHECK_FAIL (R623) -/
  | unitFaultCheckFail (unit : UnitId) (cause : BitVec 4)
  /-- REQUEST_COMPLETE (R613) -/
  | requestComplete (req : Nat)
  /-- HEAD_RECORD_WRITE (R233) -/
  | headRecordWrite (ring : RingId)
  /-- INTERMEDIATE_ZEROISE (R257) -/
  | intermediateZeroise (chain : Nat)
  /-- VBR_RELEASE (R392) -/
  | vbrRelease (req : Nat)
  /-- VBR_LINES_ZEROISE (R392) -/
  | vbrLinesZeroise (req : Nat)
  /-- COOP_LINES_ZEROISE (R474) -/
  | coopLinesZeroise (req : Nat)
  /-- PROT_FENCE_DONE (R199) -/
  | protFenceDone
  /-- AES_ECB_ENC (R378) -/
  | aesEcbEnc (req : Nat)
  /-- AES_ECB_DEC (R378) -/
  | aesEcbDec (req : Nat)
  /-- AES_CBC_ENC (R378) -/
  | aesCbcEnc (req : Nat)
  /-- AES_CBC_DEC (R378) -/
  | aesCbcDec (req : Nat)
  /-- AES_CTR (R379) -/
  | aesCtr (req : Nat)
  /-- AES_XTS_ENC (R380) -/
  | aesXtsEnc (req : Nat)
  /-- AES_XTS_DEC (R380) -/
  | aesXtsDec (req : Nat)
  /-- AES_CFB_ENC (R378) -/
  | aesCfbEnc (req : Nat)
  /-- AES_CFB_DEC (R378) -/
  | aesCfbDec (req : Nat)
  /-- AES_OFB (R378) -/
  | aesOfb (req : Nat)
  /-- AES_GCM_ENC (R378) -/
  | aesGcmEnc (req : Nat)
  /-- AES_GCM_DEC (R389) -/
  | aesGcmDec (req : Nat)
  /-- AES_CCM_ENC (R382) -/
  | aesCcmEnc (req : Nat)
  /-- AES_CCM_DEC (R389) -/
  | aesCcmDec (req : Nat)
  /-- AES_CMAC (R378) -/
  | aesCmac (req : Nat)
  /-- CHACHA20 (R383) -/
  | chacha20 (req : Nat)
  /-- CHACHA20_POLY1305_ENC (R383) -/
  | chacha20Poly1305Enc (req : Nat)
  /-- CHACHA20_POLY1305_DEC (R389) -/
  | chacha20Poly1305Dec (req : Nat)
  /-- HASH (R412) -/
  | hash (req : Nat)
  /-- HASH_FRAG (R416) -/
  | hashFrag (req : Nat)
  /-- XOF (R412) -/
  | xof (req : Nat)
  /-- HMAC (R419) -/
  | hmac (req : Nat)
  /-- HMAC_FRAG (R416) -/
  | hmacFrag (req : Nat)
  /-- KMAC (R413) -/
  | kmac (req : Nat)
  /-- KMAC_XOF (R413) -/
  | kmacXof (req : Nat)
  /-- MR_EXTEND (R435) -/
  | mrExtend (req : Nat)
  /-- MODEXP (R459) -/
  | modexp (req : Nat)
  /-- RSA_PRIV_CRT (R458) -/
  | rsaPrivCrt (req : Nat)
  /-- RSA_PUB (R458) -/
  | rsaPub (req : Nat)
  /-- ECDSA_SIGN (R458) -/
  | ecdsaSign (req : Nat)
  /-- ECDSA_VERIFY (R458) -/
  | ecdsaVerify (req : Nat)
  /-- ECDH (R460) -/
  | ecdh (run : CoreRun)
  /-- EC_KEYGEN (R461) -/
  | ecKeygen (run : CoreRun)
  /-- EDDSA_SIGN (R458) -/
  | eddsaSign (req : Nat)
  /-- EDDSA_VERIFY (R458) -/
  | eddsaVerify (req : Nat)
  /-- XDH (R460) -/
  | xdh (run : CoreRun)
  /-- MLKEM_KEYGEN (R461) -/
  | mlkemKeygen (run : CoreRun)
  /-- MLKEM_ENCAPS (R460) -/
  | mlkemEncaps (run : CoreRun)
  /-- MLKEM_DECAPS (R479) -/
  | mlkemDecaps (run : CoreRun)
  /-- MLDSA_KEYGEN (R461) -/
  | mldsaKeygen (run : CoreRun)
  /-- MLDSA_SIGN (R463) -/
  | mldsaSign (req : Nat)
  /-- MLDSA_VERIFY (R458) -/
  | mldsaVerify (req : Nat)
  /-- MODOP (R459) -/
  | modop (req : Nat)
  /-- COOP_MODEXP (R473) -/
  | coopModexp (req : Nat)
  /-- RNG_GET (R506) -/
  | rngGet (req : Nat)
  /-- RNG_RESEED (R507) -/
  | rngReseed (req : Nat)
  /-- RNG_RAW (R508) -/
  | rngRaw (req : Nat)
  /-- BLOB_WRAP (R341) -/
  | blobWrap (req : Nat) (coresAgree : Bool)
  /-- BLOB_UNWRAP (R333) -/
  | blobUnwrap (req : Nat)
  /-- KEY_DERIVE (R337) -/
  | keyDerive (req : Nat) (coresAgree : Bool)
  /-- KEY_GENERATE (R338) -/
  | keyGenerate (req : Nat) (coresAgree : Bool)
  /-- KSTATE_LOAD (R342) -/
  | kstateLoad (req : Nat)
  /-- KSTATE_DROP (R346) -/
  | kstateDrop (req : Nat)
  /-- TALLY_BIND (R352) -/
  | tallyBind (req : Nat)
  /-- KEY_IMPORT (R339) -/
  | keyImport (req : Nat) (coresAgree : Bool)
  /-- COPY (R545) -/
  | copy (req : Nat)
  /-- FILL (R545) -/
  | fill (req : Nat)
  /-- FLUSH (R547) -/
  | flush (req : Nat)
  /-- TALLY64_ADD (R539) -/
  | tally64Add (req : Nat)
  /-- TALLY64_READ (R545) -/
  | tally64Read (req : Nat)
  /-- LINEADD (R540) -/
  | lineadd (req : Nat)
  /-- FENCE (R245) -/
  | fence (req : Nat)
  /-- NOP (R246) -/
  | nop (req : Nat)
  /-- BAR4_ACCESS (R126) -/
  | bar4Access (offset : BitVec 28) (acc : Bar4Acc)
  /-- STL_CMD_ENABLE (R176) -/
  | stlCmdEnable (fn : Fn) (stall : StallId)
  /-- STL_CMD_QUIESCE (R176) -/
  | stlCmdQuiesce (fn : Fn) (stall : StallId)
  /-- QUIESCE_COMPLETE (R176) -/
  | quiesceComplete (stall : StallId)
  /-- STL_CMD_RESUME (R176) -/
  | stlCmdResume (fn : Fn) (stall : StallId)
  /-- STL_CMD_RESET (R180) -/
  | stlCmdReset (fn : Fn) (stall : StallId)
  /-- STL_CMD_RELEASE (R176) -/
  | stlCmdRelease (fn : Fn) (stall : StallId)
  /-- STL_CMD_INVALID (R203) -/
  | stlCmdInvalid (fn : Fn) (stall : StallId) (cmd : BitVec 4)
  /-- STALL_RESET_END (R629) -/
  | stallResetEnd (stall : StallId)
  /-- STL_RING_ADD (R172) -/
  | stlRingAdd (fn : Fn) (stall : StallId) (value : BitVec 32)
  /-- STL_RING_REMOVE (R172) -/
  | stlRingRemove (fn : Fn) (stall : StallId) (value : BitVec 32)
  /-- STL_PASID_WRITE (R173) -/
  | stlPasidWrite (fn : Fn) (stall : StallId) (k : Fin 8) (value : BitVec 32)
  /-- STL_WORLD_WRITE (R175) -/
  | stlWorldWrite (fn : Fn) (stall : StallId) (value : BitVec 32)
  /-- STL_MGR_LINES_WRITE (R533) -/
  | stlMgrLinesWrite (fn : Fn) (stall : StallId) (value : BitVec 32)
  /-- CAPACITY_EVICTION (R533) -/
  | capacityEviction (stall : StallId)
  /-- STL_STATUS_READ (R204) -/
  | stlStatusRead (fn : Fn) (stall : StallId)
  /-- DRBG_RATE_WINDOW (R171) -/
  | drbgRateWindow
  /-- DSP_RING_ENABLE (R224) -/
  | dspRingEnable (fn : Fn) (ring : RingId) (value : BitVec 32)
  /-- DSP_RING_DISABLE (R226) -/
  | dspRingDisable (fn : Fn) (ring : RingId) (value : BitVec 32)
  /-- DSP_RING_CFG_WRITE (R225) -/
  | dspRingCfgWrite (fn : Fn) (ring : RingId) (reg : RingReg) (value : BitVec 64)
  /-- DSP_ALARM_TB_WRITE (R285) -/
  | dspAlarmTbWrite (fn : Fn) (stall : StallId) (value : BitVec 64)
  /-- PDK_EPOCH_COMMIT (R194) -/
  | pdkEpochCommit (fn : Fn)
  /-- HELD_COMMIT_APPLY (R196) -/
  | heldCommitApply
  /-- STAGED_REFILL_END (R200) -/
  | stagedRefillEnd
  /-- PDK_EPOCH_DISCARD (R198) -/
  | pdkEpochDiscard (fn : Fn)
  /-- PK_ENTRY_WRITE (R197) -/
  | pkEntryWrite (fn : Fn) (k : Fin 256) (word : PkWord) (value : BitVec 64)
  /-- PDK_PROT_FENCE_WRITE (R199) -/
  | pdkProtFenceWrite (fn : Fn) (value : BitVec 32)
  /-- I2C_ID (R147) -/
  | i2cId (x : I2cRead)
  /-- I2C_STATE (R147) -/
  | i2cState (x : I2cRead)
  /-- I2C_HALTER (R147) -/
  | i2cHalter (x : I2cRead)
  /-- I2C_TELEMETRY (R147) -/
  | i2cTelemetry (x : I2cRead)
  /-- I2C_STOP (R149) -/
  | i2cStop (data : List Byte)
  /-- I2C_STOP_STATE (R147) -/
  | i2cStopState (x : I2cRead)
  /-- I2C_UNKNOWN_COMMAND (R147) -/
  | i2cUnknownCommand (code : Byte)
  /-- TELEMETRY_REFRESH (R148) -/
  | telemetryRefresh (vddMv powerMw : BitVec 16)
  /-- GRACEFUL_STOP_STOPPED (R150) -/
  | gracefulStopStopped
  /-- BRD_STOP_CTL_RESUME (R151) -/
  | brdStopCtlResume (fn : Fn) (value : BitVec 32)
  /-- LTR_SEND (R125) -/
  | ltrSend
  /-- MSIX_UNMASK (R132) -/
  | msixUnmask (fn : Fn) (vector : Option (BitVec 10))
  /-- LOW_HALF_WRITE (R756) -/
  | lowHalfWrite (fn : Fn) (offset : BitVec 20) (value : BitVec 32)
  /-- HIGH_HALF_WRITE (R756) -/
  | highHalfWrite (fn : Fn) (offset : BitVec 20) (value : BitVec 32)
  /-- LOW_HALF_READ (R115) -/
  | lowHalfRead (fn : Fn) (page : Bool) (offset : BitVec 20) (wide : Bool)
  /-- REGISTER_WRITE (R13) -/
  | registerWrite (fn : Fn) (page : Bool) (offset : BitVec 20) (wide : Bool) (value : BitVec 64)
  /-- TKR_PROG_GO (R319) -/
  | tkrProgGo (fn : Fn) (w : GoWrite)
  /-- SLOT_PROGRAM_DONE (R321) -/
  | slotProgramDone (readbackOk : Bool)
  /-- TKR_LC_TAKE_OWNERSHIP (R354) -/
  | tkrLcTakeOwnership (fn : Fn) (value : BitVec 32)
  /-- TKR_LC_RETIRE (R354) -/
  | tkrLcRetire (fn : Fn) (value : BitVec 32)
  /-- LC_TRANSITION_END (R354) -/
  | lcTransitionEnd (readbackOk : Bool)
  /-- TKR_LC_CMD_INVALID (R354) -/
  | tkrLcCmdInvalid (fn : Fn) (value : BitVec 32)
  /-- TKR_DOMAIN_WRITE (R358) -/
  | tkrDomainWrite (fn : Fn) (stall : StallId) (value : BitVec 64)
  /-- TKR_CTL_WRITE (R363) -/
  | tkrCtlWrite (fn : Fn) (value : BitVec 32)
  /-- KEY_IDLE_EXPIRY (R349) -/
  | keyIdleExpiry (unit : UnitId)
  /-- STORE_WAIT_EXPIRY (R345) -/
  | storeWaitExpiry (req : Nat)
  /-- DBG_NONCE (R356) -/
  | dbgNonce (updateDr : Bool)
  /-- DBG_RESPONSE (R356) -/
  | dbgResponse (response : BitVec 768)
  /-- DBG_STATE (R780) -/
  | dbgState
  /-- IDCODE (R760) -/
  | idcode
  /-- EXTEST (R768) -/
  | extest (pins scan : BitVec 58)
  /-- SAMPLE_PRELOAD (R779) -/
  | samplePreload (pins scan : BitVec 58)
  /-- HIGHZ (R768) -/
  | highz
  /-- CLAMP (R768) -/
  | clamp
  /-- BYPASS (R779) -/
  | bypass (code : Byte)
  /-- TAP_RESET (R778) -/
  | tapReset
  /-- NOISE_HEALTH_FAIL (R489) -/
  | noiseHealthFail (src : NsId) (samples : List Bool)
  /-- FREQ_MONITOR_WINDOW (R488) -/
  | freqMonitorWindow (src : NsId) (samples edges : Nat)
  /-- STARTUP_TEST_END (R491) -/
  | startupTestEnd (src : NsId) (samples : List Bool)
  /-- ENT_SRC_RETEST (R489) -/
  | entSrcRetest (fn : Fn) (src : NsId) (value : BitVec 32)
  /-- ENT_SRC_POLICY_WRITE (R502) -/
  | entSrcPolicyWrite (fn : Fn) (src : NsId) (value : BitVec 32)
  /-- SEED_READY (R494) -/
  | seedReady (src : NsId) (samples : List Bool)
  /-- DRBG_INSTANTIATE (R495) -/
  | drbgInstantiate
  /-- DRBG_GENERATE (R496) -/
  | drbgGenerate
  /-- DRBG_RESEED (R496) -/
  | drbgReseed
  /-- ENTROPY_PERIODIC_KAT (R497) -/
  | entropyPeriodicKat (pass : Option Bool)
  /-- ENTROPY_CORE_MISMATCH (R497) -/
  | entropyCoreMismatch
  /-- ENTROPY_DRAW (R498) -/
  | entropyDraw (consumer : Consumer)
  /-- ENTROPY_WAIT_EXPIRY (R501) -/
  | entropyWaitExpiry (consumer : Consumer)
  /-- RAW_CAPTURE_END (R489, R508): the samples captured, and the raw bits that the diverted source gave beside them -/
  | rawCaptureEnd (src : NsId) (samples : List Byte) (rest : List Bool)
  /-- ENT_RESEED_CTL_WRITE (R510) -/
  | entReseedCtlWrite (fn : Fn) (value : BitVec 32)
  /-- MASK_RESEED (R468) -/
  | maskReseed (unit : UnitId)
  /-- SLICE_MISS (R536) -/
  | sliceMiss (line : LineNo) (stall : Option StallId) (kind : AccKind)
  /-- LINE_FILL_COMPLETE (R538) -/
  | lineFillComplete (line : LineNo)
  /-- WRITEBACK_COMPLETE (R538) -/
  | writebackComplete (line : LineNo)
  /-- SLICE_WRITE (R619) -/
  | sliceWrite (req : Nat)
  /-- CRIB_ACK (R556) -/
  | cribAck (crib : UnitId) (line : LineNo) (present : Bool)
  /-- CRIB_EVICT (R551) -/
  | cribEvict (crib : UnitId) (line : LineNo)
  /-- CRIB_INVAL (R552) -/
  | cribInval (crib : UnitId) (line : LineNo)
  /-- CRIB_FILL (R549) -/
  | cribFill (crib : UnitId) (line : LineNo)
  /-- MGR_SLICE_CTL_WRITE (R534) -/
  | mgrSliceCtlWrite (fn : Fn) (slice : SliceId) (value : BitVec 32)
  /-- REPART_CLEAN_END (R534) -/
  | repartCleanEnd
  /-- REPART_SWAP_END (R534) -/
  | repartSwapEnd
  /-- SLICE_UNCORRECTABLE (R558) -/
  | sliceUncorrectable (slice : SliceId) (err : SliceErr) (stall : Option StallId)
  /-- CHANNEL_TRAINING_END (R595) -/
  | channelTrainingEnd (ch : ChanId) (ok : Bool) (density : BitVec 3) (ranks2 : Bool)
  /-- CHANNEL_FILL_END (R595) -/
  | channelFillEnd (ch : ChanId)
  /-- MR4_POLL (R573) -/
  | mr4Poll (ch : ChanId) (hot : Bool)
  /-- TRACKING_FAIL (R595) -/
  | trackingFail (ch : ChanId)
  /-- DRAM_CORRECTABLE_READ (R579) -/
  | dramCorrectableRead (ch : ChanId) (page : BitVec 21) (lastSecond : Nat)
  /-- DRAM_UNCORRECTABLE_READ (R580) -/
  | dramUncorrectableRead (ch : ChanId) (page : BitVec 21) (stall : Option StallId)
  /-- REPAIR_REWRITE (R579) -/
  | repairRewrite (ch : ChanId)
  /-- SCRUB_DRAM_READ (R590) -/
  | scrubDramRead (ch : ChanId) (result : EccResult)
  /-- SCRUB_SRAM_READ (R590) -/
  | scrubSramRead (word : SramWord) (result : EccResult)
  /-- SCRUB_REWRITE (R591) -/
  | scrubRewrite (sweep : Fin 5)
  /-- SCRUB_LAP_END (R592) -/
  | scrubLapEnd (sweep : Fin 5) (ms : BitVec 32)
  /-- SCRUB_LAP_OVERDUE (R593) -/
  | scrubLapOverdue (sweep : Fin 5)
  /-- SRAM_UNCORRECTABLE (R581) -/
  | sramUncorrectable (word : SramWord)
  /-- PWB_STALL_TIMEOUT (R634) -/
  | pwbStallTimeout
  /-- HALTER_SOURCE_ASSERT (R642) -/
  | halterSourceAssert (src : HsId) (stall : Option StallId)
  /-- RAIL_DISAGREEMENT (R645) -/
  | railDisagreement (src : HsId)
  /-- PROMO_WINDOW_EXPIRY (R649) -/
  | promoWindowExpiry (src : HsId)
  /-- HLT_STATUS_CLEAR (R669) -/
  | hltStatusClear (fn : Fn) (i : Fin 3) (value : BitVec 32)
  /-- HLT_SAFE_CTL_FORCE (R659) -/
  | hltSafeCtlForce (fn : Fn) (value : BitVec 32)
  /-- HLT_SAFE_CTL_RELEASE (R661) -/
  | hltSafeCtlRelease (fn : Fn) (value : BitVec 32)
  /-- HLT_ALERT_CTL_CLEAR (R663) -/
  | hltAlertCtlClear (fn : Fn) (value : BitVec 32)
  /-- HLT_ALERT_CTL_FORCE (R663) -/
  | hltAlertCtlForce (fn : Fn) (value : BitVec 32)
  /-- HLT_SRC_CFG_WRITE (R666) -/
  | hltSrcCfgWrite (fn : Fn) (src : HsId) (value : BitVec 64)
  /-- HLT_GUARD_CTL_WRITE (R666) -/
  | hltGuardCtlWrite (fn : Fn) (value : BitVec 32)
  /-- HLT_GUARD_OUT_WRITE (R675) -/
  | hltGuardOutWrite (fn : Fn) (value : BitVec 32)
  /-- HALTER_SELF_CHECK (R665) -/
  | halterSelfCheck (injectOk copiesOk : Bool) (badParity : Option HltPart)
  /-- PAD_READBACK_MISMATCH (R664) -/
  | padReadbackMismatch
  /-- TAMPER_TRANSITION (R680) -/
  | tamperTransition (input : InputId) (level : Bool)
  /-- CHATTER_WINDOW_EXPIRY (R684) -/
  | chatterWindowExpiry (input : InputId)
  /-- TAMPER_FILTER_EXPIRY (R686) -/
  | tamperFilterExpiry (input : InputId)
  /-- CHATTER_EXIT (R685) -/
  | chatterExit (input : InputId)
  /-- STUCK_TIMEOUT (R683) -/
  | stuckTimeout (input : InputId)
  /-- TMP_IN_EN_WRITE (R681) -/
  | tmpInEnWrite (fn : Fn) (input : InputId) (value : BitVec 64)
  /-- TMP_IN_ACTIVE_WRITE (R793) -/
  | tmpInActiveWrite (fn : Fn) (input : InputId) (value : BitVec 64)
  /-- TMP_ACK (R689) -/
  | tmpAck (fn : Fn) (value : BitVec 32)
  /-- TMP_VBAT_CTL_ARRIVAL (R697) -/
  | tmpVbatCtlArrival
  /-- VBAT_SAMPLE (R687) -/
  | vbatSample (levels : BitVec 4)
  /-- MONITOR_CONDITION (R690) -/
  | monitorCondition (cond : MonCond)
  /-- TEMP_SAMPLE (R701) -/
  | tempSample (temp : BitVec 16)
  /-- PWR_OFF_REQ (R707) -/
  | pwrOffReq (fn : Fn) (pd : PdId)
  /-- PWR_ON_REQ (R707) -/
  | pwrOnReq (fn : Fn) (pd : PdId)
  /-- DOMAIN_POWER_STABLE (R705) -/
  | domainPowerStable (pd : PdId)
  /-- DOMAIN_DRAIN_COMPLETE (R712) -/
  | domainDrainComplete (pd : PdId)
  /-- SECURE_HOLD_END (R720) -/
  | secureHoldEnd (pd : PdId)
  /-- POWER_DOWN_COMPLETE (R711) -/
  | powerDownComplete (pd : PdId)
  /-- DEMAND_WAKE (R716) -/
  | demandWake (group : ChanId)
  /-- PWR_PIN_WRITE (R721) -/
  | pwrPinWrite (fn : Fn) (value : BitVec 64)
  /-- DOMAIN_TRANSITION_TIMEOUT (R723) -/
  | domainTransitionTimeout (pd : PdId)
  /-- BLOCK_RESET (R722) -/
  | blockReset (pd : PdId)
  /-- EVENT_RAISE (R736) -/
  | eventRaise (src : EvId) (parityBad : Option Fn)
  /-- HOLDOFF_EXPIRY (R739) -/
  | holdoffExpiry (fn : Fn) (src : EvId)
  /-- EVENT_SELECTION (R740) -/
  | eventSelection (fn : Fn) (parityBad : Option EvId)
  /-- EVT_ROUTE_WRITE (R743) -/
  | evtRouteWrite (fn : Fn) (src : EvId) (nmAlias : Bool) (value : BitVec 64)
  /-- EVT_NM_MIRROR_WRITE (R743) -/
  | evtNmMirrorWrite (fn : Fn) (i : Fin 2) (value : BitVec 64)
  /-- MR_VALUE_WRITE (R434) -/
  | mrValueWrite (fn : Fn) (mr : MrId) (j : Fin 6) (value : BitVec 64)
  /-- MR_EXTEND_APPLY (R432) -/
  | mrExtendApply
  /-- BANK_ENGINE_MISMATCH (R438) -/
  | bankEngineMismatch
  /-- DL_FEED_START (R425) -/
  | dlFeedStart (fn : Fn) (value : BitVec 64)
  /-- FEED_SESSION_CLAIM (R426) -/
  | feedSessionClaim
  /-- DL_FEED_DATA (R427) -/
  | dlFeedData (fn : Fn) (value : BitVec 64)
  /-- DL_FEED_LAST (R427) -/
  | dlFeedLast (fn : Fn) (value : BitVec 64)
  /-- FEED_FINISH (R427) -/
  | feedFinish
  /-- DL_FEED_ABORT (R429) -/
  | dlFeedAbort (fn : Fn) (value : BitVec 64)
  /-- FEED_IDLE_TIMEOUT (R429) -/
  | feedIdleTimeout
  /-- FEED_SESSION_TIMEOUT (R429) -/
  | feedSessionTimeout
  /-- POWER_LOSS (R771) -/
  | powerLoss
  /-- VBAT_REMOVED (R687) -/
  | vbatRemoved (latch : BitVec 8) (canary : BitVec 32)
  /-- LINK_UP (R79) -/
  | linkUp (rate width : BitVec 4)
  /-- LINK_PROTOCOL_ERROR (R135) -/
  | linkProtocolError (err : LinkErr)
  /-- POSTED_WRITE_SEND (R614) -/
  | postedWriteSend (fn : Fn)
  /-- FAILURE_AGES_OUT (R490) -/
  | failureAgesOut (src : NsId)
  /-- HALTER_SOURCE_DEASSERT (R792) -/
  | halterSourceDeassert (src : HsId)
  deriving DecidableEq, Repr

end Sys2Proof
end

