-- ==== Sys2Proof/Decode.lean ====
section
/-! DEFINITION. The command that a word of the opcode table spells. The table gives no row bits or fields, so no word
spells a command. -/

namespace Sys2Proof

/-- The command that `w` spells in a row of `nbits` bits: none, since spec/opcode_table.json gives no row bits. -/
def decodeTableWord (nbits w : Nat) : Option Instr :=
  match nbits, w with
  | _, _ => none

end Sys2Proof
end

