-- ==== Sys2Proof/Config.lean ====
section
/-! DEFINITION. What the specification leaves to a published standard or leaves open: uninterpreted functions and
free values. None has a body, so nothing in Lean can evaluate one (assumptions 2 and 3). -/

namespace Sys2Proof

/-- A function of a published standard whose text the manual does not hold (00, what the manual does not cover). -/
inductive StdFn where
  /-- a hash, XOF or MAC of 09 (R411), named by its algorithm code -/
  | digest (alg : Nat)
  | hmac (alg : Nat)
  | kmac (alg : Nat)
  /-- AES encryption and decryption of a block (0x00, 0x01), XTS of one data unit (0x05, 0x06), a ChaCha20 block (0x10);
  the tag of an AEAD or of CMAC (08) -/
  | cipher (opcode : Nat)
  | cipherTag (opcode : Nat)
  /-- J0 of SP 800-38D for an IV of other than 12 bytes (R381) -/
  | gcmJ0
  /-- a public-key operation of 10, named by its opcode and its output part -/
  | publicKey (opcode part : Nat)
  /-- AES-256-GCM of a blob: ciphertext, tag (R332) -/
  | blobSeal
  | blobTag
  | blobOpen
  /-- CMAC-AES-256 (R328) -/
  | cmac
  /-- the extraction of a 32-byte K_in from a shared secret (R337) -/
  | extract
  /-- precomputed keyed state (R342) -/
  | keyState
  /-- the fixed-base comb tables of the seven curves, as the table area holds them (R470) -/
  | combTables
  /-- one generate call of the CTR_DRBG, and its state updates (R495) -/
  | drbgOut
  | drbgState
  deriving DecidableEq, Repr

namespace Config

/-- Byte n of the output of a standard's function on its inputs, uninterpreted (assumption 2). -/
opaque stdByte : StdFn → List (List Byte) → Nat → Byte
/-- The verdict of a standard's verification, uninterpreted (assumption 2). -/
opaque stdOk : StdFn → List (List Byte) → Bool
/-- The first line of a curve's comb table, counted in the table area, and how many lines it has: the manual bounds them
only (R471; assumption 74). -/
opaque tableFirst : Nat → Nat
opaque tableLines : Nat → Nat
/-- Free value: a byte that the specification does not fix (assumption 3). -/
opaque freeByte : Nat → Byte
/-- Free value: bits that the specification does not fix (assumption 3). -/
opaque freeBits : Nat → BitVec 64

end Config

end Sys2Proof
end

