-- ==== Sys2Proof/Machine/State.lean ====
section
/-! DEFINITION. The state of the block: plain data, every register, buffer, queue, counter, mode and pin that the
specification gives it, the queue of waiting commands, and the state right after reset. -/

namespace Sys2Proof.Machine

/-! ### Start-up (02) -/

/-- Boot phases of R38. -/
inductive Phase where
  | reset | otp | clock | preloadTest | load | apply | memory | selfTest | rootGen | held | ready | bootFailed
  deriving DecidableEq, Repr

/-- One REGWRITE entry of the image (R61-R63). -/
structure RegWrite where
  fn : Fn
  offset : BitVec 20
  wide : Bool
  data : BitVec 64
  deriving DecidableEq, Repr

/-- A validated copy, staged in MS0 and applied from there (R73). -/
structure Image where
  sequence : BitVec 32
  signed : Bool
  clock : Option (BitVec 2)
  ids : Option (Vector (BitVec 16) 4)
  writes : List RegWrite
  digest : List Byte
  deriving DecidableEq, Repr

/-- CFG_ registers, straps and boot progress (R37-R107). -/
structure Boot where
  phase : Phase
  imageSrc : BitVec 2
  aValid : Bool
  bValid : Bool
  signed : Bool
  vbatReport : Bool
  keysLocked : Bool
  clkRate : BitVec 2
  clkOn : Bool
  spiMode : BitVec 3
  failCause : BitVec 3
  sequence : BitVec 32
  aErr : BitVec 8
  bErr : BitVec 8
  badRecord : BitVec 16
  fence : BitVec 64
  causePor : Bool
  causePerst : Bool
  causeHalter : Bool
  causeSoftware : Bool
  attempts : BitVec 4
  readyHold : Bool
  readyHoldWritten : Bool
  perst : Bool
  imgSel : BitVec 2
  testMode : Bool
  refclkSel : Bool
  i2cAddr : BitVec 3
  pllUnlocked : Bool
  clkMon : Bool
  powered : Bool
  selfTested : Bool
  fallback : Bool
  tablesBuilt : Bool
  sfdp : Option Sfdp
  spiDriven : Bool
  cfgOpen : Bool
  applied : Bool
  image : Option Image
  deriving DecidableEq, Repr

/-! ### Host link (03) -/

/-- BRD_ERR_LOG (R162). -/
structure ErrLog where
  ring : BitVec 8
  kind : BitVec 3
  fetch : Bool
  pasid : BitVec 20
  lost : BitVec 8
  valid : Bool
  deriving DecidableEq, Repr

/-- One entry of an MSI-X table (R131). -/
structure MsixEntry where
  addr : BitVec 64
  data : BitVec 32
  ctl : BitVec 32
  deriving DecidableEq, Repr

/-- What each function holds alone: configuration space, error log, halves of 4-byte accesses, MSI-X table. -/
structure FnState where
  dataRo : Bool
  stray : BitVec 32
  errLog : ErrLog
  msixEnable : Bool
  functionMask : Bool
  pasidEnable : Bool
  roEnable : Bool
  tag10 : Bool
  cto : BitVec 4
  mrrs : BitVec 3
  mps : BitVec 3
  fatalEn : Bool
  d3hot : Bool
  flr : Bool
  aerUnc : BitVec 10
  aerCor : BitVec 6
  aerSev : BitVec 10
  bars : Vector (BitVec 32) 6
  subVendor : BitVec 16
  subDevice : BitVec 16
  lows : List (BitVec 20 × BitVec 32)
  captured : Option (BitVec 20 × BitVec 32)
  msix : Vector MsixEntry 1024
  msixPend : BitVec 1024
  deriving DecidableEq, Repr

/-- What a host read is for. -/
inductive ReadFor where
  | fetch (ring : RingId) (slot : BitVec 16) (count : Nat)
  | aux (req : Nat)
  | segment (req : Nat)
  | source (req : Nat)
  | blob (req : Nat)
  deriving DecidableEq, Repr

/-- A host read: what it carries on the link, the PASID prefix among it (R122, R124), and the completion timeout applied
to it, in microseconds (R137, R138). -/
structure Rd where
  id : Nat
  fn : Fn
  ring : RingId
  stall : StallId
  what : ReadFor
  spans : List (Nat × Nat)
  pasid : Option (BitVec 20)
  alarm : Bool
  timeoutUs : Nat
  deriving DecidableEq, Repr

/-- The kinds of posted write (R612-R614, R134). -/
inductive PwKind where
  | data | record | head | msix
  deriving DecidableEq, Repr

/-- One entry of the host posted-write buffer (R616), with the stall whose work it is. -/
structure Pw where
  fn : Fn
  kind : PwKind
  stall : Option StallId
  addr : Nat
  bytes : List Byte
  pasid : Option (BitVec 20)
  relaxed : Bool
  alarm : Bool
  req : Option Nat
  deriving DecidableEq, Repr

/-- A message the device has sent on the link (the model's own record of its output). -/
inductive LinkMsg where
  | write (w : Pw)
  | read (r : Rd)
  | ltr (value : BitVec 13)
  | errFatal (fn : Fn)
  deriving DecidableEq, Repr

/-- The last answer given on a link, I2C or JTAG interface (the model's own record of its output). -/
inductive Resp where
  | none
  | ok
  | value (v : BitVec 64)
  | bytes (b : List Byte)
  | nak
  | data (b : List Byte) (poisoned : Bool)
  | completerAbort
  | unsupported
  | retry
  | deferred
  deriving DecidableEq, Repr

/-- Link registers, I2C telemetry, graceful stop, host reads, posted-write buffer. `reads` are the reads outstanding on the
link, `readQ` those that still wait for a tag, for completion-buffer space or for an earlier write (R124, R262, R618);
`lost` says that the link went down since the chip reset, so that its next training is a retrain (R142). -/
structure Link where
  rate : BitVec 4
  width : BitVec 4
  up : Bool
  retrains : BitVec 8
  winBase : BitVec 6
  ltrActive : BitVec 13
  ltrIdle : BitVec 13
  stopState : BitVec 2
  stopKept : Bool
  telTemp : BitVec 16
  telVdd : BitVec 16
  telPower : BitVec 16
  telClk : BitVec 8
  telThrottle : BitVec 8
  telStalls : BitVec 16
  lost : Bool
  readQ : List Rd
  reads : List Rd
  timedOut : List Rd
  pwb : List Pw
  pwbStalled : Bool
  pwbStallMs : BitVec 16
  deriving DecidableEq, Repr

/-! ### Descriptors and requests (05, 06, 14) -/

/-- A descriptor: eight 64-bit words (R234). -/
structure Desc where
  w : Vector (BitVec 64) 8
  deriving DecidableEq, Repr

/-- A fetched descriptor of the descriptor buffer, with its in-budget mark and the cycle of its doorbell (R284, R287). -/
structure BufD where
  slot : BitVec 16
  desc : Desc
  budget : Option Nat
  deriving DecidableEq, Repr

/-- A key with the attribute word that travels with it and its tally binding (07). -/
structure Key where
  value : List Byte
  attr : BitVec 64
  tallyAddr : BitVec 64
  tallyLimit : BitVec 64
  deriving DecidableEq, Repr

/-- Where a store goes (R612). -/
inductive StoreTo where
  | host (addr : Nat)
  | locl (addr : Nat)
  | inter (i : Fin 8) (offset : Nat)
  deriving DecidableEq, Repr

/-- A store of a request's output. -/
structure Store where
  dest : StoreTo
  bytes : List Byte
  deriving DecidableEq, Repr

/-- A scatter list being walked: for the destination or the source, the spans found, the bytes still uncovered, the links
followed, and where its next entry stands (R240-R242). -/
structure Walk where
  dst : Bool
  spans : List (Nat × Nat)
  need : Nat
  links : Nat
  /-- The segment's address, and the index of its next entry. -/
  at_ : Nat
  ix : Nat
  deriving DecidableEq, Repr

/-- A request's outcome, as its record will give it (R230). -/
structure Done where
  status : Byte
  detail : Byte
  outLen : BitVec 32
  result : BitVec 32
  deriving DecidableEq, Repr

/-- An admitted request, or an admitted member of a chain. -/
structure Req where
  id : Nat
  chain : Nat
  pos : Nat
  members : Nat
  fn : Fn
  ring : RingId
  stall : StallId
  slot : BitVec 16
  desc : Desc
  epoch : BitVec 16
  pasid : BitVec 20
  alarm : Bool
  reserve : Bool
  admitAt : Nat
  deadline : BitVec 48
  started : Bool
  unit : Option UnitId
  coop : List UnitId
  walks : List Walk
  srcSpans : Option (List (Nat × Nat))
  dstSpans : Option (List (Nat × Nat))
  aux : Option (List Byte)
  src : Option (List Byte)
  blob : Option (List Byte)
  key : Option Key
  /-- The TAG of the blob that gave the key (R348). -/
  keyTag : List Byte
  handle : Option Handle
  /-- The tally address that admission checked for the request's key, or 0 (R189). -/
  tally : BitVec 64
  granted : Bool
  done : Option Done
  skipped : Bool
  stores : List Store
  released : Bool
  effect : Bool
  /-- Did a host read of the request's data fail (R154)? -/
  readFail : Bool
  /-- Local ranges the request has written so far (R262). -/
  wrote : List (Nat × Nat)
  deriving DecidableEq, Repr

/-- A harness intermediate (R253). -/
structure Inter where
  chain : Nat
  i : Fin 8
  isKey : Bool
  bytes : List Byte
  attr : BitVec 64
  deriving DecidableEq, Repr

/-! ### Stalls and Paddocks (04) -/

/-- Stall states (R167, R204). -/
inductive StallState where
  | free | active | quiescing | quiesced | resetting
  deriving DecidableEq, Repr

/-- One stall: its STL_ window, its Dispatcher and Tack Room registers and its accounts. -/
structure Stall where
  state : StallState
  secure : Bool
  notice : BitVec 4
  weight : BitVec 8
  drbgRate : BitVec 16
  /-- The rate in force in the present window: a write of STL_DRBG_RATE takes effect at the next one (R168). -/
  drbgNow : BitVec 16
  lines : BitVec 16
  cap : BitVec 16
  quota : BitVec 12
  pasid : Vector (BitVec 20) 8
  pasidValid : Vector Bool 8
  badCmd : Bool
  ringRefused : Bool
  pasidInUse : Bool
  worldRefused : Bool
  mrOwn : BitVec 48
  draws : Nat
  pinCl : BitVec 32
  pinDl : BitVec 16
  pinBn : BitVec 8
  burst : BitVec 6
  rate : BitVec 16
  tokens : BitVec 6
  vInteractive : BitVec 48
  vBulk : BitVec 48
  lastRing : Vector (BitVec 8) 7
  bypass : BitVec 32
  resetCause : BitVec 2
  aborted : List Req
  domain : BitVec 32
  kekGen : BitVec 24
  importEn : Bool
  deriving DecidableEq, Repr

/-- A Paddock entry (R215). -/
structure PkEntry where
  valid : Bool
  base : BitVec 22
  limit : BitVec 22
  mask : BitVec 64
  rd : Bool
  wr : Bool
  red : Bool
  win : Bool
  type : BitVec 2
  prio : BitVec 2
  deriving DecidableEq, Repr

/-- PDK_DENY_LOG (R219). -/
structure DenyLog where
  page : BitVec 22
  stall : BitVec 6
  bar4 : Bool
  conflict : Bool
  entry : BitVec 8
  epoch : BitVec 16
  lost : BitVec 9
  valid : Bool
  deriving DecidableEq, Repr

/-- The Paddock Table, its epochs and PROT_FENCE (R194-R219). -/
structure Pdk where
  staged : Vector PkEntry 256
  live : Vector PkEntry 256
  epoch : BitVec 16
  /-- The live tables of earlier epochs not yet drained: a request keeps the rights it was checked against (R189). -/
  past : List (BitVec 16 × Vector PkEntry 256)
  pending : Bool
  /-- The oldest undrained epoch when a held COMMIT was written; it takes effect when that epoch drains (R196). -/
  heldCommit : Option (BitVec 16)
  stageErr : Bool
  target : BitVec 16
  fenceDone : Bool
  irq : Bool
  evaluating : Bool
  denyLog : DenyLog
  deriving DecidableEq, Repr

/-! ### Rings (05) -/

/-- A ring: registers, indices, descriptor buffer (R220-R233, R268-R271); `owed` holds the events of records whose head
record is still to be written: completion, error, Alarm (R613). -/
structure Ring where
  owner : Option StallId
  base : BitVec 52
  cpl : BitVec 52
  hwb : BitVec 61
  enable : Bool
  sizeLog2 : BitVec 4
  pasidIdx : Fin 8
  cls : BitVec 2
  hwbEn : Bool
  fetchBurst : BitVec 4
  tail : BitVec 16
  kept : Bool
  fetch : BitVec 16
  adm : BitVec 16
  head : BitVec 16
  dbHead : BitVec 16
  headDue : Bool
  owed : List (Bool × Bool × Bool)
  lap : Nat
  posted : BitVec 32
  doneSlots : List (BitVec 16)
  tags : List (BitVec 16 × BitVec 32)
  budgets : List (BitVec 16 × Nat)
  debited : BitVec 16
  buf : List BufD
  overlong : Option (Nat × Nat)
  virtS : Option (BitVec 48)
  fence : Option Nat
  tailErr : Bool
  cfgErr : Bool
  fetchErr : Bool
  deriving DecidableEq, Repr

/-! ### Dispatcher and units (06, 08, 09, 10) -/

/-- What holds BNUs for a cooperative operation: a ring's candidate, or a chain member (R278). -/
inductive CoopFor where
  | ring (r : RingId)
  | member (req : Nat)
  deriving DecidableEq, Repr

/-- DSP_ registers and dispatch bookkeeping (R272-R312, R639, R640). `rotDue` counts the due times of each pool whose test
start still waits (R295); `coop` holds BNUs, and `coopLate` is what last let go of an incomplete set (R473). -/
structure Disp where
  normalAlarmMax : BitVec 6
  bulkStretch : BitVec 3
  preemptEn : Bool
  budgetRefused : Bool
  starvedCl : Bool
  starvedDl : Bool
  starvedBn : Bool
  periodMs : BitVec 16
  rotUnit : Vector (Option UnitId) 3
  rotNext : Vector Nat 3
  rotDue : Vector Nat 3
  passes : BitVec 32
  lastStall : Vector StallId 7
  interval : Nat
  placed : List Pool
  coop : Option CoopFor
  coopLate : Option CoopFor
  perStall : BitVec 12
  deriving DecidableEq, Repr

/-- A working key register with its key identity (R348); which of its AES round keys a lane has expanded (R396). -/
structure KeyReg where
  stall : StallId
  keySrc : BitVec 3
  keyRef : BitVec 64
  keyLocal : Bool
  tag : List Byte
  key : Key
  encKeys : Bool
  decKeys : Bool
  lastUse : Nat
  deriving DecidableEq, Repr

/-- A line held by a crib (R548). -/
structure CribLine where
  line : LineNo
  data : BitVec 4096
  poison : BitVec 8
  deriving DecidableEq, Repr

/-- A cipher lane, digest lane or big-number unit, with its crib. -/
structure UnitState where
  fenced : Bool
  testDue : Bool
  testing : Bool
  run : Option Nat
  suspended : Option Nat
  keyReg : Option KeyReg
  reqs : BitVec 64
  bytes : BitVec 64
  faultCause : BitVec 4
  faultCount : BitVec 8
  faultValid : Bool
  held : Bool
  lead : BitVec 3
  coop : Bool
  seeded : Bool
  /-- The mask generator's seed (R468). -/
  mask : BitVec 256
  sinceSeed : Nat
  crib : List CribLine
  deriving DecidableEq, Repr

/-- DL15 feed session states (R448). -/
inductive FeedState where
  | idle | waiting | opened | finishing | done | error
  deriving DecidableEq, Repr

/-- The DL15 feed (R425-R449): `msg` the bytes that the lane has taken, `buf` the words of its input buffer, at most 64,
oldest first (R430), `last` the last-word register with the number of its valid bytes, `lastVb` (R427). -/
structure Feed where
  alg : BitVec 4
  keyed : Bool
  handle : BitVec 11
  stall : BitVec 6
  msgLen : BitVec 32
  outBytes : BitVec 7
  vb : BitVec 4
  last : BitVec 64
  state : FeedState
  seqErr : Bool
  code : BitVec 8
  endCause : BitVec 3
  count : BitVec 32
  msg : List Byte
  buf : List (BitVec 64)
  out : BitVec 512
  idleUs : BitVec 16
  key : Option Key
  lastVb : BitVec 4
  testFirst : Bool
  deriving DecidableEq, Repr

/-- A function's input buffer of the Measurement Bank (R434). -/
structure MrBuf where
  mr : MrId
  words : Vector (Option (BitVec 64)) 6
  deriving DecidableEq, Repr

/-- An extend of the register path that waits in the bank, with the function that completed its input (R436, R437). -/
structure MrExt where
  fn : Fn
  mr : MrId
  input : BitVec 384
  deriving DecidableEq, Repr

/-- The Measurement Bank (R431-R452). -/
structure Mrb where
  value : Vector (BitVec 384) 48
  count : Vector (BitVec 32) 48
  buf : Vector (Option MrBuf) 2
  seqErr : Vector Bool 2
  denied : Vector Bool 2
  fenced : Bool
  queue : List MrExt
  nmMask : BitVec 48
  deriving DecidableEq, Repr

/-! ### Tack Room (07) -/

/-- Evaluated state of an OTP slot (R318). -/
inductive SlotState where
  | unprogrammed | valid | bad | programming
  deriving DecidableEq, Repr

/-- An OTP slot: value, attribute word, integrity code (R316), and its evaluated state. -/
structure Slot where
  value : BitVec 256
  attr : BitVec 64
  crc : BitVec 32
  state : SlotState
  deriving DecidableEq, Repr

/-- An entry of the keyed-state store (R343). -/
structure Entry where
  kind : BitVec 2
  stall : StallId
  secure : Bool
  mode : Byte
  key : Key
  source : List Byte
  dropped : Bool
  deriving DecidableEq, Repr

/-- An entry of the binding table (R371). -/
structure TBind where
  valid : Bool
  slot : BitVec 9
  tallyAddr : BitVec 64
  tallyLimit : BitVec 64
  deriving DecidableEq, Repr

/-- An owner-hash copy in OTP (R355). -/
structure OwnerCopy where
  hash : BitVec 384
  crc : BitVec 32
  deriving DecidableEq, Repr

/-- A life-cycle transition under way (R354). -/
inductive LcMove where
  | own (copyB : Bool)
  | finishOwn
  | retire
  deriving DecidableEq, Repr

/-- The Tack Room (R313-R371). -/
structure Tkr where
  slots : Vector Slot 512
  lcWord : Vector Byte 3
  ownerA : OwnerCopy
  ownerB : OwnerCopy
  sensed : Bool
  debugOpen : Bool
  cmdErr : Bool
  store : Vector Entry 2048
  nextHandle : Nat
  tbind : Vector TBind 64
  keyIdle : BitVec 16
  storeWait : BitVec 16
  allow : Bool
  fails : BitVec 3
  stagedHash : Vector (BitVec 64) 6
  ownerKey : Vector (BitVec 64) 12
  slotSel : BitVec 9
  progSlot : BitVec 9
  progSource : BitVec 2
  progStall : BitVec 6
  progAttr : BitVec 64
  progBlob : BitVec 34
  progBusy : Option SlotId
  /-- The attribute word of the sequence that runs, as TKR_PROG_ATTR held it at GO (R319). -/
  progWord : BitVec 64
  progValue : Option (BitVec 256)
  progDone : Bool
  progErr : BitVec 4
  lcBusy : Option LcMove
  /-- Requests of numbers below this were admitted when the transition began (R354). -/
  lcFrom : Nat
  nonce : Option (List Byte)
  deriving DecidableEq, Repr

/-! ### Entropy Block (11) -/

/-- Entropy Block states (R504). -/
inductive EntState where
  | off | init | run | degraded | halted | fenced
  deriving DecidableEq, Repr

/-- A draw that waits, with the limit in force when its wait began (R501). -/
structure Waiter where
  who : Consumer
  limit : BitVec 16
  since : Nat
  deriving DecidableEq, Repr

/-- Conditioner, DRBG and queue (R493-R518). -/
structure Ent where
  state : EntState
  stretched : Bool
  atLimit : Bool
  cmdErr : Bool
  fenced : Bool
  queue : List (BitVec 512)
  seeds : List (BitVec 384)
  drbg : Option (BitVec 384)
  c : BitVec 32
  reseeds : BitVec 32
  counted : BitVec 32
  rawEn : Bool
  prNormal : Bool
  waitLimit : BitVec 16
  targetLog2 : BitVec 5
  limitLog2 : BitVec 5
  episodes : BitVec 16
  limitHits : BitVec 16
  waiters : List Waiter
  granted : List (Consumer × List (BitVec 512))
  /-- The source whose block the conditioner takes next while both are RUN (R493). -/
  turn : NsId
  /-- A periodic known-answer test runs (R497, R513). -/
  testing : Bool
  deriving DecidableEq, Repr

/-- Noise-source states (R520). -/
inductive NsState where
  | off | startup | run | retest | failed | diverted
  deriving DecidableEq, Repr

/-- The health tests of a source (R491): the run of identical samples that ends with the last one, the window of 1024
samples with its first sample and the count of it, and the cutoffs in force since the window began (R492). -/
structure HealthTest where
  last : Bool
  runLen : Nat
  first : Bool
  count : Nat
  pos : Nat
  rct : Nat
  apt : Nat
  limit : Nat
  deriving DecidableEq, Repr

/-- A noise source (R519-R521): `fails` its failures within the last second, of which ENT_SRC_STATUS shows at most 3,
`part` the samples of the block or of the start-up test in progress. -/
structure Ns where
  policy : Bool
  rct : BitVec 8
  apt : BitVec 10
  failLimit : BitVec 2
  state : NsState
  bootFailed : Bool
  retests : BitVec 2
  fails : Nat
  lastCause : BitVec 3
  rate : BitVec 16
  rctFails : BitVec 16
  aptFails : BitVec 16
  test : HealthTest
  part : List Bool
  capture : Option Nat
  wasRun : Bool
  deriving DecidableEq, Repr

/-! ### Manger (12) -/

/-- Line states (R538); reserved lines are kept as reservations. -/
inductive LineState where
  | invalid | filling | clean | dirty | invalidating | writeback
  deriving DecidableEq, Repr

/-- A cached line of the Manger. -/
structure Line where
  line : LineNo
  state : LineState
  owner : Option StallId
  /-- The stall that last wrote the line (R555). -/
  writer : Option StallId
  type : BitVec 2
  foreign : Bool
  valid : BitVec 8
  dirty : BitVec 8
  poison : BitVec 8
  data : BitVec 4096
  presence : BitVec 56
  acks : Nat
  writes : List (Nat × Byte)
  since : Nat
  fills : List UnitId
  evict : Bool
  lastUse : Nat
  deriving DecidableEq, Repr

/-- Reserved lines: intermediates of a chain, VBR staging or cooperative lines of a request (R526). -/
inductive ResvFor where
  | chain (chain : Nat)
  | vbr (req : Nat)
  | coop (req : Nat)
  deriving DecidableEq, Repr

/-- Reserved lines placed in one slice (R528). -/
structure Resv where
  who : ResvFor
  stall : StallId
  slice : SliceId
  lines : Nat
  deriving DecidableEq, Repr

/-- A slice: its mode, the mode a repartition gives it, a held mode write, fence and counter (R564, R565). -/
structure Slice where
  dedicated : Bool
  stall : StallId
  next : Option (Bool × StallId)
  held : Option (Bool × StallId)
  fenced : Bool
  corrected : BitVec 16
  deriving DecidableEq, Repr

/-- Repartition phases of a group (R534). -/
inductive Repart where
  | none | pending | clean | swap
  deriving DecidableEq, Repr

/-- MGR_ERR_LOG (R568). -/
structure MgrLog where
  slice : BitVec 4
  set : BitVec 7
  way : BitVec 4
  sector : BitVec 3
  kind : BitVec 2
  stall : BitVec 6
  stallValid : Bool
  lost : BitVec 7
  valid : Bool
  deriving DecidableEq, Repr

/-- A BAR4 access held by a group that is not ON or a channel not yet filled (R153, R713). -/
structure HeldBar4 where
  addr : Nat
  acc : Bar4Acc
  epoch : BitVec 16
  deriving DecidableEq, Repr

/-- The Manger (R522-R568). -/
structure Mgr where
  slices : Vector Slice 16
  cfgErr : Bool
  rsvWays : BitVec 4
  nmSlices : BitVec 16
  repart : Vector Repart 4
  lines : List Line
  resv : List Resv
  held : List HeldBar4
  missWaiting : List (LineNo × Option StallId × AccKind)
  invals : BitVec 32
  crossings : BitVec 16
  maxResolve : BitVec 16
  errLog : MgrLog
  deriving DecidableEq, Repr

/-! ### Local memory (13) -/

/-- Channel states (R602). -/
inductive McState where
  | off | training | filling | run | selfRefresh | fenced | absent
  deriving DecidableEq, Repr

/-- MC_ERR_LOG (R606). -/
structure McLog where
  page : BitVec 21
  source : BitVec 2
  lost : BitVec 7
  valid : Bool
  deriving DecidableEq, Repr

/-- A memory channel (R569-R606). -/
structure Mc where
  strength : BitVec 2
  rate : BitVec 3
  enable : Bool
  written : Bool
  rateWritten : Bool
  state : McState
  density : BitVec 3
  ranks2 : Bool
  hot : Bool
  trained : Bool
  corrected : BitVec 32
  uncorr : BitVec 16
  repairs : BitVec 16
  ceThresh : BitVec 16
  errLog : McLog
  repairQ : List (BitVec 21)
  deriving DecidableEq, Repr

/-- A sweep of the Scrubber (R590-R594, R610). -/
structure Sweep where
  overdue : Bool
  last : BitVec 32
  laps : BitVec 16
  pos : Nat
  rewrite : Bool
  deriving DecidableEq, Repr

/-- The Scrubber (R607-R611); sweeps 0 to 3 are the channels, sweep 4 the SRAMs. -/
structure Scb where
  dramEn : BitVec 4
  sramEn : Bool
  paceDram : BitVec 16
  sramPace : BitVec 8
  dramMin : BitVec 16
  sramMin : BitVec 16
  sweeps : Vector Sweep 5
  foundCor : BitVec 32
  foundUnc : BitVec 16
  sramCe : BitVec 32
  deriving DecidableEq, Repr

/-- Local memory: the bytes of DRAM that are not zero, in the one canonical form, and its poisoned 64-byte sectors,
rising (R93, R575, R583). -/
structure Dram where
  cells : List Host.Cell
  poison : List Nat
  tableChan : Option ChanId
  deriving DecidableEq, Repr

/-! ### Halter (15) -/

/-- A Halter source (R644-R649, R673); react bits are IRQ, NMI, BLOCK, STALL, CHIP, ALERT, SAFE from bit 0. -/
structure HSrc where
  latch : Bool
  rail : Bool
  sev : BitVec 2
  react : BitVec 7
  promoWin : BitVec 4
  promoN : BitVec 8
  promoSev : BitVec 2
  lock : Bool
  lockWritten : Bool
  count : BitVec 16
  c : BitVec 8
  promoted : Bool
  asserted : Bool
  railBad : Bool
  parityBad : Bool
  infoLatch : Bool
  deriving DecidableEq, Repr

/-- One assertion delivered to the Halter (R642): source, attributed stall, whether it is a rail disagreement, and
whether it is the INFO latch of HS80 (R647), and whether it is a standing assertion that latches again (R644). -/
structure Assert where
  src : HsId
  stall : Option StallId
  rail : Bool
  info : Bool
  again : Bool
  deriving DecidableEq, Repr

/-- The Halter (R641-R678). -/
structure Hlt where
  src : Vector HSrc 96
  sevReact : BitVec 32
  /-- HLT_SEV_REACT has failed its parity and has not been written since (R667). -/
  sevParityBad : Bool
  nmiSent : Bool
  unattrib : Bool
  cfgErr : Bool
  first : BitVec 7
  clkRef : Bool
  safeLevel : BitVec 16
  guardLock : Bool
  guardLockWritten : Bool
  guardValue : BitVec 8
  guardDrive : BitVec 8
  safe : Bool
  relErr : Bool
  alert : Bool
  alertForce : Bool
  clrErr : Bool
  selfPeriod : BitVec 16
  cause : BitVec 4
  source : BitVec 7
  passes : BitVec 32
  nextPair : Nat
  logSource : BitVec 7
  logStall : BitVec 6
  logReset : Bool
  logValid : Bool
  inbox : List Assert
  deriving DecidableEq, Repr

/-! ### Tamper Monitor (16) -/

/-- Tamper input states (R699). -/
inductive TmpState where
  | disabled | idle | pendingA | asserted | pendingD | chatter
  deriving DecidableEq, Repr

/-- A tamper input (R679-R699). -/
structure TmpIn where
  en : Bool
  active : Bool
  resp : BitVec 2
  chatTamper : Bool
  filterUs : BitVec 16
  stuckS : BitVec 8
  chatterCount : BitVec 12
  chatterWin : BitVec 8
  lock : Bool
  lockWritten : Bool
  state : TmpState
  level : Bool
  stuck : Bool
  chatterEdges : BitVec 16
  rawEdges : BitVec 32
  windowCount : Nat
  /-- CHATTER_COUNT as it stood when the present window began (R686). -/
  windowLimit : BitVec 12
  raised : Bool
  deriving DecidableEq, Repr

/-- The Tamper Monitor and its battery section (R687-R701). -/
structure Tmp where
  latch : BitVec 8
  lost : Bool
  canary : BitVec 32
  vbEn : BitVec 4
  vbActive : BitVec 4
  vbFilter : BitVec 4
  vbCount : Vector Nat 4
  /-- The battery section samples: VDD_AON has left its limits and OTP has not ended since (R687). -/
  vbSampling : Bool
  vbLock : Bool
  vbLockWritten : Bool
  vbWrites : List (BitVec 32)
  extLock : Bool
  ackErr : Bool
  inp : Vector TmpIn 9
  mon : BitVec 19
  temp : BitVec 16
  tripHold : Bool
  deriving DecidableEq, Repr

/-! ### Power Controller (17) -/

/-- Domain states (R726). -/
inductive PdState where
  | off | waking | on | draining | secureHold | poweringDown
  deriving DecidableEq, Repr

/-- RESULT of a gating request (R726). -/
inductive PdResult where
  | none | done | inProgress | pending | denied
  deriving DecidableEq, Repr

/-- A switched domain (R725, R726), with the function whose request waits for READY (R722). `cancelled`: a pin has
cancelled the off request that OFF_REQ still shows (R721, assumption 68). -/
structure Pd where
  offReq : Bool
  cancelled : Bool
  waitFn : Option Fn
  state : PdState
  result : PdResult
  demand : Bool
  hold : BitVec 3
  fail : Bool
  gates : BitVec 16
  blockReset : Bool
  deriving DecidableEq, Repr

/-- PWR_ registers common to the domains (R727-R731). -/
structure Pwr where
  pin : BitVec 63
  minCl : BitVec 6
  minDl : BitVec 5
  minBn : BitVec 4
  thrBase : BitVec 7
  level : BitVec 2
  changes : BitVec 16
  below : Bool
  cfgErr : Bool
  deriving DecidableEq, Repr

/-! ### Event Router (18) -/

/-- A function's route entry, cause bit and pending message for one source (R736-R748). -/
structure EvSrc where
  vector : BitVec 10
  en : Bool
  prio : BitVec 2
  holdoff : BitVec 8
  count : BitVec 8
  raises : BitVec 32
  bad : Bool
  cause : Bool
  pending : Bool
  alarm : Bool
  counted : Nat
  holding : Bool
  since : Option Nat
  deriving DecidableEq, Repr

/-- A function's copy of the Event Router (R736-R751). -/
structure EvtFn where
  src : Vector EvSrc 320
  parity : Bool
  parSrc : BitVec 9
  msgs : BitVec 64
  deriving DecidableEq, Repr

/-- The Event Router. -/
structure Evt where
  fns : Vector EvtFn 2
  nmMirror : BitVec 96
  age : BitVec 16
  deriving DecidableEq, Repr

/-! ### JTAG (20) -/

/-- The TAP: instruction register, boundary-scan register, pin control (R778-R780). -/
structure Jtag where
  ir : Byte
  scan : BitVec 58
  pinsHeld : Bool
  pinsHighZ : Bool
  deriving DecidableEq, Repr

/-! ### The state -/

/-- Why a command ends the block's run. No command of this model does (R247 and the chapters' failure tables give
every failure a state), so no meaning raises it; safe. -/
inductive Fault where
  /-- Raised by no command; kept so that the type is not empty; safe. -/
  | impossible
  deriving DecidableEq, Repr

/-- Why a command is refused. -/
inductive Refusal where
  /-- The command has no meaning yet; raised by `exec` alone; safe. -/
  | notModelled (mnemonic : String)
  deriving DecidableEq, Repr

/-- The block. `quotas` holds the blob-quota entries counted for each chain: chain, stall, entries (R254). -/
structure State where
  pending : List Instr
  cycle : Nat
  free : Nat
  nextId : Nat
  resp : Resp
  linkOut : List LinkMsg
  boot : Boot
  link : Link
  fns : Vector FnState 2
  stalls : Vector Stall 64
  pdk : Pdk
  rings : Vector Ring 256
  reqs : List Req
  inters : List Inter
  quotas : List (Nat × StallId × Nat)
  disp : Disp
  units : Vector UnitState 56
  gcmShortTag : Bool
  vbrRequired : Bool
  tableOk : Bool
  noTable : Bool
  feed : Feed
  mrb : Mrb
  tkr : Tkr
  ent : Ent
  ns : Vector Ns 2
  mgr : Mgr
  mcs : Vector Mc 4
  dram : Dram
  scb : Scb
  hlt : Hlt
  tmp : Tmp
  pds : Vector Pd 64
  pwr : Pwr
  evt : Evt
  jtag : Jtag
  deriving DecidableEq, Repr

/-! ### Reset values -/

/-- 02, R101-R107; straps and PERST_N by assumption 7. -/
def Boot.reset : Boot :=
  { phase := .reset, imageSrc := 0, aValid := false, bValid := false, signed := false, vbatReport := false,
    keysLocked := false, clkRate := 0, clkOn := false, spiMode := 0, failCause := 0, sequence := 0, aErr := 0,
    bErr := 0, badRecord := 0, fence := 0, causePor := true, causePerst := false, causeHalter := false,
    causeSoftware := false, attempts := 0, readyHold := false, readyHoldWritten := false, perst := true,
    imgSel := 0, testMode := false, refclkSel := false, i2cAddr := 0, pllUnlocked := false, clkMon := false, powered := true,
    selfTested := false, fallback := false,
    tablesBuilt := false, sfdp := none, spiDriven := false, cfgOpen := false, applied := false, image := none }

/-- R162. -/
def ErrLog.reset : ErrLog := { ring := 0, kind := 0, fetch := false, pasid := 0, lost := 0, valid := false }

/-- MSI-X entry after reset: PRESUMED the PCI Express values, masked (assumption 8). -/
def MsixEntry.reset : MsixEntry := { addr := 0, data := 0, ctl := 1 }

/-- R111, R135, R159-R162; the configuration space by assumption 8. -/
def FnState.reset (subDevice : BitVec 16) : FnState :=
  { dataRo := true, stray := 0, errLog := ErrLog.reset, msixEnable := false, functionMask := false,
    pasidEnable := false, roEnable := true, tag10 := false, cto := 0, mrrs := 2, mps := 0, fatalEn := false,
    d3hot := false, flr := false, aerUnc := 0, aerCor := 0, aerSev := 0x2C5, bars := Vector.replicate 6 0, subVendor := 0x1E9B,
    subDevice := subDevice, lows := [], captured := none, msix := Vector.replicate 1024 MsixEntry.reset,
    msixPend := 0 }

/-- R157-R163, R637; telemetry by assumption 7. -/
def Link.reset : Link :=
  { rate := 0, width := 0, up := false, retrains := 0, winBase := 0, ltrActive := 0x0802, ltrIdle := 0x1001,
    stopState := 0, stopKept := false, telTemp := 0, telVdd := 0, telPower := 0, telClk := 0, telThrottle := 0,
    telStalls := 0, lost := false, readQ := [], reads := [], timedOut := [], pwb := [], pwbStalled := false, pwbStallMs := 10 }

/-- R179, R204-R214, R311, R312, R370. -/
def Stall.reset (n : StallId) : Stall :=
  { state := .free, secure := false, notice := 0, weight := 16, drbgRate := 0, drbgNow := 0, lines := 0, cap := 0xFFFF,
    quota := 32, pasid := Vector.replicate 8 0, pasidValid := Vector.replicate 8 false, badCmd := false,
    ringRefused := false, pasidInUse := false, worldRefused := false, mrOwn := 0, draws := 0, pinCl := 0,
    pinDl := 0, pinBn := 0, burst := 0, rate := 0, tokens := 0, vInteractive := 0, vBulk := 0,
    lastRing := Vector.replicate 7 255, bypass := 0, resetCause := 0, aborted := [],
    domain := BitVec.ofNat 32 n.val, kekGen := 0, importEn := false }

/-- R215. -/
def PkEntry.reset : PkEntry :=
  { valid := false, base := 0, limit := 0, mask := 0, rd := false, wr := false, red := false, win := false,
    type := 0, prio := 0 }

/-- R216-R219. -/
def Pdk.reset : Pdk :=
  { staged := Vector.replicate 256 PkEntry.reset, live := Vector.replicate 256 PkEntry.reset, epoch := 0, past := [],
    pending := false, heldCommit := none, stageErr := false, target := 0, fenceDone := true, irq := false,
    evaluating := false,
    denyLog := { page := 0, stall := 0, bar4 := false, conflict := false, entry := 0, epoch := 0, lost := 0,
                 valid := false } }

/-- R266, R268-R271. -/
def Ring.reset : Ring :=
  { owner := none, base := 0, cpl := 0, hwb := 0, enable := false, sizeLog2 := 4, pasidIdx := 0, cls := 0,
    hwbEn := true, fetchBurst := 8, tail := 0, kept := false, fetch := 0, adm := 0, head := 0, dbHead := 0,
    headDue := false, owed := [], lap := 0, posted := 0, doneSlots := [], tags := [], budgets := [], debited := 0, buf := [],
    overlong := none, virtS := none, fence := none, tailErr := false, cfgErr := false, fetchErr := false }

/-- R305-R312, R640; the rotation starts at stall 0 (assumption 9). -/
def Disp.reset : Disp :=
  { normalAlarmMax := 32, bulkStretch := 2, preemptEn := true, budgetRefused := false, starvedCl := false,
    starvedDl := false, starvedBn := false, periodMs := 1000, rotUnit := Vector.replicate 3 none,
    rotNext := Vector.replicate 3 0, rotDue := Vector.replicate 3 0, passes := 0, lastStall := Vector.replicate 7 63, interval := 0, placed := [],
    coop := none, coopLate := none, perStall := 512 }

/-- R403-R405, R442-R444, R481-R483. -/
def UnitState.reset : UnitState :=
  { fenced := false, testDue := false, testing := false, run := none, suspended := none, keyReg := none, reqs := 0,
    bytes := 0, faultCause := 0, faultCount := 0, faultValid := false, held := false, lead := 0, coop := false,
    seeded := false, mask := 0, sinceSeed := 0, crib := [] }

/-- R445-R449. -/
def Feed.reset : Feed :=
  { alg := 0, keyed := false, handle := 0, stall := 0, msgLen := 0, outBytes := 0, vb := 0, last := 0,
    state := .idle, seqErr := false, code := 0, endCause := 0, count := 0, msg := [], buf := [], out := 0, idleUs := 1000,
    key := none, lastVb := 0, testFirst := false }

/-- R431, R450-R452. -/
def Mrb.reset : Mrb :=
  { value := Vector.replicate 48 0, count := Vector.replicate 48 0, buf := Vector.replicate 2 none,
    seqErr := Vector.replicate 2 false, denied := Vector.replicate 2 false, fenced := false, queue := [],
    nmMask := 0 }

/-- A blank OTP slot (assumption 7). -/
def Slot.reset : Slot := { value := 0, attr := 0, crc := 0, state := .unprogrammed }

/-- No key. -/
def Key.reset : Key := { value := [], attr := 0, tallyAddr := 0, tallyLimit := 0 }

/-- A free entry of the store (R343). -/
def Entry.reset : Entry :=
  { kind := 0, stall := 0, secure := false, mode := 0, key := Key.reset, source := [], dropped := false }

/-- R361-R371; the OTP of a new part by assumption 7, the first handle by assumption 10. -/
def Tkr.reset : Tkr :=
  { slots := Vector.replicate 512 Slot.reset, lcWord := Vector.replicate 3 0, ownerA := { hash := 0, crc := 0 },
    ownerB := { hash := 0, crc := 0 }, sensed := false, debugOpen := false, cmdErr := false,
    store := Vector.replicate 2048 Entry.reset, nextHandle := 0,
    tbind := Vector.replicate 64 { valid := false, slot := 0, tallyAddr := 0, tallyLimit := 0 }, keyIdle := 0,
    storeWait := 1000, allow := false, fails := 0, stagedHash := Vector.replicate 6 0,
    ownerKey := Vector.replicate 12 0, slotSel := 0, progSlot := 0, progSource := 0, progStall := 0, progAttr := 0,
    progBlob := 0, progBusy := none, progWord := 0, progValue := none, progDone := false, progErr := 0, lcBusy := none,
    lcFrom := 0, nonce := none }

/-- R513-R518. -/
def Ent.reset : Ent :=
  { state := .off, stretched := false, atLimit := false, cmdErr := false, fenced := false, queue := [],
    seeds := [], drbg := none, c := 0, reseeds := 0, counted := 0, rawEn := false, prNormal := false, waitLimit := 1000,
    targetLog2 := 10, limitLog2 := 16, episodes := 0, limitHits := 0, waiters := [], granted := [], turn := 0, testing := false }

/-- R519-R521. -/
def Ns.reset : Ns :=
  { policy := false, rct := 61, apt := 820, failLimit := 3, state := .off, bootFailed := false, retests := 0,
    fails := 0, lastCause := 0, rate := 0, rctFails := 0, aptFails := 0,
    test := { last := false, runLen := 0, first := false, count := 0, pos := 0, rct := 61, apt := 820, limit := 3 }, part := [],
    capture := none, wasRun := false }

/-- R561-R568. -/
def Mgr.reset : Mgr :=
  { slices := Vector.replicate 16 { dedicated := false, stall := 0, next := none, held := none, fenced := false,
                                    corrected := 0 },
    cfgErr := false, rsvWays := 4, nmSlices := 0xFFFF, repart := Vector.replicate 4 .none, lines := [], resv := [],
    held := [], missWaiting := [], invals := 0, crossings := 0, maxResolve := 0,
    errLog := { slice := 0, set := 0, way := 0, sector := 0, kind := 0, stall := 0, stallValid := false, lost := 0,
                valid := false } }

/-- R601-R606. -/
def Mc.reset : Mc :=
  { strength := 1, rate := 0, enable := true, written := false, rateWritten := false, state := .off, density := 0, ranks2 := false,
    hot := false, trained := false, corrected := 0, uncorr := 0, repairs := 0, ceThresh := 256,
    errLog := { page := 0, source := 0, lost := 0, valid := false }, repairQ := [] }

/-- R607-R611. -/
def Scb.reset : Scb :=
  { dramEn := 0xF, sramEn := true, paceDram := 100, sramPace := 16, dramMin := 1440, sramMin := 60,
    sweeps := Vector.replicate 5 { overdue := false, last := 0, laps := 0, pos := 0, rewrite := false },
    foundCor := 0, foundUnc := 0, sramCe := 0 }

/-- Walk-default configuration of a source: SEV, REACT, PROMO_WIN, PROMO_N (R656). -/
def HSrc.walk (k : HsId) : BitVec 2 × BitVec 7 × BitVec 4 × BitVec 8 :=
  let n := k.val
  if n < 56 then (1, 0, 0, 0)
  else if n < 72 then (1, 0, 10, 16)
  else if n < 76 then (2, 0, 0, 0)
  else if n < 78 then (1, 0, 0, 0)
  else if n = 78 then (2, 0, 0, 0)
  else if n = 79 then (3, 0, 0, 0)
  else if n = 80 then (1, 0, 0, 0)
  else if n = 81 then (1, 0, 10, 8)
  else if n = 82 then (1, 0, 10, 32)
  else if n = 83 then (3, 0x40, 0, 0)
  else if n = 84 then (3, 0x50, 0, 0)
  else if n = 85 then (2, 0, 0, 0)
  else if n < 94 then (3, 0x40, 0, 0)
  else if n = 94 then (1, 0, 15, 4)
  else (3, 0x20, 0, 0)

/-- R656, R673. -/
def HSrc.reset (k : HsId) : HSrc :=
  { latch := false, rail := false, sev := (HSrc.walk k).1, react := (HSrc.walk k).2.1,
    promoWin := (HSrc.walk k).2.2.1, promoN := (HSrc.walk k).2.2.2, promoSev := 2, lock := false,
    lockWritten := false, count := 0, c := 0, promoted := false, asserted := false, railBad := false,
    parityBad := false, infoLatch := false }

/-- HLT_SEV_REACT: none for INFO, IRQ for MINOR, IRQ and ALERT for MAJOR, IRQ and NMI-class for CRITICAL (R656). -/
def sevReactReset : BitVec 32 := 0x03210100

/-- R669-R678. -/
def Hlt.reset : Hlt :=
  { src := Vector.ofFn HSrc.reset, sevReact := sevReactReset, sevParityBad := false, nmiSent := false, unattrib := false, cfgErr := false,
    first := 0x7F, clkRef := true, safeLevel := 0xAAAA, guardLock := false, guardLockWritten := false,
    guardValue := 0, guardDrive := 0, safe := false, relErr := false, alert := false, alertForce := false,
    clrErr := false, selfPeriod := 1000, cause := 0, source := 0, passes := 0, nextPair := 0, logSource := 0,
    logStall := 0, logReset := false, logValid := false, inbox := [] }

/-- R679, R698, R699. -/
def TmpIn.reset (n : InputId) : TmpIn :=
  { en := false, active := if n.val < 4 then false else true, resp := if n.val < 8 then 1 else 0,
    chatTamper := true, filterUs := 1000,
    stuckS := 10, chatterCount := 32, chatterWin := 10, lock := false, lockWritten := false, state := .disabled,
    level := false, stuck := false, chatterEdges := 0, rawEdges := 0, windowCount := 0, windowLimit := 32, raised := false }

/-- R695-R701; the battery section at its first power-up (assumption 7). -/
def Tmp.reset : Tmp :=
  { latch := 0, lost := false, canary := 0, vbEn := 0, vbActive := 0, vbFilter := 4,
    vbCount := Vector.replicate 4 0, vbSampling := true, vbLock := false, vbLockWritten := false,
    vbWrites := [], extLock := false, ackErr := false, inp := Vector.ofFn TmpIn.reset, mon := 0, temp := 0,
    tripHold := false }

/-- R725, R726. -/
def Pd.reset : Pd :=
  { offReq := false, cancelled := false, waitFn := none, state := .off, result := .none, demand := false, hold := 0, fail := false, gates := 0,
    blockReset := false }

/-- R727-R731. -/
def Pwr.reset : Pwr :=
  { pin := 0, minCl := 2, minDl := 2, minBn := 1, thrBase := 118, level := 0, changes := 0, below := false,
    cfgErr := false }

/-- R746. -/
def EvSrc.reset : EvSrc :=
  { vector := 0, en := false, prio := 0, holdoff := 0, count := 0, raises := 0, bad := false, cause := false,
    pending := false, alarm := false, counted := 0, holding := false, since := none }

/-- R745-R751. -/
def EvtFn.reset : EvtFn := { src := Vector.replicate 320 EvSrc.reset, parity := false, parSrc := 0, msgs := 0 }

/-- R749, R750. -/
def Evt.reset : Evt :=
  { fns := Vector.replicate 2 EvtFn.reset, nmMirror := BitVec.allOnes 96, age := 2000 }

/-- The machine right after reset: a power-on reset whose boot has not begun (R37, R91), every register at the value
the specification gives; where it gives none, at the value assumptions 3 to 10 name. -/
def State.reset : State :=
  { pending := [], cycle := 0, free := 0, nextId := 0, resp := .none, linkOut := [], boot := Boot.reset,
    link := Link.reset, fns := #v[FnState.reset 0x6448, FnState.reset 0x6449],
    stalls := Vector.ofFn Stall.reset, pdk := Pdk.reset, rings := Vector.replicate 256 Ring.reset, reqs := [],
    inters := [], quotas := [], disp := Disp.reset, units := Vector.replicate 56 UnitState.reset, gcmShortTag := false,
    vbrRequired := false, tableOk := false, noTable := false, feed := Feed.reset, mrb := Mrb.reset,
    tkr := Tkr.reset, ent := Ent.reset, ns := Vector.replicate 2 Ns.reset, mgr := Mgr.reset,
    mcs := Vector.replicate 4 Mc.reset, dram := { cells := [], poison := [], tableChan := none }, scb := Scb.reset,
    hlt := Hlt.reset, tmp := Tmp.reset, pds := Vector.replicate 64 Pd.reset, pwr := Pwr.reset, evt := Evt.reset,
    jtag := { ir := 1, scan := 0, pinsHeld := false, pinsHighZ := false } }

end Sys2Proof.Machine
end

