-- ==== Sys2Proof/Machine/Bits.lean ====
section
/-! DEFINITION. Bit fields, byte orders, saturating counters, table updates and the two checksums of the
specification. -/

namespace Sys2Proof.Machine

/-! ### Tables -/

/-- Change one element of a table. -/
def upd {α : Type} {n : Nat} (v : Vector α n) (i : Fin n) (f : α → α) : Vector α n := v.set i (f v[i])

/-- Change every element of a table. -/
def vmap {α β : Type} {n : Nat} (f : α → β) (v : Vector α n) : Vector β n := Vector.ofFn fun i => f v[i]

/-- Change every element of a table, knowing its index. -/
def vmapIdx {α β : Type} {n : Nat} (f : Fin n → α → β) (v : Vector α n) : Vector β n := Vector.ofFn fun i => f i v[i]

/-- The indices of a table whose elements pass a test, ascending. -/
def vfind {α : Type} {n : Nat} (v : Vector α n) (p : α → Bool) : List (Fin n) := (List.finRange n).filter fun i => p v[i]

/-- The index of a table, of a number taken modulo its size. -/
def toFin (n : Nat) (h : 0 < n) (k : Nat) : Fin n := ⟨k % n, Nat.mod_lt k h⟩

/-- The index of a table, of a bit field of its width. -/
def bvFin {w : Nat} (x : BitVec w) : Fin (2 ^ w) := x.toFin

/-! ### Bit fields -/

/-- Bit i of a word. -/
def bit {w : Nat} (x : BitVec w) (i : Nat) : Bool := x.getLsbD i

/-- The n bits from bit lo. -/
def field {w : Nat} (x : BitVec w) (lo n : Nat) : BitVec n := x.extractLsb' lo n

/-- A one-bit field as a number. -/
def b1 (b : Bool) : BitVec 64 := if b then 1 else 0

/-- A field placed at bit lo of a 64-bit register. -/
def place {n : Nat} (lo : Nat) (x : BitVec n) : BitVec 64 := (x.setWidth 64) <<< lo

/-- A flag placed at bit i of a 64-bit register. -/
def flag (i : Nat) (b : Bool) : BitVec 64 := (b1 b) <<< i

/-- A word with bit i set or cleared. -/
def putBit {w : Nat} (x : BitVec w) (i : Nat) (b : Bool) : BitVec w :=
  if b then x ||| (1#w <<< i) else x &&& ~~~ (1#w <<< i)

/-- Number of 1 bits. -/
def popCount {w : Nat} (x : BitVec w) : Nat := ((List.range w).filter fun i => x.getLsbD i).length

/-- Positions of the 1 bits, ascending. -/
def ones {w : Nat} (x : BitVec w) : List Nat := (List.range w).filter fun i => x.getLsbD i

/-- A mask of a vector of flags. -/
def maskOf {n : Nat} (p : Fin n → Bool) : BitVec n :=
  (List.finRange n).foldl (fun m i => if p i then m ||| (1#n <<< i.val) else m) 0

/-! ### Counters -/

/-- A saturating count: one more, held at all ones (R7 counts that saturate). -/
def satInc {w : Nat} (x : BitVec w) : BitVec w := if x = BitVec.allOnes w then x else x + 1

/-- A saturating count: n more, held at all ones. -/
def satAdd {w : Nat} (x : BitVec w) (n : Nat) : BitVec w :=
  if x.toNat + n < 2 ^ w then BitVec.ofNat w (x.toNat + n) else BitVec.allOnes w

/-- A number in a saturating field. -/
def satOf (w n : Nat) : BitVec w := if n < 2 ^ w then BitVec.ofNat w n else BitVec.allOnes w

/-! ### Byte orders (R8: little-endian unless a rule says otherwise) -/

/-- The n low bytes of a number, least significant first. -/
def leBytes : Nat → Nat → List Byte
  | 0, _ => []
  | n + 1, x => BitVec.ofNat 8 x :: leBytes n (x / 256)

/-- The number that bytes spell, least significant first. -/
def leNat : List Byte → Nat
  | [] => 0
  | b :: t => b.toNat + 256 * leNat t

/-- The n low bytes of a number, most significant first. -/
def beBytes (n x : Nat) : List Byte := (leBytes n x).reverse

/-- The number that bytes spell, most significant first. -/
def beNat (bs : List Byte) : Nat := leNat bs.reverse

/-- n bytes from an offset, zero beyond the end. -/
def slice (bs : List Byte) (off n : Nat) : List Byte := (List.range n).map fun i => bs.getD (off + i) 0

/-- A little-endian field of a block of bytes. -/
def fieldAt (bs : List Byte) (off n : Nat) : Nat := leNat (slice bs off n)

/-- Are all bytes of a range zero? -/
def zeroAt (bs : List Byte) (off n : Nat) : Bool := (slice bs off n).all (· = 0)

/-- n zero bytes. -/
def zeros (n : Nat) : List Byte := List.replicate n 0

/-- The ASCII bytes of a text. -/
def ascii (t : String) : List Byte := t.toList.map fun c => BitVec.ofNat 8 c.toNat

/-- A number rounded up to a multiple. -/
def roundUp (x m : Nat) : Nat := (x + m - 1) / m * m

/-- A quotient rounded up. -/
def ceilDiv (x m : Nat) : Nat := (x + m - 1) / m

/-! ### Checksums -/

/-- One bit of the reflected Castagnoli CRC (R59). -/
def crcBit (c : BitVec 32) : BitVec 32 := if c.getLsbD 0 then (c >>> 1) ^^^ 0x82F63B78 else c >>> 1

/-- One byte of the CRC. -/
def crcByte (c : BitVec 32) (b : Byte) : BitVec 32 :=
  (List.range 8).foldl (fun x _ => crcBit x) (c ^^^ b.setWidth 32)

/-- CRC-32C: initial value and final XOR all ones (R59). -/
def crc32c (bs : List Byte) : BitVec 32 := (bs.foldl crcByte 0xFFFFFFFF) ^^^ 0xFFFFFFFF

/-- One bit of CRC-8 with polynomial 0x07 (R146). -/
def crc8Bit (c : Byte) : Byte := if c.getLsbD 7 then (c <<< 1) ^^^ 0x07 else c <<< 1

/-- CRC-8, initial value 0 (R146). -/
def crc8 (bs : List Byte) : Byte :=
  bs.foldl (fun c b => (List.range 8).foldl (fun x _ => crc8Bit x) (c ^^^ b)) 0

end Sys2Proof.Machine
end

