-- ==== Sys2Proof/Machine/Memory.lean ====
section
/-! DEFINITION. Local memory: the cells of DRAM in their one canonical form, poison, usable capacity, home slices, and
the coherent view through the Manger's lines (12, 13). -/

namespace Sys2Proof.Machine

/-! ### DRAM cells -/

/-- The byte at an address; an unlisted byte is 0, since every channel is zero-filled (R93). -/
def cellGet : List Host.Cell → Nat → Byte
  | [], _ => 0
  | (k, v) :: t, a => if k = a then v else cellGet t a

/-- Write one byte, keeping addresses rising and no zero listed. -/
def cellSet : List Host.Cell → Nat → Byte → List Host.Cell
  | [], a, b => if b = 0 then [] else [(a, b)]
  | (k, v) :: t, a, b =>
    if a < k then (if b = 0 then (k, v) :: t else (a, b) :: (k, v) :: t)
    else if a = k then (if b = 0 then t else (a, b) :: t)
    else (k, v) :: cellSet t a b

/-- The canonical form: addresses strictly rising, no byte 0. -/
def Memory.wf : List Host.Cell → Bool
  | [] => true
  | (k, v) :: t => decide (v ≠ 0) && t.all (fun c => decide (k < c.1)) && Memory.wf t

/-- Write bytes from an address on. -/
def cellPut (cells : List Host.Cell) (a : Nat) : List Byte → List Host.Cell
  | [] => cells
  | b :: t => cellPut (cellSet cells a b) (a + 1) t

/-- Bytes from an address on. -/
def cellRead (cells : List Host.Cell) (a n : Nat) : List Byte := (List.range n).map fun i => cellGet cells (a + i)

/-- Cells outside one range: the range reads zero (zero fill). -/
def cellClear (cells : List Host.Cell) (lo hi : Nat) : List Host.Cell :=
  cells.filter fun c => decide (c.1 < lo) || decide (hi ≤ c.1)

/-! ### Poison (R583-R585) -/

/-- Insert a sector into the rising list of poisoned sectors. -/
def secInsert : List Nat → Nat → List Nat
  | [], k => [k]
  | h :: t, k => if k < h then k :: h :: t else if k = h then h :: t else h :: secInsert t k

/-- Set or clear the poison flag of a sector of DRAM. -/
def setPoison (p : List Nat) (sector : Nat) (bad : Bool) : List Nat :=
  if bad then secInsert p sector else p.filter (· ≠ sector)

/-! ### Geometry -/

/-- Physical bytes of a channel by its DENSITY code (R602). -/
def densityBytes (d : BitVec 3) : Nat :=
  match d.toNat with
  | 0 => 0x20000000
  | 1 => 0x30000000
  | 2 => 0x40000000
  | 3 => 0x60000000
  | 4 => 0x80000000
  | 5 => 0xC0000000
  | _ => 0x100000000

/-- Data pages per check page, by STRENGTH (R576). -/
def groupPages (st : BitVec 2) : Nat :=
  match st.toNat with
  | 0 => 128
  | 1 => 64
  | 2 => 42
  | _ => 32

/-- Usable capacity U of a channel (R577). -/
def usableOf (st : BitVec 2) (density : BitVec 3) : Nat :=
  densityBytes density / 2048 / (groupPages st + 1) * groupPages st * 2048

/-- Has the channel been identified, so that MC_USABLE stands? -/
def mcKnown (m : Mc) : Bool := m.trained

/-- MC_USABLE (R603). -/
def usable (m : Mc) : Nat := if mcKnown m then usableOf m.strength m.density else 0

/-- Channel of a local address: bits [33:32] (R571). -/
def chanOf (a : Nat) : ChanId := toFin 4 (by decide) (a / 0x100000000)

/-- Does a local address lie within its channel's installed capacity? (R571) -/
def installed (s : State) (a : Nat) : Bool :=
  decide (a < 0x400000000) && decide (a % 0x100000000 < usable s.mcs[chanOf a])

/-- Is the channel of an address still to be filled at boot (R153)? -/
def notFilled (s : State) (a : Nat) : Bool :=
  let m := s.mcs[chanOf a]
  match m.state with
  | .training | .filling => true
  | .off => m.enable && decide (s.boot.phase ≠ .ready)
  | _ => false

/-- Does an address lie outside the installed capacity: known once the channel has been trained (R571)? -/
def outside (s : State) (a : Nat) : Bool :=
  !installed s a && !(decide (a < 0x400000000) && notFilled s a && !mcKnown s.mcs[chanOf a])

/-- Does an address lie in the table area, the highest 2 MiB of the table channel (R470, R572)? -/
def inTable (s : State) (a : Nat) : Bool :=
  match s.dram.tableChan with
  | some g => decide (chanOf a = g) && decide (usable s.mcs[g] ≤ a % 0x100000000 + 0x200000)
  | none => false

/-- Line number of a local address (R524). -/
def lineOf (a : Nat) : LineNo := BitVec.ofNat 25 (a / 512)

/-- First address of a line. -/
def lineAddr (l : LineNo) : Nat := l.toNat * 512

/-- Group, and channel, of a line. -/
def lineChan (l : LineNo) : ChanId := chanOf (lineAddr l)

/-- The hash H of R524. -/
def homeHash (l : LineNo) : BitVec 8 :=
  field l 0 8 ^^^ field l 8 8 ^^^ field l 16 8 ^^^ (field l 24 1).setWidth 8

/-- Set index of a line in its slice (R525). -/
def setOf (l : LineNo) : BitVec 7 := field l 0 7 ^^^ field l 7 7

/-- Slices of a group. -/
def groupSlices (g : ChanId) : List SliceId := (List.finRange 16).filter fun k => decide (k.val / 4 = g.val)

/-- Is a slice in the pool: not dedicated, not fenced? (R526, R559) -/
def inPool (s : State) (k : SliceId) : Bool := !s.mgr.slices[k].dedicated && !s.mgr.slices[k].fenced

/-- The group's slices in the pool, ascending. -/
def poolSlices (s : State) (g : ChanId) : List SliceId := (groupSlices g).filter (inPool s)

/-- Home slice of a line; none when the group has no pool slice (R524). -/
def homeSlice (s : State) (l : LineNo) : Option SliceId :=
  let p := poolSlices s (lineChan l)
  p[(homeHash l).toNat % p.length]?

/-! ### Lines -/

/-- The cached line of a line number. -/
def findLine (s : State) (l : LineNo) : Option Line := s.mgr.lines.find? fun x => decide (x.line = l)

/-- Byte i of a line's data. -/
def lineByte (d : BitVec 4096) (i : Nat) : Byte := d.extractLsb' (8 * i) 8

/-- A line's data with byte i replaced. -/
def setLineByte (d : BitVec 4096) (i : Nat) (b : Byte) : BitVec 4096 :=
  (d &&& ~~~ ((0xFF#4096) <<< (8 * i))) ||| ((b.setWidth 4096) <<< (8 * i))

/-- Line data from 512 bytes, byte 0 least significant. -/
def ofLineBytes (bs : List Byte) : BitVec 4096 := BitVec.ofNat 4096 (leNat bs)

/-- The 512 bytes of a line as DRAM holds them: in the table area the comb tables, which the units build in MEMORY and
nothing writes afterwards (R470, R471; assumption 74). -/
def dramLine (s : State) (l : LineNo) : BitVec 4096 :=
  ofLineBytes (if inTable s (lineAddr l)
    then (List.range 512).map fun i => Config.stdByte .combTables [] (lineAddr l % 0x200000 + i)
    else cellRead s.dram.cells (lineAddr l) 512)

/-- Poison of a line's sectors as DRAM holds it. -/
def dramLinePoison (s : State) (l : LineNo) : BitVec 8 :=
  maskOf fun k : Fin 8 => s.dram.poison.contains (lineAddr l / 64 + k.val)

/-- Replace, or add, a line. -/
def setLine (ls : List Line) (x : Line) : List Line :=
  if ls.any (fun y => decide (y.line = x.line)) then ls.map (fun y => if y.line = x.line then x else y) else ls ++ [x]

/-- Replace, or add, a line of the Manger. -/
def putLine (s : State) (x : Line) : State := { s with mgr := { s.mgr with lines := setLine s.mgr.lines x } }

/-- Remove a line. -/
def dropLine (s : State) (l : LineNo) : State :=
  { s with mgr := { s.mgr with lines := s.mgr.lines.filter fun y => decide (y.line ≠ l) } }

/-- The last write to an address among a line's held writes. -/
def heldWrite (ws : List (Nat × Byte)) (a : Nat) : Option Byte :=
  (ws.reverse.find? fun w => decide (w.1 = a)).map (·.2)

/-- The byte that an access accepted now reads: held writes first, then the line, then DRAM (R541, R615). -/
def coByte (s : State) (a : Nat) : Byte :=
  match findLine s (lineOf a) with
  | none => cellGet s.dram.cells a
  | some x =>
    match heldWrite x.writes a with
    | some b => b
    | none => bif bit x.valid (a % 512 / 64) then lineByte x.data (a % 512) else cellGet s.dram.cells a

/-- Coherent bytes from an address on. -/
def coRead (s : State) (a n : Nat) : List Byte := (List.range n).map fun i => coByte s (a + i)

/-- Is the sector of an address poisoned, or its channel fenced (R584, R597)? -/
def coBad (s : State) (a : Nat) : Bool :=
  decide (s.mcs[chanOf a].state = McState.fenced) ||
  match findLine s (lineOf a) with
  | none => s.dram.poison.contains (a / 64)
  | some x => bif bit x.valid (a % 512 / 64) then bit x.poison (a % 512 / 64) else s.dram.poison.contains (a / 64)

/-- Does a range meet a poisoned sector? -/
def coPoisoned (s : State) (a n : Nat) : Bool :=
  (List.range (ceilDiv (a % 64 + n) 64)).any fun i => decide (0 < n) && coBad s (a / 64 * 64 + 64 * i)

/-- A request writes to the DRAM page of an address: a rewrite that the repair queue or the Scrubber holds for the page
is dropped (R591, R598). -/
def pageWritten (s : State) (a : Nat) : State :=
  let g := chanOf a
  let p := a % 0x100000000 / 2048
  { s with mcs := upd s.mcs g fun m => { m with repairQ := m.repairQ.filter fun q => decide (q.toNat ≠ p) },
           scb := { s.scb with sweeps := upd s.scb.sweeps ⟨g.val, by omega⟩ fun x =>
                      { x with rewrite := x.rewrite && decide (x.pos ≠ p + 1) } } }

/-- Write back one sector of a line to DRAM, with its poison flag (R558, R583). -/
def writeBackSector (s : State) (x : Line) (k : Nat) : State :=
  let a := lineAddr x.line + 64 * k
  if s.mcs[lineChan x.line].state = McState.fenced then s else
  { pageWritten s a with dram :=
      { s.dram with cells := cellPut s.dram.cells a ((List.range 64).map fun i => lineByte x.data (64 * k + i)),
                    poison := setPoison s.dram.poison (a / 64) (bit x.poison k) } }

/-- Write back every dirty sector of a line. -/
def writeBack (s : State) (x : Line) : State := (ones x.dirty).foldl (fun s k => writeBackSector s x k) s

/-- Apply writes to a line: whole bytes into its data; the sectors touched become valid only where they were, or
where a write covers them whole (R619). -/
def applyWrites (x : Line) (ws : List (Nat × Byte)) : Line :=
  { x with data := ws.foldl (fun d w => setLineByte d (w.1 % 512) w.2) x.data }

/-- The sector masks a list of writes covers whole. -/
def wholeSectors (ws : List (Nat × Byte)) : BitVec 8 :=
  maskOf fun k : Fin 8 => (List.range 64).all fun i => ws.any fun w => decide (w.1 % 512 = 64 * k.val + i)

/-- The sector mask a list of writes touches. -/
def touchedSectors (ws : List (Nat × Byte)) : BitVec 8 :=
  maskOf fun k : Fin 8 => ws.any fun w => decide (w.1 % 512 / 64 = k.val)

end Sys2Proof.Machine
end

