-- ==== Sys2Proof/Machine/Flags.lean ====
section
/-! DEFINITION. What every block does to report: cause bits and pending messages of events (18), assertions to the
Halter (15), AER bits and the error log of a function (03), posted writes (14), answers, free values. -/

namespace Sys2Proof.Machine

/-! ### Functions and worlds -/

/-- Index of a function's copy. -/
def fnIx : Fn → Fin 2
  | .pf0 => 0
  | .pf1 => 1

/-- A function's own state. -/
def fnState (s : State) (f : Fn) : FnState := s.fns[fnIx f]

/-- Change a function's own state. -/
def setFn (s : State) (f : Fn) (g : FnState → FnState) : State := { s with fns := upd s.fns (fnIx f) g }

/-- The function that serves a stall's world (R23, R24). -/
def worldFn (s : State) (n : StallId) : Fn := if s.stalls[n].secure then .pf1 else .pf0

/-- Change a stall. -/
def setStall (s : State) (n : StallId) (g : Stall → Stall) : State := { s with stalls := upd s.stalls n g }

/-- Change a ring. -/
def setRing (s : State) (r : RingId) (g : Ring → Ring) : State := { s with rings := upd s.rings r g }

/-- Change a unit. -/
def setUnit (s : State) (u : UnitId) (g : UnitState → UnitState) : State := { s with units := upd s.units u g }

/-- Change a power domain. -/
def setPd (s : State) (d : PdId) (g : Pd → Pd) : State := { s with pds := upd s.pds d g }

/-- Change a channel. -/
def setMc (s : State) (c : ChanId) (g : Mc → Mc) : State := { s with mcs := upd s.mcs c g }

/-- Change a noise source. -/
def setNs (s : State) (n : NsId) (g : Ns → Ns) : State := { s with ns := upd s.ns n g }

/-- Change a slice. -/
def setSlice (s : State) (k : SliceId) (g : Slice → Slice) : State :=
  { s with mgr := { s.mgr with slices := upd s.mgr.slices k g } }

/-- Change a Halter source. -/
def setHs (s : State) (k : HsId) (g : HSrc → HSrc) : State := { s with hlt := { s.hlt with src := upd s.hlt.src k g } }

/-- Change a tamper input. -/
def setIn (s : State) (n : InputId) (g : TmpIn → TmpIn) : State := { s with tmp := { s.tmp with inp := upd s.tmp.inp n g } }

/-- Change the request of a number. -/
def setReq (s : State) (i : Nat) (g : Req → Req) : State :=
  { s with reqs := s.reqs.map fun q => if q.id = i then g q else q }

/-- The request of a number. -/
def findReq (s : State) (i : Nat) : Option Req := s.reqs.find? fun q => decide (q.id = i)

/-! ### Answers and free values -/

/-- Answer on the interface the command came from. -/
def answer (s : State) (r : Resp) : State := { s with resp := r }

/-- A message sent on the link. -/
def emit (s : State) (m : LinkMsg) : State := { s with linkOut := s.linkOut ++ [m] }

/-- Use up n free values. -/
def takeFree (s : State) (n : Nat) : State := { s with free := s.free + n }

/-- The next n free bytes (assumption 3). -/
def freeBytes (s : State) (n : Nat) : List Byte := (List.range n).map fun i => Config.freeByte (s.free + i)

/-! ### Halter assertions -/

/-- An assertion of a source with its attributed stall (R642). -/
def raiseHs (s : State) (k : HsId) (st : Option StallId) : State :=
  { s with hlt := { s.hlt with inbox := s.hlt.inbox ++ [{ src := k, stall := st, rail := false, info := false, again := false }] } }

/-- Source number of a unit: HSk for unit k (R299). -/
def unitHs (u : UnitId) : HsId := ⟨u.val, by omega⟩

/-- Source number of a slice: HS(56 + k) (R558). -/
def sliceHs (k : SliceId) : HsId := ⟨56 + k.val, by omega⟩

/-- Source number of a channel: HS(72 + g) (R599). -/
def chanHs (g : ChanId) : HsId := ⟨72 + g.val, by omega⟩

/-- Source number of a noise source (R490). -/
def nsHs (n : NsId) : HsId := ⟨76 + n.val, by omega⟩

/-! ### Events (18) -/

/-- Completion event of a stall (R265). -/
def evDone (n : StallId) : EvId := ⟨3 * n.val, by omega⟩
/-- Error event of a stall. -/
def evError (n : StallId) : EvId := ⟨3 * n.val + 1, by omega⟩
/-- Notice event of a stall. -/
def evNotice (n : StallId) : EvId := ⟨3 * n.val + 2, by omega⟩
/-- Mirror event of a Halter source (R732). -/
def evMirror (k : HsId) : EvId := ⟨192 + k.val, by omega⟩

/-- Device events that R734 does not deliver on PF0. -/
def evSecureOnly (k : EvId) : Bool := [293, 297, 298, 299, 300].contains k.val

/-- Is a source delivered on a function now (R732)? EV315 to EV319 are never raised (R734). -/
def evAllowed (s : State) (f : Fn) (k : EvId) : Bool :=
  if h : k.val < 192 then
    decide (worldFn s ⟨k.val / 3, by omega⟩ = f)
  else if k.val < 288 then
    match f with
    | .pf1 => true
    | .pf0 => bit s.evt.nmMirror (k.val - 192)
  else if k.val < 315 then
    match f with
    | .pf1 => true
    | .pf0 => !evSecureOnly k
  else false

/-- A function's entry for a source. -/
def evSrc (s : State) (f : Fn) (k : EvId) : EvSrc := s.evt.fns[fnIx f].src[k]

/-- Change a function's copy of the Event Router. -/
def setEvFn (s : State) (f : Fn) (g : EvtFn → EvtFn) : State :=
  { s with evt := { s.evt with fns := upd s.evt.fns (fnIx f) g } }

/-- Change a function's entry for a source. -/
def setEv (s : State) (f : Fn) (k : EvId) (g : EvSrc → EvSrc) : State :=
  setEvFn s f fun e => { e with src := upd e.src k g }

/-- Condition 1 of R739: holdoff, count or Alarm. -/
def evReady (e : EvSrc) : Bool :=
  e.pending && (!e.holding || decide (e.holdoff = 0) || (decide (e.count ≠ 0) && decide (e.count.toNat ≤ e.counted)) || e.alarm)

/-- Is a vector of a function masked by its table entry or by Function Mask (R132)? -/
def vecMasked (s : State) (f : Fn) (v : BitVec 10) : Bool :=
  (fnState s f).functionMask || bit (fnState s f).msix[bvFin v].ctl 0

/-- May a function send messages at all: MSI-X Enable 1, D0, not under reset (R132, R140, R143)? -/
def msixOn (s : State) (f : Fn) : Bool := (fnState s f).msixEnable && !(fnState s f).d3hot && !(fnState s f).flr

/-- Is a pending message eligible for selection (R739)? -/
def evEligible (s : State) (f : Fn) (k : EvId) : Bool :=
  let e := evSrc s f k
  evReady e && e.en && !e.bad && msixOn s f && !vecMasked s f e.vector

/-- Set the pending bit of the vector of a message held back only by masking, and note the cycle in which a message
became eligible (R132, R740). -/
def noteEv (s : State) (f : Fn) (k : EvId) : State :=
  let e := evSrc s f k
  let s := if evReady e && msixOn s f && vecMasked s f e.vector
    then setFn s f fun x => { x with msixPend := putBit x.msixPend e.vector.toNat true } else s
  let since := if evEligible s f k then some (e.since.getD s.cycle) else none
  if since = e.since then s else setEv s f k fun x => { x with since := since }

/-- A message entry with its message discarded or delivered. -/
def evClear (e : EvSrc) : EvSrc := { e with pending := false, alarm := false, since := none }

/-- Does a function hold a message for a vector that masking alone may hold back: one that still waits for its holdoff or
count sets no pending bit (R132)? -/
def vecWanted (s : State) (f : Fn) (v : BitVec 10) : Bool :=
  (List.finRange 320).any fun k =>
    let e := evSrc s f k
    evReady e && e.en && !e.bad && decide (e.vector = v)

/-- Clear a vector's pending bit once no message holds it (R132). -/
def dropPend (s : State) (f : Fn) (v : BitVec 10) : State :=
  if bit (fnState s f).msixPend v.toNat && !vecWanted s f v
  then setFn s f fun x => { x with msixPend := putBit x.msixPend v.toNat false } else s

/-- Discard a function's pending message for a source (R743). -/
def evDiscard (s : State) (f : Fn) (k : EvId) : State :=
  if (evSrc s f k).pending then dropPend (setEv s f k evClear) f (evSrc s f k).vector else s

/-- A raise on one function: cause bit and RAISES, then a message when the entry has EN 1 and good parity; a bad
entry acts as EN 0 and reports its parity error (R736, R737, R744). -/
def raiseOn (s : State) (f : Fn) (k : EvId) (alarm : Bool) : State :=
  if !evAllowed s f k then s else
  let s := setEv s f k fun e => { e with cause := true, raises := satInc e.raises }
  let e := evSrc s f k
  if e.bad then
    raiseHs (setEvFn s f fun x => { x with parity := true, parSrc := BitVec.ofNat 9 k.val }) 81 none
  else if e.en then
    noteEv (setEv s f k fun e => { e with pending := true, alarm := e.alarm || alarm, counted := e.counted + 1 }) f k
  else s

/-- Raise a source (R736). -/
def raiseEv (s : State) (k : EvId) (alarm : Bool := false) : State := raiseOn (raiseOn s .pf0 k alarm) .pf1 k alarm

/-- Note eligibility and pending bits of every message of both functions. -/
def noteAllEv (s : State) : State :=
  (List.finRange 320).foldl (fun s k =>
    let s := if (evSrc s .pf0 k).pending then noteEv s .pf0 k else s
    if (evSrc s .pf1 k).pending then noteEv s .pf1 k else s) s

/-! ### AER (R135); bit order of the model: Data Link Protocol, Poisoned TLP, Flow Control, Completion Timeout,
Completer Abort, Unexpected Completion, Receiver Overflow, Malformed TLP, Unsupported Request, Uncorrectable
Internal -/

/-- Log an uncorrectable error in a function's AER registers. -/
def setAer (s : State) (f : Fn) (i : Nat) : State := setFn s f fun x => { x with aerUnc := putBit x.aerUnc i true }

/-- Log an uncorrectable error on both functions. -/
def setAer2 (s : State) (i : Nat) : State := setAer (setAer s .pf0 i) .pf1 i

/-- Log a correctable error in a function's AER registers; bit order of the model: Receiver, Bad TLP, Bad DLLP, Replay
Rollover, Replay Timeout, Advisory Non-Fatal (R135). -/
def setAerCor (s : State) (f : Fn) (i : Nat) : State := setFn s f fun x => { x with aerCor := putBit x.aerCor i true }

/-- Log a failed DMA in the function's BRD_ERR_LOG, with the PASID it carried, or 0 (R162). -/
def logDma (s : State) (f : Fn) (ring : RingId) (kind : BitVec 3) (isFetch : Bool) (pasid : Option (BitVec 20)) : State :=
  setFn s f fun x =>
    if x.errLog.valid then { x with errLog := { x.errLog with lost := satInc x.errLog.lost } }
    else { x with errLog := { ring := BitVec.ofNat 8 ring.val, kind := kind, fetch := isFetch,
                              pasid := pasid.getD 0, lost := 0, valid := true } }

/-! ### Accesses of a function's BARs (R81, R100, R140, R143) -/

/-- A BAR access of a function in D3hot or under FLR: Unsupported Request with its AER bit, or nothing. -/
def gateBar (s : State) (f : Fn) (k : State → State) : State :=
  if (fnState s f).d3hot then answer (setAer s f 8) .unsupported
  else if (fnState s f).flr then answer s (.value 0)
  else k s

/-- A BAR0 write takes effect only in HELD and READY (R81, R82, R100). -/
def gateW (s : State) (f : Fn) (k : State → State) : State :=
  gateBar s f fun s => if s.boot.phase = .held ∨ s.boot.phase = .ready then k s else s

/-- Drop the low half that a function holds of the 64-bit register at an offset (R115). -/
def dropLow (s : State) (f : Fn) (off : BitVec 20) : State :=
  setFn s f fun x => { x with lows := x.lows.filter fun y => decide (y.1 ≠ off) }

/-- An 8-byte write of the 64-bit register at an offset: it replaces the whole register and drops a held low half (R115). -/
def gateW64 (s : State) (f : Fn) (off : Nat) (k : State → State) : State :=
  gateW s f fun s => k (dropLow s f (BitVec.ofNat 20 off))

/-! ### Posted writes (R612-R616) -/

/-- Data units of 64 bytes that an entry holds. -/
def pwUnits (w : Pw) : Nat := ceilDiv w.bytes.length 64

/-- HEADERS and DATA of BRD_PWB_STATUS (R636). -/
def pwbHeaders (s : State) : Nat := s.link.pwb.length
/-- See `pwbHeaders`. -/
def pwbData (s : State) : Nat := (s.link.pwb.map pwUnits).foldl (· + ·) 0

/-- Is there room for an entry: 512 headers and 64 KiB of data (R616)? -/
def pwbRoom (s : State) (w : Pw) : Bool := decide (pwbHeaders s < 512) && decide (pwbData s + pwUnits w ≤ 1024)

/-- Enter a write: in-budget Alarm writes go ahead of the other requests' writes not yet sent (R290, R614). -/
def pwInsert (q : List Pw) (w : Pw) : List Pw :=
  if w.alarm then q.takeWhile (·.alarm) ++ w :: q.dropWhile (·.alarm) else q ++ [w]

/-- Enter a write into the host posted-write buffer. -/
def post (s : State) (w : Pw) : State := { s with link := { s.link with pwb := pwInsert s.link.pwb w } }

/-- Max_Payload_Size in bytes (R108). -/
def maxPayload (s : State) (f : Fn) : Nat :=
  match (fnState s f).mps.toNat with
  | 0 => 128
  | 1 => 256
  | _ => 512

/-- Length of the next write TLP from an address: within Max_Payload_Size and one 4 KiB block (R124). -/
def tlpLen (mps addr len : Nat) : Nat := min len (min mps (4096 - addr % 4096))

/-- PASID prefix of a function's DMA (R122). -/
def prefixOf (s : State) (f : Fn) (p : BitVec 20) : Option (BitVec 20) :=
  if (fnState s f).pasidEnable then some p else none

/-! ### Doorbell events of one stall -/

/-- Set the notice code of a stall and raise its notice event (R177). -/
def notice (s : State) (n : StallId) (code : BitVec 4) : State :=
  raiseEv (setStall s n fun x => { x with notice := code }) (evNotice n)

end Sys2Proof.Machine
end

