-- ==== Sys2Proof/Machine/Ops.lean ====
section
/-! DEFINITION. Shared operations: the Paddock Table, protection epochs, keys, Manger capacity and lines, units and
pools, the life of a request and its completion record (04, 05, 06, 07, 12, 14). -/

namespace Sys2Proof.Machine

/-! ### Domains and units -/

/-- The domain of a unit (R641). -/
def unitPd (u : UnitId) : PdId := ⟨u.val, by omega⟩
/-- The domain of a Manger group (R522). -/
def groupPd (g : ChanId) : PdId := ⟨56 + g.val, by omega⟩

/-- Powered: ON, DRAINING or SECURE_HOLD (R730). -/
def pdPowered (s : State) (d : PdId) : Bool :=
  match s.pds[d].state with
  | .on | .draining | .secureHold => true
  | _ => false

/-- Domain ON. -/
def pdOn (s : State) (d : PdId) : Bool := decide (s.pds[d].state = .on)

/-- The units of a pool, ascending (R272). -/
def poolUnits : Pool → List UnitId
  | .cipher => (List.finRange 56).filter fun u => decide (u.val < 32)
  | .digest => (List.finRange 56).filter fun u => decide (32 ≤ u.val ∧ u.val < 48)
  | .bignum => (List.finRange 56).filter fun u => decide (48 ≤ u.val)
  | _ => []

/-- The pool of a unit. -/
def unitPool (u : UnitId) : Pool := if u.val < 32 then .cipher else if u.val < 48 then .digest else .bignum

/-- Index of a pool. -/
def poolIx : Pool → Fin 7
  | .cipher => 0 | .digest => 1 | .bignum => 2 | .random => 3 | .key => 4 | .memory => 5 | .measurement => 6

/-- The pool of an opcode (R272). -/
def opPool (op : Nat) : Option Pool :=
  if op ≤ 0x12 then some .cipher
  else if 0x20 ≤ op ∧ op ≤ 0x2D then some .digest
  else if op = 0x30 then some .measurement
  else if 0x40 ≤ op ∧ op ≤ 0x5C then some .bignum
  else if 0x60 ≤ op ∧ op ≤ 0x68 then some .random
  else if 0x70 ≤ op ∧ op ≤ 0x77 then some .key
  else if 0x80 ≤ op ∧ op ≤ 0x88 then some .memory
  else none

/-- A stall's pin set for a pool: a mask of 0 admits every unit (R294). -/
def pinned (s : State) (n : StallId) (u : UnitId) : Bool :=
  let st := s.stalls[n]
  if u.val < 32 then decide (st.pinCl = 0) || bit st.pinCl u.val
  else if u.val < 48 then decide (st.pinDl = 0) || bit st.pinDl (u.val - 32)
  else decide (st.pinBn = 0) || bit st.pinBn (u.val - 48)

/-- The units of a pool that a stall may use. -/
def stallUnits (s : State) (p : Pool) (n : StallId) : List UnitId := (poolUnits p).filter (pinned s n)

/-! ### Descriptor words (R234) -/

/-- OPCODE. -/
def Desc.opcode (d : Desc) : Nat := (field d.w[0] 0 8).toNat
/-- MODE. -/
def Desc.mode (d : Desc) : Byte := field d.w[0] 8 8
/-- HARNESS. -/
def Desc.harness (d : Desc) : Bool := bit d.w[0] 16
/-- BARRIER. -/
def Desc.barrier (d : Desc) : Bool := bit d.w[0] 17
/-- NOTIFY. -/
def Desc.notify (d : Desc) : Bool := bit d.w[0] 18
/-- VBR. -/
def Desc.vbr (d : Desc) : Bool := bit d.w[0] 19
/-- SRC_SEL. -/
def Desc.srcSel (d : Desc) : Nat := (field d.w[0] 20 2).toNat
/-- DST_SEL. -/
def Desc.dstSel (d : Desc) : Nat := (field d.w[0] 22 2).toNat
/-- KEY_SRC. -/
def Desc.keySrc (d : Desc) : BitVec 3 := field d.w[0] 24 3
/-- KEY_LOCAL. -/
def Desc.keyLocal (d : Desc) : Bool := bit d.w[0] 27
/-- TAG. -/
def Desc.tag (d : Desc) : BitVec 32 := field d.w[0] 32 32
/-- KEY_REF. -/
def Desc.keyRef (d : Desc) : BitVec 64 := d.w[1]
/-- SRC. -/
def Desc.src (d : Desc) : Nat := d.w[2].toNat
/-- DST. -/
def Desc.dst (d : Desc) : Nat := d.w[3].toNat
/-- SRC_LEN. -/
def Desc.srcLen (d : Desc) : Nat := (field d.w[4] 0 32).toNat
/-- DST_LEN. -/
def Desc.dstLen (d : Desc) : Nat := (field d.w[4] 32 32).toNat
/-- AUX. -/
def Desc.aux (d : Desc) : Nat := d.w[5].toNat
/-- AUX_LEN. -/
def Desc.auxLen (d : Desc) : Nat := (field d.w[6] 0 16).toNat
/-- INTER_LINES. -/
def Desc.interLines (d : Desc) : Nat := (field d.w[6] 16 9).toNat
/-- IMM. -/
def Desc.imm (d : Desc) : BitVec 64 := d.w[7]

/-- A descriptor from its 64 bytes. -/
def descOf (bs : List Byte) : Desc := { w := Vector.ofFn fun i => BitVec.ofNat 64 (fieldAt bs (8 * i.val) 8) }

/-! ### The Paddock Table (R185-R192) -/

/-- The right an access needs (R188). -/
inductive Need where
  | rd | wr | red
  deriving DecidableEq, Repr

/-- What the table says of one page (R187). -/
inductive Verdict where
  | grant (rd wr red : Bool) (type : BitVec 2)
  | denied
  | conflict (entry : Nat)
  deriving DecidableEq, Repr

/-- Does an entry match a page for a requester (none: BAR4)? (R185) -/
def pkHits (e : PkEntry) (page : Nat) (who : Option StallId) : Bool :=
  e.valid && decide (e.base.toNat ≤ page) && decide (page ≤ e.limit.toNat) &&
  match who with
  | some n => bit e.mask n.val
  | none => e.win

/-- Do two entries carry the same grant? (R186) -/
def sameGrant (a b : PkEntry) : Bool :=
  decide (a.rd = b.rd) && decide (a.wr = b.wr) && decide (a.red = b.red) && decide (a.type = b.type)

/-- The live table of an epoch that is not drained (R189, R195). -/
def tableOf (s : State) (ep : BitVec 16) : Vector PkEntry 256 :=
  if ep = s.pdk.epoch then s.pdk.live else ((s.pdk.past.find? fun p => decide (p.1 = ep)).map (·.2)).getD s.pdk.live

/-- The rule for one page under an epoch: highest priority, equal grants apply, different grants conflict (R187, R192). -/
def pkPageAt (s : State) (ep : BitVec 16) (page : Nat) (who : Option StallId) : Verdict :=
  let live := tableOf s ep
  if outside s (page * 4096) || inTable s (page * 4096) || decide (s.mcs[chanOf (page * 4096)].state = .fenced) then .denied else
  let hits := (List.finRange 256).filter fun k => pkHits live[k] page who
  let top := hits.foldl (fun m k => max m live[k].prio.toNat) 0
  match hits.filter (fun (k : Fin 256) => decide (live[k].prio.toNat = top)) with
  | [] => .denied
  | k :: t =>
    let e := live[k]
    if t.all fun j => sameGrant e live[j] then .grant e.rd e.wr e.red e.type else .conflict k.val

/-- The rule for one page under the epoch in force. -/
def pkPage (s : State) (page : Nat) (who : Option StallId) : Verdict := pkPageAt s s.pdk.epoch page who

/-- Does a verdict give the right? -/
def Verdict.gives (v : Verdict) (n : Need) : Bool :=
  match v, n with
  | .grant rd _ _ _, .rd => rd
  | .grant _ wr _ _, .wr => wr
  | .grant _ _ red _, .red => red
  | _, _ => false

/-- Is a verdict a conflict? -/
def Verdict.isConflict (v : Verdict) : Bool :=
  match v with
  | .conflict _ => true
  | _ => false

/-- Pages of a local range. -/
def pagesOf (a len : Nat) : List Nat :=
  if len = 0 then [] else (List.range ((a + len - 1) / 4096 - a / 4096 + 1)).map fun i => a / 4096 + i

/-- One local range and the right needed on it. -/
structure Access where
  addr : Nat
  len : Nat
  need : Need
  deriving DecidableEq, Repr

/-- Outcome of the Paddock checks of a request or window access: the page and entry to log. -/
inductive PkResult where
  | ok
  | denied (page : Nat)
  | conflict (page entry : Nat)
  deriving DecidableEq, Repr

/-- Keep the lower page of a result already found. -/
def lowerPage (r : Option Nat) (p : Nat) : Option Nat :=
  match r with
  | none => some p
  | some q => some (min p q)

/-- Check every page of every range under an epoch; a conflict anywhere decides over a denial (R189, R219). -/
def pkCheckAt (s : State) (ep : BitVec 16) (who : Option StallId) (as : List Access) : PkResult :=
  let pages := as.flatMap fun a => (pagesOf a.addr a.len).map fun p => (p, a.need)
  let bad := pages.filter fun x => !(pkPageAt s ep x.1 who).gives x.2
  let con := bad.filter fun x => (pkPageAt s ep x.1 who).isConflict
  match con.foldl (fun r x => lowerPage r x.1) none with
  | some p =>
    match pkPageAt s ep p who with
    | .conflict k => .conflict p k
    | _ => .conflict p 0
  | none =>
    match bad.foldl (fun r x => lowerPage r x.1) none with
    | some p => .denied p
    | none => .ok

/-- The check under the epoch in force. -/
def pkCheck (s : State) (who : Option StallId) (as : List Access) : PkResult := pkCheckAt s s.pdk.epoch who as

/-- On whose behalf an access reaches the Manger: the stall it is charged to, the stall whose work it is, and the epoch under
which it was checked. -/
structure By where
  who : Option StallId
  writer : Option StallId
  epoch : BitVec 16
  deriving DecidableEq, Repr

/-- An access of an admitted request. -/
def byReq (q : Req) : By := { who := some q.stall, writer := some q.stall, epoch := q.epoch }

/-- An access under the epoch in force. -/
def byNow (s : State) (who : Option StallId) : By := { who := who, writer := who, epoch := s.pdk.epoch }

/-- Region type of the grant applied to an address (R186, R532); Scratch where no grant stands. -/
def grantType (s : State) (b : By) (a : Nat) : BitVec 2 :=
  match pkPageAt s b.epoch (a / 4096) b.who with
  | .grant _ _ _ t => t
  | _ => 0

/-- Log a denial in PDK_DENY_LOG, raising HS82 on a conflict (R187, R219). -/
def logDeny (s : State) (who : Option StallId) (r : PkResult) : State :=
  let put (page entry : Nat) (c : Bool) : State :=
    { s with pdk := { s.pdk with denyLog :=
        (if s.pdk.denyLog.valid then { s.pdk.denyLog with lost := satInc s.pdk.denyLog.lost }
         else { page := BitVec.ofNat 22 page, stall := (who.map fun n => BitVec.ofNat 6 n.val).getD 0,
                bar4 := who.isNone, conflict := c, entry := if c then BitVec.ofNat 8 entry else 0,
                epoch := s.pdk.epoch, lost := 0, valid := true }) } }
  match r with
  | .ok => s
  | .denied p => put p 0 false
  | .conflict p k => raiseHs (put p k true) 82 who

/-! ### Epochs (R194-R200) -/

/-- The epochs undrained: the current one, and those of requests not completed or not accounted for (R195). -/
def undrained (s : State) : List (BitVec 16) :=
  let used := (s.reqs.map (·.epoch)) ++ (s.stalls.toList.flatMap fun st => st.aborted.map (·.epoch)) ++
    s.mgr.held.map (·.epoch)
  (s.pdk.epoch :: used).dedup

/-- The oldest of them: the one furthest behind the epoch in force. -/
def oldestUndrained (s : State) : BitVec 16 :=
  (undrained s).foldl (fun o e => if (s.pdk.epoch - o).toNat < (s.pdk.epoch - e).toNat then e else o) s.pdk.epoch

/-- Is an epoch earlier than a target, modulo 65 536 (R199)? -/
def earlier (target e : BitVec 16) : Bool := decide (1 ≤ (target - e).toNat) && decide ((target - e).toNat ≤ 32767)

/-- Is an epoch earlier than the target of PROT_FENCE still undrained? -/
def fenceBlocked (s : State) : Bool := (undrained s).any (earlier s.pdk.target)

/-- The commit itself: banks swapped, epoch advanced, PENDING set while the staged bank is refilled (R194); requests of
earlier epochs keep their table (R189). -/
def commit (s : State) : State :=
  { s with pdk := { s.pdk with live := s.pdk.staged, staged := s.pdk.staged, epoch := s.pdk.epoch + 1,
                               past := (s.pdk.epoch, s.pdk.live) :: s.pdk.past.filter fun p => decide (p.1 ∈ undrained s),
                               pending := true, heldCommit := none } }

/-! ### Keys (R347-R349) -/

/-- Zeroise the key registers that pass a test. -/
def zeroKeyRegs (s : State) (p : KeyReg → Bool) : State :=
  { s with units := vmap (fun u => match u.keyReg with
      | some k => if p k then { u with keyReg := none } else u
      | none => u) s.units }

/-- Zeroise one unit's key register. -/
def zeroKeyReg (s : State) (u : UnitId) : State := setUnit s u fun x => { x with keyReg := none }

/-- Zeroise and free the keyed-state entries that pass a test. -/
def zeroEntries (s : State) (p : Entry → Bool) : State :=
  { s with tkr := { s.tkr with store := vmap (fun e => if e.kind ≠ 0 ∧ p e then Entry.reset else e) s.tkr.store } }

/-- Entries in use (R361). -/
def storeUsed (s : State) : Nat := (vfind s.tkr.store fun e => decide (e.kind ≠ 0)).length

/-- Entries and unwrapped blobs that a stall holds: live entries, and the blob-quota entries of its chains (R170,
R254). -/
def quotaHeld (s : State) (n : StallId) : Nat :=
  (vfind s.tkr.store fun e => decide (e.kind ≠ 0) && decide (e.stall = n) && !e.dropped).length +
  ((s.quotas.filter fun q => decide (q.2.1 = n)).map (·.2.2)).foldl (· + ·) 0

/-- Zeroise the key intermediates that pass a test. -/
def zeroKeyInters (s : State) (p : Inter → Bool) : State :=
  { s with inters := s.inters.map fun x => if x.isKey ∧ p x then { x with bytes := zeros x.bytes.length, attr := 0 } else x }

/-- A request that ends before its record, with its unposted stores dropped (R623). -/
def endReq (q : Req) (status detail : Byte) : Req :=
  { q with done := some { status := status, detail := detail, outLen := 0, result := 0 }, stores := [], key := none }

/-- Is a feed session open or waiting? -/
def feedActive (s : State) : Bool :=
  match s.feed.state with
  | .waiting | .opened | .finishing => true
  | _ => false

/-- DL15. -/
def dl15 : UnitId := 47

/-- A feed session that ends on its input counts as a request of DL15 (R443). -/
def feedCount (s : State) : State := setUnit s dl15 fun x => { x with reqs := satInc x.reqs }

/-- Requests admitted with a handle, and the feed session that uses it (R346, R439). -/
def entryUsers (s : State) (h : Handle) : Bool :=
  (s.reqs.any fun q => decide (q.desc.keySrc = 3) && decide (q.desc.keyRef.toNat = h.val) && q.done.isNone) ||
  (feedActive s && s.feed.keyed && decide (s.feed.handle.toNat = h.val))

/-- Zeroise dropped entries whose last user has ended (R346). -/
def sweepDropped (s : State) : State :=
  { s with tkr := { s.tkr with store := vmapIdx (fun h e => if e.dropped && !entryUsers s h then Entry.reset else e) s.tkr.store } }

/-- The feed in state ERROR: its key, its input and its output zeroised, and a dropped entry that it was the last user of
(R428, R429, R439); EV300. -/
def feedError (s : State) (code : Byte) (cause : BitVec 3) : State :=
  raiseEv (sweepDropped { s with feed := { s.feed with state := .error, code := code, endCause := cause, out := 0, key := none,
                                                       msg := [], buf := [] } }) 300

/-- The lane takes the oldest word of its feed input buffer (R430). -/
def feedTake (s : State) : State :=
  match s.feed.buf with
  | [] => s
  | w :: t => { s with feed := { s.feed with msg := s.feed.msg ++ leBytes 8 w.toNat, buf := t } }

/-- A feed session that ends with a status code of its own and END 0, and so counts (R424, R427, R443). -/
def feedFail (s : State) (code : Byte) : State := feedError (feedCount s) code 0

/-- Every key of the device cleared at once; requests that hold keys end INTERNAL, DETAIL 0x01 (R358, R688), and so does
a feed session that holds one (assumption 28). -/
def clearKeys (s : State) : State :=
  let s := if feedActive s ∧ s.feed.key.isSome then feedFail s 0x7F else s
  let s := zeroKeyInters (zeroEntries (zeroKeyRegs s fun _ => true) fun _ => true) fun _ => true
  { s with reqs := s.reqs.map fun q => if q.key.isSome ∧ q.done.isNone then endReq q 0x7F 0x01 else q }

/-- Set KEYS_LOCKED: EV291 on a change after READY (R688). -/
def lockKeys (s : State) : State :=
  if s.boot.keysLocked then s else
  let s := { s with boot := { s.boot with keysLocked := true } }
  if s.boot.phase = .ready then raiseEv s 291 else s

/-- Life-cycle code: BLANK 0, SEEDED 1, OWNED 2, RETIRED 3, by the last complete byte; a started byte 2 is RETIRED
(R45, R353). -/
def lcCode (s : State) : Nat :=
  if s.tkr.lcWord[2] ≠ 0 then 3
  else if s.tkr.lcWord[1] = 0xFF then 2
  else if s.tkr.lcWord[0] = 0xFF then 1
  else 0

/-- An interrupted transition in byte 0 or byte 1 (R353). -/
def lcPartial (s : State) : Bool :=
  let part (b : Byte) : Bool := decide (b ≠ 0) && decide (b ≠ 0xFF)
  decide (s.tkr.lcWord[2] = 0) && (part s.tkr.lcWord[0] || part s.tkr.lcWord[1])

/-! ### Manger capacity and reservations (R169, R526-R533) -/

/-- Effective Manger capacity of a stall (R169). -/
def effCap (s : State) (n : StallId) : Nat := min s.stalls[n].lines.toNat s.stalls[n].cap.toNat

/-- Reserved lines a stall holds. -/
def reserved (s : State) (n : StallId) : Nat :=
  ((s.mgr.resv.filter fun r => decide (r.stall = n)).map (·.lines)).foldl (· + ·) 0

/-- Cached lines a stall owns. -/
def cachedLines (s : State) (n : StallId) : Nat := (s.mgr.lines.filter fun x => decide (x.owner = some n)).length

/-- Reserved lines placed in a slice. -/
def sliceReserved (s : State) (k : SliceId) : Nat :=
  ((s.mgr.resv.filter fun r => decide (r.slice = k)).map (·.lines)).foldl (· + ·) 0

/-- Group of a slice. -/
def sliceGroup (k : SliceId) : ChanId := ⟨k.val / 4, by omega⟩

/-- Reserved-line room left in a slice for a stall: none while a block reset of its group waits (R528, R529, R715, R722). -/
def sliceRoom (s : State) (n : StallId) (k : SliceId) : Nat :=
  if s.mgr.slices[k].fenced || !pdOn s (groupPd (sliceGroup k)) || s.pds[groupPd (sliceGroup k)].blockReset then 0
  else if s.mgr.slices[k].dedicated then
    (if s.mgr.slices[k].stall = n then 2048 - sliceReserved s k else 0)
  else 128 * s.mgr.rsvWays.toNat - sliceReserved s k

/-- Slices in the order R528 fills them for a stall: its dedicated ones, then the pool. -/
def fillOrder (s : State) : List SliceId :=
  let all := List.finRange 16
  (all.filter fun k => s.mgr.slices[k].dedicated) ++ (all.filter fun k => !s.mgr.slices[k].dedicated)

/-- Capacity now free for a stall (R529). -/
def capacityFree (s : State) (n : StallId) : Nat :=
  min (effCap s n - reserved s n) ((fillOrder s).map (sliceRoom s n) |>.foldl (· + ·) 0)

/-- Place lines over slices in order. -/
def placeOver (s : State) (n : StallId) (who : ResvFor) : List SliceId → Nat → List Resv
  | [], _ => []
  | _, 0 => []
  | k :: t, m + 1 =>
    let room := min (m + 1) (sliceRoom s n k)
    if room = 0 then placeOver s n who t (m + 1)
    else { who := who, stall := n, slice := k, lines := room } :: placeOver s n who t (m + 1 - room)

/-- Write bytes within one line straight to the channel (bypass, R531), whole sectors clearing poison. -/
def channelPut (s : State) (ws : List (Nat × Byte)) : State :=
  let base := match ws with
    | [] => 0
    | w :: _ => w.1 / 512 * 512
  if s.mcs[chanOf base].state = McState.fenced then s else
  { (if ws.isEmpty then s else pageWritten s base) with dram :=
      { s.dram with cells := ws.foldl (fun c w => cellSet c w.1 w.2) s.dram.cells,
                    poison := (ones (wholeSectors ws)).foldl (fun p k => setPoison p (base / 64 + k) false) s.dram.poison } }

/-- A line's data all in the channel: its dirty sectors, then the writes it holds. -/
def lineOut (s : State) (x : Line) : State := channelPut (writeBack s x) x.writes

/-- Drop a line from every crib. -/
def cribsDrop (s : State) (l : LineNo) : State :=
  { s with units := vmap (fun x => { x with crib := x.crib.filter fun c => decide (c.line ≠ l) }) s.units }

/-- The least recently used owned line of a stall. -/
def lruOf (ls : List Line) : Option Line :=
  ls.foldl (fun r x => match r with
    | none => some x
    | some y => if x.lastUse < y.lastUse then some x else some y) none

/-- Evict one cached line of a stall: dirty sectors written back first (R530). -/
def evictOne (s : State) (n : StallId) : State :=
  match lruOf (s.mgr.lines.filter fun x => decide (x.owner = some n) && decide (x.state ≠ .invalidating)) with
  | none => s
  | some x => dropLine (cribsDrop (lineOut s x) x.line) x.line

/-- Evict cached lines of a stall until its occupancy fits its capacity (R530, R533). -/
def evictFit (s : State) (n : StallId) : Nat → State
  | 0 => s
  | m + 1 => if reserved s n + cachedLines s n ≤ effCap s n then s else evictFit (evictOne s n) n m

/-- Make a reservation (R528, R530). -/
def reserve (s : State) (n : StallId) (who : ResvFor) (lines : Nat) : State :=
  let s := { s with mgr := { s.mgr with resv := s.mgr.resv ++ placeOver s n who (fillOrder s) lines } }
  evictFit s n s.mgr.lines.length

/-- Release reserved lines. -/
def release (s : State) (p : Resv → Bool) : State :=
  { s with mgr := { s.mgr with resv := s.mgr.resv.filter fun r => !p r } }

/-! ### Lines and stores (R531, R532, R556, R619) -/

/-- Remove a crib's presence bit of a line, and the line from the crib. -/
def cribDrop (s : State) (u : UnitId) (l : LineNo) : State :=
  setUnit s u fun x => { x with crib := x.crib.filter fun c => decide (c.line ≠ l) }

/-- Start R556 on a line: INVALIDATING, one INVAL for each holder, the writes held. -/
def startInval (s : State) (x : Line) (ws : List (Nat × Byte)) : State :=
  let h := popCount x.presence
  let s := putLine s { x with state := .invalidating, acks := h, writes := ws, since := s.cycle }
  { s with mgr := { s.mgr with invals := satAdd s.mgr.invals h } }

/-- Is an access to an address held at the Manger's input: its group is not ON, or in SWAP (R534, R713, R714)? -/
def accessHeld (s : State) (a : Nat) : Bool := !pdPowered s (groupPd (chanOf a)) || decide (s.mgr.repart[chanOf a] = .swap)

/-- Does a write to an absent or dirty line go through to the channel: CLEAN phase of a repartition, or a write of the
Tack Room that meets a held group (R534)? -/
def writeThrough (s : State) (l : LineNo) : Bool := decide (s.mgr.repart[lineChan l] = .clean) || accessHeld s (lineAddr l)

/-- A line with writes applied: whole sectors become valid and lose their poison, touched valid sectors become
dirty (R538, R585, R619). -/
def lineStored (x : Line) (ws : List (Nat × Byte)) (now : Nat) (b : By) : Line :=
  let whole := wholeSectors ws
  let hit := touchedSectors ws &&& (x.valid ||| whole)
  { applyWrites x ws with valid := x.valid ||| whole, dirty := x.dirty ||| hit, poison := x.poison &&& ~~~ whole,
                          state := .dirty, lastUse := now, writes := [], writer := b.writer,
                          foreign := x.foreign || (x.owner.isSome && decide (x.owner ≠ b.who)) }

/-- Bytes of a store with their addresses. -/
def atAddr (a : Nat) (bs : List Byte) : List (Nat × Byte) := (List.range bs.length).map fun i => (a + i, bs.getD i 0)

/-- Bytes that fall in sectors a line does not hold and a write does not cover go to the channel's merge path. -/
def mergeRest (s : State) (x : Line) (ws : List (Nat × Byte)) : State :=
  let whole := wholeSectors ws
  let rest := ws.any fun w => !bit (x.valid ||| whole) (w.1 % 512 / 64)
  let put (c : List Host.Cell) (w : Nat × Byte) : List Host.Cell :=
    if bit (x.valid ||| whole) (w.1 % 512 / 64) then c else cellSet c w.1 w.2
  { (if rest then pageWritten s (lineAddr x.line) else s) with dram := { s.dram with cells := ws.foldl put s.dram.cells } }

/-- Is a line common, so that it has no owner: Shared read-only data (R531)? -/
def commonLine (s : State) (b : By) (l : LineNo) : Bool := decide (grantType s b (lineAddr l) = 2)

/-- Lines cached in the set of a line in its home slice. -/
def setLines (s : State) (l : LineNo) : List Line :=
  s.mgr.lines.filter fun x => decide (setOf x.line = setOf l) && decide (homeSlice s x.line = homeSlice s l)

/-- May an access take one more cached line without a victim (R531)? A store of BAR4 or of the Tack Room takes none. -/
def mayAllocate (s : State) (b : By) (l : LineNo) : Bool :=
  decide ((setLines s l).length < 16) &&
  match b.who with
  | none => false
  | some n => commonLine s b l || decide (reserved s n + cachedLines s n < effCap s n)

/-- The owner of a line that an access allocates (R531). -/
def ownerOf (s : State) (b : By) (l : LineNo) : Option StallId := if commonLine s b l then none else b.who

/-- A line that holds more writes, in order; another stall's write sets FOREIGN (R532). -/
def holdWrites (x : Line) (b : By) (ws : List (Nat × Byte)) : Line :=
  { x with writes := x.writes ++ ws, writer := b.writer, foreign := x.foreign || (x.owner.isSome && decide (x.owner ≠ b.who)) }

/-- Count a bypassed access (R531, R566). -/
def countBypass (s : State) (who : Option StallId) : State :=
  match who with
  | none => s
  | some n => setStall s n fun x => { x with bypass := satInc x.bypass }

/-- A home slice accepts writes to one line (R538, R556, R619): waiting states hold them in order, crib presence
starts an invalidation, a present line takes them, an absent line is allocated or bypassed. -/
def slicePut (s : State) (b : By) (l : LineNo) (ws : List (Nat × Byte)) : State :=
  if s.mcs[lineChan l].state = McState.fenced then s else
  match findLine s l with
  | some x =>
    match x.state with
    | .invalidating | .filling | .writeback => putLine s (holdWrites x b ws)
    | _ =>
      if x.presence ≠ 0 then startInval s (holdWrites x b []) ws
      else
        let s := mergeRest s x ws
        let y := lineStored x ws s.cycle b
        if writeThrough s l then putLine (writeBack s y) { y with dirty := 0, state := .clean } else putLine s y
  | none =>
    let able := mayAllocate s b l
    if (homeSlice s l).isNone || wholeSectors ws = 0 || !able || writeThrough s l then
      channelPut (if able then s else countBypass s b.who) ws
    else
      let x : Line := { line := l, state := .clean, owner := ownerOf s b l, writer := b.writer, type := grantType s b (lineAddr l),
                        foreign := false, valid := 0, dirty := 0, poison := 0, data := 0, presence := 0, acks := 0,
                        writes := [], since := s.cycle, fills := [], evict := false, lastUse := s.cycle }
      putLine (mergeRest s x ws) (lineStored x ws s.cycle b)

/-- Write a run of bytes to local memory, line by line. -/
def localPut (s : State) (b : By) (a : Nat) (bs : List Byte) : State :=
  let ws := atAddr a bs
  let first := a / 512
  let n := if bs.length = 0 then 0 else (a + bs.length - 1) / 512 - first + 1
  (List.range n).foldl (fun s i =>
    slicePut s b (lineOf ((first + i) * 512)) (ws.filter fun w => decide (w.1 / 512 = first + i))) s

/-- A reduction reaches a line: with crib presence it first invalidates, and is applied later (R543, R556). -/
def redReady (s : State) (a : Nat) : Bool :=
  match findLine s (lineOf a) with
  | none => true
  | some x => decide (x.presence = 0) && decide (x.state ≠ .invalidating)

/-- Start the invalidation a reduction needs. -/
def redInval (s : State) (a : Nat) : State :=
  match findLine s (lineOf a) with
  | some x => if x.presence ≠ 0 ∧ x.state ≠ .invalidating then startInval s x [] else s
  | none => s

/-- Apply a reduction's result in the home slice. -/
def redPut (s : State) (b : By) (a : Nat) (bs : List Byte) : State := localPut s b a bs

/-! ### Tally bumps (R350, R539) -/

/-- TALLY64 arithmetic: wrapping add, saturating add, set (R539). -/
def tallyOp (sat set : Bool) (v x : BitVec 64) : BitVec 64 :=
  if set then x else if sat && decide (2 ^ 64 ≤ v.toNat + x.toNat) then BitVec.allOnes 64 else v + x

/-- The tally word at an address. -/
def tallyAt (s : State) (a : Nat) : BitVec 64 := BitVec.ofNat 64 (leNat (coRead s a 8))

/-- Add 1 to a tally for a use of a stall, saturating; the tally's line is common (R350, R531). -/
def bump (s : State) (n : StallId) (a : Nat) : State :=
  redPut s { byNow s none with writer := some n } a (leBytes 8 (tallyOp true false (tallyAt s a) 1).toNat)

/-! ### Requests on units (R274, R292, R299) -/

/-- A unit is free to take a placement (R274, R297); a BNU takes none while the reseed of its mask generator waits
(R468, R478). -/
def unitFree (s : State) (u : UnitId) : Bool :=
  let x := s.units[u]
  !x.fenced && pdOn s (unitPd u) && !x.testDue && !x.testing && x.run.isNone && x.suspended.isNone && !x.held &&
  (decide (u.val < 48) || x.seeded) &&
  !(decide (u.val = 47) && (match s.feed.state with | .waiting | .opened | .finishing => true | _ => false))

/-- Can a unit of the pool take a candidate: unfenced, powered and out of SECURE_HOLD (R302)? -/
def poolUsable (s : State) (p : Pool) : Bool :=
  (poolUnits p).any fun u =>
    !s.units[u].fenced && pdPowered s (unitPd u) && !decide (s.pds[unitPd u].state = .secureHold)

/-- A pool's STARVED flag clears in the cycle in which a unit of the pool can again take a candidate (R302). -/
def clearStarved (s : State) : State :=
  { s with disp := { s.disp with starvedCl := s.disp.starvedCl && !poolUsable s .cipher,
                                 starvedDl := s.disp.starvedDl && !poolUsable s .digest,
                                 starvedBn := s.disp.starvedBn && !poolUsable s .bignum } }

/-- Free every unit of a request; it has then last used the key registers it ran on (R363). -/
def freeUnits (s : State) (i : Nat) : State :=
  { s with units := vmap (fun x =>
      { x with run := if x.run = some i then none else x.run,
               keyReg := if x.run = some i then x.keyReg.map fun k => { k with lastUse := s.cycle } else x.keyReg,
               suspended := if x.suspended = some i then none else x.suspended,
               coop := if x.run = some i then false else x.coop }) s.units }

/-- Is every unit of a non-empty list fenced? -/
def allFenced (s : State) (us : List UnitId) : Bool := !us.isEmpty && us.all fun u => s.units[u].fenced

/-- Did fencing a unit fence the last unit of its pool or of a stall's pin set (EV295, R303)? -/
def lastFenced (s s' : State) (u : UnitId) : Bool :=
  let p := unitPool u
  (!allFenced s (poolUnits p) && allFenced s' (poolUnits p)) ||
  (List.finRange 64).any fun n => !allFenced s (stallUnits s p n) && allFenced s' (stallUnits s' p n)

/-- A fault noted in a unit's FAULT register: COUNT, VALID, and CAUSE, which holds until VALID is cleared (R405). -/
def noteFault (x : UnitState) (cause : BitVec 4) : UnitState :=
  { x with faultCount := satInc x.faultCount, faultCause := if x.faultValid then x.faultCause else cause, faultValid := true }

/-- A structure that fails its boot test: its bit of CFG_SELFTEST_FENCE and its Halter source (R76, R104). -/
def bootFence (s : State) (i : Nat) (k : HsId) : State :=
  raiseHs { s with boot := { s.boot with fence := putBit s.boot.fence i true } } k none

/-- A unit that fails its boot known-answer test (R76, R104, R405). -/
def bootFenceUnit (s : State) (u : UnitId) : State :=
  bootFence (setUnit s u fun x => noteFault { x with fenced := true, testing := false } 6) u.val (unitHs u)

/-- Do the boot self-tests run (R38, R76)? -/
def inSelfTest (s : State) : Bool := decide (s.boot.phase = .memory) || decide (s.boot.phase = .selfTest)

/-! ### What OTP programming leaves behind (R86, R318, R353, R355, R358) -/

/-- The bytes of entries, in DRBG output order. -/
def entryBytes (es : List (BitVec 512)) : List Byte := es.flatMap fun e => leBytes 64 e.toNat

/-- Entries granted to a consumer. -/
def grantedTo (s : State) (c : Consumer) : List (BitVec 512) := ((s.ent.granted.find? fun g => decide (g.1 = c)).map (·.2)).getD []

/-- The 40 bytes that a slot's integrity code covers (R316). -/
def slotBytes (v : BitVec 256) (a : BitVec 64) : List Byte := leBytes 32 v.toNat ++ leBytes 8 a.toNat

/-- The staged owner hash, byte 0 least significant (R365). -/
def staged (s : State) : BitVec 384 := BitVec.ofNat 384 (leNat (s.tkr.stagedHash.toList.flatMap fun w => leBytes 8 w.toNat))

/-- The value being programmed: the blob's, or the bytes drawn (R319). -/
def progValueNow (s : State) : Option (BitVec 256) :=
  match s.tkr.progValue, grantedTo s .slotProgram with
  | some v, _ => some v
  | none, e :: _ => some (BitVec.ofNat 256 (leNat (slice (entryBytes [e]) 0 ((field s.tkr.progWord 8 13).toNat))))
  | none, [] => none

/-- Is the root being programmed: drawn, in ROOT_GEN (R86)? -/
def rootBusy (s : State) : Bool := decide (s.boot.phase = .rootGen) && !(grantedTo s .root).isEmpty

/-- A slot whose programming a reset abandons: untouched, or its value, perhaps with its attribute word, written without an
integrity code; which, the specification leaves open, so a free value chooses (R318, R321, R358, assumption 3). -/
def abandonSlot (s : State) : State :=
  match s.tkr.progBusy, progValueNow s with
  | some k, some v =>
    let f := Config.freeBits s.free
    let x (x : Slot) : Slot := { x with value := v, attr := if bit f 1 then s.tkr.progWord else 0 }
    { takeFree s 1 with tkr := { s.tkr with slots := if bit f 0 then upd s.tkr.slots k x else s.tkr.slots } }
  | _, _ => s

/-- An owner copy programmed with the staged hash and its CRC-32C. -/
def ownGood (s : State) : OwnerCopy := { hash := staged s, crc := crc32c (leBytes 48 (staged s).toNat) }

/-- A TAKE_OWNERSHIP that a reset abandons: a free value chooses between the copy half programmed, with free contents, and
the copy complete with byte 1 begun, which holds a free value (R353-R355). -/
def abandonOwn (s : State) (copyB : Bool) : State :=
  let f := Config.freeBits s.free
  let half : OwnerCopy := { hash := BitVec.ofNat 384 (leNat (freeBytes (takeFree s 1) 48)),
                            crc := (Config.freeBits (s.free + 49)).setWidth 32 }
  let t := s.tkr
  let c := if bit f 0 then ownGood s else half
  { takeFree s 50 with
    tkr := { t with ownerA := if copyB then t.ownerA else c, ownerB := if copyB then c else t.ownerB,
                    lcWord := if bit f 0 then t.lcWord.set 1 (t.lcWord[1] ||| Config.freeByte s.free) else t.lcWord } }

/-- A life-cycle transition that a reset abandons: the byte being programmed holds a free value (R353, R355). -/
def abandonLc (s : State) : State :=
  let b := Config.freeByte s.free
  let t := s.tkr
  match t.lcBusy with
  | none => s
  | some .retire => { takeFree s 1 with tkr := { t with lcWord := t.lcWord.set 2 b } }
  | some .finishOwn => { takeFree s 1 with tkr := { t with lcWord := t.lcWord.set 1 (t.lcWord[1] ||| b) } }
  | some (.own copyB) => abandonOwn s copyB

/-- A root whose programming a reset abandons: TS0 untouched, its value without an integrity code, or whole with the
SEEDED byte begun, which holds a free value; a free value chooses (R86, R88, R353). -/
def abandonRoot (s : State) : State :=
  if rootBusy s then
    let f := Config.freeBits s.free
    let v := BitVec.ofNat 256 (leNat (slice (entryBytes (grantedTo s .root)) 0 32))
    let a := Config.freeBits (s.free + 1)
    let x : Slot := { value := v, attr := a, crc := if bit f 1 then crc32c (slotBytes v a) else 0, state := .programming }
    let t := s.tkr
    { takeFree s 2 with
      tkr := { t with slots := if bit f 0 then t.slots.set 0 x else t.slots,
                      lcWord := if bit f 0 && bit f 1 then t.lcWord.set 0 (Config.freeByte s.free) else t.lcWord } }
  else s

/-- What a reset leaves in OTP of what was being programmed. -/
def abandonOtp (s : State) : State := abandonRoot (abandonLc (abandonSlot s))

/-! ### Known-answer rotation (R295) -/

/-- The pools in the rotation's order. -/
def rotPool : Fin 3 → Pool
  | 0 => .cipher
  | 1 => .digest
  | 2 => .bignum

/-- Can a unit be chosen for a test: unfenced, its domain ON, not HELD (R295, R478)? -/
def rotEligible (s : State) (u : UnitId) : Bool := !s.units[u].fenced && pdOn s (unitPd u) && !s.units[u].held

/-- The next eligible unit of a pool in cyclic order after the one last chosen (R295). -/
def rotPick (s : State) (i : Fin 3) : Option UnitId :=
  let all := poolUnits (rotPool i)
  let k := s.disp.rotNext[i]
  (all.drop k ++ all.take k).find? (rotEligible s)

/-- The next unit of a pool chosen for test; none is chosen when none is eligible (R295). -/
def katChoose (s : State) (i : Fin 3) : State :=
  match rotPick s i with
  | none => s
  | some u =>
    let all := poolUnits (rotPool i)
    let base := all.head?.map (·.val) |>.getD 0
    setUnit { s with disp := { s.disp with rotUnit := s.disp.rotUnit.set i (some u),
                                           rotNext := s.disp.rotNext.set i ((u.val - base + 1) % all.length) } }
      u fun x => { x with testDue := true }

/-- A start that waits takes place once its pool's test has ended, or a unit of it is no longer held (R295, R478). -/
def katNext (s : State) : State :=
  (List.finRange 3).foldl (fun s i =>
    if s.disp.rotUnit[i].isNone && decide (s.disp.rotDue[i] ≠ 0) && (rotPick s i).isSome
    then katChoose { s with disp := { s.disp with rotDue := s.disp.rotDue.set i (s.disp.rotDue[i] - 1) } } i else s) s

/-- A unit leaves its test. -/
def endTest (s : State) (u : UnitId) : State :=
  { setUnit s u (fun x => { x with testDue := false, testing := false }) with
    disp := { s.disp with rotUnit := vmap (fun r => if r = some u then none else r) s.disp.rotUnit } }

/-- Does a fault of a unit end a request of it: one that is still processed, or a lane's whose stores or VBR lines are not
all out; a BNU's output follows its checks (R399, R469)? -/
def faultEnds (u : UnitId) (q : Req) : Bool :=
  match q.done with
  | none => true
  | some d => decide (u.val < 48) && decide (d.status = 0) && !q.released

/-- Fence a unit at run time: fault log, its requests end SELF_TEST_FAIL with posted stores standing, key register
zeroised, EV294 and its Halter source, EV295 for the last unit of a pool or pin set (R303, R304, R349, R399, R623). -/
def fenceUnit (s : State) (u : UnitId) (cause : BitVec 4) : State :=
  let x := s.units[u]
  let hit := x.run.toList ++ x.suspended.toList
  let st := x.run.bind fun i => (findReq s i).map (·.stall)
  let s1 := { s with reqs := s.reqs.map fun q => if hit.contains q.id ∧ faultEnds u q then endReq q 0x41 0 else q }
  let s2 := endTest (setUnit s1 u fun x =>
    noteFault { x with fenced := true, keyReg := none, seeded := false, mask := 0, held := false } cause) u
  let s3 := raiseHs (raiseEv s2 294) (unitHs u) st
  katNext (if lastFenced s s2 u then raiseEv s3 295 else s3)

/-! ### Completion (R229-R233, R247, R250, R613) -/

/-- SIZE of a ring (R220). -/
def ringSize (r : Ring) : Nat := 2 ^ r.sizeLog2.toNat

/-- Slots from one index to another, modulo SIZE. -/
def ringDist (r : Ring) (a b : BitVec 16) : Nat := (b.toNat + ringSize r - a.toNat) % ringSize r

/-- The index after one, modulo SIZE. -/
def ringNext (r : Ring) (a : BitVec 16) (n : Nat) : BitVec 16 := BitVec.ofNat 16 ((a.toNat + n) % ringSize r)

/-- PHASE of a slot's record: 1 on even laps; slots before HEAD belong to the next lap (R231). -/
def phaseOf (r : Ring) (slot : BitVec 16) : Bool :=
  let lap := if slot.toNat < r.head.toNat then r.lap + 1 else r.lap
  decide (lap % 2 = 0)

/-- PHASE of the lap that contains HEAD. -/
def headPhase (r : Ring) : Bool := decide (r.lap % 2 = 0)

/-- UNIT of a request's record (R230, R435). -/
def unitCode (q : Req) : Nat :=
  if q.skipped || !q.started then 59 else
  match q.unit with
  | some u => u.val
  | none =>
    match opPool q.desc.opcode with
    | some .key => 56
    | some .random => 57
    | some .memory => 58
    | _ => 59

/-- CYCLES of a request's record (R230). -/
def cyclesOf (s : State) (q : Req) : BitVec 32 :=
  if unitCode q = 59 then 0 else satOf 32 ((s.cycle - q.admitAt) / 16)

/-- FLAGS of a request's record (R230). -/
def flagsOf (q : Req) : Nat :=
  (if 2 ≤ q.members then 1 else 0) + (if 2 ≤ q.members ∧ q.pos + 1 = q.members then 2 else 0) +
  (if q.skipped then 4 else 0)

/-- A 32-byte completion record (R230). -/
def recordBytes (tag : BitVec 32) (status detail : Byte) (opcode flags : Nat) (outLen result : BitVec 32)
    (index epoch : BitVec 16) (unit : Nat) (cycles : BitVec 32) (phase : Bool) : List Byte :=
  leBytes 4 tag.toNat ++ [status, detail, BitVec.ofNat 8 opcode, BitVec.ofNat 8 flags] ++ leBytes 4 outLen.toNat ++
  leBytes 4 result.toNat ++ leBytes 2 index.toNat ++ leBytes 2 epoch.toNat ++ [BitVec.ofNat 8 unit, 0, 0, 0] ++
  leBytes 4 cycles.toNat ++ [0, 0, 0, if phase then 0x80 else 0]

/-- The record of a finished request. -/
def recordOf (s : State) (q : Req) (d : Done) : List Byte :=
  recordBytes q.desc.tag d.status d.detail q.desc.opcode (flagsOf q)
    (if d.status = 0 ∨ d.status = 1 then d.outLen else 0) d.result q.slot q.epoch (unitCode q) (cyclesOf s q)
    (phaseOf s.rings[q.ring] q.slot)

/-- Host address of a completion slot (R229). -/
def cplAddr (r : Ring) (slot : BitVec 16) : Nat := r.cpl.toNat * 4096 + 32 * slot.toNat

/-- PASID that a ring selects for its records (R228). -/
def ringPasid (s : State) (n : StallId) (r : Ring) : BitVec 20 := s.stalls[n].pasid[r.pasidIdx]

/-- The write of one record. -/
def recordWrite (s : State) (f : Fn) (n : StallId) (ring : RingId) (slot : BitVec 16) (bs : List Byte) (alarm : Bool)
    (req : Option Nat) : Pw :=
  { fn := f, kind := .record, addr := cplAddr s.rings[ring] slot, bytes := bs,
    pasid := prefixOf s f (ringPasid s n s.rings[ring]), relaxed := false, alarm := alarm, req := req, stall := some n }

/-- The head record of a ring (R232). -/
def headBytes (head : BitVec 16) (phase : Bool) (posted : BitVec 32) : List Byte :=
  leBytes 2 head.toNat ++ [if phase then 1 else 0, 0] ++ leBytes 4 posted.toNat

/-- The write of a head record. -/
def headWrite (s : State) (f : Fn) (n : StallId) (ring : RingId) (bs : List Byte) (alarm : Bool) : Pw :=
  { fn := f, kind := .head, addr := s.rings[ring].hwb.toNat * 8, bytes := bs,
    pasid := prefixOf s f (ringPasid s n s.rings[ring]), relaxed := false, alarm := alarm, req := none, stall := some n }

/-- Advance HEAD over slots whose records have posted (R232). -/
def advanceHead : Nat → Ring → Ring
  | 0, r => r
  | n + 1, r =>
    if r.doneSlots.contains r.head then
      let nx := ringNext r r.head 1
      advanceHead n { r with doneSlots := r.doneSlots.filter (· ≠ r.head), head := nx,
                             lap := if nx = 0 then r.lap + 1 else r.lap, headDue := true }
    else r

/-- A record posted for a slot: HEAD, POSTED and the slot's TAG (R232, R628). -/
def slotPosted (r : Ring) (slot : BitVec 16) (tag : BitVec 32) : Ring :=
  let r := { r with doneSlots := slot :: r.doneSlots, posted := r.posted + 1,
                    tags := (slot, tag) :: r.tags.filter fun t => decide (t.1 ≠ slot) }
  advanceHead r.doneSlots.length r

/-- The head that a head record of the ring would carry now, written when HWB_EN is 1 (R232, R233). -/
def writeHead (s : State) (f : Fn) (n : StallId) (ring : RingId) (alarm : Bool) : State :=
  let r := s.rings[ring]
  let s' := setRing s ring fun r => { r with dbHead := r.head, headDue := false }
  if r.hwbEn then post s' (headWrite s f n ring (headBytes r.head (headPhase r) r.posted) alarm) else s'

/-- The events of a record (R154, R250, R735): completion for NOTIFY or a failed data read, error for STATUS 0x10 or above
unless SKIPPED, Alarm. -/
def owedOf (q : Req) (d : Done) : Bool × Bool × Bool :=
  (q.desc.notify || q.readFail, decide (0x10 ≤ d.status.toNat) && decide (d.status ≠ 0x51) && !q.skipped, q.alarm)

/-- Events owed for committed records raised (R250, R613). -/
def owedRaise (s : State) (n : StallId) (o : Bool × Bool × Bool) : State :=
  let s := if o.1 then raiseEv s (evDone n) o.2.2 else s
  if o.2.1 then raiseEv s (evError n) o.2.2 else s

/-- Does a ring hold no admitted request and no enable (DRAINED, R226)? -/
def drained (s : State) (ring : RingId) : Bool :=
  !s.rings[ring].enable && !(s.reqs.any fun q => decide (q.ring = ring))

/-- Set the outcome of a request. -/
def finish (s : State) (i : Nat) (status detail : Byte) (outLen result : Nat) (stores : List Store) : State :=
  setReq s i fun q => { q with done := some { status := status, detail := detail, outLen := BitVec.ofNat 32 outLen,
                                              result := BitVec.ofNat 32 result }, stores := stores }

/-- End a request with an error and no output: what it has not stored keeps the bytes that were there (R247;
assumption 78). -/
def failReq (s : State) (i : Nat) (status detail : Byte) : State := setReq s i fun q => endReq q status detail

end Sys2Proof.Machine
end

