-- ==== Sys2Proof/Machine/React.lean ====
section
/-! DEFINITION. What resets and Halter reactions do to the whole block: dropping a stall's lines, stall reset, block
reset, chip reset, and the Halter's cycle of latching and reacting (02, 04, 11, 12, 14, 15, 17). -/

namespace Sys2Proof.Machine

/-! ### Entropy Block state (R502-R504) -/

/-- Sources in RUN. -/
def nsRunning (s : State) : Nat := (vfind s.ns fun x => decide (x.state = .run)).length

/-- A FAILED source whose POLICY is HALT (R503). -/
def nsHalts (s : State) : Bool := !(vfind s.ns fun x => decide (x.state = .failed) && x.policy).isEmpty

/-- Enter a block state, raising EV302 on a change (R504). -/
def entEnter (s : State) (st : EntState) : State :=
  if s.ent.state = st then s else raiseEv { s with ent := { s.ent with state := st } } 302

/-- Zeroise queue, seed FIFO and DRBG state. -/
def entZero (s : State) : State :=
  { s with ent := { s.ent with queue := [], seeds := [], drbg := none, c := 0, stretched := false, atLimit := false, testing := false } }

/-- FENCED: state zeroised, and the fence kept until a chip reset (R497). -/
def entFence (s : State) : State :=
  let s := entZero s
  entEnter { s with ent := { s.ent with fenced := true } } .fenced

/-- Follow R503 and R504 after a source or policy change. During the first instantiation a source in its start-up test
does not make the block HALTED (assumption 17). -/
def entUpdate (s : State) : State :=
  let starting := !(vfind s.ns fun x => decide (x.state = .startup) || decide (x.state = .retest)).isEmpty
  let out := !(vfind s.ns fun x => decide (x.state = .failed) || decide (x.state = .off) || decide (x.state = .diverted)).isEmpty
  match s.ent.state with
  | .off | .fenced => s
  | .init => if nsHalts s || (nsRunning s = 0 && !starting) then entEnter (entZero s) .halted else s
  | .halted => if nsHalts s || nsRunning s = 0 then s else entEnter s .init
  | .run | .degraded =>
    if nsHalts s || nsRunning s = 0 then entEnter (entZero s) .halted
    else if nsRunning s = 1 && out then entEnter s .degraded
    else entEnter s .run

/-- The health tests begin anew: no run, a new window. -/
def freshTest (t : HealthTest) : HealthTest := { t with runLen := 0, pos := 0 }

/-- Move a source, raising EV301 on a change to RETEST, FAILED or RUN (R504); its block in progress is discarded (R493,
R508), and a start-up test begins with a window of its own (R491). -/
def nsEnter (s : State) (n : NsId) (st : NsState) : State :=
  if s.ns[n].state = st then s else
  let s := setNs s n fun x =>
    { x with state := st, part := [], test := if st = .startup ∨ st = .retest then freshTest x.test else x.test }
  let s := match st with
    | .retest | .failed | .run => raiseEv s 301
    | _ => s
  entUpdate s

/-- End a raw capture of a request: the source returns as R489 states. -/
def endCapture (s : State) (p : Nat → Bool) : State :=
  (List.finRange 2).foldl (fun s n =>
    match s.ns[n].capture with
    | some i => if p i then
        (let s' := setNs s n fun x => { x with capture := none }
         if s.ns[n].state = .diverted then nsEnter s' n (if s.ns[n].wasRun then .retest else .failed) else s') else s
    | none => s) s

/-- The request a consumer stands for. -/
def Consumer.req : Consumer → Option Nat
  | .request i => some i
  | _ => none

/-- Withdraw the draws of requests. -/
def dropDraws (s : State) (p : Nat → Bool) : State :=
  { s with ent := { s.ent with
      waiters := s.ent.waiters.filter fun w => !((Consumer.req w.who).map p).getD false,
      granted := s.ent.granted.filter fun g => !((Consumer.req g.1).map p).getD false } }

/-! ### Feed abort (R429) -/

/-- End the feed session with an END cause (R429). -/
def feedEnd (s : State) (cause : BitVec 3) : State := if feedActive s then feedError s 0 cause else s

/-- The feed at a block reset of DL15: a session is aborted; with none the registers are kept, with STATE ERROR (R441). -/
def feedBlock (s : State) : State :=
  if feedActive s then feedEnd s 5 else { s with feed := { s.feed with state := .error, out := 0 } }

/-! ### Dropping a stall's work (R180, R555) -/

/-- Requests of a stall. -/
def stallReqs (s : State) (n : StallId) : List Req := s.reqs.filter fun q => decide (q.stall = n)

/-- Cached lines of a stall dropped, or written back and left ownerless, with the common lines it last wrote (R555); a
write-back under way completes (R557). -/
def dropStallLines (s : State) (n : StallId) : State :=
  s.mgr.lines.foldl (fun s x =>
    if x.owner = none ∧ x.writer = some n then
      putLine (writeBack s x) { x with dirty := 0, state := if x.state = .dirty then .clean else x.state }
    else if x.owner = some n then
      (if x.type = 0 ∧ !x.foreign then dropLine (if x.state = .writeback then writeBack s x else s) x.line
       else putLine (writeBack s x) { x with dirty := 0, owner := none, state := if x.state = .dirty then .clean else x.state })
    else s) s

/-- Does a key take the AES round keys that a load expands: KTYPE 0x01 to 0x05 (R323, R396)? -/
def aesKey (a : BitVec 64) : Bool := decide (1 ≤ (field a 0 5).toNat ∧ (field a 0 5).toNat ≤ 5)

/-- A key register that holds the key of an admitted request again (R292). -/
def keyBack (s : State) (i : Nat) : Option KeyReg :=
  match findReq s i with
  | some q => q.key.map fun k => { stall := q.stall, keySrc := q.desc.keySrc, keyRef := q.desc.keyRef,
                                   keyLocal := q.desc.keyLocal, tag := q.keyTag, key := k, encKeys := aesKey k.attr,
                                   decKeys := false, lastUse := s.cycle }
  | none => none

/-- A suspended request resumes at once when its lane's Alarm request is aborted (R301); its key is reloaded (R292). -/
def resumeIdle (s : State) (x : UnitState) : UnitState :=
  match x.run, x.suspended with
  | none, some i => { x with run := some i, suspended := none, keyReg := keyBack s i }
  | _, _ => x

/-- Units let go of requests. -/
def releaseUnits (s : State) (ids : List Nat) : State :=
  { s with units := vmap (fun x =>
      resumeIdle s { x with run := x.run.bind fun i => if ids.contains i then none else some i,
                            suspended := x.suspended.bind fun i => if ids.contains i then none else some i,
                            coop := x.coop && !((x.run.map ids.contains).getD false) }) s.units }

/-- Let go of the units held; a test that waited for one of them may start (R278, R478). -/
def dropHeld (s : State) : State :=
  katNext { s with disp := { s.disp with coop := none }, units := vmap (fun x => { x with held := false }) s.units }

/-- Cooperative candidates and members that pass a test let go of their held units (R278). -/
def dropCoop (s : State) (p : CoopFor → Bool) : State :=
  let s := { s with disp := { s.disp with coopLate := s.disp.coopLate.filter fun c => !p c } }
  match s.disp.coop with
  | some c => if p c then dropHeld s else s
  | none => s

/-- Does a cooperative candidate stand on a ring that passes a test? -/
def CoopFor.onRing (p : RingId → Bool) : CoopFor → Bool
  | .ring r => p r
  | .member _ => false

/-- Is a cooperative member one of some requests? -/
def CoopFor.among (ids : List Nat) : CoopFor → Bool
  | .ring _ => false
  | .member i => ids.contains i

/-- The chains of a stall: of its admitted requests, and of reservations still to be zeroised (R257). -/
def stallChains (s : State) (n : StallId) : List Nat :=
  (stallReqs s n).map (·.chain) ++ (s.mgr.resv.filter fun r => decide (r.stall = n)).filterMap fun r => match r.who with
    | .chain c => some c
    | _ => none

/-- Abort every admitted request of a stall and discard its stores, intermediates and reservations (R180, steps 2
and 3). -/
def abortStall (s : State) (n : StallId) : State :=
  let ids := (stallReqs s n).map (·.id)
  let chains := stallChains s n
  let s := { s with reqs := s.reqs.filter (fun q => decide (q.stall ≠ n)),
                    inters := s.inters.filter (fun x => !chains.contains x.chain),
                    quotas := s.quotas.filter (fun x => decide (x.2.1 ≠ n)) }
  let s := dropDraws (endCapture (releaseUnits s ids) ids.contains) ids.contains
  let s := dropCoop s fun c => c.onRing (fun r => decide (s.rings[r].owner = some n)) || c.among ids
  release s fun r => decide (r.stall = n)

/-- Zeroise every key of a stall, then drop its lines (R180, steps 3 and 4). -/
def zeroStall (s : State) (n : StallId) : State :=
  dropStallLines (zeroEntries (zeroKeyRegs s fun k => decide (k.stall = n)) fun e => decide (e.stall = n)) n

/-- Outstanding fetches of rings that stop: what they return is discarded. -/
def dropFetches (s : State) (p : RingId → Bool) : State :=
  { s with link := { s.link with reads := s.link.reads.map fun x =>
      match x.what with
      | .fetch r slot _ => if p r then { x with what := .fetch r slot 0 } else x
      | _ => x } }

/-- Start a stall reset; merged when one is in progress, without effect on a FREE stall (R180, R201). Its records
follow when it ends. -/
def startReset (s : State) (n : StallId) (cause : BitVec 2) : State :=
  match s.stalls[n].state with
  | .free | .resetting => s
  | _ =>
    let s := setStall s n fun x => { x with state := .resetting, resetCause := cause, aborted := stallReqs s n,
                                            vInteractive := 0, vBulk := 0, draws := 0,
                                            lastRing := Vector.replicate 7 255 }
    let s := dropFetches (zeroStall (abortStall s n) n) fun r => decide (s.rings[r].owner = some n)
    if s.feed.keyed ∧ s.feed.stall = BitVec.ofNat 6 n.val then feedEnd s 4 else s

/-! ### Manger groups and domains (R557, R711) -/

/-- Write back and drop every line of a group, cribs included (R711). -/
def flushGroup (s : State) (g : ChanId) : State :=
  s.mgr.lines.foldl (fun s x =>
    if lineChan x.line = g then dropLine (cribsDrop (lineOut s x) x.line) x.line else s) s

/-- Reserved lines placed in a group. -/
def groupReserved (s : State) (g : ChanId) : Nat := ((groupSlices g).map (sliceReserved s)).foldl (· + ·) 0

/-- The Manger drops the lines of a fenced channel, cribs included: no access reaches them again (R597). -/
def dropGroup (s : State) (g : ChanId) : State :=
  s.mgr.lines.foldl (fun s x => if lineChan x.line = g then dropLine (cribsDrop s x.line) x.line else s) s

/-- Move a channel, raising EV306 on every change into or out of FENCED and SELF_REFRESH; a fence drops its lines and its
repair queue (R597). -/
def mcEnter (s : State) (g : ChanId) (st : McState) : State :=
  let old := s.mcs[g].state
  if old = st then s else
  let s := setMc s g fun m => { m with state := st }
  let shown (x : McState) : Bool := decide (x = .fenced) || decide (x = .selfRefresh)
  let s := if shown old || shown st then raiseEv s 306 else s
  if st ≠ .fenced then s else
  let s := setMc (dropGroup s g) g fun m => { m with repairQ := [] }
  if s.dram.tableChan = some g then { s with tableOk := false } else s

/-- A crib empties, sending EVICT for each line it holds (R551, R557). -/
def cribEmpty (s : State) (u : UnitId) : State :=
  let held := s.units[u].crib.map (·.line)
  let s := setUnit s u fun x => { x with crib := [] }
  let clear (x : Line) : Line :=
    if held.contains x.line then { x with presence := putBit x.presence u.val false } else x
  { s with mgr := { s.mgr with lines := s.mgr.lines.map clear } }

/-- What a domain loses when its power goes (R711); a unit leaves its test and a cooperative set (R464). -/
def powerLost (s : State) (d : PdId) : State :=
  if h : d.val < 56 then
    let u : UnitId := ⟨d.val, h⟩
    setUnit (endTest (cribEmpty s u) u) u fun x =>
      { x with keyReg := none, seeded := false, mask := 0, sinceSeed := 0, held := false }
  else if h : d.val < 60 then
    let g : ChanId := ⟨d.val - 56, by omega⟩
    let s := flushGroup s g
    if s.mcs[g].state = .run then mcEnter s g .selfRefresh else s
  else if h : d.val < 62 then nsEnter s ⟨d.val - 60, by omega⟩ .off
  else if d.val = 62 then entEnter (entZero s) .off
  else s

/-- Requests of a unit under block reset end INTERNAL, DETAIL 0x02 (R624). -/
def blockEnds (s : State) (u : UnitId) : State :=
  let hit := s.units[u].run.toList ++ s.units[u].suspended.toList
  let s := { s with reqs := s.reqs.map fun q => if hit.contains q.id ∧ q.done.isNone then endReq q 0x7F 0x02 else q }
  if u = dl15 then feedBlock s else s

/-- The RNG_RAW whose capture runs on a source under block reset ends INTERNAL, DETAIL 0x02 (R624, assumption 66). -/
def captureEnds (s : State) (n : NsId) : State :=
  match s.ns[n].capture with
  | none => s
  | some i =>
    setNs { s with reqs := s.reqs.map fun q => if q.id = i ∧ q.done.isNone then endReq q 0x7F 0x02 else q } n
      fun x => { x with capture := none }

/-- The off request of a domain that is in force: a pin that cancels it leaves OFF_REQ as it is (R18, R721, R725). -/
def offWanted (p : Pd) : Bool := p.offReq && !p.cancelled

/-- A BLOCK_RESET: the domain power-cycles, or goes OFF when an off request is pending; none on an OFF domain, merged
on one under reset, deferred while a Manger group holds reserved lines (R720-R722). -/
def blockReset (s : State) (d : PdId) : State :=
  let x := s.pds[d]
  if x.state = .off ∨ x.fail ∨ x.state = .waking ∨ d.val = 63 then s
  else if h : 56 ≤ d.val ∧ d.val < 60 then
    if groupReserved s ⟨d.val - 56, by omega⟩ ≠ 0 then setPd s d fun p => { p with blockReset := true }
    else
      setPd (powerLost s d) d fun p =>
        { p with blockReset := false, hold := 0, state := if offWanted p then .off else .waking,
                 gates := satInc p.gates, demand := false }
  else
    let s := if h : d.val < 56 then blockEnds s ⟨d.val, h⟩
      else if h : 60 ≤ d.val ∧ d.val < 62 then captureEnds s ⟨d.val - 60, by omega⟩ else s
    katNext (setPd (powerLost s d) d fun p =>
      { p with hold := 0, state := if offWanted p then .off else .waking, gates := satInc p.gates, demand := false })

/-! ### Chip reset (R89-R91, R96, R105) -/

/-- What OTP keeps of the Tack Room through a reset (R91, R360). -/
def keepOtp (t : Tkr) : Tkr :=
  { Tkr.reset with slots := t.slots, lcWord := t.lcWord, ownerA := t.ownerA, ownerB := t.ownerB }

/-- What a chip reset keeps of a Halter source (R668). -/
def keepHs (k : HsId) (x : HSrc) : HSrc :=
  { HSrc.reset k with latch := x.latch, rail := x.rail, asserted := x.asserted, railBad := x.railBad,
                      infoLatch := x.infoLatch }

/-- What a chip reset keeps of the Halter (R668). -/
def keepHlt (h : Hlt) : Hlt :=
  { Hlt.reset with src := vmapIdx keepHs h.src, nmiSent := h.nmiSent, unattrib := h.unattrib, cfgErr := h.cfgErr,
                   first := h.first, safe := h.safe, alert := h.alert }

/-- What a chip reset keeps of the Tamper Monitor: all but its locks and error flag (R694). -/
def keepTmp (t : Tmp) : Tmp :=
  { t with vbLock := false, vbLockWritten := false, ackErr := false,
           inp := vmap (fun x => { x with lock := false, lockWritten := false }) t.inp }

/-- The alert pair's conditions (R43, R663, R99). -/
def alertHolds (s : State) : Bool :=
  s.hlt.alertForce || decide (s.boot.phase = .bootFailed) || s.boot.pllUnlocked

/-- A chip reset for the causes given: everything returns to its chip-reset value but what R91 keeps; BOOT_ATTEMPTS and
the third Halter reset before READY by R96. A Halter reset out of BOOT_FAILED starts boot again and is counted on, modulo
16 (assumption 55). TELEMETRY keeps temperature, VDD and power; the rest of it is 0 until the next refresh (R148,
assumption 76). -/
def chipReset (s : State) (perst halter software : Bool) : State :=
  let s := abandonOtp s
  let early := halter && !perst && decide (s.boot.phase ≠ .ready)
  let attempts := if perst then 0 else if early then s.boot.attempts + 1 else s.boot.attempts
  let failed := early && decide (attempts.toNat = 3)
  { State.reset with
    pending := s.pending, free := s.free, nextId := s.nextId, resp := s.resp, linkOut := s.linkOut,
    boot := { Boot.reset with
      phase := if failed then .bootFailed else .reset, failCause := if failed then 3 else 0, cfgOpen := failed,
      keysLocked := s.boot.keysLocked, causePor := s.boot.causePor, causePerst := s.boot.causePerst || perst,
      causeHalter := s.boot.causeHalter || halter, causeSoftware := s.boot.causeSoftware || software,
      attempts := attempts, perst := s.boot.perst, imgSel := s.boot.imgSel, testMode := s.boot.testMode, powered := s.boot.powered,
      refclkSel := s.boot.refclkSel, i2cAddr := s.boot.i2cAddr },
    link := { Link.reset with telTemp := s.link.telTemp, telVdd := s.link.telVdd, telPower := s.link.telPower,
                              telThrottle := 0 },
    tkr := keepOtp s.tkr, hlt := { keepHlt s.hlt with alert := s.hlt.alert || failed }, tmp := keepTmp s.tmp,
    jtag := s.jtag }

/-! ### The Halter (R644-R653) -/

/-- Configuration a source runs on: its Walk default while its parity is bad (R667). -/
def hsSev (s : State) (k : HsId) : BitVec 2 :=
  if s.hlt.src[k].parityBad then (HSrc.walk k).1 else s.hlt.src[k].sev

/-- See `hsSev`. ALERT is always among HS95's reactions (R657). -/
def hsReact (s : State) (k : HsId) : BitVec 7 :=
  let r := if s.hlt.src[k].parityBad then (HSrc.walk k).2.1 else s.hlt.src[k].react
  if k.val = 95 then r ||| 0x20 else r

/-- Effective severity: SEV, raised when promoted; INFO for the fallback latch of HS80 (R647, R649). -/
def effSev (s : State) (k : HsId) : BitVec 2 :=
  let x := s.hlt.src[k]
  if x.infoLatch then 0
  else if x.promoted ∧ (hsSev s k).toNat < x.promoSev.toNat then x.promoSev else hsSev s k

/-- Severe: MAJOR or CRITICAL (R647). -/
def severe (s : State) (k : HsId) : Bool := decide (2 ≤ (effSev s k).toNat)

/-- The reaction set of HLT_SEV_REACT for a severity: its Walk default while its parity is bad (R656, R667, R672). -/
def sevSet (s : State) (v : BitVec 2) : BitVec 7 :=
  field (if s.hlt.sevParityBad then sevReactReset else s.hlt.sevReact) (8 * v.toNat) 7

/-- Effective reactions (R648). -/
def effReact (s : State) (k : HsId) : BitVec 7 := hsReact s k ||| sevSet s (effSev s k)

/-- The block of a source, if it has one (R641). -/
def hsBlock (k : HsId) : Option PdId :=
  if h : k.val < 56 then some ⟨k.val, by omega⟩
  else if h : k.val < 72 then some ⟨56 + (k.val - 56) / 4, by omega⟩
  else if h : k.val < 76 then some ⟨56 + (k.val - 72), by omega⟩
  else if h : k.val < 79 then some ⟨60 + (k.val - 76), by omega⟩
  else none

/-- Is a source dual-rail (R641)? -/
def dualRail (k : HsId) : Bool := decide (48 ≤ k.val ∧ k.val < 56) || decide (72 ≤ k.val)

/-- Any source latched. -/
def anyLatched (s : State) : Bool := !(vfind s.hlt.src fun x => x.latch).isEmpty

/-- The reactions collected in one Halter cycle (R652). -/
structure Reacts where
  irq : Bool
  nmi : Bool
  chip : Bool
  alert : Bool
  safe : Bool
  unattrib : Bool
  stalls : List StallId
  blocks : List PdId
  latched : List HsId
  deriving DecidableEq, Repr

/-- No reaction. -/
def Reacts.none : Reacts :=
  { irq := false, nmi := false, chip := false, alert := false, safe := false, unattrib := false, stalls := [],
    blocks := [], latched := [] }

/-- The reactions of one assertion added, a STALL_RESET without a stall replaced by R651. -/
def addReacts (r : Reacts) (k : HsId) (isSevere : Bool) (set : BitVec 7) (st : Option StallId) : Reacts :=
  let wantStall := bit set 3
  let r := { r with irq := r.irq || bit set 0, nmi := r.nmi || bit set 1, chip := r.chip || bit set 4,
                    alert := r.alert || bit set 5, safe := r.safe || bit set 6 }
  let r := match bit set 2, hsBlock k with
    | true, some d => { r with blocks := r.blocks ++ [d] }
    | _, _ => r
  if !wantStall then r else
  match st, hsBlock k with
  | some n, _ => { r with stalls := r.stalls ++ [n] }
  | .none, some d => { r with blocks := r.blocks ++ [d] }
  | .none, .none => if isSevere then { r with nmi := true } else { r with unattrib := true }

/-- C and promotion of a source at an assertion (R649). -/
def countPromo (x : HSrc) : HSrc :=
  let x := { x with count := satInc x.count }
  if x.promoN = 0 ∨ x.promoted then x
  else if x.promoN.toNat ≤ x.c.toNat + 1 then { x with promoted := true, c := 0 }
  else { x with c := x.c + 1 }

/-- One assertion: latch, count, promotion, and the reactions it takes (R644, R649, R650); a standing assertion that
latches again is not counted again. -/
def latchOne (s : State) (r : Reacts) (a : Assert) : State × Reacts :=
  let was := s.hlt.src[a.src].latch
  let before := effReact s a.src
  let s1 := setHs s a.src fun x =>
    let x := if a.again then x else countPromo x
    { x with latch := true, rail := x.rail || a.rail, infoLatch := if was then x.infoLatch else a.info }
  let now := effReact s1 a.src
  let taken := if was then (now &&& 0x0C) ||| (now &&& ~~~ before) else now
  let r := addReacts r a.src (severe s1 a.src) taken a.stall
  let r := if was then r else { r with latched := r.latched ++ [a.src] }
  let s2 := match a.stall with
    | some n => { s1 with hlt := { s1.hlt with logSource := BitVec.ofNat 7 a.src.val, logStall := BitVec.ofNat 6 n.val,
                                               logReset := bit taken 3, logValid := true } }
    | none => s1
  (s2, r)

/-- Send ERR_FATAL from each function that sends it, and log it (R135, R136, R648). -/
def sendNmi (s : State) : State :=
  let one (s : State) (f : Fn) : State := if (fnState s f).fatalEn then emit s (.errFatal f) else s
  let sent := (fnState s .pf0).fatalEn || (fnState s .pf1).fatalEn
  let s := one (one (setAer2 s 9) .pf0) .pf1
  { s with hlt := { s.hlt with alert := true, nmiSent := s.hlt.nmiSent || sent } }

/-- Take the union of a cycle's reactions (R652, R653). -/
def takeReacts (s : State) (r : Reacts) : State :=
  let s := r.latched.foldl (fun s k => raiseEv s (evMirror k)) s
  let s := if r.irq then raiseEv s 307 else s
  let s := if r.nmi then sendNmi s else s
  let s := { s with hlt := { s.hlt with alert := s.hlt.alert || r.alert, safe := s.hlt.safe || r.safe,
                                        unattrib := s.hlt.unattrib || r.unattrib } }
  if r.chip then chipReset s false true false
  else
    let s := r.stalls.dedup.foldl (fun s n => startReset s n 2) s
    r.blocks.dedup.foldl blockReset s

/-- FIRST of HLT_SUMMARY: the lowest-numbered of those that latched when all bits were clear (R671). -/
def noteFirst (s : State) (was : Bool) (latched : List HsId) : State :=
  match was, latched.map (·.val) with
  | false, k :: t => { s with hlt := { s.hlt with first := BitVec.ofNat 7 (t.foldl min k) } }
  | _, _ => s

/-- One Halter cycle over the assertions delivered (R652, R655). -/
def halterCycle (s : State) : State :=
  match s.hlt.inbox with
  | [] => s
  | as =>
    let was := anyLatched s
    let s := { s with hlt := { s.hlt with inbox := [] } }
    let (s, r) := as.foldl (fun p a => latchOne p.1 p.2 a) (s, Reacts.none)
    takeReacts (noteFirst s was r.latched) r

/-- Let the Halter act on what was asserted; reactions that assert again are taken in the next cycle. -/
def settle (s : State) : State := halterCycle (halterCycle s)

/-- Clear keys and lock them: KEY_CLEAR (R688). -/
def keyClear (s : State) : State := lockKeys (clearKeys s)

/-- Brown-out, in the cycle that latches its source (R691): the source's reactions, but for a chip reset of its own, which
is one with the brown-out's; keys zeroised, then the chip reset with HALTER set. -/
def brownOut (s : State) : State :=
  let was := anyLatched s
  let as := s.hlt.inbox
  let s := { s with hlt := { s.hlt with inbox := [] } }
  let (s, r) := as.foldl (fun p a => latchOne p.1 p.2 a) (s, Reacts.none)
  chipReset (clearKeys (takeReacts (noteFirst s was r.latched) { r with chip := false })) false true false

end Sys2Proof.Machine
end

