-- ==== Sys2Proof/Machine/Window.lean ====
section
/-! DEFINITION. The local-memory window BAR4 of PF0 (03, 04, 12). -/

namespace Sys2Proof.Machine

/-- Length of an access. -/
def accLen : Bar4Acc → Nat
  | .read n => n
  | .write bs _ => bs.length

/-- The right an access needs (R188). -/
def accNeed : Bar4Acc → Need
  | .read _ => .rd
  | .write _ _ => .wr

/-- Enabled bytes of a write, with their addresses. -/
def enabled (a : Nat) (bs : List (Option Byte)) : List (Nat × Byte) :=
  (List.range bs.length).filterMap fun i => (bs.getD i none).map fun b => (a + i, b)

/-- Writes of one access, line by line (R523, R526). -/
def putLines (s : State) (ws : List (Nat × Byte)) : State :=
  ((ws.map fun w => w.1 / 512).dedup).foldl (fun s k => slicePut s (byNow s none) (lineOf (k * 512)) (ws.filter fun w => decide (w.1 / 512 = k))) s

/-- A permitted access performed: a read answers with EP on poison, a write reaches the home slices (R127, R129). -/
def bar4Do (s : State) (a : Nat) (acc : Bar4Acc) : State :=
  match acc with
  | .read n => answer s (.data (coRead s a n) (coPoisoned s a n))
  | .write bs _ => answer (putLines s (enabled a bs)) .ok

/-- A denied access: not performed, Completer Abort, logged (R128). -/
def bar4Deny (s : State) (acc : Bar4Acc) (r : PkResult) : State :=
  let s := logDeny (setAer s .pf0 4) none r
  match acc with
  | .read _ => answer s .completerAbort
  | .write _ _ => answer s .ok

/-- Hold an access (R153, R713). -/
def bar4Hold (s : State) (a : Nat) (acc : Bar4Acc) : State :=
  answer { s with mgr := { s.mgr with held := s.mgr.held ++ [{ addr := a, acc := acc, epoch := s.pdk.epoch }] } } .deferred

/-- An access received: a poisoned write is discarded, then the table is checked page by page; a permitted one waits for its
channel's fill and for its group, and the flag says that it waits for its group (R126-R129, R153, R191, R713). -/
def bar4Recv (s : State) (a : Nat) (acc : Bar4Acc) : State × Bool :=
  match acc with
  | .write _ true => (answer (setAer s .pf0 1) .ok, false)
  | _ =>
    match pkCheck s none [{ addr := a, len := accLen acc, need := accNeed acc }] with
    | .ok =>
      if notFilled s a then (bar4Hold s a acc, accessHeld s a && decide (s.boot.phase = .ready))
      else if accessHeld s a then (bar4Hold s a acc, true) else (bar4Do s a acc, false)
    | r => (bar4Deny s acc r, false)

/-- Held accesses resume in arrival order once their channel is filled and their group ON (R153, R713); one that training has
shown to lie outside the installed capacity is denied (R571). -/
def resumeHeld (s : State) : State :=
  let held := s.mgr.held
  let s := { s with mgr := { s.mgr with held := [] } }
  held.foldl (fun s h =>
    if notFilled s h.addr ∨ accessHeld s h.addr then
      { s with mgr := { s.mgr with held := s.mgr.held ++ [h] } }
    else if outside s h.addr then bar4Deny s h.acc (.denied (h.addr / 4096))
    else bar4Do s h.addr h.acc) s

end Sys2Proof.Machine
end

