-- ==== Sys2Proof/Machine/Power.lean ====
section
/-! DEFINITION. The Power Controller: gating requests, SECURE_HOLD, power-down, wake, pins (17). -/

namespace Sys2Proof.Machine

/-- The unit of a domain. -/
def pdUnit (d : PdId) : Option UnitId := if h : d.val < 56 then some ⟨d.val, h⟩ else none
/-- The Manger group of a domain. -/
def pdGroup (d : PdId) : Option ChanId := if h : 56 ≤ d.val ∧ d.val < 60 then some ⟨d.val - 56, by omega⟩ else none
/-- The noise source of a domain. -/
def pdNs (d : PdId) : Option NsId := if h : 60 ≤ d.val ∧ d.val < 62 then some ⟨d.val - 60, by omega⟩ else none

/-- Does a request of a number belong to a Secure-world stall? -/
def secureReq (s : State) (i : Nat) : Bool := ((findReq s i).map fun q => s.stalls[q.stall].secure).getD false

/-- Requests that have taken a seed and whose records have not posted: RNG_GET with PR, RNG_RESEED (R709, R712). -/
def seedReqs (s : State) : List Req :=
  s.reqs.filter fun q => decide (q.done.map (·.status) = some 0) &&
    (decide (q.desc.opcode = 0x61) || (decide (q.desc.opcode = 0x60) && bit q.desc.mode 0))

/-- Kinds of secure-world state that a domain holds: request, key register, reserved lines or seed (R709, R726). -/
def secureState (s : State) (d : PdId) : BitVec 3 :=
  match pdUnit d with
  | some u =>
    let x := s.units[u]
    let q := (x.run.map (secureReq s)).getD false || (x.suspended.map (secureReq s)).getD false
    let k := (x.keyReg.map fun k => s.stalls[k.stall].secure).getD false ||
      (decide (u = dl15) && s.feed.key.isSome && s.stalls[(bvFin s.feed.stall : StallId)].secure)
    (if q then 1 else 0) ||| (if k then 2 else 0)
  | none =>
  match pdGroup d with
  | some g =>
    if s.mgr.resv.any fun r => decide (sliceGroup r.slice = g) && s.stalls[r.stall].secure then 4 else 0
  | none =>
  match pdNs d with
  | some n => if s.ns[n].capture.isSome then 1 else 0
  | none => if d.val = 62 ∧ (seedReqs s).any (fun q => s.stalls[q.stall].secure) then 4 else 0

/-- Is there anything else to drain (R705, R712)? -/
def drainLeft (s : State) (d : PdId) : Bool :=
  match pdUnit d with
  | some u => s.units[u].run.isSome || s.units[u].suspended.isSome || (decide (u.val = 47) && feedActive s)
  | none =>
  match pdGroup d with
  | some g => decide (groupReserved s g ≠ 0) || decide (s.mgr.repart[g] ≠ .none)
  | none =>
  match pdNs d with
  | some n => s.ns[n].capture.isSome
  | none => decide (d.val = 62) && !(seedReqs s).isEmpty

/-- A held unit leaves the cooperative set when its domain is gated (R464). -/
def letGo (s : State) (d : PdId) : State :=
  match pdUnit d with
  | some u => setUnit s u fun x => { x with held := false }
  | none => s

/-- RESULT PENDING while SECURE_HOLD, IN_PROGRESS otherwise (R707). -/
def pdMove (s : State) (d : PdId) (st : PdState) : State :=
  clearStarved (setPd s d fun p => { p with state := st, result := if st = .secureHold then .pending else .inProgress,
                                            hold := if st = .secureHold then secureState s d else 0 })

/-- A domain is ON, in the state that the request in force asks for: RESULT DONE and EV311 (R708); what its unit's pool
lacked it may have again (R302). -/
def pdArrived (s : State) (d : PdId) : State :=
  clearStarved (raiseEv (setPd s d fun p => { p with state := .on, result := .done, hold := 0 }) 311)

/-- The state an ON, DRAINING or SECURE_HOLD domain with an off request takes (R705, R720). -/
def gateStep (s : State) (d : PdId) : State :=
  if secureState s d ≠ 0 then pdMove s d .secureHold
  else if drainLeft s d then pdMove s d .draining
  else pdMove (letGo s d) d .poweringDown

/-- A key register loaded for a Secure-world stall with no request of that stall left on its unit is zeroised when the
hold begins (R720, step 3). -/
def holdZero (s : State) (d : PdId) : State :=
  match pdUnit d with
  | some u =>
    let x := s.units[u]
    let here (n : StallId) : Bool :=
      (x.run.toList ++ x.suspended.toList).any fun i => ((findReq s i).map fun q => decide (q.stall = n)).getD false
    if (x.keyReg.map fun k => s.stalls[k.stall].secure && !here k.stall).getD false then zeroKeyReg s u else s
  | none => s

/-- Does an access to a group's addresses wait at the Manger's input: of BAR4, a miss, or one of a running request to its
source, its destination or the line it reduces (R713)? -/
def groupAwaited (s : State) (g : ChanId) : Bool :=
  (s.mgr.held.any fun h => decide (chanOf h.addr = g)) || (s.mgr.missWaiting.any fun w => decide (lineChan w.1 = g)) ||
  s.reqs.any fun q => q.started &&
    ((q.done.isNone && decide (q.desc.srcSel = 2) && decide (q.desc.srcLen ≠ 0) && decide (chanOf q.desc.src = g)) ||
     (q.done.isNone && decide (q.desc.opcode = 0x86 ∨ q.desc.opcode = 0x88) && decide (chanOf q.desc.dst = g)) ||
     (match q.stores with
      | { dest := .locl a, .. } :: _ => q.done.isSome && decide (chanOf a = g)
      | _ => false))

/-- Powered, unfenced units of a unit's pool, without one (R707). -/
def poweredOthers (s : State) (u : UnitId) : Nat :=
  ((poolUnits (unitPool u)).filter fun v => decide (v ≠ u) && pdPowered s (unitPd v) && !s.units[v].fenced).length

/-- The minimum of a unit's pool (R728). -/
def poolMin (s : State) (u : UnitId) : Nat :=
  match unitPool u with
  | .cipher => s.pwr.minCl.toNat
  | .digest => s.pwr.minDl.toNat
  | _ => s.pwr.minBn.toNat

/-- Would an off request of PF0 break the minimum of the unit's pool? Fenced units do not count (R707). -/
def breaksMin (s : State) (d : PdId) : Bool :=
  match pdUnit d with
  | some u => pdPowered s d && !s.units[u].fenced && decide (poweredOthers s u < poolMin s u)
  | none => false

/-- A refused off request (R707, R723). -/
def pdRefuse (s : State) (f : Fn) (d : PdId) : State :=
  let s := setPd s d fun p => { p with result := .denied }
  match f with
  | .pf0 => raiseEv s 312
  | .pf1 => { s with pwr := { s.pwr with cfgErr := true } }

/-- OFF_REQ written 1 (R705, R707, R720). -/
def offRequest (s : State) (f : Fn) (d : PdId) : State :=
  let p := s.pds[d]
  if d.val = 63 ∨ p.offReq then s
  else if p.fail then setPd s d fun p => { p with result := .denied }
  else if bit s.pwr.pin d.val then pdRefuse s f d
  else if f = .pf0 ∧ breaksMin s d then raiseEv (setPd s d fun p => { p with result := .denied }) 312
  else
    let s := setPd s d fun p => { p with offReq := true, cancelled := false, result := .inProgress }
    match p.state with
    | .on => gateStep (holdZero s d) d
    | .off => raiseEv (setPd s d fun p => { p with result := .done }) 311
    | _ => s

/-- A wake begins (R705, R716). -/
def wake (s : State) (d : PdId) (demand : Bool) : State :=
  setPd s d fun p => { p with state := .waking, demand := demand, result := .inProgress, hold := 0 }

/-- OFF_REQ written 0 (R705, R707, R708); one that finds the domain ON, its gate cancelled by a pin, is done at once. -/
def onRequest (s : State) (d : PdId) : State :=
  let p := s.pds[d]
  if d.val = 63 ∨ !p.offReq then s
  else if p.fail then setPd s d fun p => { p with result := .denied }
  else
    let s := setPd s d fun p => { p with offReq := false, cancelled := false, result := .inProgress }
    match p.state with
    | .off => wake s d false
    | .on | .draining | .secureHold => pdArrived s d
    | _ => s

/-- Before READY a request only sets OFF_REQ; one written in HELD is taken at READY, as a request made then (R722). -/
def wrDomCtl (s : State) (f : Fn) (d : PdId) (v : BitVec 64) : State :=
  if d.val = 63 then s
  else if s.boot.phase ≠ .ready then
    (if bit v 0 ∧ !s.pds[d].offReq ∧ bit s.pwr.pin d.val then pdRefuse s f d
     else setPd s d fun p => { p with offReq := bit v 0, cancelled := bit v 0 && p.cancelled,
                                      waitFn := if s.boot.phase = .apply then none else some f })
  else if bit v 0 then offRequest s f d else onRequest s d

/-- PWR_OFF_REQ (R707). -/
def execPwrOffReq (f : Fn) (d : PdId) (s : State) : Host.Outcome State Fault Refusal :=
  .next (gateW s f fun s => wrDomCtl s f d 1)

/-- PWR_ON_REQ (R707). -/
def execPwrOnReq (f : Fn) (d : PdId) (s : State) : Host.Outcome State Fault Refusal :=
  .next (gateW s f fun s => wrDomCtl s f d 0)

/-- DOMAIN_DRAIN_COMPLETE (R705, R712): the domain goes on as far as its state allows; a deferred block reset of a
Manger group takes place. -/
def execDomainDrainComplete (d : PdId) (s : State) : Host.Outcome State Fault Refusal :=
  let s := if s.pds[d].blockReset then blockReset s d else s
  match s.pds[d].state with
  | .draining | .secureHold => .next (gateStep (holdZero s d) d)
  | _ => .next s

/-- SECURE_HOLD_END (R720): no secure-world state remains. -/
def execSecureHoldEnd (d : PdId) (s : State) : Host.Outcome State Fault Refusal :=
  match s.pds[d].state with
  | .secureHold => .next (gateStep (holdZero s d) d)
  | _ => .next s

/-- POWER_DOWN_COMPLETE (R711): the domain is OFF; a request or pin made meanwhile wakes it. -/
def execPowerDownComplete (d : PdId) (s : State) : Host.Outcome State Fault Refusal :=
  if s.pds[d].state ≠ .poweringDown then .next s else
  let s := katNext (setPd (powerLost s d) d fun p => { p with state := .off, gates := satInc p.gates, hold := 0 })
  let held := ((pdGroup d).map (groupAwaited s)).getD false
  if !offWanted s.pds[d] then .next (wake s d false)
  else if held then .next (raiseEv (wake (setPd s d fun p => { p with offReq := false, cancelled := false }) d true) 314)
  else .next (raiseEv (setPd s d fun p => { p with result := .done }) 311)

/-- DEMAND_WAKE (R716): an access held by a group that is OFF. -/
def demandWake (s : State) (g : ChanId) : State :=
  if s.pds[groupPd g].state = .off ∧ !s.pds[groupPd g].fail then
    raiseEv (wake (setPd s (groupPd g) fun p => { p with offReq := false, cancelled := false }) (groupPd g) true) 314
  else s

/-- DEMAND_WAKE (R716). -/
def execDemandWake (g : ChanId) (s : State) : Host.Outcome State Fault Refusal := .next (demandWake s g)

/-- What a domain does on reaching ON: a unit must pass its known-answer test first, a channel leaves self-refresh or
trains, a source starts its start-up test, PD62 runs its tests (R297, R489, R504, R595). -/
def powerOn (s : State) (d : PdId) : State :=
  match pdUnit d with
  | some u => setUnit s u fun x => { x with testDue := true }
  | none =>
  match pdGroup d with
  | some g =>
    match s.mcs[g].state with
    | .selfRefresh => mcEnter s g .run
    | _ => s
  | none =>
  match pdNs d with
  | some n => nsEnter s n .startup
  | none => if d.val = 62 ∧ s.ent.state = .off then entEnter s (if s.ent.fenced then .fenced else .init) else s

/-- Must a group's channel still be trained and filled before the group is ON (R596)? -/
def groupNotFilled (s : State) (d : PdId) : Bool :=
  match pdGroup d with
  | some g => (s.mcs[g].state = .off && s.mcs[g].enable) || s.mcs[g].state = .training || s.mcs[g].state = .filling
  | none => false

/-- DOMAIN_POWER_STABLE (R705, R708, R596): WAKING ends in ON; a group whose channel was never trained starts training
first and is ON once it is filled or fenced. An off request made meanwhile is then taken (R722). PD63 powers up for a debug unlock, which no request makes (R357). -/
def execDomainPowerStable (d : PdId) (s : State) : Host.Outcome State Fault Refusal :=
  if s.pds[d].state ≠ .waking then .next s
  else if d.val = 63 then .next (setPd s d fun p => { p with state := .on })
  else if groupNotFilled s d then
    .next (match pdGroup d with
      | some g => if s.mcs[g].state = McState.off then mcEnter s g .training else s
      | none => s)
  else
    let s := powerOn (setPd s d fun p => { p with state := .on, hold := 0 }) d
    if offWanted s.pds[d] then .next (settle (gateStep (holdZero (resumeHeld s) d) d))
    else .next (settle (resumeHeld (pdArrived s d)))

/-- A pin set on a domain (R721): it cancels a gate under way, and wakes a domain that is OFF, or that is on its way
there once it is OFF. OFF_REQ keeps its value, for the pin is not what its Effect text names (R18, R725; assumption 68).
A failed domain stays in its state (R723). -/
def pinSet (s : State) (d : PdId) : State :=
  if s.pds[d].fail then s else
  let s := setPd s d fun p => { p with cancelled := p.offReq }
  match s.pds[d].state with
  | .draining | .secureHold => clearStarved (setPd s d fun p => { p with state := .on, result := .inProgress, hold := 0 })
  | .off => if s.boot.phase = .apply then s else wake s d false
  | _ => s

/-- PWR_PIN written by PF1 (R721); what a pin leaves of an off request, assumption 68. -/
def wrPin (s : State) (f : Fn) (v : BitVec 64) : State :=
  match f with
  | .pf0 => s
  | .pf1 =>
    let old := s.pwr.pin
    (List.finRange 64).foldl (fun s d => if d.val < 63 ∧ bit v d.val ∧ !bit old d.val then pinSet s d else s)
      { s with pwr := { s.pwr with pin := v.setWidth 63 } }

/-- PWR_PIN_WRITE (R721). -/
def execPwrPinWrite (f : Fn) (v : BitVec 64) (s : State) : Host.Outcome State Fault Refusal :=
  .next (gateW64 s f 0x02400 fun s => wrPin s f v)

/-- Halter source of a domain that fails (R723). -/
def pdHs (d : PdId) : Option HsId :=
  match pdUnit d with
  | some u => some (unitHs u)
  | none =>
  match pdGroup d with
  | some g => some (chanHs g)
  | none =>
  match pdNs d with
  | some n => some (nsHs n)
  | none => if d.val = 62 then some 78 else none

/-- DOMAIN_TRANSITION_TIMEOUT (R723): the domain fails and stays where it is, its units fenced. -/
def execDomainTransitionTimeout (d : PdId) (s : State) : Host.Outcome State Fault Refusal :=
  match s.pds[d].state with
  | .waking | .poweringDown =>
    let s := setPd s d fun p => { p with fail := true }
    let s := match pdUnit d with
      | some u =>
        let s' := endTest (setUnit s u fun x => { x with fenced := true, keyReg := none, held := false }) u
        katNext (if lastFenced s s' u then raiseEv s' 295 else s')
      | none => s
    let s := match pdGroup d with
      | some g => mcEnter s g .fenced
      | none => s
    let s := match pdNs d with
      | some n => nsEnter s n .failed
      | none => s
    let s := if d.val = 62 then entFence s else s
    .next (settle (match pdHs d with
      | some k => raiseHs s k none
      | none => s))
  | _ => .next s

/-- BLOCK_RESET (R722). -/
def execBlockReset (d : PdId) (s : State) : Host.Outcome State Fault Refusal := .next (settle (blockReset s d))

/-- PWR_CTL written by PF1: values out of range are ignored (R728). -/
def wrPwrCtl (s : State) (f : Fn) (v : BitVec 64) : State :=
  match f with
  | .pf0 => s
  | .pf1 =>
    let cl := field v 0 6
    let dl := field v 8 5
    let bn := field v 16 4
    let th := field v 24 7
    let p := s.pwr
    { s with pwr := { p with minCl := if 1 ≤ cl.toNat ∧ cl.toNat ≤ 32 then cl else p.minCl,
                             minDl := if 1 ≤ dl.toNat ∧ dl.toNat ≤ 16 then dl else p.minDl,
                             minBn := if 1 ≤ bn.toNat ∧ bn.toNat ≤ 8 then bn else p.minBn,
                             thrBase := if 100 ≤ th.toNat ∧ th.toNat ≤ 118 then th else p.thrBase } }

/-- A BAR4 access in BOOT_FAILED: a write is ignored, and what a read returns is not given, free bytes (R100). -/
def bar4Failed (s : State) (acc : Bar4Acc) : State :=
  match acc with
  | .read n => takeFree (answer s (.data (freeBytes s n) false)) n
  | .write _ _ => answer s .ok

/-- BAR4_ACCESS (R126, R716): an access at a window offset; one held for a group that is OFF wakes it. -/
def execBar4Access (off : BitVec 28) (acc : Bar4Acc) (s : State) : Host.Outcome State Fault Refusal :=
  .next (gateBar s .pf0 fun s =>
    if s.boot.phase = .bootFailed then bar4Failed s acc else
    let a := s.link.winBase.toNat * 0x10000000 + off.toNat
    let r := bar4Recv s a acc
    settle (if r.2 then demandWake r.1 (chanOf a) else r.1))

/-- Is a unit restricted by throttling: it then takes only in-budget Alarm placements (R718, R719)? -/
def restricted (s : State) (u : UnitId) : Bool :=
  let able (v : UnitId) : Bool := pdPowered s (unitPd v) && !s.units[v].fenced
  match s.pwr.level.toNat with
  | 0 => false
  | 1 => decide (52 ≤ u.val)
  | 2 => decide (52 ≤ u.val) || decide (16 ≤ u.val ∧ u.val < 32) || decide (40 ≤ u.val ∧ u.val < 48)
  | _ => !(((poolUnits (unitPool u)).filter able).take (poolMin s u)).contains u

end Sys2Proof.Machine
end

