-- ==== Sys2Proof/Machine/Operands.lean ====
section
/-! DEFINITION. Operand forms: which fields each opcode uses, the descriptor-form checks in their order, output
lengths, latencies and costs (05, 06, 08, 09, 10, 11, 12). -/

namespace Sys2Proof.Machine

/-! ### Attribute words (R322, R323) -/

/-- Length range of a key type, and whether it is blob only. -/
def ktypeRange : Nat → Option (Nat × Nat × Bool)
  | 0x01 => some (16, 16, false) | 0x02 => some (24, 24, false) | 0x03 => some (32, 32, false)
  | 0x04 => some (32, 32, false) | 0x05 => some (64, 64, true) | 0x06 => some (32, 32, false)
  | 0x08 => some (1, 128, false) | 0x09 => some (16, 128, false) | 0x0A => some (32, 32, false)
  | 0x10 => some (32, 32, false) | 0x11 => some (48, 48, true) | 0x12 => some (66, 66, true)
  | 0x13 => some (32, 32, false) | 0x14 => some (57, 57, true) | 0x15 => some (32, 32, false)
  | 0x16 => some (56, 56, true) | 0x18 => some (64, 64, true) | 0x19 => some (32, 32, false)
  | 0x1A => some (1, 4096, true) | 0x1B => some (16, 128, false)
  | _ => none

/-- KTYPE. -/
def ktype (a : BitVec 64) : Nat := (field a 0 5).toNat
/-- KLEN. -/
def klen (a : BitVec 64) : Nat := (field a 8 13).toNat

/-- A reserved bit or encoding in an attribute word, or a KLEN outside its type's range (R322, R323). -/
def attrBad (a : BitVec 64) : Bool :=
  decide (field a 5 3 ≠ 0) || decide (field a 21 3 ≠ 0) || decide (field a 46 18 ≠ 0) || decide (field a 32 2 = 3) ||
  match ktypeRange (ktype a) with
  | none => true
  | some (lo, hi, _) => decide (klen a < lo) || decide (hi < klen a)

/-! ### Fields used by each opcode -/

/-- The fields an opcode uses: selectors it takes (none: the field group must be 0), KEY_SRC values, IMM and MODE
bits, AUX, and a SRC_LEN without a source. -/
structure OpForm where
  src : List Nat
  dst : List Nat
  keys : List Nat
  imm : BitVec 64
  mode : Byte
  aux : Bool
  lenOnly : Bool
  deriving DecidableEq, Repr

/-- Any selector. -/
def anySel : List Nat := [0, 1, 2, 3]
/-- Keys from slot, blob, entry or intermediate. -/
def keyed : List Nat := [1, 2, 3, 4]

/-- The IMM bits of a cipher opcode (R377). -/
def cipherImm (op : Nat) : BitVec 64 :=
  if op = 0x0A ∨ op = 0x11 then 0x1FFFFFFFF
  else if op = 0x0B ∨ op = 0x0C ∨ op = 0x0D ∨ op = 0x12 ∨ op = 0x05 ∨ op = 0x06 ∨ op = 0x10 then 0xFFFFFFFF
  else if op = 0x04 then 0xFF
  else 0

/-- The fields of a key-generation opcode, by whether it names a key (R461). -/
def keygenForm (d : Desc) : OpForm :=
  { src := [], dst := anySel, keys := 0 :: keyed, imm := if d.keySrc = 0 then BitVec.allOnes 64 else 0, mode := 0xFF,
    aux := decide (d.keySrc = 0), lenOnly := false }

/-- The fields of a digest opcode (R412). -/
def digestForm (keys : List Nat) (imm : BitVec 64) (frag aux : Bool) : OpForm :=
  { src := if frag then [] else anySel, dst := anySel, keys := keys, imm := imm, mode := 0x0F, aux := frag || aux,
    lenOnly := frag }

/-- The fields of a big-number opcode (R458). -/
def bnForm (src dst keys : List Nat) (imm : BitVec 64) (aux : Bool) : OpForm :=
  { src := src, dst := dst, keys := keys, imm := imm, mode := 0xFF, aux := aux, lenOnly := false }

/-- The fields of the random, key and memory opcodes and of FENCE and NOP (R335, R505, R545, R245, R246). -/
def miscForm (d : Desc) : Nat → Option OpForm
  | 0x60 => some { src := [], dst := anySel, keys := [0], imm := 0xFFFFFFFF, mode := 0x01, aux := false, lenOnly := false }
  | 0x61 => some { src := [], dst := [], keys := [0], imm := 0, mode := 0, aux := true, lenOnly := false }
  | 0x68 => some { src := [], dst := anySel, keys := [0], imm := 0xFFFFFFFF, mode := 0x03, aux := false, lenOnly := false }
  | 0x70 => some { src := if d.keySrc = 0 then [3] else [], dst := [0, 1, 2], keys := 0 :: keyed, imm := 0, mode := 0,
                   aux := false, lenOnly := false }
  | 0x71 => some { src := [], dst := if d.dstSel = 3 then [3] else [], keys := [2], imm := 0, mode := 0, aux := false,
                   lenOnly := false }
  | 0x72 => some { src := [], dst := anySel, keys := keyed, imm := BitVec.allOnes 64, mode := 0, aux := true, lenOnly := false }
  | 0x73 => some { src := [], dst := anySel, keys := [0], imm := BitVec.allOnes 64, mode := 0, aux := true, lenOnly := false }
  | 0x74 => some { src := [], dst := [], keys := [1, 2], imm := 0, mode := 0x0F, aux := true, lenOnly := false }
  | 0x75 => some { src := [], dst := [], keys := [0], imm := 0x7FF, mode := 0, aux := false, lenOnly := false }
  | 0x76 => some { src := [], dst := [], keys := [1], imm := 0, mode := 0, aux := true, lenOnly := false }
  | 0x77 => some { src := [0, 1], dst := [0, 1, 2], keys := [0], imm := BitVec.allOnes 64, mode := 0, aux := true,
                   lenOnly := false }
  | 0x80 => some { src := [0, 1, 2], dst := anySel, keys := [0], imm := 0, mode := 0, aux := false, lenOnly := false }
  | 0x81 => some { src := [], dst := anySel, keys := [0], imm := BitVec.allOnes 64, mode := 0, aux := false, lenOnly := false }
  | 0x84 => some { src := [2], dst := [0, 2], keys := [0], imm := BitVec.allOnes 64, mode := 0x03, aux := false, lenOnly := false }
  | 0x85 => some { src := [2], dst := [0, 2], keys := [0], imm := 0, mode := 0, aux := false, lenOnly := false }
  | 0x86 => some { src := [0, 2, 3], dst := [2], keys := [0], imm := 1, mode := 0, aux := false, lenOnly := false }
  | 0x88 => some { src := [], dst := [2], keys := [0], imm := 0, mode := 0x01, aux := false, lenOnly := false }
  | 0xF0 => some { src := [], dst := [], keys := [0], imm := 1, mode := 0, aux := false, lenOnly := false }
  | 0xF1 => some { src := [], dst := [], keys := [0], imm := 0, mode := 0, aux := false, lenOnly := false }
  | _ => none

/-- The fields an opcode uses; none for a reserved opcode (R243). -/
def opForm (d : Desc) : Option OpForm :=
  let op := d.opcode
  if op ≤ 0x0E ∨ (0x10 ≤ op ∧ op ≤ 0x12) then
    some { src := anySel, dst := anySel, keys := keyed, imm := cipherImm op, mode := 0x7F,
           aux := decide (op ≠ 0x00 ∧ op ≠ 0x01 ∧ op ≠ 0x0E), lenOnly := false }
  else match op with
  | 0x20 => some (digestForm [0] 0 false false)
  | 0x21 => some (digestForm [0] 0 true false)
  | 0x22 => some (digestForm [0] 0xFFFFFFFF false false)
  | 0x28 => some (digestForm keyed 0xFF false false)
  | 0x29 => some (digestForm keyed 0xFF true false)
  | 0x2C => some (digestForm keyed 0xFFFFFFFF false true)
  | 0x2D => some (digestForm keyed 0xFFFFFFFF false true)
  | 0x30 => some { src := anySel, dst := anySel, keys := [0], imm := 0x3F, mode := 0x03, aux := false, lenOnly := false }
  | 0x40 => some (bnForm anySel anySel (0 :: keyed) 0 false)
  | 0x41 => some (bnForm anySel anySel keyed 0 false)
  | 0x42 => some (bnForm anySel anySel [0] 0 true)
  | 0x44 => some (bnForm anySel anySel keyed 0 false)
  | 0x45 => some (bnForm anySel [] [0] 0 true)
  | 0x46 => some (bnForm [] anySel keyed 0 true)
  | 0x47 => some (keygenForm d)
  | 0x48 => some (bnForm anySel anySel keyed 0 true)
  | 0x49 => some (bnForm anySel [] [0] 0 true)
  | 0x4A => some (bnForm [] anySel keyed 0 true)
  | 0x50 => some (keygenForm d)
  | 0x51 => some (bnForm [] anySel [0] (if d.dstSel = 3 then BitVec.allOnes 64 else 0) true)
  | 0x52 => some (bnForm anySel anySel keyed 0 false)
  | 0x54 => some (keygenForm d)
  | 0x55 => some (bnForm anySel anySel keyed 0xFF true)
  | 0x56 => some (bnForm anySel [] [0] 0 true)
  | 0x58 => some (bnForm anySel anySel [0] 0 false)
  | 0x5C => some (bnForm anySel anySel (0 :: keyed) 0 false)
  | op => miscForm d op

/-- AEAD decryption opcodes. -/
def aeadDec (op : Nat) : Bool := decide (op = 0x0B ∨ op = 0x0D ∨ op = 0x12)
/-- AEAD encryption opcodes. -/
def aeadEnc (op : Nat) : Bool := decide (op = 0x0A ∨ op = 0x0C ∨ op = 0x11)
/-- Key-generation opcodes of 10. -/
def isKeygen (op : Nat) : Bool := decide (op = 0x47 ∨ op = 0x50 ∨ op = 0x54)
/-- Opcodes whose IMM is the attribute word of a new key. -/
def newAttr (d : Desc) : Bool :=
  decide (d.opcode = 0x72 ∨ d.opcode = 0x73 ∨ d.opcode = 0x77) || (isKeygen d.opcode && decide (d.keySrc = 0))

/-- Does an opcode have a source of its own to read? -/
def hasSrc (d : Desc) : Bool := (opForm d).any fun f => !f.src.isEmpty
/-- Does an opcode have a destination? -/
def hasDst (d : Desc) : Bool := (opForm d).any fun f => !f.dst.isEmpty

/-! ### Reason 0x02 (R234-R237) -/

/-- An address word that its selector does not admit (R235). -/
def badAddr (sel a : Nat) : Bool :=
  (decide (sel = 2) && decide (2 ^ 34 ≤ a)) || (decide (sel = 3) && decide (8 ≤ a))

/-- A KEY_REF that its KEY_SRC does not admit (R236). -/
def badKeyRef (d : Desc) : Bool :=
  match d.keySrc.toNat with
  | 0 => decide (d.keyRef ≠ 0)
  | 1 => decide (512 ≤ d.keyRef.toNat)
  | 2 => d.keyLocal && decide (2 ^ 34 ≤ d.keyRef.toNat)
  | 3 => decide (2048 ≤ d.keyRef.toNat)
  | 4 => decide (8 ≤ d.keyRef.toNat)
  | _ => true

/-- A source or destination field group that the opcode leaves unused but that is not 0. -/
def unusedSrc (f : OpForm) (d : Desc) : Bool :=
  f.src.isEmpty && (decide (d.srcSel ≠ 0) || decide (d.src ≠ 0) || (!f.lenOnly && decide (d.srcLen ≠ 0)))

/-- See `unusedSrc`. -/
def unusedDst (f : OpForm) (d : Desc) : Bool :=
  f.dst.isEmpty && (decide (d.dstSel ≠ 0) || decide (d.dst ≠ 0) || decide (d.dstLen ≠ 0))

/-- Reserved bit, reserved encoding or non-zero unused field (R237, R794 reason 2). -/
def reason2 (f : OpForm) (d : Desc) (later : Bool) : Bool :=
  decide (field d.w[0] 28 4 ≠ 0) || decide (field d.w[6] 25 39 ≠ 0) || badKeyRef d ||
  (d.keyLocal && decide (d.keySrc ≠ 2)) || (later && d.barrier) || (d.vbr && !aeadDec d.opcode) ||
  (decide (d.auxLen = 0) && decide (d.aux ≠ 0)) || (decide (d.dstSel ≠ 3) && decide (d.interLines ≠ 0)) ||
  decide (d.imm &&& ~~~f.imm ≠ 0) || decide (d.mode &&& ~~~f.mode ≠ 0) ||
  unusedSrc f d || unusedDst f d || badAddr d.srcSel d.src || badAddr d.dstSel d.dst ||
  (newAttr d && attrBad d.imm) || (decide (d.opcode = 0x72) && decide (ktype d.imm = 0x1A)) ||
  (decide (d.opcode = 0x73) &&
    !(decide (1 ≤ ktype d.imm ∧ ktype d.imm ≤ 0x0A) || [0x13, 0x15, 0x18, 0x19].contains (ktype d.imm))) ||
  (decide (0x70 ≤ d.opcode ∧ d.opcode ≤ 0x88) && !f.aux && decide (d.auxLen ≠ 0)) ||
  (decide (0xF0 ≤ d.opcode) && (decide (d.auxLen ≠ 0) || decide (d.keySrc ≠ 0) || (decide (d.opcode = 0xF0) && d.barrier))) ||
  (decide (d.opcode = 0x77 ∨ (d.opcode = 0x70 ∧ d.keySrc = 0)) && !f.src.contains d.srcSel)

/-! ### Lengths -/

/-- Output length L of a digest algorithm (R411). -/
def algLen : Nat → Nat
  | 1 => 28 | 2 => 32 | 3 => 48 | 4 => 64 | 5 => 32 | 6 => 28 | 7 => 32 | 8 => 48 | 9 => 64
  | _ => 0

/-- ALG. -/
def Desc.alg (d : Desc) : Nat := (field d.mode 0 4).toNat
/-- PARAM. -/
def Desc.param (d : Desc) : Nat := (field d.mode 0 4).toNat
/-- VAR. -/
def Desc.var (d : Desc) : Nat := (field d.mode 4 4).toNat
/-- KSZ. -/
def Desc.ksz (d : Desc) : Nat := (field d.mode 0 2).toNat
/-- TLEN as written. -/
def Desc.tlen0 (d : Desc) : Nat := (field d.mode 2 5).toNat
/-- Tag length in bytes (R373). -/
def Desc.tlen (d : Desc) : Nat := if d.tlen0 = 0 then 16 else d.tlen0
/-- AAD_SRC of an AEAD opcode (R377). -/
def Desc.aadSrc (d : Desc) : Nat := if aeadDec d.opcode || aeadEnc d.opcode then (field d.imm 0 32).toNat else 0
/-- IV_GEN (R384). -/
def Desc.ivGen (d : Desc) : Bool := decide (d.opcode = 0x0A ∨ d.opcode = 0x11) && bit d.imm 32

/-- Field length of a P-curve (R454). -/
def curveLen : Nat → Nat
  | 1 => 32 | 2 => 48 | 3 => 66 | _ => 0

/-- Public key bytes by PARAM of an ECC, ML-KEM or ML-DSA opcode (R454, R458). -/
def ecPub : Nat → Nat
  | 1 => 65 | 2 => 97 | 3 => 133 | 4 => 32 | 5 => 57 | 6 => 32 | 7 => 56 | _ => 0
/-- See `ecPub`. -/
def kemEk : Nat → Nat
  | 1 => 800 | 2 => 1184 | 3 => 1568 | _ => 0
/-- ML-KEM ciphertext bytes. -/
def kemCt : Nat → Nat
  | 1 => 768 | 2 => 1088 | 3 => 1568 | _ => 0
/-- ML-DSA public key bytes. -/
def dsaPk : Nat → Nat
  | 1 => 1312 | 2 => 1952 | 3 => 2592 | _ => 0
/-- ML-DSA signature bytes. -/
def dsaSig : Nat → Nat
  | 1 => 2420 | 2 => 3309 | 3 => 4627 | _ => 0
/-- EdDSA signature bytes. -/
def edSig : Nat → Nat
  | 4 => 64 | 5 => 114 | _ => 0

/-- Blob length of a key of KLEN bytes (R332). -/
def blobLen (n : Nat) : Nat := 64 + roundUp n 16 + 16

/-- Shared-secret bytes (R458). -/
def secretLen (d : Desc) : Nat :=
  match d.opcode with
  | 0x46 => curveLen d.param
  | 0x4A => ecPub d.param
  | _ => 32

/-- Public key bytes of a key-generation opcode. -/
def keygenPub (d : Desc) : Nat :=
  match d.opcode with
  | 0x47 => ecPub d.param
  | 0x50 => kemEk d.param
  | _ => dsaPk d.param

/-- NLEN as the descriptor shows it (assumption 20): exact for MODOP and RSA_PUB; for an unkeyed modexp block the
largest modulus that SRC_LEN and DST_LEN admit. -/
def descNlen (d : Desc) : Nat :=
  match d.opcode with
  | 0x58 => if d.var = 3 then (d.srcLen - 8) / 2 else if d.var = 4 then (d.srcLen - 8) / 3 else (d.srcLen - 8) / 3
  | 0x42 => d.auxLen - 8
  | _ => if d.keySrc = 0 then min d.dstLen ((d.srcLen - 9) / (if d.var = 1 then 3 else 2)) else d.srcLen

/-- Output length in bytes, where the descriptor alone shows it (R387, R414, R458, R505, R545); that of an RSA operation
depends on its key or its block (R796). -/
def outLenOf (d : Desc) : Option Nat :=
  match d.opcode with
  | 0x0A | 0x11 => some ((if d.ivGen then 12 else 0) + (d.srcLen - d.aadSrc) + d.tlen)
  | 0x0C => some (d.srcLen - d.aadSrc + d.tlen)
  | 0x0B | 0x0D | 0x12 => some (d.srcLen - d.aadSrc)
  | 0x0E => some d.tlen
  | 0x20 | 0x21 => some (algLen d.alg)
  | 0x22 | 0x2C | 0x2D | 0x60 => some (field d.imm 0 32).toNat
  | 0x28 | 0x29 => some (if field d.imm 0 8 = 0 then algLen d.alg else (field d.imm 0 8).toNat)
  | 0x30 => if d.dstLen = 0 then some 0 else some 48
  | 0x40 | 0x5C | 0x41 => none
  | 0x42 => some d.srcLen
  | 0x58 => some (descNlen d)
  | 0x44 => some (2 * curveLen d.param)
  | 0x48 => some (edSig d.param)
  | 0x46 | 0x4A | 0x52 => some (if d.dstSel = 3 then secretLen d else blobLen (secretLen d))
  | 0x51 => some (if d.dstSel = 3 then 32 else kemCt d.param + blobLen 32)
  | 0x47 | 0x50 | 0x54 => some (if d.keySrc = 0 then blobLen (klen d.imm) + keygenPub d else keygenPub d)
  | 0x55 => some (dsaSig d.param)
  | 0x68 => some ((field d.imm 0 32).toNat / 8)
  | 0x72 | 0x73 | 0x77 => some (if d.dstSel = 3 then klen d.imm else blobLen (klen d.imm))
  | 0x80 => some d.srcLen
  | 0x81 => some d.dstLen
  | op => if op ≤ 0x10 then some d.srcLen else none

/-! ### Latency and cost (R280, R475-R477) -/

/-- Cycles of one Montgomery multiplication for a modulus of so many bytes (R475). -/
def montCycles (nlen : Nat) : Nat :=
  let d := ceilDiv (8 * nlen) 256
  ceilDiv (9 * d * d) 2 + 6

/-- The same on a set of u units. -/
def montSet (nlen u : Nat) : Nat := if u ≤ 1 then montCycles nlen else ceilDiv (montCycles nlen) u + 48

/-- Cycles of an exponentiation with an exponent of b bits, m cycles a multiplication. -/
def expCycles (b m : Nat) : Nat := (b + ceilDiv b 5 + 32) * m + 200

/-- Units of an unkeyed cooperative operation (R473). -/
def coopUnits (nlen : Nat) : Nat := if nlen ≤ 1024 then 2 else if nlen ≤ 1536 then 4 else 8

/-- Exponent bytes of an unkeyed modexp block for a modulus of so many bytes. -/
def elenOf (d : Desc) (nlen : Nat) : Nat := d.srcLen - 8 - nlen * (if d.var = 1 then 3 else 2)

/-- Nanoseconds for a message, at so many hundredths of a microsecond per KiB. -/
def perKib (c len : Nat) : Nat := ceilDiv (10 * c * len) 1024

/-- ATT_MAX by CLK_RATE and PARAM (R463). -/
def attMax (clk : BitVec 2) (p : Nat) : Nat :=
  match clk.toNat, p with
  | 0, 3 => 51 | 0, _ => 64
  | 1, 1 => 64 | 1, 2 => 50 | 1, _ => 38
  | _, 1 => 48 | _, 2 => 33 | _, _ => 25

/-- Latency in nanoseconds at 1.0 GHz (R475, R476); MLDSA_SIGN by its mean. The E of RSA_PUB, and the NLEN and ELEN of an
unkeyed modexp block, are not yet read when the Dispatcher needs them (assumption 20). -/
def latencyNs (d : Desc) : Nat :=
  let us (l : List Nat) : Nat := 1000 * l.getD (d.param - 1) 0
  match d.opcode with
  | 0x40 => if d.keySrc = 0 then expCycles (8 * elenOf d (descNlen d)) (montCycles (descNlen d))
            else if d.srcLen ≤ 256 then 440000 else 1330000
  | 0x5C => if d.keySrc = 0 then
              expCycles (8 * elenOf d (descNlen d)) (montSet (descNlen d) (coopUnits (descNlen d)))
            else 1710000
  | 0x41 => if d.srcLen ≤ 256 then 220000 else if d.srcLen ≤ 384 then 671000 else 1535000
  | 0x42 => expCycles 32 (montCycles (descNlen d))
  | 0x58 => let m := montCycles (descNlen d)
            match d.var with
            | 2 => m + 200
            | 3 => 16 * descNlen d * (2 * ceilDiv (8 * descNlen d) 256 + 4) + 200
            | 4 => 2 * m + 200
            | _ => 200
  | 0x44 => us [25, 58, 130]
  | 0x45 => us [44, 102, 230]
  | 0x46 => us [24, 56, 126]
  | 0x47 => us [20, 46, 104, 15, 48, 16, 50]
  | 0x48 => us [0, 0, 0, 18, 55] + perKib (if d.param = 4 then 128 else 36) d.srcLen
  | 0x49 => us [0, 0, 0, 40, 115] + perKib (if d.param = 4 then 64 else 18) (d.srcLen - edSig d.param)
  | 0x4A => us [0, 0, 0, 0, 0, 16, 50]
  | 0x50 => us [12, 18, 26]
  | 0x51 => us [14, 20, 28]
  | 0x52 => us [28, 40, 56]
  | 0x54 => us [36, 58, 86]
  | 0x55 => us [95, 163, 169] + perKib 18 d.srcLen
  | 0x56 => us [42, 66, 100] + perKib 18 (d.srcLen - dsaSig d.param)
  | _ => 0

/-- Latency without tables: 1.6 times for the fixed-base operations (R472). -/
def latencyNow (s : State) (d : Desc) : Nat :=
  if (!s.tableOk || s.noTable) ∧ (d.opcode = 0x44 ∨ d.opcode = 0x48 ∨ d.opcode = 0x47) then ceilDiv (latencyNs d * 8) 5
  else latencyNs d

/-- A time at 1.0 GHz, at the present CORE_CLK rate (R12). -/
def atRate (clk : BitVec 2) (ns : Nat) : Nat :=
  match clk.toNat with
  | 0 => ns
  | 1 => ceilDiv (ns * 4) 3
  | _ => ns * 2

/-- Is an operation split over two units (R477)? -/
def split (s : State) (d : Desc) : Bool :=
  (decide (d.opcode = 0x41) || (decide (d.opcode = 0x40) && decide (d.keySrc ≠ 0))) &&
  decide (2000000 < atRate s.boot.clkRate (latencyNow s d))

/-- Would an unkeyed exponentiation of these lengths take more than 2 ms (R475, R477)? -/
def expTooLong (s : State) (d : Desc) (nlen elen : Nat) : Bool :=
  let m := if d.opcode = 0x5C then montSet nlen (coopUnits nlen) else montCycles nlen
  decide (2000000 < atRate s.boot.clkRate (expCycles (8 * elen) m))

/-- Could an unkeyed modexp block of SRC_LEN bytes hold an NLEN and an ELEN that its opcode takes and that the bound of
2 ms admits (R458, R459, R477)? -/
def blockFits (s : State) (d : Desc) : Bool :=
  let k := if d.var = 1 then 3 else 2
  let lo := if d.opcode = 0x5C then 257 else 32
  let hi := min (if d.opcode = 0x5C then 2048 else 1024) ((d.srcLen - 9) / k)
  let first := max lo (ceilDiv (d.srcLen - 8) (k + 1))
  (List.range (hi + 1 - first)).any fun i => !expTooLong s d (first + i) (elenOf d (first + i))

/-- Does the Dispatcher's prediction exceed 2 ms (R477)? Of an unkeyed modexp block the descriptor shows only SRC_LEN:
admission refuses it when no block of that length is within the bound, and the unit judges the block that it reads
(assumption 20). -/
def tooLong (s : State) (d : Desc) : Bool :=
  if d.opcode = 0x55 then false
  else if (d.opcode = 0x40 ∨ d.opcode = 0x5C) ∧ d.keySrc = 0 then !blockFits s d
  else if split s d then decide (2000000 < atRate s.boot.clkRate (latencyNow s d / 2 + 4000))
  else decide (2000000 < atRate s.boot.clkRate (latencyNow s d))

/-- Units a candidate needs (R278, R473, R477). -/
def unitsNeeded (s : State) (d : Desc) : Nat :=
  if d.opcode = 0x5C then (if d.keySrc = 0 then coopUnits (descNlen d) else 8) else if split s d then 2 else 1

/-- Manger lines of a cooperative operation (R473). -/
def coopLines (d : Desc) : Nat :=
  if d.opcode = 0x5C then (if d.keySrc = 0 then 4 * ceilDiv (descNlen d) 512 else 8) else 0

/-- Lines of a VBR request (R391, R393). -/
def vbrLines (d : Desc) : Nat := if d.vbr ∧ d.dstSel ≠ 3 then ceilDiv (d.srcLen - d.aadSrc) 512 else 0

/-- Cost k of a candidate (R280). -/
def costOf (d : Desc) : Nat :=
  if opPool d.opcode = some .bignum then max 1 (ceilDiv (latencyNs d) 1000) else 1 + d.srcLen / 1024

/-! ### Reason 0x09 (R378, R379, R412, R458, R505, R545) -/

/-- AUX_LEN admitted by a key AUX block (R336). -/
def keyAuxLen (n : Nat) : Bool := decide (24 ≤ n ∧ n ≤ 120)

/-- Multiple of 16, at least 16. -/
def blocks16 (n : Nat) : Bool := decide (n % 16 = 0 ∧ 16 ≤ n)

/-- TLEN values of an opcode (R378, R407). -/
def tlenOk (s : State) (d : Desc) : Bool :=
  match d.opcode with
  | 0x0A | 0x0B => decide (12 ≤ d.tlen ∧ d.tlen ≤ 16) || (s.gcmShortTag && (decide (d.tlen = 4) || decide (d.tlen = 8)))
  | 0x0C | 0x0D => [4, 6, 8, 10, 12, 14, 16].contains d.tlen
  | 0x0E => decide (4 ≤ d.tlen ∧ d.tlen ≤ 16)
  | 0x11 | 0x12 => decide (d.tlen = 16)
  | _ => decide (d.tlen0 = 0)

/-- KSZ values of an opcode (R373). -/
def kszOk (d : Desc) : Bool :=
  if 0x10 ≤ d.opcode then decide (d.ksz = 2)
  else if d.opcode = 5 ∨ d.opcode = 6 then decide (d.ksz = 0) || decide (d.ksz = 2)
  else decide (d.ksz ≠ 3)

/-- SRC_LEN rule of a cipher opcode (R378-R380, R383, R386). -/
def cipherLenOk (d : Desc) : Bool :=
  match d.opcode with
  | 0x00 | 0x01 | 0x02 | 0x03 => blocks16 d.srcLen
  | 0x04 => decide (1 ≤ d.srcLen) && [0, 32, 64].contains (field d.imm 0 8).toNat
  | 0x05 | 0x06 =>
    let du := (field d.imm 0 32).toNat
    decide (16 ≤ d.srcLen) &&
    (if du = 0 then decide (d.srcLen ≤ 2 ^ 24)
     else decide (du % 16 = 0) && decide (16 ≤ du) && decide (du ≤ 2 ^ 24) && decide (d.srcLen % du = 0))
  | 0x07 | 0x08 | 0x09 => decide (1 ≤ d.srcLen)
  | 0x0E => true
  | 0x10 => decide (1 ≤ d.srcLen) && decide (d.srcLen ≤ (2 ^ 32 - (field d.imm 0 32).toNat) * 64)
  | _ => decide (d.aadSrc ≤ d.srcLen)

/-- Cipher rules visible in the descriptor (R373-R395). -/
def cipherOk (s : State) (d : Desc) : Bool :=
  kszOk d && tlenOk s d && cipherLenOk d &&
  (if d.opcode = 0 ∨ d.opcode = 1 ∨ d.opcode = 0x0E then decide (d.auxLen = 0)
   else if aeadDec d.opcode || aeadEnc d.opcode then decide (40 ≤ d.auxLen ∧ d.auxLen ≤ 4096) else decide (d.auxLen = 40)) &&
  (!d.vbr || decide (d.dstSel = 3) || decide (d.srcLen - d.aadSrc ≤ 65536)) &&
  (!(s.vbrRequired && aeadDec d.opcode) || d.vbr || decide (d.dstSel = 3))

/-- Digest rules visible in the descriptor (R411-R416). -/
def digestOk (d : Desc) : Bool :=
  let out := (field d.imm 0 32).toNat
  let mac := (field d.imm 0 8).toNat
  let hash := decide (1 ≤ d.alg ∧ d.alg ≤ 9)
  let macOk := decide (mac = 0) || (decide (4 ≤ mac) && decide (mac ≤ algLen d.alg))
  match d.opcode with
  | 0x20 => hash && decide (d.auxLen = 0)
  | 0x21 => hash
  | 0x22 => (decide (d.alg = 10) || decide (d.alg = 11)) && decide (1 ≤ out ∧ out ≤ 65536) && decide (d.auxLen = 0)
  | 0x28 => hash && macOk && decide (d.auxLen = 0)
  | 0x29 => hash && macOk
  | _ => (decide (d.alg = 12) || decide (d.alg = 13)) && decide ((if d.opcode = 0x2C then 4 else 1) ≤ out ∧ out ≤ 65536) &&
         (decide (d.auxLen = 0) || decide (9 ≤ d.auxLen ∧ d.auxLen ≤ 256))

/-- PARAM and VAR of a big-number opcode (R455). -/
def paramOk (d : Desc) : Bool :=
  let p := d.param
  let v := d.var
  match d.opcode with
  | 0x44 => decide (1 ≤ p ∧ p ≤ 3) && decide (v ≤ 1)
  | 0x45 | 0x46 => decide (1 ≤ p ∧ p ≤ 3) && decide (v = 0)
  | 0x47 => decide (1 ≤ p ∧ p ≤ 7) && decide (v = 0)
  | 0x48 | 0x49 => decide (4 ≤ p ∧ p ≤ 5) && decide (v ≤ 2)
  | 0x4A => decide (6 ≤ p ∧ p ≤ 7) && decide (v = 0)
  | 0x50 | 0x51 | 0x52 | 0x54 | 0x56 => decide (1 ≤ p ∧ p ≤ 3) && decide (v = 0)
  | 0x55 => decide (1 ≤ p ∧ p ≤ 3) && decide (v ≤ 1)
  | 0x58 => decide (p = 0) && decide (v ≤ 4)
  | 0x40 | 0x5C => decide (p = 0) && decide (v ≤ (if d.keySrc = 0 then 1 else 0))
  | _ => decide (p = 0) && decide (v = 0)

/-- Context length rule of EdDSA and ML-DSA (R455, R458). -/
def contextOk (d : Desc) (n : Nat) : Bool :=
  if 0x54 ≤ d.opcode then decide (n ≤ 255)
  else match d.var with
  | 0 => decide (n = 0)
  | 1 => decide (n ≤ 255) && (decide (d.param = 5) || decide (1 ≤ n))
  | _ => decide (n ≤ 255)

/-- Lengths of a big-number opcode visible in the descriptor (R457, R458, R463). -/
def bnLenOk (d : Desc) : Bool :=
  let p := d.param
  let hash := decide (20 ≤ d.srcLen ∧ d.srcLen ≤ 64)
  let noAux := decide (d.auxLen = 0)
  let ed (n : Nat) : Bool := if d.var = 2 then decide (n = 64) else decide (n ≤ 65536)
  match d.opcode with
  | 0x40 => noAux && (if d.keySrc = 0 then decide (8 + 32 * 2 + 1 ≤ d.srcLen) && decide (d.srcLen ≤ 8 + 4 * 1024)
              else decide (d.srcLen % 8 = 0) && decide (128 ≤ d.srcLen ∧ d.srcLen ≤ 384))
  | 0x41 => noAux && decide (d.srcLen % 8 = 0) && decide (128 ≤ d.srcLen ∧ d.srcLen ≤ 512)
  | 0x42 => decide (72 ≤ d.auxLen ∧ d.auxLen ≤ 1032) && decide (d.srcLen = d.auxLen - 8)
  | 0x44 => noAux && hash
  | 0x45 => hash && decide (d.auxLen = 1 + 4 * curveLen p)
  | 0x46 | 0x4A => decide (d.auxLen = ecPub p)
  | 0x47 | 0x50 | 0x54 => noAux || (decide (d.keySrc = 0) && keyAuxLen d.auxLen)
  | 0x48 => ed d.srcLen && contextOk d d.auxLen
  | 0x49 => decide (edSig p ≤ d.srcLen) && ed (d.srcLen - edSig p) && decide (ecPub p ≤ d.auxLen) && contextOk d (d.auxLen - ecPub p)
  | 0x51 => decide (d.auxLen = kemEk p)
  | 0x52 => noAux && decide (d.srcLen = kemCt p)
  | 0x55 => decide (d.srcLen ≤ 65536) && contextOk d d.auxLen && (decide (d.var = 1) || decide (field d.imm 0 8 = 0))
  | 0x56 => decide (dsaSig p ≤ d.srcLen) && decide (d.srcLen - dsaSig p ≤ 65536) && decide (dsaPk p ≤ d.auxLen) &&
            contextOk d (d.auxLen - dsaPk p)
  | 0x58 => noAux && decide (32 ≤ descNlen d ∧ descNlen d ≤ 1024) &&
            decide (d.srcLen = 8 + (if d.var = 3 then 2 else if d.var = 4 then 3 else 3) * descNlen d)
  | 0x5C => noAux && (if d.keySrc = 0 then decide (8 + 257 * 2 + 1 ≤ d.srcLen) && decide (d.srcLen ≤ 8 + 4 * 2048)
              else decide (d.srcLen % 8 = 0) && decide (520 ≤ d.srcLen ∧ d.srcLen ≤ 1024))
  | _ => true

/-- Other opcodes' rules visible in the descriptor (R335-R337, R435, R505, R508, R545). -/
def miscOk (s : State) (d : Desc) : Bool :=
  let n := (field d.imm 0 32).toNat
  let noAux := decide (d.auxLen = 0)
  match d.opcode with
  | 0x30 => noAux && (decide (d.dstLen = 0) || decide (48 ≤ d.dstLen)) &&
            (if bit d.mode 0 then decide (d.srcLen = 0) else if bit d.mode 1 then decide (d.srcLen ≤ 65536)
             else decide (d.srcLen = 48))
  | 0x60 => noAux && decide (1 ≤ n ∧ n ≤ 65536)
  | 0x61 => (noAux || decide (d.auxLen = 48))
  | 0x68 => noAux && decide (n % 8 = 0) && decide (8 ≤ n ∧ n ≤ 524288) && s.ent.rawEn
  | 0x72 => keyAuxLen d.auxLen && decide (klen d.imm ≤ 512)
  | 0x73 => noAux || keyAuxLen d.auxLen
  | 0x74 => (noAux || keyAuxLen d.auxLen) && (decide (1 ≤ d.alg ∧ d.alg ≤ 9) || decide (d.alg = 12) || decide (d.alg = 13))
  | 0x76 => keyAuxLen d.auxLen
  | 0x77 => (noAux || keyAuxLen d.auxLen) && decide (d.srcLen = klen d.imm)
  | 0x80 => decide (1 ≤ d.srcLen ∧ d.srcLen ≤ 0x1000000)
  | 0x81 => decide (1 ≤ d.dstLen ∧ d.dstLen ≤ 0x1000000)
  | 0x84 | 0x85 => decide (d.srcSel = 2) &&
            decide (d.src % 8 = 0) && decide (d.srcLen = 8) && (decide (d.dstSel = 0) || decide (d.dstSel = 2)) &&
            (decide (d.dstLen = 0) || decide (d.dstLen = 8))
  | 0x86 => decide (d.srcSel ≠ 1) && decide (d.srcLen = 512) && decide (d.dstSel = 2) &&
            decide (d.dst % 512 = 0) && decide (d.dstLen = 512)
  | 0x88 => decide (d.dstSel = 2) && decide (d.dst % 512 = 0) && decide (d.dstLen % 512 = 0) &&
            decide (512 ≤ d.dstLen ∧ d.dstLen ≤ 0x1000000)
  | _ => true

/-- Length, MODE and AUX_LEN rules that the descriptor alone shows, and the 2 ms prediction (R794 reason 6, R477). -/
def rangeOk (s : State) (d : Desc) : Bool :=
  match opPool d.opcode with
  | some .cipher => cipherOk s d
  | some .digest => digestOk d
  | some .bignum => paramOk d && bnLenOk d && !tooLong s d
  | _ => miscOk s d

/-! ### The descriptor-form check (R249, R794) -/

/-- Is an opcode, or a setting of it, not permitted to the stall's world (reason 0x03)? -/
def worldBad (s : State) (n : StallId) (d : Desc) : Bool :=
  let secure := s.stalls[n].secure
  match d.opcode with
  | 0x68 | 0x61 | 0x76 => !secure
  | 0x60 => bit d.mode 0 && !secure && !s.ent.prNormal
  | 0x84 => bit d.mode 1 && !secure
  | 0x30 =>
    let k := (field d.imm 0 6).toNat
    !((decide (k < 2) && bit d.mode 0) || (decide (2 ≤ k ∧ k < 48) && bit s.stalls[n].mrOwn k))
  | _ => false

/-- An intermediate named outside a chain, a size out of range, or a key, random-key or copy operand that may not be an
intermediate (reason 0x06 of one descriptor). -/
def interBad (d : Desc) (inChain : Bool) : Bool :=
  (!inChain && (decide (d.dstSel = 3) || (hasSrc d && decide (d.srcSel = 3)) || decide (d.keySrc = 4))) ||
  (decide (d.dstSel = 3) && !(decide (1 ≤ d.interLines ∧ d.interLines ≤ 256))) ||
  (isKeygen d.opcode && decide (d.keySrc = 0) && decide (d.dstSel = 3)) ||
  ((decide (d.opcode = 0x70) || decide (d.opcode = 0x77)) && decide (d.dstSel = 3)) ||
  (decide (d.opcode = 0x80) && decide (d.srcSel = 3)) || (inChain && decide (d.opcode = 0x71) && decide (d.dstSel ≠ 3)) ||
  (decide (d.opcode = 0x81) && decide (d.dstSel = 3) && decide (512 * d.interLines < d.dstLen))

/-- Reasons 0x01, 0x02, 0x08, 0x03, 0x0A and 0x09 of one descriptor, the first that applies (R794). -/
def formErr (s : State) (n : StallId) (d : Desc) (inChain later : Bool) : Option Byte :=
  match opForm d with
  | none => some 0x01
  | some f =>
    if reason2 f d later then some 0x02
    else if 0xF0 ≤ d.opcode ∧ (d.harness ∨ inChain) then some 0x08
    else if worldBad s n d then some 0x03
    else if !f.keys.contains d.keySrc.toNat then some 0x0A
    else if !rangeOk s d then some 0x09
    else none

/-- DETAIL of a LENGTH_SHORT for a destination too small (R414, R418). -/
def shortDetail (d : Desc) : Byte := if opPool d.opcode = some .digest then 0x02 else 0x00

/-- Is the output, known from the descriptor, longer than the destination (R239, R387, R794)? -/
def outShort (d : Desc) : Bool :=
  hasDst d && !(decide (d.opcode = 0x71)) &&
  match outLenOf d with
  | some n => decide (d.dstLen < n) || (decide (d.dstSel = 3) && decide (512 * d.interLines < n) && !decide (d.opcode = 0x51))
  | none => false

/-! ### Intermediates of a chain (R253) -/

/-- The class with which a member writes an intermediate: KEY for keys and shared secrets. -/
def writesKey (d : Desc) : Bool :=
  [0x71, 0x72, 0x73, 0x46, 0x4A, 0x51, 0x52].contains d.opcode

/-- One member against the intermediates written before it: index and class; none when a rule is broken. BLOB_WRAP takes no
DATA intermediate as its SRC (R335); that too is taken as a broken intermediate rule of the chain, DETAIL 0x06
(assumption 67). -/
def interStep (known : List (Nat × Bool)) (d : Desc) : Option (List (Nat × Bool)) :=
  let cls (i : Nat) : Option Bool := (known.find? fun x => decide (x.1 = i)).map (·.2)
  let srcOk := !(hasSrc d && decide (d.srcSel = 3)) ||
    match cls d.src with
    | none => false
    | some true => decide (d.opcode = 0x70)
    | some false => decide (d.opcode ≠ 0x70)
  let keyOk := !decide (d.keySrc = 4) || decide (cls d.keyRef.toNat = some true)
  if !srcOk || !keyOk then none
  else if hasDst d ∧ d.dstSel = 3 then
    (if (cls d.dst).isSome then none else some ((d.dst, writesKey d) :: known))
  else some known

/-- Do the members of a chain keep the intermediate rules (R253)? -/
def interRules : List (Nat × Bool) → List Desc → Bool
  | _, [] => true
  | known, d :: t => match interStep known d with
    | none => false
    | some k => interRules k t

/-- Bytes of a local destination that a request names (R189). -/
def dstSpanLen (d : Desc) : Nat :=
  match d.opcode with
  | 0x40 | 0x5C | 0x41 => if d.keySrc = 0 then d.dstLen else min d.srcLen d.dstLen
  | _ => (outLenOf d).getD d.dstLen

/-- Local ranges a request names (R189, R334, R351, R545). -/
def accesses (d : Desc) : List Access :=
  let src : List Access := if hasSrc d ∧ d.srcSel = 2 then
    (match d.opcode with
     | 0x84 => { addr := d.src, len := 8, need := .red } ::
               (if bit d.mode 1 then [{ addr := d.src, len := 8, need := .wr }] else [])
     | _ => [{ addr := d.src, len := d.srcLen, need := .rd }]) else []
  let dst : List Access := if hasDst d ∧ d.dstSel = 2 then
    (match d.opcode with
     | 0x86 => [{ addr := d.dst, len := 512, need := .red }]
     | 0x88 => { addr := d.dst, len := d.dstLen, need := .rd } ::
               (if bit d.mode 0 then [{ addr := d.dst, len := d.dstLen, need := .wr }] else [])
     | _ => [{ addr := d.dst, len := dstSpanLen d, need := .wr }]) else []
  src ++ dst

end Sys2Proof.Machine
end

