-- ==== Sys2Proof/Machine/Keys.lean ====
section
/-! DEFINITION. Keys: the ladder, blobs, attribute checks, tally grants, key registers and the keyed-state store (07). -/

namespace Sys2Proof.Machine

/-! ### Standards' functions -/

/-- n bytes of the output of a standard's function (assumption 2). -/
def stdBytes (f : StdFn) (ins : List (List Byte)) (n : Nat) : List Byte := (List.range n).map (Config.stdByte f ins)

/-- SHA-384 (R44, R432). -/
def sha384 (bs : List Byte) : List Byte := stdBytes (.digest 3) [bs] 48

/-! ### The ladder (R328-R331, R337) -/

/-- The KDF of R328: counter-mode CMAC-AES-256, L in bytes. -/
def kdf (kin label ctx : List Byte) (n : Nat) : List Byte :=
  let block (i : Nat) : List Byte :=
    stdBytes .cmac [kin, beBytes 4 (i + 1) ++ label ++ [0] ++ ctx ++ beBytes 4 (8 * n)] 16
  ((List.range (ceilDiv n 16)).flatMap block).take n

/-- The root in use: TS0, or the Test Root while DEBUG_OPEN is 1 (R331). -/
def rootKey (s : State) : List Byte :=
  if s.tkr.debugOpen then stdBytes (.digest 2) [ascii "Ryuwald GY6448 test root"] 32
  else leBytes 32 s.tkr.slots[0].value.toNat

/-- WORLD as one byte (R329). -/
def worldByte (s : State) (n : StallId) : Byte := if s.stalls[n].secure then 1 else 0

/-- Domain root of a stall (R329). -/
def domainRoot (s : State) (n : StallId) : List Byte :=
  kdf (rootKey s) (ascii "GY6448 DROOT") (leBytes 4 s.stalls[n].domain.toNat ++ [worldByte s n]) 32

/-- KEK of a stall (R329). -/
def stallKek (s : State) (n : StallId) : List Byte :=
  kdf (rootKey s) (ascii "GY6448 KEK")
    (leBytes 4 s.stalls[n].domain.toNat ++ [worldByte s n] ++ leBytes 3 s.stalls[n].kekGen.toNat) 32

/-- K_in of a KEY_DERIVE parent: itself, or 32 bytes extracted from a shared secret under a zero salt (R337). -/
def deriveKin (k : Key) : List Byte := if ktype k.attr = 0x1B then stdBytes .extract [zeros 32, k.value] 32 else k.value

/-! ### Blobs (R332, R333) -/

/-- Header of a blob under a stall's KEK. -/
def blobHeader (s : State) (n : StallId) (k : Key) (iv : List Byte) : List Byte :=
  ascii "BLB1" ++ [1, 0, 0, 0] ++ leBytes 8 k.attr.toNat ++ leBytes 4 s.stalls[n].domain.toNat ++
  leBytes 3 s.stalls[n].kekGen.toNat ++ [worldByte s n] ++ leBytes 8 k.tallyAddr.toNat ++ leBytes 8 k.tallyLimit.toNat ++
  iv ++ zeros 12

/-- A key wrapped under a stall's KEK with a 12-byte IV (R332). -/
def wrapBlob (s : State) (n : StallId) (k : Key) (iv : List Byte) : List Byte :=
  let h := blobHeader s n k iv
  let p := roundUp (klen k.attr) 16
  let ct := stdBytes .blobSeal [stallKek s n, iv, slice k.value 0 p] p
  h ++ ct ++ stdBytes .blobTag [stallKek s n, iv, h, ct] 16

/-- What unwrapping finds: a key with the blob's tag, or the DETAIL of KEY_BAD_SLOT (R333, R359). -/
inductive Unwrapped where
  | key (k : Key) (tag : List Byte)
  | bad (detail : Byte)
  deriving DecidableEq, Repr

/-- Unwrap a blob for a stall (R333). -/
def unwrapBlob (s : State) (n : StallId) (b : List Byte) : Unwrapped :=
  let attr := BitVec.ofNat 64 (fieldAt b 8 8)
  let p := roundUp (klen attr) 16
  let ta := fieldAt b 0x18 8
  if slice b 0 8 ≠ ascii "BLB1" ++ [1, 0, 0, 0] ∨ !zeroAt b 0x34 12 ∨ ta % 8 ≠ 0 ∨ 2 ^ 34 ≤ ta ∨
     (ta = 0 ∧ fieldAt b 0x20 8 ≠ 0) then .bad 0x04
  else if slice b 0x10 8 ≠ leBytes 4 s.stalls[n].domain.toNat ++ leBytes 3 s.stalls[n].kekGen.toNat ++ [worldByte s n] then .bad 0x04
  else
    let iv := slice b 0x28 12
    let ct := slice b 0x40 p
    let tag := slice b (0x40 + p) 16
    if stdBytes .blobTag [stallKek s n, iv, slice b 0 0x40, ct] 16 ≠ tag then .bad 0x05
    else
      let pt := stdBytes .blobOpen [stallKek s n, iv, ct] p
      if !zeroAt pt (klen attr) (p - klen attr) then .bad 0x05
      else if attrBad attr then .bad 0x03
      else .key { value := pt.take (klen attr), attr := attr, tallyAddr := BitVec.ofNat 64 ta,
                  tallyLimit := BitVec.ofNat 64 (fieldAt b 0x20 8) } tag

/-! ### Attribute checks (R323-R326) -/

/-- KTYPEs that an opcode accepts with its MODE (R323, R374, R456, R337, R342); none: any. -/
def ktypesOf (d : Desc) : Option (List Nat) :=
  let p := d.param
  let ec := if p ≤ 3 then 0x10 + p - 1 else 0x13 + p - 4
  match d.opcode with
  | 0x05 | 0x06 => some [if d.ksz = 0 then 4 else 5]
  | 0x10 | 0x11 | 0x12 => some [6]
  | 0x28 | 0x29 => some [8]
  | 0x2C | 0x2D => some [9]
  | 0x40 | 0x41 | 0x5C => some [0x1A]
  | 0x44 | 0x46 | 0x47 | 0x48 | 0x4A => some [ec]
  | 0x50 | 0x52 => some [0x18]
  | 0x54 | 0x55 => some [0x19]
  | 0x72 => some [0x0A, 0x1B]
  | 0x74 => some [if d.alg ≤ 9 then 8 else 9]
  | op => if op ≤ 0x0E then some [d.ksz + 1] else none

/-- Usage bits, either of which suffices (R324); KSTATE_LOAD needs KSTATE and MAC. -/
def usageOk (d : Desc) (a : BitVec 64) : Bool :=
  match d.opcode with
  | 0x04 | 0x09 | 0x10 => bit a 24 || bit a 25
  | 0x00 | 0x02 | 0x05 | 0x07 | 0x0A | 0x0C | 0x11 => bit a 24
  | 0x01 | 0x03 | 0x06 | 0x08 | 0x0B | 0x0D | 0x12 => bit a 25
  | 0x0E | 0x28 | 0x29 | 0x2C | 0x2D => bit a 26
  | 0x40 | 0x41 | 0x5C | 0x44 | 0x48 | 0x55 => bit a 27
  | 0x46 | 0x4A | 0x52 => bit a 28
  | 0x47 | 0x50 | 0x54 => bit a 27 || bit a 28
  | 0x72 => bit a 29
  | 0x70 => bit a 30
  | 0x74 => bit a 31 && bit a 26
  | _ => true

/-- Do the world, stall and life-cycle conditions of a key hold for a stall (R325, conditions 3 to 5)? -/
def placeOk (s : State) (n : StallId) (a : BitVec 64) : Bool :=
  let w := (field a 32 2).toNat
  (decide (w = 0) || (decide (w = 1) && !s.stalls[n].secure) || (decide (w = 2) && s.stalls[n].secure)) &&
  (!bit a 34 || decide ((field a 35 6).toNat = n.val)) &&
  (match lcCode s with
   | 1 => bit a 41
   | 2 => bit a 42
   | _ => false) && !lcPartial s && decide (s.tkr.lcBusy ≠ some .retire)

/-- DETAIL of the first failing condition of R325; KLEN fits its type by R322. -/
def attrErr (s : State) (n : StallId) (d : Desc) (a : BitVec 64) (bound : Bool) : Option Byte :=
  if !((ktypesOf d).map fun l => l.contains (ktype a)).getD true then some 0x01
  else if !usageOk d a then some 0x02
  else if !placeOk s n a then some 0x03
  else if s.tkr.debugOpen ∧ !bit a 43 then some 0x04
  else if bit a 45 ∧ !bound then some 0x0A
  else if s.boot.keysLocked then some 0x06
  else none

/-- Attribute word of a domain root (R330). -/
def domainAttr (s : State) (n : StallId) : BitVec 64 :=
  place 0 (0x0A#5) ||| place 8 (32#13) ||| flag 29 true ||| place 32 (if s.stalls[n].secure then 2#2 else 1#2) |||
  flag 41 true ||| flag 42 true ||| flag 43 true

/-- Is a child no broader than its parent (R326)? -/
def narrower (parent child : BitVec 64) : Bool :=
  (decide (field parent 32 2 = 0) || decide (field child 32 2 = field parent 32 2)) &&
  (!bit parent 34 || (bit child 34 && decide (field child 35 6 = field parent 35 6))) &&
  (!bit child 41 || bit parent 41) && (!bit child 42 || bit parent 42) && (!bit child 43 || bit parent 43)

/-- Attribute word of a shared secret made with a private key (R327). -/
def secretAttr (priv : BitVec 64) (n : Nat) : BitVec 64 :=
  place 0 (0x1B#5) ||| place 8 (BitVec.ofNat 13 n) ||| flag 29 true ||| flag 30 (bit priv 30) ||| place 32 (field priv 32 2) |||
  flag 34 (bit priv 34) ||| place 35 (field priv 35 6) ||| flag 41 (bit priv 41) ||| flag 42 (bit priv 42) ||| flag 43 (bit priv 43)

/-- Attribute word of the secret of MLKEM_ENCAPS (R327). -/
def encapsAttr (s : State) (n : StallId) : BitVec 64 :=
  place 0 (0x1B#5) ||| place 8 (32#13) ||| flag 29 true ||| place 32 (if s.stalls[n].secure then 2#2 else 1#2) ||| flag 34 true |||
  place 35 (BitVec.ofNat 6 n.val) ||| flag 41 true ||| flag 42 true

/-! ### Finding a key (R318, R330, R344, R350) -/

/-- A key found, or the status and DETAIL that its request ends with. -/
inductive Found where
  | key (k : Key) (kind : Nat) (mode : Byte)
  | none (status detail : Byte)
  deriving DecidableEq, Repr

/-- The tally binding of a slot (R350, R371). -/
def slotBind (s : State) (k : SlotId) : Option TBind := s.tkr.tbind.toList.find? fun b => b.valid && decide (b.slot = BitVec.ofNat 9 k.val)

/-- The key of a slot for an opcode (R318, R330). -/
def findSlot (s : State) (n : StallId) (op : Nat) (k : SlotId) : Found :=
  if k.val = 0 then
    (if op ≠ 0x72 then .none 0x21 0x07
     else match s.tkr.slots[k].state, s.tkr.debugOpen with
      | .valid, _ | _, true => .key { value := domainRoot s n, attr := domainAttr s n, tallyAddr := 0, tallyLimit := 0 } 0 0
      | .bad, _ => .none 0x21 0x02
      | _, _ => .none 0x21 0x01)
  else
    let x := s.tkr.slots[k]
    match x.state with
    | .unprogrammed | .programming => .none 0x21 0x01
    | .bad => .none 0x21 0x02
    | .valid =>
      if attrBad x.attr ∨ 32 < klen x.attr then .none 0x21 0x03
      else
        let b := slotBind s k
        .key { value := (leBytes 32 x.value.toNat).take (klen x.attr), attr := x.attr,
               tallyAddr := (b.map (·.tallyAddr)).getD 0, tallyLimit := (b.map (·.tallyLimit)).getD 0 } 0 0

/-- The key of a keyed-state entry for a use of a stall that was admitted with its handle: a drop since then does not
matter (R344, R346). -/
def heldEntry (s : State) (n : StallId) (h : Handle) : Found :=
  let e := s.tkr.store[h]
  if e.kind = 0 ∨ e.stall ≠ n then .none 0x21 0x05 else .key e.key e.kind.toNat e.mode

/-- The key of a keyed-state entry for a new use: a dropped entry is free for it (R344, R346). -/
def findEntry (s : State) (n : StallId) (h : Handle) : Found :=
  if s.tkr.store[h].dropped then .none 0x21 0x05 else heldEntry s n h

/-- The key of a KEY intermediate (R253, R351): no binding. -/
def findInter (s : State) (chain : Nat) (i : Fin 8) : Found :=
  match s.inters.find? fun x => decide (x.chain = chain) && decide (x.i = i) && x.isKey with
  | some x => .key { value := x.bytes, attr := x.attr, tallyAddr := 0, tallyLimit := 0 } 0 0
  | none => .none 0x21 0x05

/-- The key that a request names by slot, handle or intermediate. -/
def findKey (s : State) (n : StallId) (chain : Nat) (d : Desc) : Found :=
  match d.keySrc.toNat with
  | 1 => findSlot s n d.opcode (toFin 512 (by decide) d.keyRef.toNat)
  | 3 => findEntry s n (toFin 2048 (by decide) d.keyRef.toNat)
  | _ => findInter s chain (toFin 8 (by decide) d.keyRef.toNat)

/-- The key that an admitted request names: as findKey, but a handle dropped since its admission still serves (R346). -/
def heldKey (s : State) (n : StallId) (chain : Nat) (d : Desc) : Found :=
  if d.keySrc = 3 then heldEntry s n (toFin 2048 (by decide) d.keyRef.toNat) else findKey s n chain d

/-- Do the kind and MODE of a keyed-state entry serve a request (R341, R342, R375, R420)? -/
def kindErr (d : Desc) (kind : Nat) (mode : Byte) : Option (Byte × Byte) :=
  if kind ≤ 1 then none
  else if d.opcode = 0x70 then some (0x20, 0x05)
  else
    let serves := if kind = 2 then decide (d.opcode = 0x28 ∨ d.opcode = 0x29) else decide (d.opcode = 0x2C ∨ d.opcode = 0x2D)
    if !serves || decide (d.alg ≠ mode.toNat) then some (0x20, 0x01)
    else if kind = 3 ∧ d.auxLen ≠ 0 then some (0x30, 0x09)
    else none

/-- Check a key for a use: status and DETAIL of the first failure (R325, R342). -/
def keyErr (s : State) (n : StallId) (d : Desc) (f : Found) : Option (Byte × Byte) :=
  match f with
  | .none st dt => some (st, dt)
  | .key k kind mode =>
    match kindErr d kind mode with
    | some e => some e
    | none =>
      if d.opcode = 0x76 then none else
      if kind = 2 ∨ kind = 3 then
        (if !placeOk s n k.attr then some (0x20, 0x03)
         else if s.tkr.debugOpen ∧ !bit k.attr 43 then some (0x20, 0x04)
         else if s.boot.keysLocked then some (0x20, 0x06) else none)
      else (attrErr s n d k.attr (decide (k.tallyAddr ≠ 0))).map fun x => (0x20, x)

/-- Bump the tally of a bound key; the failure, if the use is not granted (R350, R351). A tally that admission has checked
is not checked again; another is checked under the epoch of the request (R189, R264). A bump that meets a poisoned sector
raises the source of the tally's home slice (R558). -/
def grantUse (s : State) (n : StallId) (ep : BitVec 16) (checked : BitVec 64) (k : Key) : State × Option (Byte × Byte) :=
  if k.tallyAddr = 0 then (s, none) else
  let a := k.tallyAddr.toNat
  match if k.tallyAddr = checked then .ok else pkCheckAt s ep (some n) [{ addr := a, len := 8, need := .red }] with
  | .denied p => (logDeny s (some n) (.denied p), some (0x31, 0))
  | .conflict p e => (logDeny s (some n) (.conflict p e), some (0x33, 0))
  | .ok =>
    if coPoisoned s a 8 then
      (match homeSlice s (lineOf a) with
       | some m => (raiseHs s (sliceHs m) (some n), some (0x70, 0))
       | none => (s, some (0x70, 0)))
    else
    let prior := tallyAt s a
    (bump s n a, if prior.toNat < k.tallyLimit.toNat then none else some (0x22, 0))

/-! ### Key registers (R276, R348) -/

/-- Does a unit's register hold the key that a descriptor of a stall names? -/
def holdsKey (s : State) (u : UnitId) (n : StallId) (d : Desc) : Bool :=
  match s.units[u].keyReg with
  | some r => decide (r.stall = n) && decide (r.keySrc = d.keySrc) && decide (r.keyRef = d.keyRef) && decide (r.keyLocal = d.keyLocal)
  | none => false

/-- The register of a unit, when it holds the key that a descriptor of a stall names, with a blob's TAG (R348). -/
def sameReg (s : State) (u : UnitId) (n : StallId) (d : Desc) (tag : List Byte) : Option KeyReg :=
  if holdsKey s u n d then s.units[u].keyReg.filter fun r => decide (r.tag = tag) else none

/-- Load a unit's key register; AES encryption round keys follow, and a register reused keeps its decryption round keys
(R347, R348, R396). -/
def loadReg (s : State) (u : UnitId) (n : StallId) (d : Desc) (k : Key) (tag : List Byte) : State :=
  let dec := ((sameReg s u n d tag).map (·.decKeys)).getD false
  setUnit s u fun x => { x with keyReg := some { stall := n, keySrc := d.keySrc, keyRef := d.keyRef, keyLocal := d.keyLocal,
                                                 tag := tag, key := k, encKeys := aesKey k.attr, decKeys := dec,
                                                 lastUse := s.cycle } }

/-- Load the register of the unit a request runs on. -/
def loadUnits (s : State) (q : Req) (k : Key) (tag : List Byte) : State :=
  (q.unit.toList ++ q.coop).dedup.foldl (fun s u => loadReg s u q.stall q.desc k tag) s

/-! ### The keyed-state store (R343-R346) -/

/-- Is an entry of the store free? -/
def entryFree (s : State) (h : Handle) : Bool := decide (s.tkr.store[h].kind = 0)

/-- The next free handle in ascending cyclic order after the last one allocated (R344). -/
def nextFree (s : State) : Option Handle :=
  let all := (List.range 2048).map fun i => toFin 2048 (by decide) (s.tkr.nextHandle + i)
  all.find? fun h => entryFree s h

/-- Put an entry in the store; the cyclic order goes on after it. -/
def putEntry (s : State) (h : Handle) (e : Entry) : State :=
  { s with tkr := { s.tkr with store := upd s.tkr.store h fun _ => e, nextHandle := (h.val + 1) % 2048 } }

end Sys2Proof.Machine
end

