-- ==== Sys2Proof/Machine/Reads.lean ====
section
/-! DEFINITION. Host reads: how a read is cut, what a request still has to read, and what arrives (03, 05). -/

namespace Sys2Proof.Machine

/-! ### Cutting (R124) -/

/-- Max_Read_Request_Size in bytes (R108). -/
def mrrsBytes (s : State) (f : Fn) : Nat := 128 * 2 ^ (fnState s f).mrrs.toNat

/-- A range cut into reads within a size and 4 KiB blocks; the fuel bounds their number. -/
def cut (m : Nat) : Nat → Nat → Nat → List (Nat × Nat)
  | 0, _, _ => []
  | fuel + 1, a, n =>
    if n = 0 then [] else
    let k := tlpLen m a n
    (a, k) :: cut m fuel (a + k) (n - k)

/-- The read requests for a list of ranges. -/
def cutAll (s : State) (f : Fn) (spans : List (Nat × Nat)) : List (Nat × Nat) :=
  spans.flatMap fun x => cut (mrrsBytes s f) (x.2 / 64 + 2) x.1 x.2

/-- Tags a function's device may hold outstanding: 512, or 256 without 10-bit tags (R124). -/
def tagLimit (s : State) (f : Fn) : Nat := if (fnState s f).tag10 then 512 else 256

/-- Bytes of a source read that may be outstanding at once: the input buffer of the unit that takes it (R616, R618). -/
def readSpace (s : State) (r : Rd) : Nat :=
  match r.what with
  | .source i => match (findReq s i).bind fun q => opPool q.desc.opcode with
    | some .memory | some .measurement => 4096
    | _ => 8192
  | _ => 8192

/-- The leading parts of a read that fit a number of bytes. -/
def fitSpans : Nat → List (Nat × Nat) → List (Nat × Nat)
  | _, [] => []
  | room, x :: t => if x.2 ≤ room then x :: fitSpans (room - x.2) t else []

/-- Parts of a read outstanding at once: the rest is issued as space and tags come free, so a long read counts as at
its start (assumption 21). -/
def openSpans (s : State) (r : Rd) : List (Nat × Nat) := fitSpans (readSpace s r) r.spans

/-- Read tags of a list of reads. -/
def tagsOf (s : State) (rs : List Rd) : Nat := (rs.map fun r => (openSpans s r).length).foldl (· + ·) 0

/-- Bytes of completion buffer of a list of reads. -/
def bytesOf (s : State) (rs : List Rd) : Nat := (rs.flatMap fun r => (openSpans s r).map (·.2)).foldl (· + ·) 0

/-- Read tags in use (R124, R638). -/
def tagsUsed (s : State) : Nat := tagsOf s s.link.reads
/-- Reserved Alarm tags in use: Alarm reads take them first (R290, R638). -/
def alarmTags (s : State) : Nat := min 16 (tagsOf s (s.link.reads.filter (·.alarm)))

/-- Bytes of completion buffer kept for the reads of the 16 Alarm tags (R290). -/
def alarmBytes (s : State) (f : Fn) : Nat := 16 * mrrsBytes s f

/-- Read completion buffer reserved, in KiB (R638). -/
def cplBuf (s : State) : Nat := ceilDiv (bytesOf s s.link.reads) 1024

/-- Is there a tag for every part of a read, and completion-buffer space for all of its data: of the 512 or 256 tags and the
128 KiB, 16 tags and their space are kept for Alarm work (R124, R290, R616, R618)? -/
def readRoom (s : State) (r : Rd) : Bool :=
  let al := s.link.reads.filter (·.alarm)
  let keepTags := if r.alarm then 0 else 16 - min 16 (tagsOf s al)
  let keepBytes := if r.alarm then 0 else alarmBytes s r.fn - min (alarmBytes s r.fn) (bytesOf s al)
  decide (tagsUsed s + tagsOf s [r] + keepTags ≤ tagLimit s r.fn) &&
  decide (bytesOf s s.link.reads + bytesOf s [r] + keepBytes ≤ 131072)

/-- The request a read is for. -/
def ReadFor.req : ReadFor → Option Nat
  | .fetch _ _ _ => none
  | .aux i | .segment i | .source i | .blob i => some i

/-- Does an earlier request's data write of the same stall still wait in the posted-write buffer? A read of request data
follows it on the link (R262; which reads wait, assumption 70). -/
def behindWrite (s : State) (r : Rd) : Bool :=
  match r.what.req with
  | none => false
  | some i => s.link.pwb.any fun w => decide (w.kind = .data) && decide (w.stall = some r.stall) && (w.req.map (decide <| · < i)).getD false

/-- Is the request of a waiting read still in need of it? -/
def readWanted (s : State) (r : Rd) : Bool :=
  match r.what.req.bind (findReq s) with
  | some q => q.done.isNone
  | none => false

/-- May a waiting read go on the link now? -/
def readMay (s : State) (r : Rd) : Bool := readRoom s r && !behindWrite s r && !(fnState s r.fn).flr

/-- A read goes on the link. -/
def sendRead (s : State) (r : Rd) : State := emit { s with link := { s.link with reads := s.link.reads ++ [r] } } (.read r)

/-- The waiting reads in order, each sent if it may be, dropped if its request has ended, else left waiting. -/
def pumpList (s : State) : List Rd → State
  | [] => s
  | r :: t =>
    if !readWanted s r then pumpList s t
    else if readMay s r then pumpList (sendRead s r) t
    else pumpList { s with link := { s.link with readQ := s.link.readQ ++ [r] } } t

/-- Waiting reads go on the link as tags, space and earlier writes allow, those of Alarm work first (R124, R290, R618). -/
def pumpReads (s : State) : State :=
  let q := s.link.readQ
  if q.isEmpty then s else
  pumpList { s with link := { s.link with readQ := [] } } (q.filter (·.alarm) ++ q.filter (!·.alarm))

/-- Completion timeout in microseconds by Completion Timeout Value; a value not listed is handled as 0 (R137). -/
def timeoutUs (v : BitVec 4) : Nat :=
  match v.toNat with
  | 1 => 80
  | 2 => 8000
  | _ => 50000

/-- A read of a function for a ring, as it would go on the link now (R122, R124, R137). -/
def newRead (s : State) (f : Fn) (n : StallId) (ring : RingId) (what : ReadFor) (spans : List (Nat × Nat)) (pasid : BitVec 20)
    (alarm : Bool) : Rd :=
  { id := s.nextId, fn := f, ring := ring, stall := n, what := what, spans := cutAll s f spans, pasid := prefixOf s f pasid,
    alarm := alarm, timeoutUs := timeoutUs (fnState s f).cto }

/-- Ask for a read of a request: it goes on the link, or waits. -/
def issueRead (s : State) (f : Fn) (n : StallId) (ring : RingId) (what : ReadFor) (spans : List (Nat × Nat)) (pasid : BitVec 20)
    (alarm : Bool) : State :=
  let r := newRead s f n ring what spans pasid alarm
  pumpReads { s with nextId := s.nextId + 1, link := { s.link with readQ := s.link.readQ ++ [r] } }

/-! ### What a request reads -/

/-- A read of a request outstanding, or waiting to go on the link, for the purpose that a test picks. -/
def reading (s : State) (p : ReadFor → Bool) : Bool := (s.link.reads ++ s.link.readQ).any fun r => p r.what

/-- Source ranges of a fragment list: addresses and lengths, cut at SRC_LEN (R415, R416). -/
def takeSpans : List (Nat × Nat) → Nat → List (Nat × Nat)
  | [], _ => []
  | (a, n) :: t, need => if need = 0 then [] else if n = 0 then takeSpans t need else (a, min n need) :: takeSpans t (need - n)

/-- Entries of a fragment list (R415). -/
def fragEntries (aux : List Byte) : List (Nat × Nat) :=
  (List.range (aux.length / 16)).map fun i => (fieldAt aux (16 * i) 8, fieldAt aux (16 * i + 8) 4)

/-- F of a fragment list (R416). -/
def fragSum (aux : List Byte) : Nat := ((fragEntries aux).map (·.2)).foldl (· + ·) 0

/-- Is the opcode a fragment opcode? -/
def isFrag (op : Nat) : Bool := decide (op = 0x21 ∨ op = 0x29)

/-- Is a FLAGS field of a fragment list not 0 (R415)? -/
def fragBad (aux : List Byte) : Bool := (List.range (aux.length / 16)).any fun i => !zeroAt aux (16 * i + 12) 4

/-- Is the length of a fragment list one that R415 allows? -/
def fragLenOk (n : Nat) : Bool := decide (n % 16 = 0) && decide (16 ≤ n ∧ n ≤ 4096)

/-- Does a request's source come from the host? -/
def hostSrc (d : Desc) : Bool :=
  (hasSrc d && decide (d.srcLen ≠ 0) && (decide (d.srcSel = 0) || decide (d.srcSel = 1))) ||
  (isFrag d.opcode && decide (d.srcLen ≠ 0))

/-- Length of the blob at a local address, by its ATTR (R332). -/
def localBlobLen (s : State) (a : Nat) : Nat := blobLen (klen (BitVec.ofNat 64 (leNat (coRead s (a + 8) 8))))

/-- What is still to be read of a host blob: its header, then the rest, whose length the header's ATTR gives (R332). -/
def blobRest (q : Req) : Option (Nat × Nat) :=
  if q.desc.keySrc ≠ 2 ∨ q.desc.keyLocal then none else
  match q.blob with
  | none => some (q.desc.keyRef.toNat, 64)
  | some b =>
    let m := blobLen (klen (BitVec.ofNat 64 (fieldAt b 8 8)))
    if b.length < m then some (q.desc.keyRef.toNat + b.length, m - b.length) else none

/-- Issue the reads that a request needs and can now name: AUX, host blob, the next entry of a scatter list, source. -/
def issueReads (s : State) (q : Req) : State :=
  let d := q.desc
  let rd (s : State) (w : ReadFor) (sp : List (Nat × Nat)) : State := issueRead s (worldFn s q.stall) q.stall q.ring w sp q.pasid q.alarm
  if q.done.isSome || !q.started then s else
  let s := if d.auxLen ≠ 0 ∧ q.aux.isNone ∧ !reading s (fun w => decide (w = .aux q.id)) then rd s (.aux q.id) [(d.aux, d.auxLen)] else s
  let s := match blobRest q with
    | some r => if reading s (fun w => decide (w = .blob q.id)) then s else rd s (.blob q.id) [r]
    | none => s
  let s := match q.walks with
    | [] => s
    | w :: _ =>
      if reading s (fun w => decide (w = .segment q.id)) then s
      else rd s (.segment q.id) [(w.at_ + 16 * w.ix, 16)]
  match q.srcSpans with
  | some sp =>
    if hostSrc d ∧ q.src.isNone ∧ !reading s (fun w => decide (w = .source q.id)) then rd s (.source q.id) sp else s
  | none => s

/-- A request's walks and known ranges at its start (R235, R240). -/
def startSpans (q : Req) : Req :=
  let d := q.desc
  let walk (dst : Bool) (a n : Nat) : Walk := { dst := dst, spans := [], need := n, links := 0, at_ := a, ix := 0 }
  let ws : List Walk :=
    (if hasSrc d ∧ d.srcSel = 1 ∧ d.srcLen ≠ 0 then [walk false d.src d.srcLen] else []) ++
    (if hasDst d ∧ d.dstSel = 1 ∧ d.dstLen ≠ 0 then [walk true d.dst d.dstLen] else [])
  { q with walks := ws,
           srcSpans := if hasSrc d ∧ d.srcSel = 0 ∧ d.srcLen ≠ 0 then some [(d.src, d.srcLen)] else none,
           dstSpans := if hasDst d ∧ d.dstSel = 0 then some [(d.dst, d.dstLen)] else none }

/-- A scatter-list address that is not aligned to 16 bytes (R235, R242). -/
def listMisaligned (d : Desc) : Bool :=
  (hasSrc d && decide (d.srcSel = 1) && decide (d.src % 16 ≠ 0)) || (hasDst d && decide (d.dstSel = 1) && decide (d.dst % 16 ≠ 0))

/-! ### Scatter segments (R240-R242) -/

/-- What an entry gives a walk: more to read, its end, or a failure with status and DETAIL. -/
inductive SegEnd where
  | more (w : Walk)
  | done (spans : List (Nat × Nat))
  | fail (status detail : Byte)
  deriving DecidableEq, Repr

/-- DETAIL of a source that is too short (R418). -/
def srcShortDetail (d : Desc) : Byte := if opPool d.opcode = some .digest ∨ d.opcode = 0x30 then 0x01 else 0

/-- The walk at the entry after one of its segment; entry 256 ends a list without a LINK (R242). -/
def segNext (w : Walk) (short : Byte) : SegEnd := if 256 ≤ w.ix + 1 then .fail 0x32 short else .more { w with ix := w.ix + 1 }

/-- Consume the entry that a walk has read (R241, R242). -/
def segStep (w : Walk) (short : Byte) (b : List Byte) : SegEnd :=
  let a := fieldAt b 0 8
  let n := fieldAt b 8 4
  let fl := fieldAt b 12 4
  if 2 ≤ fl then .fail 0x30 0x04
  else if fl = 1 then
    (if a % 16 ≠ 0 ∨ 16 ≤ w.links then .fail 0x30 0x04 else .more { w with links := w.links + 1, at_ := a, ix := 0 })
  else if n = 0 then segNext w short
  else if w.need ≤ n then .done (w.spans ++ [(a, w.need)])
  else segNext { w with spans := w.spans ++ [(a, n)], need := w.need - n } short

/-- An entry arrives for the first walk of a request: entries are read one by one, so that none after a LINK, and none
after the last one needed, is read (R241). -/
def segArrived (q : Req) (b : List Byte) : Req :=
  match q.walks with
  | [] => q
  | w :: t =>
    match segStep w (if w.dst then 0 else srcShortDetail q.desc) b with
    | .more w' => { q with walks := w' :: t }
    | .done sp => if w.dst then { q with walks := t, dstSpans := some sp } else { q with walks := t, srcSpans := some sp }
    | .fail st dt => endReq { q with walks := [] } st dt

/-- A fragment list arrives: malformed, short, or its fragments are known (R415, R416). -/
def fragArrived (q : Req) (aux : List Byte) : Req :=
  if fragBad aux || !fragLenOk q.desc.auxLen then endReq q 0x30 0x04
  else if fragSum aux < q.desc.srcLen then endReq q 0x32 0x01
  else { q with srcSpans := some (takeSpans (fragEntries aux) q.desc.srcLen) }

/-- The first n of the bytes read over a list of ranges: all of it, in order. -/
def arrived (n : Nat) (bs : List Byte) : List Byte := slice bs 0 n

end Sys2Proof.Machine
end

