-- ==== Sys2Proof/Machine/Dispatcher.lean ====
section
/-! DEFINITION. The Dispatcher: candidates, eligibility, order, rulings at admission, placement (05, 06, 14). -/

namespace Sys2Proof.Machine

/-! ### Candidates (R251, R252, R272) -/

/-- Fetched descriptors from an index on, up to the first with HARNESS 0. -/
def gather (r : Ring) : Nat → BitVec 16 → List BufD
  | 0, _ => []
  | n + 1, i =>
    match r.buf.find? fun b => decide (b.slot = i) with
    | none => []
    | some b => if b.desc.harness then b :: gather r n (ringNext r i 1) else [b]

/-- The candidate at a ring's admission point: one descriptor or a whole chain of at most 8. -/
def candidate (r : Ring) : Option (List BufD) :=
  let g := gather r 8 r.adm
  match g.getLast? with
  | some b => if b.desc.harness then none else some g
  | none => none

/-- May a ring's requests be admitted now (R79, R82, R140, R150, R176, R226)? -/
def ringMay (s : State) (r : RingId) : Bool :=
  let x := s.rings[r]
  decide (s.boot.phase = .ready) && decide (s.link.stopState = 0) && x.enable && x.overlong.isNone &&
  match x.owner with
  | some n => decide (s.stalls[n].state = .active) && !(fnState s (worldFn s n)).flr
  | none => false

/-- Manger lines a candidate reserves (R254, R391, R473). -/
def linesNeeded (g : List BufD) : Nat :=
  (g.map fun b => (if b.desc.dstSel = 3 then b.desc.interLines else 0) + vbrLines b.desc + coopLines b.desc).foldl (· + ·) 0

/-- Does a candidate meet the conditions of R273 now: fetched, barrier and fence, DRBG window, free capacity? At
throttle level 3 a Bulk candidate waits (R718). -/
def eligible (s : State) (r : RingId) : Option (StallId × List BufD) :=
  if !ringMay s r then none else
  let x := s.rings[r]
  match x.owner, candidate x with
  | some n, some g =>
    let st := s.stalls[n]
    let barrier := (g.head?.map fun b => b.desc.barrier).getD false
    let clear := x.fence.isNone && (!barrier || !(s.reqs.any fun q => decide (q.ring = r)))
    let window := decide (st.drbgNow = 0) || decide (st.draws < st.drbgNow.toNat)
    let room := decide (effCap s n < linesNeeded g) || decide (linesNeeded g ≤ capacityFree s n)
    let cool := decide (s.pwr.level ≠ 3) || decide (x.cls ≠ 0)
    if clear && window && room && cool then some (n, g) else none
  | _, _ => none

/-! ### Deadlines (R279-R287) -/

/-- Is a candidate in budget: of an Alarm ring, every member's token debited (R284)? -/
def inBudget (x : Ring) (g : List BufD) : Bool := decide (x.cls = 2) && g.all fun b => b.budget.isSome

/-- The increment of a candidate (R279). -/
def increment (s : State) (x : Ring) (n : StallId) (g : List BufD) : Nat :=
  let k := (g.head?.map fun b => costOf b.desc).getD 1
  k * 4096 / s.stalls[n].weight.toNat * (if x.cls = 0 then 2 ^ s.disp.bulkStretch.toNat else 1)

/-- The present cycle on the 48-bit deadline counter. -/
def now48 (s : State) : BitVec 48 := BitVec.ofNat 48 s.cycle

/-- Is one deadline earlier than another, modulo 2^48 (R282)? -/
def sooner (a b : BitVec 48) : Bool := (a - b).msb

/-- The later of two, modulo 2^48. -/
def later48 (a b : BitVec 48) : BitVec 48 := if sooner a b then b else a

/-- A virtual time held at 2^46 cycles after the present cycle (R282). -/
def capV (s : State) (v : BitVec 48) : BitVec 48 :=
  let lim := now48 s + BitVec.ofNat 48 (2 ^ 46)
  if sooner lim v then lim else v

/-- A candidate that has become eligible takes its S and advances its stall's virtual time (R279). -/
def noteRing (s : State) (r : RingId) : State :=
  match eligible s r with
  | none => s
  | some (n, g) =>
    let x := s.rings[r]
    if x.virtS.isSome ∨ inBudget x g then s else
    let bulk := decide (x.cls = 0)
    let v := if bulk then s.stalls[n].vBulk else s.stalls[n].vInteractive
    let st := later48 v (now48 s)
    let v' := capV s (st + BitVec.ofNat 48 (increment s x n g))
    setStall (setRing s r fun x => { x with virtS := some st }) n fun y =>
      if bulk then { y with vBulk := v' } else { y with vInteractive := v' }

/-- Is a member of an admitted chain waiting for a unit of a pool (R255, R277)? -/
def memberWaits (s : State) (p : Pool) : Bool :=
  s.reqs.any fun q => !q.started && q.done.isNone && decide (opPool q.desc.opcode = some p) &&
    !(s.reqs.any fun o => decide (o.chain = q.chain) && decide (o.pos < q.pos))

/-- Does a candidate, or a chain's next member, wait for a unit of a pool? -/
def poolWaited (s : State) (p : Pool) : Bool :=
  memberWaits s p || (List.finRange 256).any fun r =>
    !s.rings[r].buf.isEmpty &&
    match eligible s r with
    | some (_, g) => decide ((g.head?.bind fun b => opPool b.desc.opcode) = some p)
    | none => false

/-- Is a pool starved: some unit unfenced, every such unit unpowered or in SECURE_HOLD, and a candidate waits (R301,
assumption 64)? -/
def poolStarving (s : State) (p : Pool) : Bool := !poolUsable s p && !allFenced s (poolUnits p) && poolWaited s p

/-- A pool's STARVED flag after this look, and whether EV296 is raised: once per onset (R301, R302). -/
def starvedNext (s : State) (p : Pool) (old : Bool) : Bool × Bool :=
  if poolUsable s p then (false, false) else if !old && poolStarving s p then (true, true) else (old, false)

/-- Note which pools are starved, and raise EV296 for each onset (R301, R302). -/
def noteStarved (s : State) : State :=
  let c := starvedNext s .cipher s.disp.starvedCl
  let d := starvedNext s .digest s.disp.starvedDl
  let b := starvedNext s .bignum s.disp.starvedBn
  let s := { s with disp := { s.disp with starvedCl := c.1, starvedDl := d.1, starvedBn := b.1 } }
  let s := if c.2 then raiseEv s 296 else s
  let s := if d.2 then raiseEv s 296 else s
  if b.2 then raiseEv s 296 else s

/-- Note the eligibility of every ring's candidate, rings in ascending order (assumption 22), and the starved pools. -/
def noteEligible (s : State) : State :=
  noteStarved ((List.finRange 256).foldl (fun s r => if s.rings[r].buf.isEmpty then s else noteRing s r) s)

/-- Deadline of a candidate: S + increment, or A + 20 000 in budget (R279, R287). -/
def candDeadline (s : State) (r : RingId) (n : StallId) (g : List BufD) : BitVec 48 :=
  let x := s.rings[r]
  if inBudget x g then BitVec.ofNat 48 (((g.head?.bind fun b => b.budget).getD s.cycle) + 20000)
  else (x.virtS.getD (now48 s)) + BitVec.ofNat 48 (increment s x n g)

/-! ### Rulings at admission (R249, R254, R794, R795) -/

/-- What the Dispatcher rules on a candidate. -/
inductive Ruling where
  | ok
  | member (k : Nat) (status detail : Byte)
  | whole (detail : Byte)
  deriving DecidableEq, Repr

/-- The first member with a failure. -/
def firstBad (f : Nat → Desc → Option (Byte × Byte)) : Nat → List Desc → Option (Nat × Byte × Byte)
  | _, [] => none
  | k, d :: t => match f k d with
    | some (st, dt) => some (k, st, dt)
    | none => firstBad f (k + 1) t

/-- Tally address of the slot or entry that a member names as its key, or 0: what admission checks (R189, R350). -/
def admitTally (s : State) (n : StallId) (d : Desc) : BitVec 64 :=
  if (d.keySrc = 1 ∨ d.keySrc = 3) ∧ d.opcode ≠ 0x76 then
    (match findKey s n 0 d with
     | .key k _ _ => k.tallyAddr
     | .none _ _ => 0)
  else 0

/-- Local ranges of a member's key: a local blob, the tally of a slot's or an entry's binding (R189, R334). -/
def keyAccesses (s : State) (n : StallId) (d : Desc) : List Access :=
  (if d.keySrc = 2 ∧ d.keyLocal then [{ addr := d.keyRef.toNat, len := localBlobLen s d.keyRef.toNat, need := .rd }] else []) ++
  (if admitTally s n d = 0 then [] else [{ addr := (admitTally s n d).toNat, len := 8, need := .red }])

/-- The tally of the key that a member names by slot or entry, when it stands at its limit: its use is not granted (R249,
R350). -/
def admitSpent (s : State) (n : StallId) (d : Desc) : Option Nat :=
  if admitTally s n d = 0 then none else
  match findKey s n 0 d with
  | .key k _ _ =>
    let a := k.tallyAddr.toNat
    if !coPoisoned s a 8 && decide (k.tallyLimit.toNat ≤ (tallyAt s a).toNat) then some a else none
  | .none _ _ => none

/-- Does an opcode make an entry of the keyed-state store, or an unwrapped blob (R345)? -/
def loadsKey (d : Desc) : Bool := decide (d.opcode = 0x71) || decide (d.opcode = 0x74)

/-- Loads of a stall admitted and not yet stored, a chain's BLOB_UNWRAPs aside, which `quotaHeld` counts (R170, R345). -/
def loadsPending (s : State) (n : StallId) : Nat :=
  (s.reqs.filter fun q => decide (q.stall = n) && q.done.isNone && loadsKey q.desc &&
    !(decide (q.desc.opcode = 0x71) && decide (2 ≤ q.members))).length

/-- The key checks that admission can make of a member: KEY_BAD_SLOT, KEY_DENIED, KEY_EXHAUSTED (R249, R254, R339, R345,
R170). -/
def admitKey (s : State) (n : StallId) (d : Desc) (units : Nat) : Option (Byte × Byte) :=
  let found := match d.keySrc.toNat with
    | 1 | 3 => keyErr s n d (findKey s n 0 d)
    | _ => none
  match found with
  | some e => some e
  | none =>
    if isKeygen d.opcode ∧ d.keySrc = 0 ∧ !((ktypesOf d).map fun l => l.contains (ktype d.imm)).getD true then some (0x20, 0x01)
    else if d.opcode = 0x77 ∧ !s.stalls[n].importEn then some (0x20, 0x0D)
    else if loadsKey d ∧ s.stalls[n].quota.toNat < quotaHeld s n + loadsPending s n + units then some (0x20, 0x07)
    else if (admitSpent s n d).isSome then some (0x22, 0)
    else none

/-- Is no unfenced unit of a member's class left for its stall, or too few (R299, R438, R473)? -/
def noEngine (s : State) (n : StallId) (d : Desc) : Bool :=
  match opPool d.opcode with
  | some .measurement => s.mrb.fenced
  | some .cipher => allFenced s (stallUnits s .cipher n)
  | some .digest => allFenced s (stallUnits s .digest n)
  | some .bignum => decide (((stallUnits s .bignum n).filter fun u => !s.units[u].fenced).length < unitsNeeded s d)
  | _ => false

/-- Every page of every member checked; the first member denied and its result. -/
def paddockBad (s : State) (n : StallId) : Nat → List Desc → Option (Nat × PkResult)
  | _, [] => none
  | k, d :: t =>
    match pkCheck s (some n) (accesses d ++ keyAccesses s n d) with
    | .ok => paddockBad s n (k + 1) t
    | r => some (k, r)

/-- The checks after the descriptor form (R249). -/
def laterRuling (s : State) (n : StallId) (ds : List Desc) : Ruling × PkResult :=
  match firstBad (fun _ d => if outShort d then some (0x32, shortDetail d) else none) 0 ds with
  | some (k, st, dt) => (.member k st dt, .ok)
  | none =>
  match paddockBad s n 0 ds with
  | some (k, .conflict p e) => (.member k 0x33 0, .conflict p e)
  | some (k, r) => (.member k 0x31 0, r)
  | none =>
  match firstBad (fun k d => admitKey s n d ((ds.take (k + 1)).filter loadsKey).length) 0 ds with
  | some (k, st, dt) => (.member k st dt, .ok)
  | none =>
  match firstBad (fun _ d => if noEngine s n d then some (0x40, 0) else none) 0 ds with
  | some (k, st, dt) => (.member k st dt, .ok)
  | none => (.ok, .ok)

/-- The ruling on a candidate, with the Paddock result to log (R249, R794). -/
def ruling (s : State) (n : StallId) (g : List BufD) : Ruling × PkResult :=
  let ds := g.map (·.desc)
  let inChain := decide (2 ≤ ds.length)
  match firstBad (fun k d => (formErr s n d inChain (decide (0 < k))).map fun x => (0x30, x)) 0 ds with
  | some (k, st, dt) => (.member k st dt, .ok)
  | none =>
    if inChain ∧ (ds.any (fun d => interBad d true) ∨ !interRules [] ds) then (.whole 0x06, .ok)
    else if !inChain ∧ ds.any (fun d => interBad d false) then (.member 0 0x30 0x06, .ok)
    else if effCap s n < linesNeeded g then (if inChain then .whole 0x07 else .member 0 0x30 0x07, .ok)
    else laterRuling s n ds

/-! ### Completion slots (R617, R639) -/

/-- Reserved slots held. -/
def reserveUsed (s : State) : Nat := (s.reqs.filter (·.reserve)).length
/-- Slots held. -/
def slotsUsed (s : State) : Nat := s.reqs.length
/-- General slots a stall holds. -/
def stallSlots (s : State) (n : StallId) : Nat := (s.reqs.filter fun q => decide (q.stall = n) && !q.reserve).length

/-- From which slots a candidate of so many members can take: some true for the reserve, some false for the general
slots, none when it must wait. -/
def takeSlots (s : State) (n : StallId) (alarm : Bool) (m : Nat) : Option Bool :=
  if alarm ∧ reserveUsed s + m ≤ 32 then some true
  else if slotsUsed s - reserveUsed s + m ≤ 4064 ∧ stallSlots s n + m ≤ s.disp.perStall.toNat then some false
  else none

/-! ### Units (R274, R276, R509, R718) -/

/-- Requests of a pool that are started and have no outcome yet. -/
def running (s : State) (p : Pool) : List Req :=
  s.reqs.filter fun q => q.started && q.done.isNone && decide (opPool q.desc.opcode = some p)

/-- Can a one-unit pool take a request (R509)? R274 sets no number for the Tack Room, the Manger and the Measurement Bank
(assumption 23). -/
def poolTakes (s : State) (p : Pool) (d : Desc) : Bool :=
  let l := running s p
  match p with
  | .random =>
    if d.opcode = 0x68 then !(l.any fun q => decide (q.desc.opcode = 0x68))
    else if d.opcode = 0x61 ∨ bit d.mode 0 then
      !(l.any fun q => decide (q.desc.opcode = 0x61) || (decide (q.desc.opcode = 0x60) && bit q.desc.mode 0))
    else decide ((l.filter fun q => decide (q.desc.opcode = 0x60) && !bit q.desc.mode 0).length < 8)
  | _ => true

/-- Units free to take a candidate of a stall (R274, R294, R718). -/
def freeFor (s : State) (n : StallId) (alarm : Bool) (p : Pool) : List UnitId :=
  (stallUnits s p n).filter fun u => unitFree s u && (alarm || !restricted s u)

/-- The unit taken: one whose register holds the key, else the lowest-numbered (R276). -/
def chooseUnit (s : State) (n : StallId) (alarm : Bool) (p : Pool) (d : Desc) : Option UnitId :=
  let l := freeFor s n alarm p
  match l.find? fun u => decide (d.keySrc ≠ 0) && holdsKey s u n d with
  | some u => some u
  | none => l.head?

/-- Pools made of units. -/
def unitPoolKind (p : Pool) : Bool := decide (p = .cipher ∨ p = .digest ∨ p = .bignum)

/-- Units that can take a cooperative candidate, busy ones included (R274, R473). -/
def coopAble (s : State) (n : StallId) : Nat :=
  ((stallUnits s .bignum n).filter fun u =>
    !s.units[u].fenced && pdOn s (unitPd u) && !s.units[u].testDue && !s.units[u].testing).length

/-- May a candidate or member hold units: no other holds them, and after a release of its incomplete set enough units can
take it (R473, R478)? -/
def coopMay (s : State) (c : CoopFor) (n : StallId) (need : Nat) : Bool :=
  (s.disp.coop.isNone || decide (s.disp.coop = some c)) && (decide (s.disp.coopLate ≠ some c) || decide (need ≤ coopAble s n))

/-- Can a candidate be placed, or begin to hold units, now? -/
def placeable (s : State) (r : RingId) (n : StallId) (g : List BufD) : Bool :=
  match g with
  | [] => false
  | b :: _ =>
    match opPool b.desc.opcode with
    | none => true
    | some p =>
      if unitPoolKind p then
        (if 1 < unitsNeeded s b.desc then coopMay s (.ring r) n (unitsNeeded s b.desc)
         else (chooseUnit s n (inBudget s.rings[r] g) p b.desc).isSome)
      else poolTakes s p b.desc

/-! ### Order (R277, R281) -/

/-- A candidate as the order compares it. -/
structure Cand where
  ring : RingId
  stall : StallId
  alarm : Bool
  deadline : BitVec 48
  deriving DecidableEq, Repr

/-- The candidates of a pool that could be served now. -/
def cands (s : State) (p : Pool) : List Cand :=
  (List.finRange 256).filterMap fun r =>
    match eligible s r with
    | none => none
    | some (n, g) =>
      let x := s.rings[r]
      if (g.head?.bind fun b => opPool b.desc.opcode) = some p ∧ (ruling s n g).1 = .ok ∧ placeable s r n g ∧
         (takeSlots s n (inBudget x g) g.length).isSome
      then some { ring := r, stall := n, alarm := inBudget x g, deadline := candDeadline s r n g } else none

/-- Is one candidate served before another (R277, R281)? -/
def before (s : State) (p : Pool) (a b : Cand) : Bool :=
  let i := poolIx p
  let stallDist (n : StallId) : Nat := (n.val + 63 - s.disp.lastStall[i].val) % 64
  let ringD (c : Cand) : Nat := (c.ring.val + 255 - s.stalls[c.stall].lastRing[i].toNat) % 256
  if a.alarm ≠ b.alarm then a.alarm
  else if a.deadline ≠ b.deadline then sooner a.deadline b.deadline
  else if a.stall ≠ b.stall then decide (stallDist a.stall < stallDist b.stall)
  else decide (ringD a < ringD b)

/-- The candidate that a pool serves first. -/
def firstOf (s : State) (p : Pool) : Option Cand :=
  (cands s p).foldl (fun r c => match r with
    | none => some c
    | some b => if before s p c b then some c else some b) none

/-- May the Dispatcher place in a pool in this interval of 16 cycles (R275)? -/
def intervalOk (s : State) (p : Pool) : Bool :=
  let placed := if s.disp.interval = s.cycle / 16 then s.disp.placed else []
  !placed.contains p && decide (placed.length < 2)

/-- Note a placement: the interval's count, and the stall and ring last served (R275, R281). -/
def notePlaced (s : State) (p : Pool) (n : StallId) (r : RingId) : State :=
  let i := poolIx p
  let placed := if s.disp.interval = s.cycle / 16 then s.disp.placed else []
  setStall { s with disp := { s.disp with interval := s.cycle / 16, placed := p :: placed,
                                          lastStall := s.disp.lastStall.set i n } }
    n fun x => { x with lastRing := x.lastRing.set i (BitVec.ofNat 8 r.val) }

/-! ### Starting a request (R255, R276, R347, R350) -/

/-- Put a started request on units: its run, its lead and set (R276, R473). -/
def occupy (s : State) (i : Nat) (us : List UnitId) : State :=
  match us with
  | [] => s
  | u :: _ =>
    us.foldl (fun s v => setUnit s v fun x =>
      { x with run := some i, held := false, coop := decide (1 < us.length), lead := BitVec.ofNat 3 (u.val - 48) }) s

/-- Zeroise registers that hold another key than the request's (R276, R349). -/
def clearOther (s : State) (us : List UnitId) (n : StallId) (d : Desc) : State :=
  us.foldl (fun s u => if holdsKey s u n d then s else if d.keySrc = 0 then s else zeroKeyReg s u) s

/-- Start a request on its units: misaligned lists, key use and grant, local blob, reads. A use that is not granted ends
the request with no unit. -/
def startReq (s : State) (q : Req) (us : List UnitId) : State :=
  let d := q.desc
  let n := q.stall
  let fail (s : State) (e : Byte × Byte) : State := setReq s q.id fun q => endReq { q with started := false } e.1 e.2
  let go (s : State) (k : Option Key) (h : Option Handle) (blob : Option (List Byte)) : State :=
    let q' := startSpans { q with started := true, unit := us.head?, coop := us.tail, key := k, handle := h, blob := blob,
                                  granted := k.isSome, effect := q.effect || (k.any fun x => decide (x.tallyAddr ≠ 0)) }
    let s := occupy (clearOther s us n d) q.id us
    let s := match k with
      | some k => loadUnits s q' k []
      | none => s
    if listMisaligned d then setReq s q.id fun _ => endReq q' 0x30 0x04
    else issueReads (setReq s q.id fun _ => q') q'
  match d.keySrc.toNat with
  | 0 => go s none none none
  | 2 =>
    if d.keyLocal then
      let a := d.keyRef.toNat
      let m := localBlobLen s a
      (if coPoisoned s a m then fail s (0x70, 0) else go s none none (some (coRead s a m)))
    else go s none none none
  | src =>
    let f := heldKey s n q.chain d
    match keyErr s n d f with
    | some e => fail s e
    | none =>
      match f with
      | .none st dt => fail s (st, dt)
      | .key k _ _ =>
        if d.opcode = 0x76 then go s (some { k with tallyAddr := 0 }) none none else
        let r := grantUse s n q.epoch q.tally k
        match r.2 with
        | some e => fail (setReq r.1 q.id fun q => { q with effect := decide (e.1 = 0x22) }) e
        | none => go r.1 (some k) (if src = 3 then some (toFin 2048 (by decide) d.keyRef.toNat) else none) none

/-! ### Admission (R249, R254, R259) -/

/-- The request of one member of a candidate. -/
def mkReq (s : State) (r : RingId) (n : StallId) (g : List BufD) (k : Nat) (b : BufD) (reserve : Bool) : Req :=
  { id := s.nextId + k, chain := s.nextId, pos := k, members := g.length, fn := worldFn s n, ring := r, stall := n,
    slot := b.slot, desc := b.desc, epoch := s.pdk.epoch, pasid := ringPasid s n s.rings[r],
    alarm := inBudget s.rings[r] g, reserve := reserve, admitAt := s.cycle, deadline := candDeadline s r n g,
    started := false, unit := none, coop := [], walks := [], srcSpans := none, dstSpans := none, aux := none, src := none,
    blob := none, key := none, keyTag := [], handle := none, tally := admitTally s n b.desc, granted := false, done := none, skipped := false, stores := [],
    released := false, effect := false, readFail := false, wrote := [] }

/-- The requests of a candidate. -/
def mkReqs (s : State) (r : RingId) (n : StallId) (g : List BufD) (reserve : Bool) : List Req :=
  (List.range g.length).filterMap fun k => (g[k]?).map fun b => mkReq s r n g k b reserve

/-- Take a candidate out of the descriptor buffer into the admitted requests. -/
def takeCandidate (s : State) (r : RingId) (g : List BufD) (qs : List Req) : State :=
  let slots := g.map (·.slot)
  setRing { s with disp := { s.disp with coopLate := s.disp.coopLate.filter fun c => decide (c ≠ .ring r) }, reqs := s.reqs ++ qs, nextId := s.nextId + qs.length } r fun x =>
    { x with buf := x.buf.filter fun b => !slots.contains b.slot, adm := ringNext x x.adm g.length, virtS := none,
             budgets := x.budgets.filter fun b => !slots.contains b.1 }

/-- The records of a rejected candidate (R795). -/
def rejected (v : Ruling) (q : Req) : Req :=
  match v with
  | .ok => q
  | .member k st dt =>
    if q.pos = k then endReq q st dt else { endReq q st (BitVec.ofNat 8 k) with skipped := true }
  | .whole dt =>
    if q.pos = 0 then endReq q 0x30 dt else { endReq q 0x30 0 with skipped := true }

/-- Make a candidate's reservations (R254, R391, R473). -/
def reserveAll (s : State) (n : StallId) (qs : List Req) : State :=
  let inter := (qs.map fun q => if q.desc.dstSel = 3 then q.desc.interLines else 0).foldl (· + ·) 0
  let chain := (qs.head?.map (·.chain)).getD 0
  let s := if inter = 0 then s else reserve s n (.chain chain) inter
  let s := qs.foldl (fun s q => if vbrLines q.desc = 0 then s else reserve s n (.vbr q.id) (vbrLines q.desc)) s
  let s := qs.foldl (fun s q => if coopLines q.desc = 0 then s else reserve s n (.coop q.id) (coopLines q.desc)) s
  let blobs := (qs.filter fun q => decide (q.desc.opcode = 0x71)).length
  if 2 ≤ qs.length ∧ blobs ≠ 0 then { s with quotas := s.quotas ++ [(chain, n, blobs)] } else s

/-- Admit a candidate on units: reservations, then its first member starts. -/
def admitOn (s : State) (r : RingId) (n : StallId) (g : List BufD) (reserve : Bool) (us : List UnitId) : State :=
  let qs := mkReqs s r n g reserve
  let s := reserveAll (takeCandidate s r g qs) n qs
  match qs, g.head?.bind fun b => opPool b.desc.opcode with
  | q :: _, some p => startReq (notePlaced s p n r) q us
  | q :: _, none => if q.desc.opcode = 0xF0 then setRing s r fun x => { x with fence := some q.id } else s
  | [], _ => s

/-- EV295 of a cooperative operation refused for want of units (R479, assumption 65). -/
def coopShort (s : State) (d : Desc) : State := if 1 < unitsNeeded s d then raiseEv s 295 else s

/-- The event that a ruling raises beside the errors of its stall. -/
def rulingEvent (s : State) (g : List BufD) (v : Ruling) : State :=
  match v with
  | .member k 0x40 _ => match g[k]? with
    | some b => coopShort s b.desc
    | none => s
  | _ => s

/-- The tally of a use that a ruling denies: a denied use is still counted (R350). -/
def spentTally (s : State) (n : StallId) (g : List BufD) : Ruling → Option Nat
  | .member k st _ => if st = 0x22 then g[k]?.bind fun b => admitSpent s n b.desc else none
  | _ => none

/-- A member whose tally a rejection bumps has had an effect. -/
def spentMark (v : Ruling) (q : Req) : Req :=
  match v with
  | .member k st _ => if q.pos = k ∧ st = 0x22 then { q with effect := true } else q
  | _ => q

/-- Reject a candidate. -/
def reject (s : State) (r : RingId) (n : StallId) (g : List BufD) (v : Ruling) (log : PkResult) (reserve : Bool) : State :=
  let qs := (mkReqs s r n g reserve).map fun q => spentMark v (rejected v q)
  let t := match spentTally s n g v with
    | some a => bump s n a
    | none => s
  takeCandidate (rulingEvent (logDeny t (some n) log) g v) r g qs

/-- What holds units: its stall, whether it is in-budget Alarm work, its descriptor; none when it no longer waits. -/
def coopHolder (s : State) : Option (StallId × Bool × Desc) :=
  match s.disp.coop with
  | none => none
  | some (.ring r) =>
    (match eligible s r with
     | some (n, b :: t) => some (n, inBudget s.rings[r] (b :: t), b.desc)
     | _ => none)
  | some (.member i) =>
    (match findReq s i with
     | some q => if q.started || q.done.isSome then none else some (q.stall, q.alarm, q.desc)
     | none => none)

/-- Units held. -/
def heldUnits (s : State) : List UnitId := vfind s.units fun x => x.held

/-- Each BNU that is free is held for the cooperative operation until it has enough; a held unit holds no key (R278, R464,
R473). An in-budget Alarm candidate may hold a unit that throttling restricts (R719). -/
def coopGrab (s : State) : State :=
  match coopHolder s with
  | some (n, alarm, d) =>
    ((freeFor s n alarm .bignum).take (unitsNeeded s d - (heldUnits s).length)).foldl
      (fun s u => setUnit s u fun x => { x with held := true, keyReg := none }) s
  | none => if s.disp.coop.isNone then s else dropHeld s

/-- Holding begins for a candidate or member (R278). -/
def coopHold (s : State) (c : CoopFor) : State :=
  coopGrab { s with disp := { s.disp with coop := some c, coopLate := if s.disp.coopLate = some c then none else s.disp.coopLate } }

/-- The candidate of a ring is served if it is the one its pool serves first (R249, R275-R278); a rejected one, FENCE
and NOP need no unit. -/
def serve (s : State) (r : RingId) : State :=
  match eligible s r with
  | none => s
  | some (n, g) =>
    let alarm := inBudget s.rings[r] g
    match takeSlots s n alarm g.length with
    | none => s
    | some reserve =>
      let v := ruling s n g
      if v.1 ≠ .ok then reject s r n g v.1 v.2 reserve else
      match g.head?.map (·.desc), g.head?.bind fun b => opPool b.desc.opcode with
      | some d, some p =>
        if (firstOf s p).map (·.ring) ≠ some r ∨ !intervalOk s p ∨ memberWaits s p then s
        else if !unitPoolKind p then admitOn s r n g reserve []
        else if 1 < unitsNeeded s d then coopHold s (.ring r)
        else match chooseUnit s n alarm p d with
          | some u => admitOn s r n g reserve [u]
          | none => s
      | some _, none => admitOn s r n g reserve []
      | none, _ => s

end Sys2Proof.Machine
end

