-- ==== Sys2Proof/Machine/Events.lean ====
section
/-! DEFINITION. Events and interrupt delivery (18, 03 MSI-X): raising, moderation, selection, routes. -/

namespace Sys2Proof.Machine

/-- EVENT_RAISE (R736): a source is raised; `bad` names the function whose route entry shows a parity error at this
raise (R744). -/
def execEventRaise (k : EvId) (bad : Option Fn) (s : State) : Host.Outcome State Fault Refusal :=
  let s := match bad with
    | some f => setEv s f k fun e => { e with bad := true }
    | none => s
  .next (settle (raiseEv s k))

/-- HOLDOFF_EXPIRY (R739). -/
def execHoldoffExpiry (f : Fn) (k : EvId) (s : State) : Host.Outcome State Fault Refusal :=
  .next (noteEv (setEv s f k fun e => { e with holding := false }) f k)

/-- Selection key of an eligible message: Alarm first, then aged, then by PRIO (R740). -/
def evRank (s : State) (f : Fn) (k : EvId) : Nat :=
  let e := evSrc s f k
  if e.alarm then 0
  else if s.evt.age.toNat ≤ s.cycle - e.since.getD s.cycle then 1
  else 5 - e.prio.toNat

/-- The message selected: lowest rank, then lowest source number (R740). -/
def evPick (s : State) (f : Fn) : Option EvId :=
  ((List.finRange 320).filter (evEligible s f)).foldl (fun r k =>
    match r with
    | none => some k
    | some j => if evRank s f k < evRank s f j then some k else some j) none

/-- A message delivered: moderation restarts (R739, R741). -/
def evDelivered (e : EvSrc) : EvSrc := { evClear e with counted := 0, holding := decide (e.holdoff ≠ 0) }

/-- The MSI-X message of a vector, from its table entry now (R133). -/
def msixWrite (s : State) (f : Fn) (v : BitVec 10) : Pw :=
  let e := (fnState s f).msix[bvFin v]
  { fn := f, kind := .msix, addr := e.addr.toNat, bytes := leBytes 4 e.data.toNat, pasid := none, relaxed := false,
    alarm := false, req := none, stall := none }

/-- Enter the message of a source, delivering with it every other eligible message of its vector (R741). -/
def evEnter (s : State) (f : Fn) (k : EvId) : State :=
  let v := (evSrc s f k).vector
  let w := msixWrite s f v
  if !pwbRoom s w then s else
  let all := (List.finRange 320).filter fun j => evEligible s f j && decide ((evSrc s f j).vector = v)
  let s := all.foldl (fun s j => setEv s f j evDelivered) s
  let s := setEvFn s f fun x => { x with msgs := satInc x.msgs }
  dropPend (post s w) f v

/-- A parity error found on an entry at selection: it acts as EN 0, so its message is discarded (R743, R744). -/
def evParity (s : State) (f : Fn) (k : EvId) : State :=
  let s := setEv s f k fun e => { e with bad := true }
  let s := setEvFn s f fun x => { x with parity := true, parSrc := BitVec.ofNat 9 k.val }
  raiseHs (evDiscard s f k) 81 none

/-- EVENT_SELECTION (R740, R741). -/
def execEventSelection (f : Fn) (bad : Option EvId) (s : State) : Host.Outcome State Fault Refusal :=
  let s := match bad with
    | some k => evParity s f k
    | none => s
  let s := noteAllEv s
  .next (settle (match evPick s f with
    | some k => evEnter s f k
    | none => s))

/-- May a function use its own entry for a source (R738)? -/
def routeOwn (s : State) (f : Fn) (k : EvId) : Bool :=
  if h : k.val < 192 then decide (worldFn s ⟨k.val / 3, by omega⟩ = f)
  else match f with
    | .pf1 => true
    | .pf0 => !evSecureOnly k

/-- The entry that a write reaches: its own table, or PF0's through the alias of PF1 (R738, R747). -/
def routeTarget (s : State) (f : Fn) (k : EvId) (aliased : Bool) : Option Fn :=
  if aliased then
    (if h : k.val < 192 then (if f = .pf1 ∧ worldFn s ⟨k.val / 3, by omega⟩ = .pf0 then some .pf0 else none) else none)
  else if routeOwn s f k then some f else none

/-- A route entry written (R746): vectors above 255 are ignored on PF1, EN 0 discards the message (R743). -/
def routePut (s : State) (t : Fn) (k : EvId) (v : BitVec 64) : State :=
  let old := evSrc s t k
  let vec := field v 0 10
  let s1 := setEv s t k fun e =>
    { e with vector := if t = .pf1 ∧ 255 < vec.toNat then e.vector else vec, en := bit v 12, prio := field v 13 2,
             holdoff := field v 16 8, count := field v 24 8, bad := false }
  let s2 := if bit v 12 then s1 else setEv s1 t k evClear
  dropPend (noteEv s2 t k) t old.vector

/-- EVT_ROUTEk or EVT_NM_ROUTEk written (R738, R746, R747). -/
def wrRoute (s : State) (f : Fn) (k : EvId) (aliased : Bool) (v : BitVec 64) : State :=
  match routeTarget s f k aliased with
  | some t => routePut s t k v
  | none => s

/-- EVT_ROUTE_WRITE (R743). -/
def execEvtRouteWrite (f : Fn) (k : EvId) (aliased : Bool) (v : BitVec 64) (s : State) :
    Host.Outcome State Fault Refusal := .next (gateW64 s f ((if aliased then 0x64000 else 0x60000) + 8 * k.val) fun s => wrRoute s f k aliased v)

/-- Discard PF0's pending mirror messages that EVT_NM_MIRROR no longer permits (R743). -/
def mirrorDiscard (s : State) : State :=
  (List.finRange 96).foldl (fun s k => if bit s.evt.nmMirror k.val then s else evDiscard s .pf0 (evMirror k)) s

/-- EVT_NM_MIRROR0 or 1 written by PF1 (R749). -/
def wrMirror (s : State) (f : Fn) (i : Fin 2) (v : BitVec 64) : State :=
  match f with
  | .pf0 => s
  | .pf1 =>
    let m := if i = 0 then ((s.evt.nmMirror >>> 64) <<< 64) ||| v.setWidth 96
             else (s.evt.nmMirror &&& (BitVec.allOnes 64).setWidth 96) ||| (((v.setWidth 32).setWidth 96) <<< 64)
    mirrorDiscard { s with evt := { s.evt with nmMirror := m } }

/-- EVT_NM_MIRROR_WRITE (R743). -/
def execEvtNmMirrorWrite (f : Fn) (i : Fin 2) (v : BitVec 64) (s : State) : Host.Outcome State Fault Refusal :=
  .next (gateW64 s f (0x61100 + 8 * i.val) fun s => wrMirror s f i v)

/-- MSIX_UNMASK (R132): a vector's mask bit, or Function Mask, becomes 0; messages held back only by masking become
eligible. -/
def execMsixUnmask (f : Fn) (v : Option (BitVec 10)) (s : State) : Host.Outcome State Fault Refusal :=
  .next (noteAllEv (match v with
    | some k => gateW s f fun s =>
        if f = .pf1 ∧ 255 < k.toNat then s
        else setFn s f fun x => { x with msix := upd x.msix (bvFin k) fun e => { e with ctl := putBit e.ctl 0 false } }
    | none => setFn s f fun x => { x with functionMask := false }))

/-- A stall's three routes return to their chip-reset values in both tables (R175, R738). -/
def resetRoutes (s : State) (n : StallId) : State :=
  [evDone n, evError n, evNotice n].foldl (fun s k =>
    let s := evDiscard (evDiscard s .pf0 k) .pf1 k
    let clear (e : EvSrc) : EvSrc := { e with vector := 0, en := false, prio := 0, holdoff := 0, count := 0, bad := false,
                                              raises := 0, counted := 0, holding := false }
    setEv (setEv s .pf0 k clear) .pf1 k clear) s

end Sys2Proof.Machine
end

