-- ==== Sys2Proof/Machine/Stalls.lean ====
section
/-! DEFINITION. Stalls, Paddocks and protection epochs: the commands of 04, and the end of a stall reset (14). -/

namespace Sys2Proof.Machine

/-- May a function write a stall's window (R118, R168)? -/
def stlMay (s : State) (f : Fn) (n : StallId) : Bool := decide (f = .pf1) || !s.stalls[n].secure

/-- A refused configuration write: its STL_CFG_ERR bit, and the notice event with NOTICE 0x3 (R177). -/
def stlRefuse (s : State) (n : StallId) (g : Stall → Stall) : State := notice (setStall s n g) n 3

/-- The rings of a stall. -/
def stallRings (s : State) (n : StallId) : List RingId :=
  (List.finRange 256).filter fun r => decide (s.rings[r].owner = some n)

/-- Debit tokens for newly published descriptors of an Alarm ring, in ring order, while tokens remain (R284, R288). -/
def debitLoop (r : Ring) (now : Nat) : Nat → BitVec 16 → BitVec 6 → List (BitVec 16 × Nat) → BitVec 6 × List (BitVec 16 × Nat)
  | 0, _, t, l => (t, l)
  | n + 1, i, t, l =>
    if t = 0 then (t, l) else debitLoop r now n (ringNext r i 1) (t - 1) (l ++ [(i, now)])

/-- A tail accepted as a doorbell at this moment: a tail moved back unpublishes descriptors, a tail moved on publishes
new ones (R80, R284, R288). -/
def acceptTail (s : State) (r : RingId) : State :=
  let x := s.rings[r]
  match x.owner with
  | none => s
  | some n =>
    let s := setRing s r fun y => { y with kept := false, debited := y.tail }
    if x.cls ≠ 2 then s else
    let old := ringDist x x.head x.debited
    let new := ringDist x x.head x.tail
    if new ≤ old then
      setRing s r fun y => { y with budgets := y.budgets.filter fun b => decide (ringDist x x.head b.1 < new) }
    else
    let (t, l) := debitLoop x s.cycle (new - old) x.debited s.stalls[n].tokens x.budgets
    setStall (setRing s r fun y => { y with budgets := l }) n fun y => { y with tokens := t }

/-- Is the tail of a ring of a stall kept rather than serviced: before READY, during a graceful stop, and while the stall
is FREE, QUIESCING or QUIESCED (R79, R150, R176, R178, R288)? -/
def keepsTail (s : State) (n : StallId) : Bool :=
  decide (s.boot.phase ≠ .ready) || decide (s.link.stopState ≠ 0) ||
  match s.stalls[n].state with
  | .free | .quiescing | .quiesced => true
  | _ => false

/-- Kept tails of rings that are kept no longer are accepted now (R80, R151, R176, R178). -/
def acceptKept (s : State) (p : RingId → Bool) : State :=
  (List.finRange 256).foldl (fun s r =>
    if p r ∧ s.rings[r].kept ∧ !((s.rings[r].owner.map (keepsTail s)).getD true) then acceptTail s r else s) s

/-- QUIESCING ends when no admitted request remains (R176). -/
def quiesceCheck (s : State) (n : StallId) : State :=
  if s.stalls[n].state = .quiescing ∧ (stallReqs s n).isEmpty then notice (setStall s n fun x => { x with state := .quiesced }) n 1
  else s

/-- STL_CMD written with a code (R176, R203). -/
def stlCommand (s : State) (n : StallId) (cmd : Nat) : State :=
  let x := s.stalls[n]
  let bad := stlRefuse s n fun x => { x with badCmd := true }
  match cmd, x.state with
  | 1, .free => acceptKept (setStall s n fun x => { x with state := .active }) fun r => decide (s.rings[r].owner = some n)
  | 2, .active => setStall s n fun x => { x with state := .quiescing }
  | 3, .quiesced => acceptKept (setStall s n fun x => { x with state := .active }) fun r => decide (s.rings[r].owner = some n)
  | 4, .active | 4, .quiescing | 4, .quiesced => startReset s n 1
  | 4, .resetting => s
  | 5, .quiesced =>
    if (stallRings s n).isEmpty then
      setStall s n fun x => { Stall.reset n with secure := x.secure, pinCl := x.pinCl, pinDl := x.pinDl, pinBn := x.pinBn,
                                                 burst := x.burst, rate := x.rate, tokens := x.tokens, bypass := x.bypass,
                                                 domain := x.domain, kekGen := x.kekGen, importEn := x.importEn,
                                                 vInteractive := x.vInteractive, vBulk := x.vBulk, lastRing := x.lastRing,
                                                 draws := x.draws, drbgNow := x.drbgNow }
    else bad
  | _, _ => bad

/-- STL_CMD written by a function (R118, R176). -/
def wrStlCmd (s : State) (f : Fn) (n : StallId) (cmd : Nat) : State := if stlMay s f n then stlCommand s n cmd else s

/-- STL_CMD_ENABLE (R176). -/
def execStlCmdEnable (f : Fn) (n : StallId) (s : State) : Host.Outcome State Fault Refusal :=
  .next (gateW s f fun s => settle (wrStlCmd s f n 1))

/-- STL_CMD_QUIESCE (R176). -/
def execStlCmdQuiesce (f : Fn) (n : StallId) (s : State) : Host.Outcome State Fault Refusal :=
  .next (gateW s f fun s => settle (wrStlCmd s f n 2))

/-- QUIESCE_COMPLETE (R176): the last admitted request has posted its record. -/
def execQuiesceComplete (n : StallId) (s : State) : Host.Outcome State Fault Refusal := .next (settle (quiesceCheck s n))

/-- STL_CMD_RESUME (R176). -/
def execStlCmdResume (f : Fn) (n : StallId) (s : State) : Host.Outcome State Fault Refusal :=
  .next (gateW s f fun s => settle (wrStlCmd s f n 3))

/-- STL_CMD_RESET (R180). -/
def execStlCmdReset (f : Fn) (n : StallId) (s : State) : Host.Outcome State Fault Refusal :=
  .next (gateW s f fun s => settle (wrStlCmd s f n 4))

/-- STL_CMD_RELEASE (R176). -/
def execStlCmdRelease (f : Fn) (n : StallId) (s : State) : Host.Outcome State Fault Refusal :=
  .next (gateW s f fun s => settle (wrStlCmd s f n 5))

/-- STL_CMD_INVALID (R203): a write of any command code. -/
def execStlCmdInvalid (f : Fn) (n : StallId) (cmd : BitVec 4) (s : State) : Host.Outcome State Fault Refusal :=
  .next (gateW s f fun s => settle (wrStlCmd s f n cmd.toNat))

/-! ### End of a stall reset (R626-R631) -/

/-- EFFECT: the request changed state that the reset does not undo (R627). -/
def effectBit (q : Req) : Byte := if q.effect then 1 else 0

/-- RESULT of an R627 record: V for an applied TALLY64_ADD, COUNT for an applied MR_EXTEND. -/
def effectResult (q : Req) : BitVec 32 :=
  if q.effect ∧ (q.desc.opcode = 0x84 ∨ q.desc.opcode = 0x30) then (q.done.map (·.result)).getD 0 else 0

/-- The R627 record of an aborted request. -/
def abortRecord (s : State) (q : Req) : List Byte :=
  recordBytes q.desc.tag 0x50 (effectBit q) q.desc.opcode (flagsOf q) 0 (effectResult q) q.slot q.epoch (unitCode q)
    (cyclesOf s q) (phaseOf s.rings[q.ring] q.slot)

/-- The RESET_MARKER record of a ring (R628); H is the ring's HEAD. -/
def markerRecord (s : State) (n : StallId) (r : RingId) : List Byte :=
  let x := s.rings[r]
  let prev := BitVec.ofNat 16 ((x.head.toNat + ringSize x - 1) % ringSize x)
  let tag := if x.posted = 0 then 0 else ((x.tags.find? fun t => decide (t.1 = prev)).map (·.2)).getD 0
  let atH := s.stalls[n].aborted.find? fun q => decide (q.ring = r ∧ q.slot = x.head)
  let fetched := if x.head = x.fetch then none else (x.tags.find? fun t => decide (t.1 = x.head)).map (·.2)
  let cause : Byte := s.stalls[n].resetCause.setWidth 8
  let head : Byte := if atH.isSome then 0x80 else 0
  let eff : Byte := if (atH.map (·.effect)).getD false then 0x40 else 0
  recordBytes tag 0x51 (cause ||| eff ||| head) 0xFF (if x.posted = 0 then 8 else 0) 0 (fetched.getD 0) x.head
    s.pdk.epoch 59 0 (headPhase x)

/-- The aborted requests of a ring that get a record: those after H, in slot order (R627). -/
def abortedOf (s : State) (n : StallId) (r : RingId) : List Req :=
  let x := s.rings[r]
  let mine := s.stalls[n].aborted.filter fun q => decide (q.ring = r ∧ q.slot ≠ x.head)
  (List.range (ringSize x)).filterMap fun d => mine.find? fun q => decide (ringDist x x.head q.slot = d)

/-- Does a ring get a marker: enabled, or with requests admitted at the reset (R626)? -/
def ringMarked (s : State) (n : StallId) (r : RingId) : Bool :=
  s.rings[r].enable || s.stalls[n].aborted.any fun q => decide (q.ring = r)

/-- Records, marker and head record of one ring, then its indices return to 0 (R180 step 6, R629). -/
def endRing (s : State) (n : StallId) (r : RingId) : State :=
  let f := worldFn s n
  let s := s.rings[r].owed.foldl (fun s o => owedRaise s n o) s
  let s := if ringMarked s n r then
      let s := (abortedOf s n r).foldl (fun s q => post s (recordWrite s f n r q.slot (abortRecord s q) false none)) s
      let s := post s (recordWrite s f n r s.rings[r].head (markerRecord s n r) false none)
      if s.rings[r].hwbEn then post s (headWrite s f n r (headBytes 0 true 0) false) else s
    else s
  setRing s r fun x =>
    { Ring.reset with owner := x.owner, base := x.base, cpl := x.cpl, hwb := x.hwb, enable := x.enable,
                      sizeLog2 := x.sizeLog2, pasidIdx := x.pasidIdx, cls := x.cls, hwbEn := x.hwbEn,
                      fetchBurst := x.fetchBurst }

/-- STALL_RESET_END (R180 steps 5 and 6, R629, R631): records, markers, head records; the stall is QUIESCED and its
notice raised. -/
def execStallResetEnd (n : StallId) (s : State) : Host.Outcome State Fault Refusal :=
  if s.stalls[n].state ≠ .resetting then .next s else
  let s := (stallRings s n).foldl (fun s r => endRing s n r) s
  let s := setStall s n fun x => { x with state := .quiesced, resetCause := 0, aborted := [], badCmd := false,
                                          ringRefused := false, pasidInUse := false, worldRefused := false }
  .next (settle (notice s n 2))

/-! ### Resources of a stall (R168-R175) -/

/-- STL_RING_ADD (R172). -/
def wrRingAdd (s : State) (f : Fn) (n : StallId) (v : BitVec 64) : State :=
  if !stlMay s f n then s else
  let r : RingId := bvFin (field v 0 8)
  if s.rings[r].owner.isNone ∧ s.stalls[n].state ≠ .resetting ∧ (stallRings s n).length < 32 then
    setRing s r fun _ => { Ring.reset with owner := some n }
  else stlRefuse s n fun x => { x with ringRefused := true }

/-- STL_RING_REMOVE (R172, R267); a request that a stall reset aborts is admitted until its record posts. -/
def wrRingRemove (s : State) (f : Fn) (n : StallId) (v : BitVec 64) : State :=
  if !stlMay s f n then s else
  let r : RingId := bvFin (field v 0 8)
  if s.rings[r].owner = some n ∧ drained s r ∧ !(s.stalls[n].aborted.any fun q => decide (q.ring = r)) then setRing s r fun _ => Ring.reset
  else stlRefuse s n fun x => { x with ringRefused := true }

/-- STL_RING_ADD (R172). -/
def execStlRingAdd (f : Fn) (n : StallId) (v : BitVec 32) (s : State) : Host.Outcome State Fault Refusal :=
  .next (gateW s f fun s => settle (wrRingAdd s f n (v.setWidth 64)))

/-- STL_RING_REMOVE (R172). -/
def execStlRingRemove (f : Fn) (n : StallId) (v : BitVec 32) (s : State) : Host.Outcome State Fault Refusal :=
  .next (gateW s f fun s => settle (wrRingRemove s f n (v.setWidth 64)))

/-- Is a PASID entry selected by an enabled ring of the stall (R173)? -/
def pasidUsed (s : State) (n : StallId) (k : Fin 8) : Bool :=
  (stallRings s n).any fun r => s.rings[r].enable && decide (s.rings[r].pasidIdx = k)

/-- STL_PASIDk written (R173, R210). -/
def wrPasid (s : State) (f : Fn) (n : StallId) (k : Fin 8) (v : BitVec 64) : State :=
  if !stlMay s f n then s else
  let x := s.stalls[n]
  if pasidUsed s n k ∧ (!bit v 31 ∨ field v 0 20 ≠ x.pasid[k]) then stlRefuse s n fun x => { x with pasidInUse := true }
  else setStall s n fun x => { x with pasid := x.pasid.set k (field v 0 20), pasidValid := x.pasidValid.set k (bit v 31) }

/-- STL_PASID_WRITE (R173). -/
def execStlPasidWrite (f : Fn) (n : StallId) (k : Fin 8) (v : BitVec 32) (s : State) :
    Host.Outcome State Fault Refusal := .next (gateW s f fun s => settle (wrPasid s f n k (v.setWidth 64)))

/-- STL_WORLD written: PF1 only, FREE, no ring (R175). -/
def wrWorld (s : State) (f : Fn) (n : StallId) (v : BitVec 64) : State :=
  match f with
  | .pf0 => s
  | .pf1 =>
    if s.stalls[n].state = .free ∧ (stallRings s n).isEmpty then
      let s := resetRoutes s n
      setStall s n fun x => { x with secure := bit v 0 }
    else stlRefuse s n fun x => { x with worldRefused := true }

/-- STL_WORLD_WRITE (R175). -/
def execStlWorldWrite (f : Fn) (n : StallId) (v : BitVec 32) (s : State) : Host.Outcome State Fault Refusal :=
  .next (gateW s f fun s => settle (wrWorld s f n (v.setWidth 64)))

/-- STL_MGR_LINES written: LINES by the world's function, CAP by PF1 (R208). -/
def wrMgrLines (s : State) (f : Fn) (n : StallId) (v : BitVec 64) : State :=
  if !stlMay s f n then s else
  setStall s n fun x => { x with lines := field v 0 16, cap := if f = .pf1 then field v 16 16 else x.cap }

/-- STL_MGR_LINES_WRITE (R533). -/
def execStlMgrLinesWrite (f : Fn) (n : StallId) (v : BitVec 32) (s : State) : Host.Outcome State Fault Refusal :=
  .next (gateW s f fun s => wrMgrLines s f n (v.setWidth 64))

/-- CAPACITY_EVICTION (R533): the least recently used cached line of a stall above its capacity is evicted. -/
def execCapacityEviction (n : StallId) (s : State) : Host.Outcome State Fault Refusal :=
  .next (if effCap s n < reserved s n + cachedLines s n then evictOne s n else s)

/-- STL_STATUS (R204). -/
def stlStatus (s : State) (n : StallId) : BitVec 64 :=
  let x := s.stalls[n]
  let st : BitVec 3 := match x.state with
    | .free => 0 | .active => 1 | .quiescing => 2 | .quiesced => 3 | .resetting => 4
  place 0 st ||| flag 3 x.secure ||| place 4 x.notice ||| place 8 (satOf 12 (stallReqs s n).length)

/-- STL_STATUS_READ (R204, R757): the read clears NOTICE; PF0 sees a Secure-world stall's window as 0 (R118). -/
def execStlStatusRead (f : Fn) (n : StallId) (s : State) : Host.Outcome State Fault Refusal :=
  .next (gateBar s f fun s =>
    if stlMay s f n then setStall (answer s (.value (stlStatus s n))) n fun x => { x with notice := 0 }
    else answer s (.value 0))

/-- DRBG_RATE_WINDOW (R168, R171, R500): a 10 us window ends; draws beyond the allowance are carried, and the next window
takes the rate that STL_DRBG_RATE now holds. -/
def execDrbgRateWindow (s : State) : Host.Outcome State Fault Refusal :=
  .next { s with stalls := vmap (fun x =>
    { x with draws := if x.drbgNow = 0 then 0 else x.draws - x.drbgNow.toNat, drbgNow := x.drbgRate }) s.stalls }

/-! ### The Paddock Table and its epochs (R193-R200) -/

/-- PDK_EPOCH_CTL written by PF1 (R194, R196-R198, R217). -/
def wrEpochCtl (s : State) (f : Fn) (v m : BitVec 64) : State :=
  match f with
  | .pf0 => s
  | .pf1 =>
    let a := v &&& m
    let s := if bit a 9 then { s with pdk := { s.pdk with stageErr := false } } else s
    let err : State := { s with pdk := { s.pdk with stageErr := true } }
    match bit a 0, bit a 1 with
    | true, true => err
    | true, false =>
      if s.pdk.pending then err
      else if 4 ≤ (undrained s).length then
        { s with pdk := { s.pdk with pending := true, heldCommit := some (oldestUndrained s) } }
      else commit s
    | false, true => if s.pdk.pending then err else { s with pdk := { s.pdk with staged := s.pdk.live } }
    | false, false => s

/-- PDK_EPOCH_COMMIT (R194). -/
def execPdkEpochCommit (f : Fn) (s : State) : Host.Outcome State Fault Refusal :=
  .next (gateW s f fun s => wrEpochCtl s f 1 1)

/-- HELD_COMMIT_APPLY (R196): the oldest of four undrained epochs has drained. -/
def execHeldCommitApply (s : State) : Host.Outcome State Fault Refusal :=
  .next (match s.pdk.heldCommit with
    | some e => if e ∈ undrained s then s else commit s
    | none => s)

/-- STAGED_REFILL_END (R200): PENDING clears. -/
def execStagedRefillEnd (s : State) : Host.Outcome State Fault Refusal :=
  .next (if s.pdk.pending ∧ s.pdk.heldCommit = none then { s with pdk := { s.pdk with pending := false } } else s)

/-- PDK_EPOCH_DISCARD (R198). -/
def execPdkEpochDiscard (f : Fn) (s : State) : Host.Outcome State Fault Refusal :=
  .next (gateW s f fun s => wrEpochCtl s f 2 2)

/-- A PK entry with one word written (R215); TYPE 0b11 is reserved and keeps its value (R16). -/
def pkSet (e : PkEntry) (w : PkWord) (v : BitVec 64) : PkEntry :=
  match w with
  | .base => { e with valid := bit v 0, base := field v 12 22 }
  | .limit => { e with limit := field v 12 22 }
  | .mask => { e with mask := v }
  | .rights => { e with rd := bit v 0, wr := bit v 1, red := bit v 2, win := bit v 3,
                        type := if field v 4 2 = 3 then e.type else field v 4 2, prio := field v 8 2 }

/-- A PK entry written by PF1: the staged bank, unless PENDING (R193, R197). -/
def wrPk (s : State) (f : Fn) (k : Fin 256) (w : PkWord) (v : BitVec 64) : State :=
  match f with
  | .pf0 => s
  | .pf1 =>
    if s.pdk.pending then { s with pdk := { s.pdk with stageErr := true } }
    else { s with pdk := { s.pdk with staged := upd s.pdk.staged k fun e => pkSet e w v } }

/-- Offset of a word of a staged entry (R215). -/
def pkOff (k : Fin 256) : PkWord → Nat
  | .base => 0x20000 + 0x20 * k.val
  | .limit => 0x20008 + 0x20 * k.val
  | .mask => 0x20010 + 0x20 * k.val
  | .rights => 0x20018 + 0x20 * k.val

/-- PK_ENTRY_WRITE (R197). -/
def execPkEntryWrite (f : Fn) (k : Fin 256) (w : PkWord) (v : BitVec 64) (s : State) :
    Host.Outcome State Fault Refusal := .next (gateW64 s f (pkOff k w) fun s => wrPk s f k w v)

/-- PDK_PROT_FENCE written by PF1; a target later than the current epoch is ignored as a whole (R199). -/
def wrProtFence (s : State) (f : Fn) (v : BitVec 64) : State :=
  match f with
  | .pf0 => s
  | .pf1 =>
    let t := field v 0 16
    if earlier t s.pdk.epoch then s
    else { s with pdk := { s.pdk with target := t, irq := bit v 17, fenceDone := false, evaluating := true } }

/-- PDK_PROT_FENCE_WRITE (R199). -/
def execPdkProtFenceWrite (f : Fn) (v : BitVec 32) (s : State) : Host.Outcome State Fault Refusal :=
  .next (gateW s f fun s => wrProtFence s f (v.setWidth 64))

/-- PROT_FENCE_DONE (R199, R200): 8 cycles after the last earlier epoch drains. -/
def execProtFenceDone (s : State) : Host.Outcome State Fault Refusal :=
  if s.pdk.evaluating ∧ !fenceBlocked s then
    let s' := { s with pdk := { s.pdk with fenceDone := true, evaluating := false } }
    .next (if s.pdk.irq then settle (raiseEv s' 293) else s')
  else .next s

end Sys2Proof.Machine
end

