-- ==== Sys2Proof/Machine/Rings.lean ====
section
/-! DEFINITION. Rings: doorbells, ring registers, Alarm tokens, descriptor fetch, host reads and their failures, chains
that are too long, admission (03, 05, 06). -/

namespace Sys2Proof.Machine

/-! ### Doorbell pages (R120, R121, R164-R166) -/

/-- A write to a ring's doorbell page: stray unless the function serves the world of the ring's stall (R121). -/
def pageWrite (s : State) (f : Fn) (r : RingId) (k : State → StallId → State) : State :=
  gateBar s f fun s =>
    if s.boot.phase = .reset ∨ s.boot.phase = .bootFailed then s else
    match s.rings[r].owner with
    | some n => if worldFn s n = f then k s n else setFn s f fun x => { x with stray := satInc x.stray }
    | none => setFn s f fun x => { x with stray := satInc x.stray }

/-- BRD_DB_TAIL written on a live page (R178, R222, R223). -/
def tailWrite (s : State) (r : RingId) (n : StallId) (t : BitVec 16) : State :=
  let x := s.rings[r]
  if !x.enable || decide (s.stalls[n].state = .resetting) then s
  else if t.toNat < ringSize x ∧ ringDist x x.head x.fetch ≤ ringDist x x.head t then
    let s := setRing s r fun y => { y with tail := t, kept := true }
    if keepsTail s n then s else acceptTail s r
  else raiseEv (setRing s r fun y => { y with tailErr := true }) (evError n)

/-- BRD_DB_TAIL_WRITE (R222). -/
def execBrdDbTailWrite (f : Fn) (r : RingId) (v : BitVec 32) (s : State) : Host.Outcome State Fault Refusal :=
  .next (settle (pageWrite s f r fun s n => tailWrite s r n (field v 0 16)))

/-- BRD_DB_STATUS written on a live page: FETCH_ERR is W1C (R155, R166). -/
def statusWrite (s : State) (r : RingId) (v : BitVec 32) : State := setRing s r fun x => { x with fetchErr := x.fetchErr && !bit v 1 }

/-- FETCH_ERR_CLEAR (R155): BRD_DB_STATUS written; fetching resumes at the descriptor whose fetch failed. -/
def execFetchErrClear (f : Fn) (r : RingId) (v : BitVec 32) (s : State) : Host.Outcome State Fault Refusal :=
  .next (pageWrite s f r fun s _ => statusWrite s r v)

/-! ### Alarm tokens (R284, R285, R312) -/

/-- ALARM_TOKEN_REFILL (R284): a period of 1 ms ends. -/
def execAlarmTokenRefill (s : State) : Host.Outcome State Fault Refusal :=
  .next { s with stalls := vmap (fun x =>
    { x with tokens := BitVec.ofNat 6 (min x.burst.toNat (x.tokens.toNat + x.rate.toNat)) }) s.stalls }

/-- Sum of BURST over the other stalls that pass a test. -/
def burstSum (s : State) (n : StallId) (p : StallId → Bool) : Nat :=
  (((List.finRange 64).filter fun k => decide (k ≠ n) && p k).map fun k => s.stalls[k].burst.toNat).foldl (· + ·) 0

/-- DSP_ALARM_TB of a stall written (R285, R312). -/
def wrAlarmTb (s : State) (f : Fn) (n : StallId) (v : BitVec 64) : State :=
  if !stlMay s f n then s else
  let b := field v 0 6
  let s := setStall s n fun x => { x with rate := field v 8 16 }
  if 32 < b.toNat then s
  else if 32 < burstSum s n (fun _ => true) + b.toNat ∨
      (!s.stalls[n].secure ∧ s.disp.normalAlarmMax.toNat < burstSum s n (fun k => !s.stalls[k].secure) + b.toNat) then
    { s with disp := { s.disp with budgetRefused := true } }
  else setStall s n fun x => { x with burst := b, tokens := if b.toNat < x.tokens.toNat then b else x.tokens }

/-- DSP_ALARM_TB_WRITE (R285). -/
def execDspAlarmTbWrite (f : Fn) (n : StallId) (v : BitVec 64) (s : State) : Host.Outcome State Fault Refusal :=
  .next (gateW64 s f (0x08400 + 8 * n.val) fun s => wrAlarmTb s f n v)

/-! ### Ring registers (R224-R226, R267-R271) -/

/-- May a function write a ring's registers (R267)? -/
def ringWr (s : State) (f : Fn) (r : RingId) : Bool := (s.rings[r].owner.map (stlMay s f)).getD false

/-- A ring with the CTL fields of a written value; values out of range are ignored (R270). -/
def ctlSet (x : Ring) (v : BitVec 64) : Ring :=
  let sz := field v 1 4
  { x with sizeLog2 := if 4 ≤ sz.toNat then sz else x.sizeLog2, pasidIdx := bvFin (field v 5 3),
           cls := if field v 8 2 = 3 then x.cls else field v 8 2, hwbEn := bit v 10, fetchBurst := field v 12 4 }

/-- DSP_RING_CTL of a ring as it reads (R270). -/
def ctlBits (x : Ring) : BitVec 64 :=
  flag 0 x.enable ||| place 1 x.sizeLog2 ||| place 5 (BitVec.ofNat 3 x.pasidIdx.val) ||| place 8 x.cls ||| flag 10 x.hwbEn |||
  place 12 x.fetchBurst

/-- A ring just enabled: HEAD, FETCH and TAIL 0, lap 0 (R224). -/
def ringStart (x : Ring) : Ring :=
  { x with enable := true, tail := 0, kept := false, fetch := 0, adm := 0, head := 0, dbHead := 0, headDue := false, lap := 0,
           posted := 0, doneSlots := [], tags := [], budgets := [], debited := 0, buf := [], overlong := none, virtS := none,
           fence := none }

/-- A ring just disabled: fetched descriptors not admitted are discarded (R226). -/
def ringStop (s : State) (r : RingId) : State :=
  let s := dropCoop (dropFetches s fun k => decide (k = r)) (CoopFor.onRing fun k => decide (k = r))
  setRing s r fun x => { x with enable := false, kept := false, buf := [], budgets := [], overlong := none, virtS := none }

/-- DSP_RING_CTL written (R224-R226). -/
def wrRingCtl (s : State) (f : Fn) (r : RingId) (v : BitVec 64) : State :=
  if !ringWr s f r then s else
  let x := s.rings[r]
  if x.enable then
    let s := if field (v ^^^ ctlBits x) 1 15 &&& 0x7BFF ≠ 0 then setRing s r fun y => { y with cfgErr := true } else s
    if bit v 0 then s else ringStop s r
  else
    let s := setRing s r fun y => ctlSet y v
    if !bit v 0 then s else
    let y := s.rings[r]
    let ok := drained s r && match y.owner with
      | some n => decide (s.stalls[n].state ≠ .resetting) && s.stalls[n].pasidValid[y.pasidIdx]
      | none => false
    if ok then setRing s r ringStart else setRing s r fun y => { y with cfgErr := true }

/-- DSP_RING_BASE, DSP_RING_CPL or DSP_RING_HWB written (R225, R268, R269). -/
def wrRingAddr (s : State) (f : Fn) (r : RingId) (reg : RingReg) (v : BitVec 64) : State :=
  if !ringWr s f r then s else
  let x := s.rings[r]
  let y : Ring := match reg with
    | .base => { x with base := field v 12 52 }
    | .cpl => { x with cpl := field v 12 52 }
    | .hwb => { x with hwb := field v 3 61 }
    | .ctl => x
  if !x.enable then setRing s r fun _ => y
  else if y = x then s else setRing s r fun z => { z with cfgErr := true }

/-- DSP_RING_ENABLE (R224): DSP_RING_CTL written with ENABLE 1. -/
def execDspRingEnable (f : Fn) (r : RingId) (v : BitVec 32) (s : State) : Host.Outcome State Fault Refusal :=
  .next (gateW s f fun s => wrRingCtl s f r (v.setWidth 64 ||| 1))

/-- DSP_RING_DISABLE (R226): DSP_RING_CTL written with ENABLE 0. -/
def execDspRingDisable (f : Fn) (r : RingId) (v : BitVec 32) (s : State) : Host.Outcome State Fault Refusal :=
  .next (gateW s f fun s => wrRingCtl s f r (v.setWidth 64 &&& ~~~1))

/-- A configuration register of a ring written. -/
def wrRingReg (s : State) (f : Fn) (r : RingId) (reg : RingReg) (v : BitVec 64) : State :=
  match reg with
  | .ctl => wrRingCtl s f r v
  | _ => wrRingAddr s f r reg v

/-- Offset of a configuration register of a ring (R268-R270). -/
def ringOff (r : RingId) : RingReg → Nat
  | .base => 0x0A000 + 0x20 * r.val
  | .cpl => 0x0A008 + 0x20 * r.val
  | .hwb => 0x0A010 + 0x20 * r.val
  | .ctl => 0x0A018 + 0x20 * r.val

/-- DSP_RING_CFG_WRITE (R225). -/
def execDspRingCfgWrite (f : Fn) (r : RingId) (reg : RingReg) (v : BitVec 64) (s : State) :
    Host.Outcome State Fault Refusal := .next (gateW64 s f (ringOff r reg) fun s => wrRingReg s f r reg v)

/-! ### Descriptor fetch (R124, R227, R290) -/

/-- PAUSED of BRD_DB_STATUS (R166). -/
def ringPaused (s : State) (r : RingId) (n : StallId) : Bool :=
  s.rings[r].fetchErr || decide (s.link.stopState ≠ 0) || (fnState s (worldFn s n)).d3hot

/-- May a ring be fetched now (R82, R140, R227)? -/
def fetchMay (s : State) (r : RingId) (n : StallId) : Bool :=
  s.rings[r].enable && decide (s.boot.phase = .ready) && decide (s.stalls[n].state = .active) && !ringPaused s r n &&
  !(fnState s (worldFn s n)).flr

/-- Descriptors that the next fetch read carries (R124, R227, R616). -/
def fetchCount (s : State) (r : RingId) (n : StallId) : Nat :=
  let x := s.rings[r]
  let burst := if x.fetchBurst = 0 then 16 else x.fetchBurst.toNat
  min (min burst (ringDist x x.fetch x.tail)) (min (min (16 - ringDist x x.adm x.fetch) (ringSize x - x.fetch.toNat))
    (min (mrrsBytes s (worldFn s n) / 64) (64 - x.fetch.toNat % 64)))

/-- Issue one fetch read of a ring, when a tag and completion-buffer space are free (R124, R290, R618). -/
def fetchIssue (s : State) (r : RingId) (n : StallId) : State :=
  let x := s.rings[r]
  let m := fetchCount s r n
  let rd := newRead s (worldFn s n) n r (.fetch r x.fetch m) [(x.base.toNat * 4096 + 64 * x.fetch.toNat, 64 * m)] (ringPasid s n x)
    (decide (x.cls = 2))
  if !fetchMay s r n || decide (m = 0) || !readRoom s rd then s else
  let slots := (List.range m).map fun i => ringNext x x.fetch i
  let s := setRing s r fun y => { y with fetch := ringNext x x.fetch m, tags := y.tags.filter fun t => !slots.contains t.1 }
  sendRead { s with nextId := s.nextId + 1 } rd

/-- DESCRIPTOR_FETCH_ISSUE (R227). -/
def execDescriptorFetchIssue (r : RingId) (s : State) : Host.Outcome State Fault Refusal :=
  .next (match s.rings[r].owner with
    | some n => fetchIssue s r n
    | none => s)

/-- Descriptors arrive (R221, R284). -/
def fetchArrived (s : State) (r : RingId) (slot : BitVec 16) (count : Nat) (bs : List Byte) : State :=
  let x := s.rings[r]
  let one (i : Nat) : BufD :=
    let k := ringNext x slot i
    { slot := k, desc := descOf (slice bs (64 * i) 64), budget := (x.budgets.find? fun b => decide (b.1 = k)).map (·.2) }
  let new := (List.range count).map one
  noteEligible (setRing s r fun y => { y with buf := y.buf ++ new, tags := new.map (fun b => (b.slot, b.desc.tag)) ++ y.tags })

/-- A descriptor fetch fails, its failure logged: fetching stops at its slot, later reads and descriptors are dropped
(R154, R155). -/
def fetchFailed (s : State) (r : RingId) (slot : BitVec 16) : State :=
  let x := s.rings[r]
  let ahead := ringDist x slot x.fetch
  let later (k : BitVec 16) : Bool := decide (ringDist x slot k < ahead)
  let s := { s with link := { s.link with reads := s.link.reads.map fun y =>
    match y.what with
    | .fetch r' k _ => if r' = r ∧ later k then { y with what := .fetch r' k 0 } else y
    | _ => y } }
  let s := setRing s r fun y => { y with fetch := slot, fetchErr := true, buf := y.buf.filter fun b => !later b.slot,
                                         tags := y.tags.filter fun t => !later t.1 }
  match s.rings[r].owner with
  | some n => raiseEv s (evError n)
  | none => s

/-! ### Host reads (R138, R140, R791) -/

/-- A read of a number still outstanding. -/
def findRead (s : State) (i : Nat) : Option Rd := s.link.reads.find? fun r => decide (r.id = i)

/-- A read that has ended; its tags and its space are free again. -/
def endRead (s : State) (i : Nat) : State :=
  { s with link := { s.link with reads := s.link.reads.filter fun r => decide (r.id ≠ i) } }

/-- What a read of a request delivers to it. -/
def readInto (q : Req) (what : ReadFor) (bs : List Byte) : Req :=
  if q.done.isSome then q else
  match what with
  | .aux _ =>
    let a := arrived q.desc.auxLen bs
    let q := { q with aux := some a }
    if isFrag q.desc.opcode then fragArrived q a else q
  | .segment _ => segArrived q bs
  | .source _ => { q with src := some (arrived q.desc.srcLen bs) }
  | .blob _ =>
    let r := (blobRest q).getD (0, 0)
    { q with blob := some (q.blob.getD [] ++ arrived r.2 bs) }
  | .fetch _ _ _ => q

/-- A read's data delivered; the request's next reads follow. -/
def deliver (s : State) (rd : Rd) (bs : List Byte) : State :=
  match rd.what with
  | .fetch r slot count => if count = 0 then s else fetchArrived s r slot count bs
  | w =>
    match w.req with
    | none => s
    | some i =>
      let s := setReq s i fun q => readInto q w bs
      match findReq s i with
      | some q => issueReads s q
      | none => s

/-- Is a read a descriptor fetch? -/
def ReadFor.isFetch : ReadFor → Bool
  | .fetch _ _ _ => true
  | _ => false

/-- A read's deciding answer is a failure, logged whoever still waits for the read: kind 1 UR, 2 CA, 3 timeout, 4 poisoned
(R154, R162, R791). -/
def readFailed (s : State) (rd : Rd) (kind : BitVec 3) : State :=
  let s := logDma s rd.fn rd.ring kind rd.what.isFetch rd.pasid
  match rd.what with
  | .fetch r slot count => if count = 0 then s else fetchFailed s r slot
  | w =>
    match w.req.bind (findReq s) with
    | none => s
    | some q =>
      if q.done.isSome then s
      else setReq (failReq s q.id (if kind = 4 then 0x70 else 0x31) 0) q.id fun q => { q with readFail := true }

/-- HOST_READ_COMPLETION (R791): the deciding answer to a read; one of a function under FLR is discarded (R140). -/
def execHostReadCompletion (i : Nat) (ans : HostAnswer) (s : State) : Host.Outcome State Fault Refusal :=
  match findRead s i with
  | none => .next s
  | some rd =>
    let s := endRead s i
    if (fnState s rd.fn).flr then .next (pumpReads s) else
    .next (settle (pumpReads (match ans with
      | .data bs => deliver s rd bs
      | .ur => readFailed s rd 1
      | .ca => readFailed s rd 2
      | .poisoned => readFailed (setAer s rd.fn 1) rd 4)))

/-- COMPLETION_TIMEOUT (R138, R791). -/
def execCompletionTimeout (i : Nat) (s : State) : Host.Outcome State Fault Refusal :=
  match findRead s i with
  | none => .next s
  | some rd =>
    let s := endRead s i
    if (fnState s rd.fn).flr then .next (pumpReads s) else
    let s := { s with link := { s.link with timedOut := s.link.timedOut ++ [rd] } }
    .next (settle (pumpReads (readFailed (setAer s rd.fn 3) rd 3)))

/-- LATE_COMPLETION (R135, R153): discarded and logged as Unexpected Completion, as an Advisory Non-Fatal error unless its
severity is fatal (assumption 8). -/
def execLateCompletion (i : Nat) (s : State) : Host.Outcome State Fault Refusal :=
  match s.link.timedOut.find? fun r => decide (r.id = i) with
  | none => .next s
  | some rd =>
    let s := { s with link := { s.link with timedOut := s.link.timedOut.filter fun r => decide (r.id ≠ i) } }
    .next (if (fnState s rd.fn).flr then s else
      let s := setAer s rd.fn 5
      if bit (fnState s rd.fn).aerSev 5 then s else setAerCor s rd.fn 5)

/-! ### Chains of more than 8 members (R795) -/

/-- Fetched members of a chain that is too long: nine from its start, or those fetched since. -/
def overlongRun (x : Ring) : List BufD :=
  match x.overlong with
  | some _ => gather x 16 x.adm
  | none => if (gather x 9 x.adm).length = 9 then gather x 16 x.adm else []

/-- May a chain that is too long be rejected now: as for admission, with its first member's BARRIER (R245, R261)? -/
def overlongMay (s : State) (r : RingId) (g : List BufD) : Bool :=
  let x := s.rings[r]
  let barrier := x.overlong.isNone && (g.head?.map fun b => b.desc.barrier).getD false
  ringMay { s with rings := upd s.rings r fun y => { y with overlong := none } } r && x.fence.isNone &&
  (!barrier || !(s.reqs.any fun q => decide (q.ring = r)))

/-- The record of one member of a chain that is too long. -/
def overlongReq (s : State) (r : RingId) (n : StallId) (chain first k : Nat) (b : BufD) (reserve : Bool) : Req :=
  let pos := first + k
  let q := mkReq s r n [b] k b reserve
  let q := { q with chain := chain, pos := pos, members := max 2 (if b.desc.harness then pos + 2 else pos + 1) }
  if pos = 0 then endReq q 0x30 0x05 else { endReq q 0x30 0 with skipped := true }

/-- CHAIN_OVERLENGTH_REJECT (R795). -/
def execChainOverlengthReject (r : RingId) (s : State) : Host.Outcome State Fault Refusal :=
  let x := s.rings[r]
  let g := overlongRun x
  match x.owner with
  | none => .next s
  | some n =>
    if g.isEmpty || !overlongMay s r g then .next s else
    match takeSlots s n (inBudget x g) g.length with
    | none => .next s
    | some reserve =>
      let at_ := x.overlong.getD (s.nextId, 0)
      let qs := (List.range g.length).filterMap fun k => (g[k]?).map fun b => overlongReq s r n at_.1 at_.2 k b reserve
      let open_ := (g.getLast?.map fun b => b.desc.harness).getD false
      .next (setRing (takeCandidate s r g qs) r fun y =>
        { y with overlong := if open_ then some (at_.1, at_.2 + g.length) else none })

/-! ### Admission (R249, R259) -/

/-- CANDIDATE_ADMISSION (R249): the candidate at a ring's admission point. -/
def execCandidateAdmission (r : RingId) (s : State) : Host.Outcome State Fault Refusal :=
  .next (settle (serve (coopGrab (noteEligible s)) r))

end Sys2Proof.Machine
end

