-- ==== Sys2Proof/Machine/Requests.lean ====
section
/-! DEFINITION. The life of a request after admission: blob keys, preemption, chain members, cooperative holds,
known-answer tests, faults, stores, completion, release of reservations (05, 06, 07, 08, 10, 14). -/

namespace Sys2Proof.Machine

/-! ### Blob keys (R333, R334, R348) -/

/-- Use a blob's key for a request: attribute checks, the store's size, the tally grant, then the load (R325, R342,
R350). -/
def useBlobKey (s : State) (q : Req) (k : Key) (tag : List Byte) : State :=
  match attrErr s q.stall q.desc k.attr (decide (k.tallyAddr ≠ 0)) with
  | some dt => failReq s q.id 0x20 dt
  | none =>
    if q.desc.opcode = 0x71 ∧ q.members = 1 ∧ 256 < klen k.attr then failReq s q.id 0x20 0x01 else
    let r := grantUse s q.stall q.epoch q.tally k
    match r.2 with
    | some e => setReq r.1 q.id fun x => { endReq x e.1 e.2 with effect := x.effect || decide (e.1 = 0x22) }
    | none =>
      setReq (loadUnits r.1 q k tag) q.id fun x =>
        { x with key := some k, keyTag := tag, granted := true, effect := x.effect || decide (k.tallyAddr ≠ 0) }

/-- Has all of a request's blob arrived? -/
def blobReady (q : Req) : Bool := q.blob.isSome && (blobRest q).isNone

/-- The two cores of the ladder disagree: the result is discarded, the request ends INTERNAL and HS79 is raised (R315). -/
def coreMismatch (s : State) (i : Nat) : State := raiseHs (failReq s i 0x7F 0) 79 none

/-- TAG of the blob that a request has read. -/
def blobTagOf (q : Req) : List Byte :=
  let b := q.blob.getD []
  slice b (blobLen (klen (BitVec.ofNat 64 (fieldAt b 8 8))) - 16) 16

/-- The key of a register that a request of a blob reuses: each of its units holds the key under the blob's TAG (R348). -/
def reusedKey (s : State) (q : Req) : Option Key :=
  let us := q.unit.toList ++ q.coop
  if us.all fun u => (sameReg s u q.stall q.desc (blobTagOf q)).isSome then
    (us.head?.bind fun u => sameReg s u q.stall q.desc (blobTagOf q)).map (·.key)
  else none

/-- BLOB_UNWRAP_DONE (R334, R348): the blob that a request names as its key has been read; a register with its TAG is
reused, otherwise the blob is unwrapped, and the two cores agree or not (R315). -/
def execBlobUnwrapDone (i : Nat) (agree : Bool) (s : State) : Host.Outcome State Fault Refusal :=
  match findReq s i with
  | none => .next s
  | some q =>
    if !q.started || q.done.isSome || q.key.isSome || decide (q.desc.keySrc ≠ 2) || !blobReady q then .next s else
    .next (match reusedKey s q with
      | some k => settle (useBlobKey s q k (blobTagOf q))
      | none =>
        if !agree then settle (coreMismatch s i) else
        match unwrapBlob s q.stall (q.blob.getD []) with
        | .bad dt => failReq s i 0x21 dt
        | .key k tag => settle (useBlobKey s q k tag))

/-! ### Preemption (R291-R293) -/

/-- In-budget Alarm candidates of a pool that could be admitted now. -/
def alarmCands (s : State) (p : Pool) : List Cand :=
  (List.finRange 256).filterMap fun r =>
    match eligible s r with
    | none => none
    | some (n, g) =>
      if inBudget s.rings[r] g ∧ (g.head?.bind fun b => opPool b.desc.opcode) = some p ∧ (ruling s n g).1 = .ok ∧
         (takeSlots s n true g.length).isSome
      then some { ring := r, stall := n, alarm := true, deadline := candDeadline s r n g } else none

/-- Does a candidate find no unit free to take it? -/
def noUnit (s : State) (p : Pool) (c : Cand) : Bool :=
  match eligible s c.ring with
  | some (n, b :: _) => (chooseUnit s n true p b.desc).isNone
  | _ => false

/-- The in-budget Alarm candidate that is first in its pool, if it finds no unit free to take it (R291). -/
def firstBlocked (s : State) (p : Pool) : Option Cand :=
  ((alarmCands s p).foldl (fun (r : Option Cand) c => match r with
    | none => some c
    | some b => if before s p c b then some c else some b) none).filter (noUnit s p)

/-- Deadline of the request that a lane runs, if the lane may be preempted (R291); nothing further is placed on a DL15 that a
feed session waits for (R426). -/
def laneDeadline (s : State) (u : UnitId) : Option (BitVec 48) :=
  let x := s.units[u]
  if x.fenced || x.testDue || x.testing || x.suspended.isSome || !pdOn s (unitPd u) ||
     (decide (u = dl15) && decide (s.feed.state = .waiting)) then none else
  match x.run.bind (findReq s) with
  | some q => if q.alarm || q.done.isSome then none else some q.deadline
  | none => none

/-- The lane preempted for a stall: latest deadline, then the higher number (R291). -/
def preemptLane (s : State) (p : Pool) (n : StallId) : Option UnitId :=
  ((stallUnits s p n).foldl (fun (r : Option (UnitId × BitVec 48)) u =>
    match laneDeadline s u, r with
    | none, r => r
    | some d, none => some (u, d)
    | some d, some (v, e) => if sooner d e then some (v, e) else some (u, d)) none).map (·.1)

/-- PREEMPT_SUSPEND (R292): the lane suspends its request, zeroises its key register and takes the Alarm candidate. -/
def execPreemptSuspend (u : UnitId) (s : State) : Host.Outcome State Fault Refusal :=
  let s := noteEligible s
  let p := unitPool u
  if !s.disp.preemptEn || decide (p = .bignum) || !intervalOk s p || memberWaits s p then .next s else
  match firstBlocked s p with
  | none => .next s
  | some c =>
    if preemptLane s p c.stall ≠ some u then .next s else
    match eligible s c.ring, s.units[u].run with
    | some (n, g), some i =>
      (match takeSlots s n true g.length with
       | none => .next s
       | some reserve =>
         .next (settle (admitOn (setUnit s u fun x => { x with run := none, suspended := some i, keyReg := none }) c.ring n g reserve [u])))
    | _, _ => .next s

/-- SUSPENDED_RESUME (R292): the Alarm request's processing has ended; the key is reloaded, with no bump. -/
def execSuspendedResume (u : UnitId) (s : State) : Host.Outcome State Fault Refusal :=
  let x := s.units[u]
  let ended := match x.run with
    | none => true
    | some j => ((findReq s j).map fun q => q.done.isSome).getD true
  match x.suspended with
  | none => .next s
  | some i =>
    if !ended || x.fenced then .next s else
    let s := setUnit s u fun x => { x with run := some i, suspended := none, keyReg := none }
    .next (match findReq s i with
      | some q => (match q.key with
        | some k => loadReg s u q.stall q.desc k q.keyTag
        | none => s)
      | none => s)

/-! ### Chain members (R255, R256) -/

/-- Is a member next in its chain: every earlier member's record has posted? -/
def memberNext (s : State) (q : Req) : Bool := !(s.reqs.any fun o => decide (o.chain = q.chain) && decide (o.pos < q.pos))

/-- Start a member on units it takes, as a placement. -/
def placeMember (s : State) (q : Req) (p : Pool) (us : List UnitId) : State :=
  startReq (notePlaced s p q.stall q.ring) q us

/-- Can a waiting member be given its units now, or begin to hold them? -/
def memberMay (s : State) (q : Req) (p : Pool) : Bool :=
  if !unitPoolKind p then poolTakes s p q.desc
  else if 1 < unitsNeeded s q.desc then
    -- a member goes ahead of a candidate that holds units (R255, R277)
    (match s.disp.coop with
     | some (.member i) => decide (i = q.id)
     | _ => decide (s.disp.coopLate ≠ some (.member q.id)) || decide (unitsNeeded s q.desc ≤ coopAble s q.stall))
  else (chooseUnit s q.stall q.alarm p q.desc).isSome

/-- Does the member of an earlier chain, that could be served now, wait in the same pool (R281)? -/
def memberAhead (s : State) (q : Req) (p : Pool) : Bool :=
  s.reqs.any fun o => decide (o.chain < q.chain) && !o.started && o.done.isNone && decide (opPool o.desc.opcode = some p) &&
    memberNext s o && memberMay s o p

/-- CHAIN_MEMBER_START (R255): a member that needs several units holds them, as a candidate does (R278). -/
def execChainMemberStart (i : Nat) (s : State) : Host.Outcome State Fault Refusal :=
  match findReq s i with
  | none => .next s
  | some q =>
    if q.pos = 0 ∨ q.started ∨ q.done.isSome ∨ !memberNext s q then .next s else
    match opPool q.desc.opcode with
    | none => .next s
    | some p =>
      if noEngine s q.stall q.desc then .next (settle (coopShort (failReq s i 0x40 0) q.desc))
      else if !intervalOk s p || memberAhead s q p || !memberMay s q p then .next s
      else if !unitPoolKind p then .next (settle (placeMember s q p []))
      else if 1 < unitsNeeded s q.desc then
        .next (if s.disp.coop = some (.member i) then coopGrab s else coopHold (dropHeld s) (.member i))
      else match chooseUnit s q.stall q.alarm p q.desc with
        | some u => .next (settle (placeMember s q p [u]))
        | none => .next s

/-! ### Cooperative holds (R278, R473) -/

/-- COOP_HOLD_COMPLETE (R278): the set is complete; the operation starts on all of it. -/
def execCoopHoldComplete (s : State) : Host.Outcome State Fault Refusal :=
  let s := coopGrab (noteEligible s)
  let us := heldUnits s
  match s.disp.coop with
  | none => .next s
  | some (.ring r) =>
    (match eligible s r with
     | some (n, b :: t) =>
       let reserve := takeSlots s n (inBudget s.rings[r] (b :: t)) (t.length + 1)
       if us.length < unitsNeeded s b.desc ∨ (ruling s n (b :: t)).1 ≠ .ok ∨ reserve.isNone ∨ !intervalOk s .bignum then .next s
       else .next (settle (dropHeld (admitOn s r n (b :: t) (reserve.getD false) us)))
     | _ => .next (dropHeld s))
  | some (.member i) =>
    (match findReq s i with
     | some q =>
       if us.length < unitsNeeded s q.desc ∨ !intervalOk s .bignum then .next s
       else .next (settle (dropHeld (placeMember s q .bignum us)))
     | none => .next (dropHeld s))

/-- COOP_HOLD_TIMEOUT (R473): the set is incomplete 2 ms after holding began; it begins again once enough units can take
what waits. -/
def execCoopHoldTimeout (s : State) : Host.Outcome State Fault Refusal :=
  let t := dropHeld s
  .next { t with disp := { t.disp with coopLate := if s.disp.coop.isSome then s.disp.coop else s.disp.coopLate } }

/-! ### Known-answer tests (R295-R299) -/

/-- Index of a unit pool in the rotation. -/
def rotIx : Pool → Option (Fin 3)
  | .cipher => some 0
  | .digest => some 1
  | .bignum => some 2
  | _ => none

/-- A due time of a pool (R295): the next unit is chosen; while the one chosen before is under test, or every unit that could
be chosen is HELD (R478), the start waits. -/
def katDue (s : State) (i : Fin 3) : State :=
  let wait := { s with disp := { s.disp with rotDue := s.disp.rotDue.set i (s.disp.rotDue[i] + 1) } }
  if s.disp.rotUnit[i].isSome then wait
  else if (rotPick s i).isSome then katChoose s i
  else if (poolUnits (rotPool i)).any fun u => s.units[u].held && !s.units[u].fenced && pdOn s (unitPd u) then wait
  else s

/-- KAT_DUE (R295): a due time of a pool in READY. -/
def execKatDue (p : Pool) (s : State) : Host.Outcome State Fault Refusal :=
  match rotIx p with
  | none => .next s
  | some i => .next (if s.boot.phase ≠ .ready then s else katDue (coopGrab s) i)

/-- KAT_START (R296, R297): the unit's requests have ended; its key register is zeroised. -/
def execKatStart (u : UnitId) (s : State) : Host.Outcome State Fault Refusal :=
  let x := s.units[u]
  let feed := decide (u.val = 47) && feedActive s && !(decide (s.feed.state = .waiting) && s.feed.testFirst)
  let busy := x.run.isSome || x.suspended.isSome || x.held || x.testing || feed
  if !x.testDue || x.fenced || busy || !pdOn s (unitPd u) then .next s
  else .next (setUnit s u fun x => { x with testDue := false, testing := true, keyReg := none })

/-- A feed session on a lane that is fenced ends with SELF_TEST_FAIL (09, R424). -/
def feedFault (s : State) (u : UnitId) : State := if u.val = 47 ∧ feedActive s then feedFail s 0x41 else s

/-- A unit that has passed its test: one that the rotation chose meanwhile stays chosen (R295). -/
def testPassed (s : State) (u : UnitId) : State :=
  let s := { s with disp := { s.disp with passes := satInc s.disp.passes } }
  if s.units[u].testDue then setUnit s u fun x => { x with testing := false } else endTest s u

/-- KAT_END (R76, R296, R299): the unit rejoins its pool, where a cooperative set may take it (R464), or is fenced; a boot
test that fails is a failed self-test. -/
def execKatEnd (u : UnitId) (pass : Bool) (s : State) : Host.Outcome State Fault Refusal :=
  if !s.units[u].testing then .next s
  else if pass then .next (katNext (coopGrab (testPassed s u)))
  else if inSelfTest s then .next (settle (bootFenceUnit (endTest s u) u))
  else .next (settle (feedFault (fenceUnit s u 6) u))

/-- UNIT_FAULT_CHECK_FAIL (R303, R349, R623): a check of a unit fails during its work, or its key register's zeroisation
reads back wrong; on a unit already fenced only the latter is left, and it keeps the fence. -/
def execUnitFaultCheckFail (u : UnitId) (cause : BitVec 4) (s : State) : Host.Outcome State Fault Refusal :=
  let x := s.units[u]
  if x.fenced then
    (if cause = 5 then .next (settle (raiseHs (setUnit s u fun x => noteFault x 5) (unitHs u) none)) else .next s)
  else if cause = 5 ∨ x.run.isSome ∨ x.suspended.isSome ∨ x.testing ∨ (u.val = 47 ∧ feedActive s) then
    .next (settle (feedFault (fenceUnit s u cause) u))
  else .next s

/-! ### Posting stores (R612, R613, R623) -/

/-- Does a VBR request still wait for its release (R392)? -/
def vbrWaits (q : Req) (d : Done) : Bool := decide (vbrLines q.desc ≠ 0) && decide (d.status = 0) && !q.released

/-- Write bytes into an intermediate at an offset. -/
def interPut (s : State) (chain : Nat) (i : Fin 8) (off : Nat) (bs : List Byte) : State :=
  let old := ((s.inters.find? fun x => decide (x.chain = chain) && decide (x.i = i)).map (·.bytes)).getD []
  let new := slice old 0 off ++ bs ++ old.drop (off + bs.length)
  { s with inters := (s.inters.filter fun x => !(decide (x.chain = chain) && decide (x.i = i))) ++
      [{ chain := chain, i := i, isKey := false, bytes := new, attr := 0 }] }

/-- The posted write of a data store (R122, R123). -/
def dataWrite (s : State) (q : Req) (a : Nat) (bs : List Byte) : Pw :=
  let f := worldFn s q.stall
  { fn := f, kind := .data, addr := a, bytes := bs, pasid := prefixOf s f q.pasid,
    relaxed := (fnState s f).dataRo && (fnState s f).roEnable, alarm := q.alarm, req := some q.id, stall := some q.stall }

/-- Bytes that a request writes to local memory, where another chain admitted at the same time has written a byte too: that
byte is a free value (R262, assumption 70). -/
def racedBytes (s : State) (q : Req) (a : Nat) (bs : List Byte) : List Byte :=
  let others := (s.reqs.filter fun o => decide (o.chain ≠ q.chain)).flatMap (·.wrote)
  if others.isEmpty then bs else
  (List.range bs.length).map fun i =>
    if others.any fun w => decide (w.1 ≤ a + i ∧ a + i < w.1 + w.2) then Config.freeByte (s.free + i) else bs.getD i 0

/-- A request's write to local memory, noted with the request (R262). -/
def localStore (s : State) (q : Req) (a : Nat) (bs : List Byte) : State :=
  let bs' := racedBytes s q a bs
  let s := setReq (localPut s (byReq q) a bs') q.id fun x => { x with wrote := x.wrote ++ [(a, bs.length)] }
  if bs' = bs then s else takeFree s bs.length

/-- Post one store; none when the host posted-write buffer has no room, or the Manger holds the access. -/
def postStore (s : State) (q : Req) (x : Store) : Option State :=
  match x.dest with
  | .host a => let w := dataWrite s q a x.bytes; if pwbRoom s w then some (post s w) else none
  | .locl a => if accessHeld s a then none else some (localStore s q a x.bytes)
  | .inter i off => some (interPut s q.chain i off x.bytes)

/-- Post stores in order while there is room; what is left. -/
def postStores (s : State) (q : Req) : List Store → State × List Store
  | [] => (s, [])
  | x :: t => match postStore s q x with
    | some s' => postStores s' q t
    | none => (s, x :: t)

/-- SLICE_WRITE (R619): a home slice, or a line of an intermediate, accepts the next store of a request. -/
def execSliceWrite (i : Nat) (s : State) : Host.Outcome State Fault Refusal :=
  match findReq s i with
  | none => .next s
  | some q =>
    match q.done, q.stores with
    | some d, x :: t =>
      if vbrWaits q d then .next s else
      (match x.dest with
       | .host _ => .next s
       | _ => match postStore s q x with
         | some s' => .next (setReq s' i fun q => { q with stores := t })
         | none => .next s)
    | _, _ => .next s

/-- VBR_RELEASE (R392, R400): the tag has matched; the lane is free and the plaintext may be written. -/
def execVbrRelease (i : Nat) (s : State) : Host.Outcome State Fault Refusal :=
  match findReq s i with
  | none => .next s
  | some q =>
    match q.done with
    | some d => if vbrWaits q d then .next (freeUnits (setReq s i fun q => { q with released := true }) i) else .next s
    | none => .next s

/-! ### Completion (R250, R256, R404, R613) -/

/-- Later members of a chain after a failure (R256). -/
def skipLater (s : State) (q : Req) (d : Done) : State :=
  if d.status.toNat ≤ 1 ∨ q.skipped then s else
  { s with reqs := s.reqs.map fun o =>
      if o.chain = q.chain ∧ q.pos < o.pos ∧ o.done.isNone then { endReq o d.status (BitVec.ofNat 8 q.pos) with skipped := true } else o }

/-- The unit that a record names counts the request (R404, R443, R482). -/
def countReq (s : State) (q : Req) (d : Done) : State :=
  if h : unitCode q < 56 then
    (if d.status = 0x7F ∧ d.detail = 0x02 then s else setUnit s ⟨unitCode q, h⟩ fun x => { x with reqs := satInc x.reqs })
  else s

/-- Is the key in a unit's register NO_REUSE? -/
def noReuse (s : State) (u : UnitId) : Bool := (s.units[u].keyReg.map fun r => bit r.key.attr 44).getD false

/-- NO_REUSE zeroises the key register after the request, however it ended (R349). -/
def dropNoReuse (s : State) (q : Req) : State :=
  (q.unit.toList ++ q.coop).foldl (fun s u => if holdsKey s u q.stall q.desc && noReuse s u then zeroKeyReg s u else s) s

/-- The record has entered the host posted-write buffer: the request is committed (R613). -/
def committed (s : State) (q : Req) (d : Done) : State :=
  let s := dropNoReuse (countReq s q d) q
  let s := dropDraws (freeUnits s q.id) fun i => decide (i = q.id)
  let s := { s with reqs := s.reqs.filter fun o => decide (o.id ≠ q.id) }
  let before := s.rings[q.ring].head
  let s := setRing s q.ring fun x => { slotPosted x q.slot q.desc.tag with fence := if x.fence = some q.id then none else x.fence }
  let s := sweepDropped (skipLater s q d)
  let x := s.rings[q.ring]
  if x.hwbEn ∧ x.head ≠ before then setRing s q.ring fun x => { x with owed := x.owed ++ [owedOf q d] }
  else
    let s := if x.hwbEn then s else setRing s q.ring fun x => { x with dbHead := x.head, headDue := false }
    owedRaise s q.stall (owedOf q d)

/-- Post the rest of a request's stores, then its record. -/
def complete (s : State) (q : Req) (d : Done) : State :=
  if !memberNext s q || vbrWaits q d then s else
  let r := postStores s q q.stores
  let s := setReq r.1 q.id fun x => { x with stores := r.2 }
  if !r.2.isEmpty then s else
  let w := recordWrite s (worldFn s q.stall) q.stall q.ring q.slot (recordOf s q d) q.alarm (some q.id)
  if pwbRoom s w then committed (post s w) q d else s

/-- REQUEST_COMPLETE (R613): a BNU that frees is held for a cooperative operation that waits for it (R278). -/
def execRequestComplete (i : Nat) (s : State) : Host.Outcome State Fault Refusal :=
  match findReq s i with
  | none => .next s
  | some q =>
    match q.done with
    | some d => .next (coopGrab (settle (complete s q d)))
    | none => .next s

/-- HEAD_RECORD_WRITE (R233, R613): the head record of a ring whose HEAD has advanced, then the events that follow it. -/
def execHeadRecordWrite (r : RingId) (s : State) : Host.Outcome State Fault Refusal :=
  let x := s.rings[r]
  match x.owner with
  | none => .next s
  | some n =>
    let f := worldFn s n
    let alarm := x.owed.any fun o => o.2.2
    if !x.headDue || !pwbRoom s (headWrite s f n r (headBytes x.head (headPhase x) x.posted) alarm) then .next s else
    let s := setRing (writeHead s f n r alarm) r fun y => { y with owed := [] }
    .next (settle (x.owed.foldl (fun s o => owedRaise s n o) s))

/-! ### Release of reservations (R257, R392, R474) -/

/-- INTERMEDIATE_ZEROISE (R257): after the chain's last record. -/
def execIntermediateZeroise (c : Nat) (s : State) : Host.Outcome State Fault Refusal :=
  if s.reqs.any fun q => decide (q.chain = c) then .next s else
  let s := { s with inters := s.inters.filter fun x => decide (x.chain ≠ c), quotas := s.quotas.filter fun x => decide (x.1 ≠ c) }
  .next (release s fun r => decide (r.who = .chain c))

/-- VBR_LINES_ZEROISE (R392): after the record. -/
def execVbrLinesZeroise (i : Nat) (s : State) : Host.Outcome State Fault Refusal :=
  if (findReq s i).isSome then .next s else .next (release s fun r => decide (r.who = .vbr i))

/-- COOP_LINES_ZEROISE (R474): after the record. -/
def execCoopLinesZeroise (i : Nat) (s : State) : Host.Outcome State Fault Refusal :=
  if (findReq s i).isSome then .next s else .next (release s fun r => decide (r.who = .coop i))

/-! ### FENCE and NOP (R245, R246) -/

/-- FENCE (R245): done once every earlier descriptor of its ring has posted and, with IMM bit 0, every request of the
stall's other rings admitted before it. -/
def execFence (i : Nat) (s : State) : Host.Outcome State Fault Refusal :=
  match findReq s i with
  | none => .next s
  | some q =>
    if q.desc.opcode ≠ 0xF0 ∨ q.done.isSome then .next s else
    let waits := s.reqs.any fun o => decide (o.id < i) && decide (o.stall = q.stall) && (decide (o.ring = q.ring) || bit q.desc.imm 0)
    .next (if waits then s else finish s i 0 0 0 0 [])

/-- NOP (R246). -/
def execNop (i : Nat) (s : State) : Host.Outcome State Fault Refusal :=
  match findReq s i with
  | none => .next s
  | some q => .next (if q.desc.opcode ≠ 0xF1 ∨ q.done.isSome then s else finish s i 0 0 0 0 [])

end Sys2Proof.Machine
end

