-- ==== Sys2Proof/Machine/Exec.lean ====
section
/-! DEFINITION. What every opcode row shares: when a request's operation can run, its source bytes, its draws, its output
as stores (05, 11, 14). -/

namespace Sys2Proof.Machine

/-! ### Draws (R462, R498, R500) -/

/-- Does a request write a key of its own as a blob, so that it needs an IV (R332, R460)? -/
def wrapsBlob (d : Desc) : Bool :=
  decide (d.dstSel ≠ 3) && ([0x70, 0x72, 0x73, 0x77, 0x46, 0x4A, 0x51, 0x52].contains d.opcode || (isKeygen d.opcode && decide (d.keySrc = 0)))

/-- Queue entries that a request draws and is charged for (R500). -/
def chargedDraws (d : Desc) : Nat :=
  match d.opcode with
  | 0x60 => if bit d.mode 0 then 0 else ceilDiv (field d.imm 0 32).toNat 64
  | 0x73 => ceilDiv (klen d.imm) 64
  | 0x44 => if d.var = 0 then ceilDiv (curveLen d.param) 64 else 0
  | 0x47 | 0x50 | 0x54 => if d.keySrc = 0 then ceilDiv (klen d.imm) 64 else 0
  | 0x51 => 1
  | 0x55 => if d.var = 0 then 1 else 0
  | _ => if d.ivGen then 1 else 0

/-- Queue entries that a request draws: those charged, and one for a blob's IV, charged to no stall (assumption 27). -/
def totalDraws (d : Desc) : Nat := chargedDraws d + (if wrapsBlob d then 1 else 0)

/-- Entries granted to a request. -/
def drawn (s : State) (i : Nat) : List (BitVec 512) :=
  ((s.ent.granted.find? fun g => decide (g.1 = .request i)).map (·.2)).getD []

/-- The first n bytes of a request's charged entries. -/
def randomBytes (s : State) (q : Req) (n : Nat) : List Byte := slice (entryBytes ((drawn s q.id).take (chargedDraws q.desc))) 0 n

/-- The IV of a request's blob: the leading bytes of the entry drawn for it. -/
def blobIv (s : State) (q : Req) : List Byte := slice (entryBytes ((drawn s q.id).drop (chargedDraws q.desc))) 0 12

/-! ### Source -/

/-- What a request's source gives. -/
inductive Src where
  | wait
  | bytes (b : List Byte)
  | bad (status detail : Byte)
  deriving DecidableEq, Repr

/-- The intermediate that a source names. -/
def interAt (s : State) (chain : Nat) (i : Fin 8) : Option Inter :=
  s.inters.find? fun x => decide (x.chain = chain) && decide (x.i = i)

/-- The copies that the crib of a request's unit holds: a Shared read-only source is read through them (R397, R548). -/
def cribOf (s : State) (q : Req) : List CribLine := (q.unit.map fun u => s.units[u].crib).getD []

/-- Local memory as a unit with a crib reads it: from its copy of a line, past it otherwise (R397, R549). -/
def cribRead (s : State) (c : List CribLine) (a n : Nat) : List Byte :=
  let past := coRead s a n
  if c.isEmpty then past else
  (List.range n).map fun i =>
    match c.find? fun x => decide (x.line = lineOf (a + i)) with
    | some x => field x.data (8 * ((a + i) % 512)) 8
    | none => past.getD i 0

/-- Does such a read meet a poisoned sector, of a copy or of a line past the crib (R584)? -/
def cribPoisoned (s : State) (c : List CribLine) (a n : Nat) : Bool :=
  coPoisoned s a n || c.any fun x =>
    (List.finRange 8).any fun k =>
      bit x.poison k.val && decide (lineAddr x.line + 64 * k.val < a + n) && decide (a < lineAddr x.line + 64 * k.val + 64)

/-- The source bytes of a request: host data that has arrived, local memory, an intermediate of either kind, whose bytes
a key's do not leave it here (R235, R239, R253, R584). -/
def srcBytes (s : State) (q : Req) : Src :=
  let d := q.desc
  if isFrag d.opcode && !fragLenOk d.auxLen then .bad 0x30 0x04
  else if d.srcLen = 0 then .bytes []
  else if isFrag d.opcode then (match q.src with
    | some b => .bytes b
    | none => .wait)
  else if !hasSrc d then .bytes []
  else match d.srcSel with
  | 2 =>
    if accessHeld s d.src then .wait
    else if cribPoisoned s (cribOf s q) d.src d.srcLen then .bad 0x70 0 else .bytes (cribRead s (cribOf s q) d.src d.srcLen)
  | 3 =>
    (match interAt s q.chain (toFin 8 (by decide) d.src) with
     | some x =>
       if x.bytes.length < d.srcLen then .bad 0x32 (srcShortDetail d)
       else .bytes (if x.isKey then [] else x.bytes.take d.srcLen)
     | none => .bytes [])
  | _ => (match q.src with
    | some b => .bytes b
    | none => .wait)

/-! ### Running (R276, R292, R468) -/

/-- Does a request hold its unit, or its whole set, now? -/
def onUnits (s : State) (q : Req) : Bool :=
  (q.unit.toList ++ q.coop).all fun u => decide (s.units[u].run = some q.id) && !s.units[u].fenced &&
    (decide (u.val < 48) || s.units[u].seeded)

/-- The request of a number, if its operation of an opcode can run now: started, on its unit, its key loaded, its AUX
block and lists read, its draws granted. -/
def readyReq (s : State) (i op : Nat) : Option Req :=
  match findReq s i with
  | none => none
  | some q =>
    let d := q.desc
    if decide (d.opcode = op) && q.started && q.done.isNone && onUnits s q && (decide (d.keySrc = 0) || q.key.isSome) &&
       (decide (d.auxLen = 0) || q.aux.isSome) && q.walks.isEmpty && decide (totalDraws d ≤ (drawn s i).length)
    then some q else none

/-- A crib's lines in the order of use, oldest first: those that a unit uses now become its last (R548). -/
def cribUse (s : State) (u : UnitId) (hit : CribLine → Bool) : State :=
  setUnit s u fun x => { x with crib := (x.crib.filter fun c => !hit c) ++ x.crib.filter hit }

/-- A request has read a local source: its unit has used the crib lines that the source meets. -/
def cribUsed (s : State) (q : Req) : State :=
  match q.unit with
  | none => s
  | some u =>
    if q.desc.srcSel ≠ 2 then s else
    cribUse s u fun c => decide (lineAddr c.line < q.desc.src + q.desc.srcLen) && decide (q.desc.src < lineAddr c.line + 512)

/-- Run an operation on its source bytes when it can run. -/
def runOp (s : State) (i op : Nat) (k : State → Req → List Byte → State) : Host.Outcome State Fault Refusal :=
  match readyReq s i op with
  | none => .next s
  | some q =>
    match srcBytes s q with
    | .wait => .next s
    | .bad st dt => .next (failReq s i st dt)
    | .bytes b => .next (settle (k (cribUsed s q) q b))

/-- An operation whose AES work runs on the two cores: `agree` says whether their results are equal where the operation
would otherwise end well (R315, assumption 69). -/
def checkCores (agree : Bool) (k : State → Req → List Byte → State) (s : State) (q : Req) (b : List Byte) : State :=
  let t := k s q b
  if agree then t else
  match (findReq t q.id).bind (·.done) with
  | some e => if e.status = 0 then coreMismatch s q.id else t
  | none => t

/-- A request's key value. -/
def keyOf (q : Req) : List Byte := (q.key.map (·.value)).getD []

/-- A request's AUX block. -/
def auxOf (q : Req) : List Byte := q.aux.getD []

/-- Count the input bytes a lane has processed (R404, R443). -/
def countBytes (s : State) (q : Req) (n : Nat) : State :=
  match q.unit with
  | some u => if u.val < 48 then setUnit s u fun x => { x with bytes := satAdd x.bytes n } else s
  | none => s

/-! ### Output (R124, R235, R612) -/

/-- Bytes laid over ranges in order. -/
def overRanges (dest : Nat → StoreTo) : List (Nat × Nat) → List Byte → List Store
  | [], _ => []
  | (a, n) :: t, bs => { dest := dest a, bytes := bs.take n } :: overRanges dest t (bs.drop n)

/-- A local range cut at 64-byte sectors; the fuel bounds the number of pieces. -/
def sectorCut : Nat → Nat → Nat → List (Nat × Nat)
  | 0, _, _ => []
  | fuel + 1, a, n =>
    if n = 0 then [] else
    let k := min n (64 - a % 64)
    (a, k) :: sectorCut fuel (a + k) (n - k)

/-- Stores of bytes to host ranges, cut as write TLPs (R124). -/
def hostStores (s : State) (q : Req) (spans : List (Nat × Nat)) (bs : List Byte) : List Store :=
  let f := worldFn s q.stall
  overRanges .host (spans.flatMap fun x => cut (maxPayload s f) (x.2 / 64 + 2) x.1 x.2) bs

/-- The stores that write bytes to a request's destination. -/
def storesOf (s : State) (q : Req) (bs : List Byte) : List Store :=
  let d := q.desc
  if bs.isEmpty then [] else
  match d.dstSel with
  | 0 => hostStores s q [(d.dst, bs.length)] bs
  | 1 => hostStores s q (takeSpans (q.dstSpans.getD []) bs.length) bs
  | 2 => overRanges .locl (sectorCut (bs.length / 64 + 2) d.dst bs.length) bs
  | _ => [{ dest := .inter (toFin 8 (by decide) d.dst) 0, bytes := bs }]

/-- Does an output exceed its destination (R239, R387)? -/
def tooLongOut (d : Desc) (n : Nat) : Bool :=
  decide (d.dstLen < n) || (decide (d.dstSel = 3) && decide (512 * d.interLines < n))

/-- End an operation with its output. -/
def output (s : State) (q : Req) (bs : List Byte) (result : Nat) : State :=
  if hasDst q.desc && tooLongOut q.desc bs.length then failReq s q.id 0x32 (shortDetail q.desc)
  else finish s q.id 0 0 bs.length result (storesOf s q bs)

/-- Put a KEY intermediate in place of a destination (R253). -/
def putKeyInter (s : State) (q : Req) (k : Key) : State :=
  let i := toFin 8 (by decide) q.desc.dst
  { s with inters := (s.inters.filter fun x => !(decide (x.chain = q.chain) && decide (x.i = i))) ++
      [{ chain := q.chain, i := i, isKey := true, bytes := k.value, attr := k.attr }] }

/-! ### The key AUX block (R336, R340, R790) -/

/-- A key AUX block. -/
structure KeyAux where
  label : List Byte
  context : List Byte
  tallyAddr : BitVec 64
  tallyLimit : BitVec 64
  deriving DecidableEq, Repr

/-- The key AUX block of a request, all zero when it has none; nothing when a rule of it is broken. -/
def keyAux (q : Req) : Option KeyAux :=
  let a := auxOf q
  if q.desc.auxLen = 0 then some { label := [], context := [], tallyAddr := 0, tallyLimit := 0 } else
  let l := fieldAt a 0 2
  let c := fieldAt a 2 2
  let ta := fieldAt a 8 8
  let tl := fieldAt a 16 8
  if 32 < l ∨ 64 < c ∨ !zeroAt a 4 4 ∨ q.desc.auxLen ≠ 24 + l + c ∨ ta % 8 ≠ 0 ∨ 2 ^ 34 ≤ ta ∨ (ta = 0 ∧ tl ≠ 0) then none
  else some { label := slice a 0x18 l, context := slice a (0x18 + l) c, tallyAddr := BitVec.ofNat 64 ta,
              tallyLimit := BitVec.ofNat 64 tl }

/-- Why a new key with a block's tally fields is refused (R340). -/
def newKeyErr (d : Desc) (a : KeyAux) : Option (Byte × Byte) :=
  if d.dstSel = 3 ∧ a.tallyAddr ≠ 0 then some (0x30, 0x09)
  else if bit d.imm 45 ∧ a.tallyAddr = 0 then some (0x20, 0x0A)
  else none

/-- A new key with the attribute word of IMM and a block's tally fields. -/
def newKey (d : Desc) (a : KeyAux) (value : List Byte) : Key :=
  { value := value, attr := d.imm, tallyAddr := a.tallyAddr, tallyLimit := a.tallyLimit }

/-- End an operation that makes a key: into a KEY intermediate, or as a blob, with other bytes before and after it. -/
def outputKey (s : State) (q : Req) (before : List Byte) (k : Key) (after : List Byte) (result : Nat) : State :=
  if q.desc.dstSel = 3 then
    (if tooLongOut q.desc k.value.length then failReq s q.id 0x32 (shortDetail q.desc)
     else finish (putKeyInter s q k) q.id 0 0 (before.length + k.value.length) result [])
  else output s q (before ++ wrapBlob s q.stall k (blobIv s q) ++ after) result

end Sys2Proof.Machine
end

