-- ==== Sys2Proof/Machine/HalterOps.lean ====
section
/-! DEFINITION. The Halter's commands: assertions, rails, promotion windows, latched status, safe state, alert,
configuration, self-check (15). -/

namespace Sys2Proof.Machine

/-- HALTER_SOURCE_ASSERT (R642): a source line is asserted, or a further attribution is delivered on it. -/
def execHalterSourceAssert (k : HsId) (st : Option StallId) (s : State) : Host.Outcome State Fault Refusal :=
  .next (settle (raiseHs (setHs s k fun x => { x with asserted := true }) k st))

/-- HALTER_SOURCE_DEASSERT (R792): the line, or the pair, returns to idle; what is latched stays (R646). -/
def execHalterSourceDeassert (k : HsId) (s : State) : Host.Outcome State Fault Refusal :=
  .next (setHs s k fun x => { x with asserted := false, railBad := false })

/-- RAIL_DISAGREEMENT (R645): a pair that disagrees acts as an assertion with no stall; single-rail sources have no
pair. -/
def execRailDisagreement (k : HsId) (s : State) : Host.Outcome State Fault Refusal :=
  if !dualRail k then .next s else
  let s := setHs s k fun x => { x with railBad := true }
  .next (settle { s with hlt := { s.hlt with inbox := s.hlt.inbox ++ [{ src := k, stall := none, rail := true, info := false, again := false }] } })

/-- PROMO_WINDOW_EXPIRY (R649). -/
def execPromoWindowExpiry (k : HsId) (s : State) : Host.Outcome State Fault Refusal :=
  .next (setHs s k fun x => { x with c := 0 })

/-- Clear one source's latch; C and PROMOTED go with it (R669); a line or pair still asserted latches again (R644,
R646). -/
def clearHs (s : State) (k : HsId) : State :=
  if !s.hlt.src[k].latch then s else
  let s := setHs s k fun x => { x with latch := false, promoted := false, c := 0, infoLatch := false }
  let s := if anyLatched s then s else { s with hlt := { s.hlt with first := 0x7F } }
  let x := s.hlt.src[k]
  if x.asserted || x.railBad then
    { s with hlt := { s.hlt with inbox := s.hlt.inbox ++ [{ src := k, stall := none, rail := x.railBad, info := false, again := true }] } }
  else s

/-- HLT_STATUSi written by PF1 (R669). -/
def wrHltStatus (s : State) (f : Fn) (i : Fin 3) (v : BitVec 64) : State :=
  match f with
  | .pf0 => s
  | .pf1 => (List.finRange 96).foldl (fun s k =>
      if k.val / 32 = i.val ∧ bit v (k.val % 32) then clearHs s k else s) s

/-- HLT_STATUS_CLEAR (R669). -/
def execHltStatusClear (f : Fn) (i : Fin 3) (v : BitVec 32) (s : State) : Host.Outcome State Fault Refusal :=
  .next (gateW s f fun s => settle (wrHltStatus s f i (v.setWidth 64)))

/-- Does a source with SAFE_STATE stand latched or asserted (R661)? -/
def safeWanted (s : State) : Bool :=
  (List.finRange 96).any fun k =>
    (s.hlt.src[k].latch || s.hlt.src[k].asserted || s.hlt.src[k].railBad) && bit (effReact s k) 6

/-- HLT_SAFE_CTL written by PF1: FORCE wins over RELEASE (R659, R661, R666). -/
def wrSafeCtl (s : State) (f : Fn) (v : BitVec 64) : State :=
  match f with
  | .pf0 => s
  | .pf1 =>
    let s := if bit v 9 then { s with hlt := { s.hlt with relErr := false } } else s
    if bit v 0 then { s with hlt := { s.hlt with safe := true } }
    else if bit v 1 then
      (if safeWanted s then { s with hlt := { s.hlt with relErr := true } } else { s with hlt := { s.hlt with safe := false } })
    else s

/-- HLT_SAFE_CTL_FORCE (R659). -/
def execHltSafeCtlForce (f : Fn) (v : BitVec 32) (s : State) : Host.Outcome State Fault Refusal :=
  .next (gateW s f fun s => wrSafeCtl s f (v.setWidth 64 ||| 1))

/-- HLT_SAFE_CTL_RELEASE (R661). -/
def execHltSafeCtlRelease (f : Fn) (v : BitVec 32) (s : State) : Host.Outcome State Fault Refusal :=
  .next (gateW s f fun s => wrSafeCtl s f (v.setWidth 64 ||| 2))

/-- Does a latched source hold the alert state, or does one of its other conditions (R663)? -/
def alertWanted (s : State) : Bool :=
  alertHolds s || (List.finRange 96).any fun k => s.hlt.src[k].latch && (bit (effReact s k) 1 || bit (effReact s k) 5)

/-- HLT_ALERT_CTL written by PF1: FORCE is a level, CLEAR an action (R663, R676). -/
def wrAlertCtl (s : State) (f : Fn) (v m : BitVec 64) : State :=
  match f with
  | .pf0 => s
  | .pf1 =>
    let s := { s with hlt := { s.hlt with alertForce := bit v 0, alert := s.hlt.alert || bit v 0,
                                          clrErr := s.hlt.clrErr && !(bit (v &&& m) 9) } }
    if bit (v &&& m) 1 then
      (if alertWanted s then { s with hlt := { s.hlt with clrErr := true } } else { s with hlt := { s.hlt with alert := false } })
    else s

/-- HLT_ALERT_CTL_CLEAR (R663). -/
def execHltAlertCtlClear (f : Fn) (v : BitVec 32) (s : State) : Host.Outcome State Fault Refusal :=
  .next (gateW s f fun s => wrAlertCtl s f (v.setWidth 64 ||| 2) (BitVec.allOnes 64))

/-- HLT_ALERT_CTL_FORCE (R663). -/
def execHltAlertCtlForce (f : Fn) (v : BitVec 32) (s : State) : Host.Outcome State Fault Refusal :=
  .next (gateW s f fun s => wrAlertCtl s f (v.setWidth 64 ||| 1) (BitVec.allOnes 64))

/-- Bits [25:0] of HLT_SRC_CFGk as they read (R673). -/
def srcCfgLow (s : State) (k : HsId) : BitVec 64 :=
  let x := s.hlt.src[k]
  let r := if k.val = 95 then x.react ||| 0x20 else x.react
  place 0 x.sev ||| place 2 r ||| place 12 x.promoWin ||| place 16 x.promoN ||| place 24 x.promoSev

/-- REACT bits that a source implements: no BLOCK_RESET without a block, ALERT fixed for HS95 (R641, R657, R673). -/
def reactMask (k : HsId) (r : BitVec 7) : BitVec 7 :=
  let r := if (hsBlock k).isNone then r &&& ~~~ 0x04 else r
  if k.val = 95 then r ||| 0x20 else r

/-- HLT_SRC_CFGk written by PF1; LOCK is an SO field, and a locked entry that would change sets CFG_ERR (R666, R673). A
write makes the entry's parity good again (R667). -/
def wrSrcCfg (s : State) (f : Fn) (k : HsId) (v m : BitVec 64) : State :=
  match f with
  | .pf0 => s
  | .pf1 =>
    let x := s.hlt.src[k]
    let next : HSrc := { x with sev := field v 0 2, react := reactMask k (field v 2 7), promoWin := field v 12 4,
                                promoN := field v 16 8, promoSev := field v 24 2, parityBad := false }
    let s1 := setHs s k fun _ => next
    let s' := if x.lock then
        (if srcCfgLow s1 k = srcCfgLow s k then s else { s with hlt := { s.hlt with cfgErr := true } })
      else s1
    if bit m 31 ∧ !x.lockWritten then setHs s' k fun y => { y with lock := bit v 31, lockWritten := true } else s'

/-- HLT_SRC_CFG_WRITE (R666). -/
def execHltSrcCfgWrite (f : Fn) (k : HsId) (v : BitVec 64) (s : State) : Host.Outcome State Fault Refusal :=
  .next (gateW64 s f (0x03100 + 8 * k.val) fun s => wrSrcCfg s f k v (BitVec.allOnes 64))

/-- SAFE_LEVEL as a write leaves it: encoding 0b11 of a pin is reserved, and its two bits keep their value (R16, R674;
assumption 16). -/
def safeLevels (old : BitVec 16) (v : BitVec 64) : BitVec 16 :=
  (List.range 8).foldl (fun x i =>
    if field v (2 * i) 2 = 3 then x
    else (x &&& ~~~ (3 : BitVec 16) <<< (2 * i)) ||| (field v (2 * i) 2).setWidth 16 <<< (2 * i)) old

/-- HLT_GUARD_CTL written by PF1 (R666, R674). -/
def wrGuardCtl (s : State) (f : Fn) (v m : BitVec 64) : State :=
  match f with
  | .pf0 => s
  | .pf1 =>
    let h := s.hlt
    let level := safeLevels h.safeLevel v
    let h1 := if level = h.safeLevel then h
              else if h.safe || h.guardLock then { h with cfgErr := true } else { h with safeLevel := level }
    let h2 := if bit m 31 ∧ !h.guardLockWritten then { h1 with guardLock := bit v 31, guardLockWritten := true } else h1
    { s with hlt := h2 }

/-- HLT_GUARD_CTL_WRITE (R666). -/
def execHltGuardCtlWrite (f : Fn) (v : BitVec 32) (s : State) : Host.Outcome State Fault Refusal :=
  .next (gateW s f fun s => wrGuardCtl s f (v.setWidth 64) (BitVec.allOnes 64))

/-- HLT_GUARD_OUT written by PF1 (R675). -/
def wrGuardOut (s : State) (f : Fn) (v : BitVec 64) : State :=
  match f with
  | .pf0 => s
  | .pf1 => { s with hlt := { s.hlt with guardValue := field v 0 8, guardDrive := field v 8 8 } }

/-- HLT_GUARD_OUT_WRITE (R675). -/
def execHltGuardOutWrite (f : Fn) (v : BitVec 32) (s : State) : Host.Outcome State Fault Refusal :=
  .next (gateW s f fun s => wrGuardOut s f (v.setWidth 64))

/-- A level of a pin. -/
inductive Pin where
  | low | high | highZ
  deriving DecidableEq, Repr

/-- GUARD_OUTn: high impedance until APPLY ends; SAFE_LEVEL while the SAFE latch is set; otherwise as HLT_GUARD_OUT
says (R42, R660, R675). -/
def guardPin (s : State) (n : Fin 8) : Pin :=
  if !s.boot.applied then .highZ
  else if s.hlt.safe then
    (match (field s.hlt.safeLevel (2 * n.val) 2).toNat with
     | 0 => .low
     | 1 => .high
     | _ => .highZ)
  else if bit s.hlt.guardDrive n.val then (if bit s.hlt.guardValue n.val then .high else .low)
  else .highZ

/-- ALERT_N and ALERT_P (R662). -/
def alertPins (s : State) : Pin × Pin := if s.hlt.alert then (.low, .high) else (.high, .low)

/-- A failed check: HLT_SELFTEST records it and HS95 is raised (R665, R667). -/
def selfFail (s : State) (cause : BitVec 4) (src : Option HsId) : State :=
  raiseHs { s with hlt := { s.hlt with cause := cause, source := (src.map fun k => BitVec.ofNat 7 k.val).getD s.hlt.source } } 95 none

/-- The dual-rail sources, ascending (R641). -/
def pairs : List HsId := (List.finRange 96).filter dualRail

/-- HALTER_SELF_CHECK (R665, R667): injection into the next pair (undetected, its source acts as a disagreement), the two copies of the reaction logic, and the parity
of the configuration, HLT_SEV_REACT included; what fails is the operand. When the copies differ, the union of their reactions is taken, which is
what this one copy takes. -/
def execHalterSelfCheck (injectOk copiesOk : Bool) (badParity : Option HltPart) (s : State) :
    Host.Outcome State Fault Refusal :=
  let k := pairs.getD s.hlt.nextPair 95
  let s := { s with hlt := { s.hlt with nextPair := (s.hlt.nextPair + 1) % 32 } }
  let s := if injectOk then s else
    selfFail { s with hlt := { s.hlt with inbox := s.hlt.inbox ++ [{ src := k, stall := none, rail := true, info := false, again := false }] } } 1 (some k)
  let s := if copiesOk then s else selfFail s 2 none
  let s := match badParity with
    | some (.source j) => selfFail (setHs s j fun x => { x with parityBad := true }) 3 (some j)
    | some .sevReact => selfFail { s with hlt := { s.hlt with sevParityBad := true } } 3 none
    | none => s
  let s := if injectOk && copiesOk && badParity.isNone then { s with hlt := { s.hlt with passes := satInc s.hlt.passes } } else s
  .next (settle s)

/-- PAD_READBACK_MISMATCH (R664). -/
def execPadReadbackMismatch (s : State) : Host.Outcome State Fault Refusal := .next (settle (selfFail s 4 none))

/-- MAX_SEV of HLT_SUMMARY (R671). -/
def maxSev (s : State) : Nat :=
  (List.finRange 96).foldl (fun m k => if s.hlt.src[k].latch then max m ((effSev s k).toNat + 1) else m) 0

/-- LATCHED of HLT_SUMMARY. -/
def latchedCount (s : State) : Nat := (vfind s.hlt.src fun x => x.latch).length

end Sys2Proof.Machine
end

