-- ==== Sys2Proof/Machine/Digest.lean ====
section
/-! DEFINITION. The digest lanes' opcodes, the DL15 feed and the Measurement Bank (09). -/

namespace Sys2Proof.Machine

/-! ### Keyed state (R342, R419-R421) -/

/-- The state that a key prepares for HMAC, or for KMAC with a customization string (R419, R421). -/
def prepared (alg : Nat) (key custom : List Byte) : List Byte := stdBytes .keyState [leBytes 1 alg, key, custom] 256

/-- Kind of the keyed-state entry that serves a request; 0 when none does (R343, R420). -/
def entryKind (s : State) (q : Req) : Nat := (q.handle.map fun h => s.tkr.store[h].kind.toNat).getD 0

/-- Prepared state of a request's key: the entry's own for kinds HMAC and KMAC, prepared in the lane otherwise. -/
def keyedState (s : State) (q : Req) (custom : List Byte) : List Byte :=
  if 2 ≤ entryKind s q then keyOf q else prepared q.desc.alg (keyOf q) custom

/-! ### Hashes, XOFs and MACs (R411-R417) -/

/-- Index of the first entry of a fragment list that a message does not wholly consume (R416). -/
def firstLeft : List (Nat × Nat) → Nat → Nat → Nat
  | [], _, i => i
  | (_, n) :: t, need, i => if need < n then i else firstLeft t (need - n) (i + 1)

/-- End a digest request with its output: OK, or OK_TRUNCATED with what a fragment list left over (R414, R416, R417). -/
def digestOut (s : State) (q : Req) (bs : List Byte) : State :=
  let extra := fragSum (auxOf q) - q.desc.srcLen
  if tooLongOut q.desc bs.length then failReq s q.id 0x32 0x02
  else if isFrag q.desc.opcode ∧ extra ≠ 0 then
    finish s q.id 0x01 (BitVec.ofNat 8 (firstLeft (fragEntries (auxOf q)) q.desc.srcLen 0)) bs.length (min extra 0xFFFFFFFF)
      (storesOf s q bs)
  else finish s q.id 0 0 bs.length 0 (storesOf s q bs)

/-- OUT_BYTES (R412). -/
def outBytes (d : Desc) : Nat := (field d.imm 0 32).toNat

/-- HASH, HASH_FRAG and XOF. -/
def hashRun (s : State) (q : Req) (src : List Byte) : State :=
  let d := q.desc
  digestOut (countBytes s q d.srcLen) q (stdBytes (.digest d.alg) [src] ((outLenOf d).getD 0))

/-- HMAC and HMAC_FRAG: the leftmost MAC_LEN bytes. -/
def hmacRun (s : State) (q : Req) (src : List Byte) : State :=
  let d := q.desc
  digestOut (countBytes s q d.srcLen) q (stdBytes (.hmac d.alg) [keyedState s q [], src] ((outLenOf d).getD 0))

/-- The rules of the KMAC AUX block that depend on its contents (R413). -/
def kmacAuxOk (d : Desc) (aux : List Byte) : Bool :=
  let n := fieldAt aux 0 2
  decide (d.auxLen = 0) || (decide (1 ≤ n ∧ n ≤ 248) && zeroAt aux 2 6 && decide (d.auxLen = 8 + n))

/-- KMAC and KMAC_XOF: the final right_encode takes OUT_BYTES x 8, or 0 (R413). -/
def kmacRun (s : State) (q : Req) (src : List Byte) : State :=
  let d := q.desc
  let aux := auxOf q
  if !kmacAuxOk d aux then failReq s q.id 0x30 0x09 else
  let custom := if d.auxLen = 0 then [] else slice aux 8 (fieldAt aux 0 2)
  let l := if d.opcode = 0x2C then 8 * outBytes d else 0
  digestOut (countBytes s q d.srcLen) q (stdBytes (.kmac d.alg) [keyedState s q custom, src, beBytes 4 l] (outBytes d))

/-- HASH (R412). -/
def execHash (i : Nat) (s : State) : Host.Outcome State Fault Refusal := runOp s i 0x20 hashRun
/-- HASH_FRAG (R416). -/
def execHashFrag (i : Nat) (s : State) : Host.Outcome State Fault Refusal := runOp s i 0x21 hashRun
/-- XOF (R412). -/
def execXof (i : Nat) (s : State) : Host.Outcome State Fault Refusal := runOp s i 0x22 hashRun
/-- HMAC (R419). -/
def execHmac (i : Nat) (s : State) : Host.Outcome State Fault Refusal := runOp s i 0x28 hmacRun
/-- HMAC_FRAG (R416). -/
def execHmacFrag (i : Nat) (s : State) : Host.Outcome State Fault Refusal := runOp s i 0x29 hmacRun
/-- KMAC (R413). -/
def execKmac (i : Nat) (s : State) : Host.Outcome State Fault Refusal := runOp s i 0x2C kmacRun
/-- KMAC_XOF (R413). -/
def execKmacXof (i : Nat) (s : State) : Host.Outcome State Fault Refusal := runOp s i 0x2D kmacRun

/-! ### The Measurement Bank (R431-R438) -/

/-- The 48 bytes of a measurement register, byte 0 first (R450). -/
def mrBytes (s : State) (k : MrId) : List Byte := leBytes 48 s.mrb.value[k].toNat

/-- An extend of a measurement register with 48 bytes (R432). -/
def mrExtend (s : State) (k : MrId) (e : List Byte) : State :=
  { s with mrb := { s.mrb with value := s.mrb.value.set k (BitVec.ofNat 384 (leNat (sha384 (mrBytes s k ++ slice e 0 48)))),
                               count := upd s.mrb.count k satInc } }

/-- Every extend that waits in the bank, in its order (R436, R437). -/
def mrSettled (s : State) : State :=
  s.mrb.queue.foldl (fun s x => mrExtend s x.mr (leBytes 48 x.input.toNat)) { s with mrb := { s.mrb with queue := [] } }

/-- What a read of a register by a function waits for: every extend of it whose input that function has completed, and
those before it (R436). -/
def mrSettledFor (s : State) (f : Fn) (k : MrId) : State :=
  let q := s.mrb.queue
  let n := q.length - (q.reverse.takeWhile fun x => !(decide (x.fn = f) && decide (x.mr = k))).length
  (q.take n).foldl (fun s x => mrExtend s x.mr (leBytes 48 x.input.toNat)) { s with mrb := { s.mrb with queue := q.drop n } }

/-- The register that an MR_EXTEND names. -/
def mrOf (d : Desc) : MrId := toFin 48 (by decide) (field d.imm 0 6).toNat

/-- MR_EXTEND: register-path extends go before it; READ returns the value, RAW hashes the source (R435, R437). -/
def mrRun (s : State) (q : Req) (src : List Byte) : State :=
  let d := q.desc
  if s.mrb.fenced then failReq s q.id 0x40 0 else
  let k := mrOf d
  let s := mrSettled s
  let s := if bit d.mode 0 then s
    else setReq (mrExtend s k (if bit d.mode 1 then sha384 src else src)) q.id fun x => { x with effect := true }
  output s q (if d.dstLen = 0 then [] else mrBytes s k) s.mrb.count[k].toNat

/-- MR_EXTEND (R435). -/
def execMrExtend (i : Nat) (s : State) : Host.Outcome State Fault Refusal := runOp s i 0x30 mrRun

/-- May a function extend a register on the register path (R433)? -/
def mrMay (s : State) (f : Fn) (k : MrId) : Bool :=
  decide (2 ≤ k.val) && match f with
  | .pf1 => true
  | .pf0 => bit s.mrb.nmMask k.val

/-- A function's SEQ_ERR set. -/
def mrSeqErr (s : State) (f : Fn) : State := { s with mrb := { s.mrb with seqErr := s.mrb.seqErr.set (fnIx f) true } }

/-- A function's input buffer. -/
def mrSetBuf (s : State) (f : Fn) (b : Option MrBuf) : State := { s with mrb := { s.mrb with buf := s.mrb.buf.set (fnIx f) b } }

/-- The six words of a complete buffer, word 0 least significant. -/
def mrWords (w : Vector (Option (BitVec 64)) 6) (last : BitVec 64) : Option (BitVec 384) :=
  let low := (List.range 5).map fun i => w.toList.getD i none
  if low.all Option.isSome then
    some (BitVec.ofNat 384 (leNat ((low.flatMap fun x => leBytes 8 (x.getD 0).toNat) ++ leBytes 8 last.toNat)))
  else none

/-- A VALUE word of a register written by a function (R434). A fenced bank takes no extend (R438). -/
def wrMrValue (s : State) (f : Fn) (k : MrId) (j : Fin 6) (v : BitVec 64) : State :=
  if !mrMay s f k then { s with mrb := { s.mrb with denied := s.mrb.denied.set (fnIx f) true } } else
  let cur := s.mrb.buf[fnIx f]
  let other := (cur.map fun b => decide (b.mr ≠ k)).getD false
  let s := if other then mrSeqErr s f else s
  let words := match cur with
    | some b => if b.mr = k then b.words else Vector.replicate 6 none
    | none => Vector.replicate 6 none
  if j.val < 5 then mrSetBuf s f (some { mr := k, words := words.set j (some v) })
  else match mrWords words v with
    | some e =>
      let s := mrSetBuf s f none
      if s.mrb.fenced then s else { s with mrb := { s.mrb with queue := s.mrb.queue ++ [{ fn := f, mr := k, input := e }] } }
    | none => mrSetBuf (mrSeqErr s f) f (if words.toList.any Option.isSome then some { mr := k, words := words } else none)

/-- MR_VALUE_WRITE (R434). -/
def execMrValueWrite (f : Fn) (k : MrId) (j : Fin 6) (v : BitVec 64) (s : State) : Host.Outcome State Fault Refusal :=
  .next (gateW64 s f (0x07000 + 0x40 * k.val + 8 * j.val) fun s => wrMrValue s f k j v)

/-- MR_EXTEND_APPLY (R432, R437): the oldest extend of the register path is applied. -/
def execMrExtendApply (s : State) : Host.Outcome State Fault Refusal :=
  match s.mrb.queue with
  | [] => .next s
  | x :: t => .next (mrExtend { s with mrb := { s.mrb with queue := t } } x.mr (leBytes 48 x.input.toNat))

/-- BANK_ENGINE_MISMATCH (R438): the extend that computes is not applied; a request ends INTERNAL; what waits is then
refused. -/
def execBankEngineMismatch (s : State) : Host.Outcome State Fault Refusal :=
  let reqs := running s .measurement
  if s.mrb.fenced ∨ (s.mrb.queue = [] ∧ reqs = []) then .next s else
  let s := match s.mrb.queue, reqs with
    | [], q :: _ => failReq s q.id 0x7F 0
    | _, _ => s
  .next (settle (selfFail { s with mrb := { s.mrb with fenced := true, queue := [] } } 5 none))

/-! ### The DL15 feed (R425-R430, R445-R449) -/

/-- Is a session's ALG keyed as KEYED says, and its output length valid (R425, R428)? -/
def feedFormOk (s : State) (x : Feed) : Bool :=
  let a := x.alg.toNat
  let n := x.outBytes.toNat
  let algOk := if x.keyed then decide (1 ≤ a ∧ a ≤ 9) || decide (a = 12) || decide (a = 13) else decide (1 ≤ a ∧ a ≤ 11)
  let outOk := if a ≤ 9 then decide (n ≤ algLen a) else decide ((if 12 ≤ a then 4 else 1) ≤ n)
  algOk && outOk && (!x.keyed || s.stalls[bvFin x.stall].secure)

/-- The descriptor that a session's key is checked for (R420, R425). -/
def feedDesc (x : Feed) : Desc :=
  let op : Nat := if x.alg.toNat ≤ 9 then 0x28 else 0x2C
  { w := #v[BitVec.ofNat 64 (op + 256 * x.alg.toNat + 3 * 2 ^ 24), x.handle.setWidth 64, 0, 0, 0, 0, 0, 0] }

/-- The handle's entry as the session's stall sees it at START. -/
def feedKey (s : State) (x : Feed) : Found := findEntry s (bvFin x.stall) (bvFin x.handle)

/-- Status code of a failed START, in the order R425 lists its codes. -/
def feedStartErr (s : State) (x : Feed) : Option Byte :=
  if !feedFormOk s x then some 0x30
  else if s.units[dl15].fenced || !pdPowered s (unitPd dl15) then some 0x40
  else if x.keyed then (keyErr s (bvFin x.stall) (feedDesc x) (feedKey s x)).map (·.1)
  else none

/-- START (R425): a failed condition sets STATE to ERROR, and no session has begun. -/
def feedStart (s : State) : State :=
  if feedActive s then { s with feed := { s.feed with seqErr := true } } else
  let due := s.units[dl15].testDue || s.units[dl15].testing
  let x : Feed := { s.feed with state := .waiting, code := 0, endCause := 0, count := 0, msg := [], buf := [], out := 0,
                                key := none, testFirst := due }
  match feedStartErr s x with
  | some c => feedError { s with feed := x } c 0
  | none => { s with feed := x }

/-- Does the table of R411 list an ALG? -/
def algListed (a : BitVec 4) : Bool := decide (1 ≤ a.toNat ∧ a.toNat ≤ 13)

/-- DL_FEED_CTL written by PF1: its RW fields outside a session, an ALG that R411 does not list leaving that field (R16),
then ABORT, then START (R425, R429, R445). -/
def wrFeedCtl (s : State) (f : Fn) (v m : BitVec 64) : State :=
  match f with
  | .pf0 => s
  | .pf1 =>
    let a := v &&& m
    let x := s.feed
    let s' := if feedActive s then s else
      { s with feed := { x with alg := if algListed (field v 0 4) then field v 0 4 else x.alg, keyed := bit v 8,
                                handle := field v 16 11, stall := field v 32 6 } }
    let s' := if bit a 62 then feedEnd s' 1 else s'
    if bit a 63 then (if feedActive s then { s' with feed := { s'.feed with seqErr := true } } else feedStart s') else s'

/-- DL_FEED_START (R425): DL_FEED_CTL written with START. -/
def execDlFeedStart (f : Fn) (v : BitVec 64) (s : State) : Host.Outcome State Fault Refusal :=
  .next (gateW64 s f 0x57900 fun s => wrFeedCtl s f (v ||| flag 63 true) (BitVec.allOnes 64))

/-- DL_FEED_ABORT (R429): DL_FEED_CTL written with ABORT. -/
def execDlFeedAbort (f : Fn) (v : BitVec 64) (s : State) : Host.Outcome State Fault Refusal :=
  .next (gateW64 s f 0x57900 fun s => wrFeedCtl s f (v ||| flag 62 true) (BitVec.allOnes 64))

/-- FEED_SESSION_CLAIM (R426): DL15's requests, and a test that was due first, have ended. The session counts as a user
admitted with its handle (R439). -/
def execFeedSessionClaim (s : State) : Host.Outcome State Fault Refusal :=
  let u := s.units[dl15]
  let x := s.feed
  if x.state ≠ .waiting ∨ u.run.isSome ∨ u.suspended.isSome ∨ u.testing ∨ (x.testFirst ∧ u.testDue) then .next s else
  let s := zeroKeyReg s dl15
  if !x.keyed then .next { s with feed := { x with state := .opened } } else
  let n : StallId := bvFin x.stall
  let found := heldEntry s n (bvFin x.handle)
  match keyErr s n (feedDesc x) found, found with
  | some e, _ => .next (feedFail s e.1)
  | none, .none st _ => .next (feedFail s st)
  | none, .key k kind _ =>
    let r := grantUse s n s.pdk.epoch 0 k
    match r.2 with
    | some e => .next (settle (feedFail r.1 e.1))
    | none =>
      let st := if 2 ≤ kind then k.value else prepared x.alg.toNat k.value []
      .next (settle { r.1 with feed := { x with state := .opened, key := some { k with value := st } } })

/-- Bytes supplied to a session: BYTES, and the input bytes of DL15 (R427, R443, R448). -/
def feedBytes (s : State) (n : Nat) : State :=
  { setUnit s dl15 (fun u => { u with bytes := satAdd u.bytes n }) with feed := { s.feed with count := satAdd s.feed.count n } }

/-- A DATA word joins the input buffer; with 64 words there the Bridle holds the write until the lane has taken the
oldest (R430). -/
def feedPut (s : State) (v : BitVec 64) : State :=
  let s := if 64 ≤ s.feed.buf.length then feedTake s else s
  feedBytes { s with feed := { s.feed with buf := s.feed.buf ++ [v] } } 8

/-- DL_FEED_DATA or DL_FEED_LAST written by PF1; VB is taken with the LAST write (R427, R447). -/
def wrFeedWord (s : State) (f : Fn) (last : Bool) (v : BitVec 64) : State :=
  match f with
  | .pf0 => s
  | .pf1 =>
    match s.feed.state with
    | .opened =>
      if last then
        feedBytes { s with feed := { s.feed with state := .finishing, last := v, lastVb := s.feed.vb } } s.feed.vb.toNat
      else feedPut s v
    | _ => { s with feed := { s.feed with seqErr := true } }

/-- Every byte supplied to a session, in order: taken by the lane, in its buffer, in the last-word register. -/
def feedInput (x : Feed) : List Byte :=
  x.msg ++ (x.buf.flatMap fun w => leBytes 8 w.toNat) ++ (leBytes 8 x.last.toNat).take x.lastVb.toNat

/-- DL_FEED_DATA (R427). -/
def execDlFeedData (f : Fn) (v : BitVec 64) (s : State) : Host.Outcome State Fault Refusal :=
  .next (gateW64 s f 0x57910 fun s => wrFeedWord s f false v)

/-- DL_FEED_LAST (R427). -/
def execDlFeedLast (f : Fn) (v : BitVec 64) (s : State) : Host.Outcome State Fault Refusal :=
  .next (gateW64 s f 0x57920 fun s => wrFeedWord s f true v)

/-- The output of a session over a message (R428). -/
def feedOut (x : Feed) (m : List Byte) : List Byte :=
  let a := x.alg.toNat
  let n := if x.outBytes = 0 then algLen a else x.outBytes.toNat
  match x.key with
  | none => stdBytes (.digest a) [m] n
  | some k => if a ≤ 9 then stdBytes (.hmac a) [k.value, m] n else stdBytes (.kmac a) [k.value, m, beBytes 4 (8 * n)] n

/-- FEED_FINISH (R427, R428): the bytes supplied are compared with MSG_LEN; a session that is DONE no longer uses its
entry (R439). -/
def execFeedFinish (s : State) : Host.Outcome State Fault Refusal :=
  if s.feed.state ≠ .finishing then .next s else
  let x := s.feed
  let m := feedInput x
  if m.length < x.msgLen.toNat then .next (feedFail s 0x32) else
  let out := BitVec.ofNat 512 (leNat (feedOut x (m.take x.msgLen.toNat)))
  let y : Feed := { x with state := .done, code := if m.length = x.msgLen.toNat then 0 else 1, out := out, msg := [], buf := [],
                           key := none }
  .next (raiseEv (sweepDropped { feedCount s with feed := y }) 300)

/-- FEED_IDLE_TIMEOUT (R429). -/
def execFeedIdleTimeout (s : State) : Host.Outcome State Fault Refusal :=
  .next (match s.feed.state with
    | .opened => feedEnd s 2
    | _ => s)

/-- FEED_SESSION_TIMEOUT (R429): 10 ms since START. -/
def execFeedSessionTimeout (s : State) : Host.Outcome State Fault Refusal := .next (feedEnd s 3)

/-- DL_FEED_LEN written by PF1 (R446). -/
def wrFeedLen (s : State) (f : Fn) (v : BitVec 64) : State :=
  match f with
  | .pf0 => s
  | .pf1 =>
    let n := field v 32 7
    { s with feed := { s.feed with msgLen := field v 0 32, outBytes := if 64 < n.toNat then s.feed.outBytes else n } }

/-- DL_FEED_LASTVB written by PF1 (R447). -/
def wrFeedVb (s : State) (f : Fn) (v : BitVec 64) : State :=
  match f with
  | .pf0 => s
  | .pf1 => if 8 < (field v 0 4).toNat then s else { s with feed := { s.feed with vb := field v 0 4 } }

/-- DL_FEED_TIMEOUT written by PF1 (R449). -/
def wrFeedTimeout (s : State) (f : Fn) (v : BitVec 64) : State :=
  match f with
  | .pf0 => s
  | .pf1 => if field v 0 16 = 0 then s else { s with feed := { s.feed with idleUs := field v 0 16 } }

end Sys2Proof.Machine
end

