-- ==== Sys2Proof/Machine/Entropy.lean ====
section
/-! DEFINITION. The Entropy Block: sources, conditioner, DRBG, queue and draws, and the random-pool opcodes (11). -/

namespace Sys2Proof.Machine

/-! ### Sources (R488-R492) -/

/-- A source becomes FAILED: HS76 or HS77 (R490, R511). -/
def nsFail (s : State) (n : NsId) : State :=
  if s.ns[n].state = .failed then s else raiseHs (nsEnter s n .failed) (nsHs n) none

/-- LAST_CAUSE of a failure (R520). -/
def causeCode (c : HealthCause) (startup : Bool) : BitVec 3 :=
  match c with
  | .rct => if startup then 4 else 1
  | .apt => if startup then 5 else 2
  | .freq => 3

/-- A health-test failure counted (R490, R520, R521). -/
def noteFail (x : Ns) (c : HealthCause) (startup : Bool) : Ns :=
  { x with lastCause := causeCode c startup, fails := x.fails + 1,
           rctFails := if c = .rct then satInc x.rctFails else x.rctFails,
           aptFails := if c = .apt then satInc x.aptFails else x.aptFails }

/-- One raw sample through both tests, as SP 800-90B section 4.4 defines them: the repetition count after the sample, the
adaptive proportion at the end of its window; the cutoffs are those that stand when the window begins (R491, R492). -/
def healthBit (x : Ns) (b : Bool) : Ns × Bool × Bool :=
  let t := x.test
  let t := if t.pos = 0 then
    { t with first := b, count := 0, rct := x.rct.toNat, apt := x.apt.toNat, limit := x.failLimit.toNat } else t
  let t := { t with runLen := if t.last = b ∧ t.runLen ≠ 0 then t.runLen + 1 else 1, last := b,
                    count := if b = t.first then t.count + 1 else t.count, pos := t.pos + 1 }
  ({ x with test := { t with pos := t.pos % 1024 } }, decide (t.rct ≤ t.runLen), decide (t.pos = 1024) && decide (t.apt ≤ t.count))

/-- Samples through the tests up to the first that fails one. -/
def healthBits (x : Ns) : List Bool → Ns × Option HealthCause
  | [] => (x, none)
  | b :: t =>
    let r := healthBit x b
    if r.2.1 then (r.1, some .rct) else if r.2.2 then (r.1, some .apt) else healthBits r.1 t

/-- Samples of a capture through the tests, with every failure noted; the source, and the number of failures (R489, R508). -/
def captureBits (x : Ns) : List Bool → Ns × Nat
  | [] => (x, 0)
  | b :: t =>
    let r := healthBit x b
    let y := if r.2.1 then noteFail r.1 .rct false else r.1
    let y := if r.2.2 then noteFail y .apt false else y
    let z := captureBits y t
    (z.1, z.2 + r.2.1.toNat + r.2.2.toNat)

/-- A source that fails its start-up test during the boot self-tests: its bit of CFG_SELFTEST_FENCE, and BOOT_FAILED (R76,
R104, R520). -/
def bootSource (s : State) (n : NsId) : State :=
  if s.ns[n].state = .startup && inSelfTest s then
    setNs { s with boot := { s.boot with fence := putBit s.boot.fence (56 + n.val) true } } n fun x => { x with bootFailed := true }
  else s

/-- A health-test failure of a source (R489, R490): RUN goes to RETEST or FAILED, a source in its start-up samples to
FAILED; DIVERTED and FAILED sources only count it. -/
def healthFail (s : State) (n : NsId) (c : HealthCause) : State :=
  match s.ns[n].state with
  | .off => s
  | .startup | .retest => nsFail (setNs (bootSource s n) n fun x => noteFail x c true) n
  | .run =>
    let s := setNs s n fun x => noteFail x c false
    if s.ns[n].test.limit ≤ s.ns[n].fails then nsFail s n else nsEnter s n .retest
  | .failed | .diverted => setNs s n fun x => noteFail x c false

/-- Samples that a source delivers to its tests and to what it has in progress; the failure that the tests find. -/
def takeSamples (s : State) (n : NsId) (samples : List Bool) : State × Option HealthCause :=
  let r := healthBits s.ns[n] samples
  (setNs s n fun _ => { r.1 with part := r.1.part ++ samples }, r.2)

/-- Samples that a source collects before its start-up test ends, or its block is whole; none in other states (R491,
R493). -/
def samplesDue (x : Ns) : Nat :=
  match x.state with
  | .startup | .retest => 1024 - x.part.length
  | .run => 1536 - x.part.length
  | _ => 0

/-- NOISE_HEALTH_FAIL (R489-R491): samples of a source that do not end what it has in progress; a test that fails on them
is a failure of the source. What a diverted source delivers comes with RAW_CAPTURE_END, and a FAILED one has nothing in
progress (assumption 73). -/
def execNoiseHealthFail (n : NsId) (samples : List Bool) (s : State) : Host.Outcome State Fault Refusal :=
  match s.ns[n].state with
  | .off | .diverted => .next s
  | .failed =>
    let r := healthBits s.ns[n] samples
    let s := setNs s n fun _ => r.1
    .next (match r.2 with
      | some c => healthFail s n c
      | none => s)
  | _ =>
    if samplesDue s.ns[n] ≤ samples.length then .next s else
    let r := takeSamples s n samples
    .next (match r.2 with
      | some c => settle (healthFail r.1 n c)
      | none => r.1)

/-- FREQ_MONITOR_WINDOW (R488, R520): the samples and fast edges of 10 us; RATE in units of 0.01 Mb/s. -/
def execFreqMonitorWindow (n : NsId) (samples edges : Nat) (s : State) : Host.Outcome State Fault Refusal :=
  if s.ns[n].state = .off then .next s else
  let s := setNs s n fun x => { x with rate := satOf 16 (10 * samples) }
  .next (if samples < 100 ∨ edges < 16 * samples then settle (healthFail s n .freq) else s)

/-- STARTUP_TEST_END (R489, R491, R76): the last of the 1024 samples of a STARTUP or RETEST source; both tests passed, it is
RUN and the samples are discarded. A failure during boot sets BOOT_FAILED. -/
def execStartupTestEnd (n : NsId) (samples : List Bool) (s : State) : Host.Outcome State Fault Refusal :=
  let x := s.ns[n]
  if (x.state ≠ .startup ∧ x.state ≠ .retest) ∨ samples.length ≠ samplesDue x then .next s else
  let r := takeSamples s n samples
  match r.2 with
  | none => .next (nsEnter r.1 n .run)
  | some c => .next (settle (healthFail r.1 n c))

/-- FAILURE_AGES_OUT (R490): a failure is more than a second old. -/
def execFailureAgesOut (n : NsId) (s : State) : Host.Outcome State Fault Refusal :=
  .next (setNs s n fun x => { x with fails := x.fails - 1 })

/-- CMD_ERR of ENT_STATUS (R510). -/
def entErr (s : State) : State := { s with ent := { s.ent with cmdErr := true } }

/-- RETEST of a source (R489, R490, R510). -/
def nsRetest (s : State) (n : NsId) : State :=
  if s.ns[n].state = .failed ∧ s.ns[n].retests.toNat < 3 then
    nsEnter (setNs s n fun x => { x with fails := 0, retests := x.retests + 1 }) n .startup
  else entErr s

/-- ENT_SRC_CTL written by PF1: values out of range are ignored; RETEST is an action (R492, R502, R519). -/
def wrSrcCtl (s : State) (f : Fn) (n : NsId) (v m : BitVec 64) : State :=
  match f with
  | .pf0 => s
  | .pf1 =>
    let rct := field v 8 8
    let apt := field v 16 10
    let lim := field v 26 2
    let s := setNs s n fun x =>
      { x with policy := bit v 0, rct := if 32 ≤ rct.toNat ∧ rct.toNat ≤ 61 then rct else x.rct,
               apt := if 700 ≤ apt.toNat ∧ apt.toNat ≤ 820 then apt else x.apt,
               failLimit := if lim = 0 then x.failLimit else lim }
    entUpdate (if bit (v &&& m) 1 then nsRetest s n else s)

/-- ENT_SRC_RETEST (R489): ENT_SRC_CTL written with RETEST. -/
def execEntSrcRetest (f : Fn) (n : NsId) (v : BitVec 32) (s : State) : Host.Outcome State Fault Refusal :=
  .next (gateW s f fun s => settle (wrSrcCtl s f n (v.setWidth 64 ||| 2) (BitVec.allOnes 64)))

/-- ENT_SRC_POLICY_WRITE (R502). -/
def execEntSrcPolicyWrite (f : Fn) (n : NsId) (v : BitVec 32) (s : State) : Host.Outcome State Fault Refusal :=
  .next (gateW s f fun s => settle (wrSrcCtl s f n (v.setWidth 64) (BitVec.allOnes 64)))

/-! ### Seeds and the DRBG (R493-R497) -/

/-- Is the DRBG serving? -/
def serving (s : State) : Bool := (decide (s.ent.state = .run) || decide (s.ent.state = .degraded)) && s.ent.drbg.isSome

/-- May the DRBG generate: serving, with no periodic test (R497)? -/
def mayGenerate (s : State) : Bool := serving s && !s.ent.testing

/-- STRETCHED and AT_LIMIT follow C and the seed FIFO; a new episode is counted, and EV303 raised once at its limit
(R496, R518). -/
def stretch (s : State) : State :=
  let e := s.ent
  let on := serving s && decide (2 ^ e.targetLog2.toNat ≤ e.c.toNat) && e.seeds.isEmpty
  let lim := on && decide (2 ^ e.limitLog2.toNat ≤ e.c.toNat)
  let new := lim && !e.atLimit
  let s := { s with ent := { e with stretched := on, atLimit := lim,
                                    episodes := if on && !e.stretched then satInc e.episodes else e.episodes,
                                    limitHits := if new then satInc e.limitHits else e.limitHits } }
  if new then raiseEv s 303 else s

/-- A 384-bit value of 48 bytes. -/
def of48 (bs : List Byte) : BitVec 384 := BitVec.ofNat 384 (leNat bs)

/-- The 48 bytes of a 384-bit value. -/
def to48 (x : BitVec 384) : List Byte := leBytes 48 x.toNat

/-- The personalization string (R495). -/
def personalization : BitVec 384 := of48 (ascii "GY6448 CTR_DRBG" ++ zeros 33)

/-- Is the next block of the conditioner a source's: both being RUN they take turns (R493)? -/
def blockTurn (s : State) (n : NsId) : Bool := decide (s.ent.turn = n) || decide (nsRunning s < 2)

/-- The bytes of samples, sample 0 in bit 0 of byte 0. -/
def packBits (bits : List Bool) : List Byte := leBytes (bits.length / 8) (bits.foldr (fun b n => b.toNat + 2 * n) 0)

/-- The samples of bytes, bit 0 of byte 0 first (R508). -/
def unpackBits (bs : List Byte) : List Bool := bs.flatMap fun b => (List.range 8).map fun i => bit b i

/-- SEED_READY (R493, R494): the last samples of a block of a RUN source whose turn it is. A test that fails on them
discards the block; otherwise its SHA-384 is a seed, and one over two is zeroised. -/
def execSeedReady (n : NsId) (samples : List Bool) (s : State) : Host.Outcome State Fault Refusal :=
  let able := match s.ent.state with
    | .init | .run | .degraded => true
    | _ => false
  if !able || decide (s.ns[n].state ≠ .run) || decide (samples.length ≠ samplesDue s.ns[n]) || !blockTurn s n then .next s else
  let r := takeSamples s n samples
  match r.2 with
  | some c => .next (settle (healthFail r.1 n c))
  | none =>
    let seed := of48 (sha384 (packBits r.1.ns[n].part))
    let t := setNs { r.1 with ent := { s.ent with turn := if n = 0 then 1 else 0 } } n fun x => { x with part := [] }
    .next (if 2 ≤ s.ent.seeds.length then t else stretch { t with ent := { t.ent with seeds := t.ent.seeds ++ [seed] } })

/-- The block's serving state: DEGRADED with exactly one source RUN and the other FAILED, OFF or DIVERTED (R504). -/
def servingState (s : State) : EntState :=
  let out := !(vfind s.ns fun x => decide (x.state = .failed) || decide (x.state = .off) || decide (x.state = .diverted)).isEmpty
  if nsRunning s = 1 && out then .degraded else .run

/-- DRBG_INSTANTIATE (R495): from the first seed, in INIT. -/
def execDrbgInstantiate (s : State) : Host.Outcome State Fault Refusal :=
  match s.ent.state, s.ent.seeds with
  | .init, x :: t =>
    let st := of48 (stdBytes .drbgState [to48 (x ^^^ personalization)] 48)
    let s := { s with ent := { s.ent with drbg := some st, seeds := t, c := 0, counted := satInc s.ent.counted } }
    .next (stretch (entEnter s (servingState s)))
  | _, _ => .next s

/-- One generate call: 64 bytes and the update (R495). -/
def generate (st : BitVec 384) : BitVec 512 × BitVec 384 :=
  (BitVec.ofNat 512 (leNat (stdBytes .drbgOut [to48 st] 64)), of48 (stdBytes .drbgState [to48 st, [], []] 48))

/-- Reseed from the first seed, XORed with additional input (R496, R507). -/
def reseed (s : State) (add : BitVec 384) : State :=
  match s.ent.seeds, s.ent.drbg with
  | x :: t, some st =>
    stretch { s with ent := { s.ent with
      seeds := t, drbg := some (of48 (stdBytes .drbgState [to48 st, to48 (x ^^^ add)] 48)), c := 0,
      reseeds := s.ent.reseeds + 1, counted := satInc s.ent.counted } }
  | _, _ => s

/-- Does a request take a seed (R506, R507)? -/
def takesSeed (d : Desc) : Bool := decide (d.opcode = 0x61) || (decide (d.opcode = 0x60) && bit d.mode 0)

/-- Is a request that takes a seed running (R509)? -/
def seedWanted (s : State) : Bool := s.reqs.any fun q => q.started && q.done.isNone && takesSeed q.desc

/-! ### Draws (R498-R501) -/

/-- The order in which waiting draws are served (R499). -/
def drawRank : Consumer → Nat
  | .root | .slotProgram | .debugNonce => 0
  | .mask _ => 1
  | .request _ => 2

/-- Entries that a draw may not take (R499). -/
def drawLeaves (c : Consumer) : Nat := if drawRank c = 2 then 4 else 0

/-- Does a consumer's draw wait for a seed rather than a queue entry (R86, R506, R507)? -/
def wantsSeed (s : State) (c : Consumer) : Bool :=
  match c with
  | .root => true
  | .request i => ((findReq s i).map fun q => takesSeed q.desc).getD false
  | _ => false

/-- Has a consumer a draw to make now? -/
def mayDraw (s : State) (c : Consumer) : Bool :=
  match c with
  | .request i =>
    (match findReq s i with
     | some q => q.started && q.done.isNone && (takesSeed q.desc || decide ((grantedTo s c).length < totalDraws q.desc))
     | none => false)
  | .root => decide (s.boot.phase = .rootGen) && (grantedTo s c).isEmpty
  | .slotProgram => s.tkr.progBusy.isSome && s.tkr.progValue.isNone && (grantedTo s c).isEmpty
  | .debugNonce => decide (s.tkr.fails.toNat < 4) && (grantedTo s c).isEmpty
  | .mask u => decide (48 ≤ u.val) && pdPowered s (unitPd u) && !s.units[u].fenced && !s.units[u].seeded && (grantedTo s c).isEmpty

/-- A consumer no longer waits. -/
def unwait (s : State) (c : Consumer) : State :=
  { s with ent := { s.ent with waiters := s.ent.waiters.filter fun w => decide (w.who ≠ c) } }

/-- A draw that is charged to a stall (R500). -/
def charge (s : State) (c : Consumer) : State :=
  match c with
  | .request i =>
    (match findReq s i with
     | some q => if (grantedTo s c).length < chargedDraws q.desc then setStall s q.stall fun x => { x with draws := x.draws + 1 } else s
     | none => s)
  | _ => s

/-- Deliver an entry to a consumer. -/
def give (s : State) (c : Consumer) (e : BitVec 512) : State :=
  let had := grantedTo s c
  let s := unwait (charge s c) c
  { s with ent := { s.ent with granted := (s.ent.granted.filter fun g => decide (g.1 ≠ c)) ++ [(c, had ++ [e])] } }

/-- Deliver the oldest entry of the queue to a consumer that may take it. -/
def giveNext (s : State) (c : Consumer) : State :=
  match s.ent.queue with
  | [] => s
  | e :: t => if s.ent.queue.length ≤ drawLeaves c then s else give { s with ent := { s.ent with queue := t } } c e

/-- The waiter served first (R499). -/
def firstWaiter (s : State) : Option Waiter :=
  s.ent.waiters.foldl (fun r w =>
    if wantsSeed s w.who || decide (s.ent.queue.length ≤ drawLeaves w.who) then r else
    match r with
    | none => some w
    | some x => if drawRank w.who < drawRank x.who then some w else some x) none

/-- Serve waiting draws while entries last; the fuel bounds their number. -/
def serveWaiters : Nat → State → State
  | 0, s => s
  | n + 1, s => match firstWaiter s with
    | some w => serveWaiters n (giveNext s w.who)
    | none => s

/-- A slot-programming sequence ends without a value: nothing is programmed, and the specification gives ERR no code for
it, so ERR is a free value (R301, R369; assumption 29). -/
def progStarved (s : State) : State :=
  raiseEv { takeFree s 1 with tkr := { s.tkr with progBusy := none, progValue := none, progDone := true,
                                                  progErr := (Config.freeBits s.free).setWidth 4 } } 299

/-- A consumer whose wait ends without a draw (R87, R300, R501). -/
def starve (s : State) (c : Consumer) : State :=
  let s := unwait s c
  match c with
  | .request i => if ((findReq s i).map fun q => q.done.isNone).getD false then failReq s i 0x60 0 else s
  | .root => { s with ent := { s.ent with granted := (s.ent.granted.filter fun g => decide (g.1 ≠ c)) ++ [(c, [])] } }
  | .slotProgram => progStarved s
  | .debugNonce => s
  | .mask u => match s.units[u].run with
    | some i => if ((findReq s i).map fun q => q.done.isNone).getD false then failReq s i 0x60 0 else s
    | none => s

/-- A draw that finds nothing it may take waits, with the limit in force (R501). -/
def await (s : State) (c : Consumer) : State :=
  if s.ent.fenced then starve s c
  else if s.ent.waiters.any fun w => decide (w.who = c) then s
  else { s with ent := { s.ent with waiters := s.ent.waiters ++ [{ who := c, limit := s.ent.waitLimit, since := s.cycle }] } }

/-- The root's draw: a fresh reseed, then an entry of its own (R86). -/
def rootDraw (s : State) : State :=
  if !mayGenerate s || s.ent.seeds.isEmpty then await s .root else
  let s := reseed s 0
  match s.ent.drbg with
  | some st =>
    let g := generate st
    give { s with ent := { s.ent with drbg := some g.2, c := s.ent.c + 1 } } .root g.1
  | none => s

/-- ENTROPY_DRAW (R498-R501): a consumer draws one entry, or waits; a request that takes a seed waits for it. -/
def execEntropyDraw (c : Consumer) (s : State) : Host.Outcome State Fault Refusal :=
  if !mayDraw s c then .next s
  else if s.ent.fenced then .next (starve s c)
  else if c = .root then .next (rootDraw s)
  else if wantsSeed s c then .next (if mayGenerate s && !s.ent.seeds.isEmpty then s else await s c)
  else if s.ent.queue.length ≤ drawLeaves c then .next (await s c)
  else .next (giveNext s c)

/-- ENTROPY_WAIT_EXPIRY (R300, R501): the limit that a waiter uses has passed. -/
def execEntropyWaitExpiry (c : Consumer) (s : State) : Host.Outcome State Fault Refusal :=
  .next (if s.ent.waiters.any fun w => decide (w.who = c) then starve s c else s)

/-- DRBG_GENERATE (R496, R498): one entry, when the queue has room and the counters permit it; waiting draws follow. -/
def execDrbgGenerate (s : State) : Host.Outcome State Fault Refusal :=
  let e := s.ent
  match e.drbg with
  | none => .next s
  | some st =>
    let due := decide (2 ^ e.targetLog2.toNat ≤ e.c.toNat)
    let stop := due && (!e.seeds.isEmpty || decide (2 ^ e.limitLog2.toNat ≤ e.c.toNat))
    if !mayGenerate s || decide (64 ≤ e.queue.length) || stop then .next s else
    let g := generate st
    let s := stretch { s with ent := { e with drbg := some g.2, c := e.c + 1, queue := e.queue ++ [g.1] } }
    .next (serveWaiters (s.ent.waiters.length + 1) s)

/-- Is a reseed due: at TARGET, after requests that take seeds (R496, R509)? -/
def reseedDue (s : State) : Bool := serving s && decide (2 ^ s.ent.targetLog2.toNat ≤ s.ent.c.toNat) && !seedWanted s

/-- DRBG_RESEED (R496, R509): due at TARGET with a seed ready. -/
def execDrbgReseed (s : State) : Host.Outcome State Fault Refusal := .next (if reseedDue s then reseed s 0 else s)

/-- The block fences itself: waiting draws fail at once (R497, R501). -/
def fenceEntropy (s : State) : State :=
  match s.ent.state with
  | .off | .fenced => s
  | _ =>
    let ws := s.ent.waiters
    let s := raiseHs (entFence s) 78 none
    ws.foldl (fun s w => starve s w.who) s

/-- Has the block a DRBG or a conditioner to test? -/
def entPowered (s : State) : Bool := decide (s.ent.state ≠ .off) && decide (s.ent.state ≠ .fenced)

/-- ENTROPY_PERIODIC_KAT (R497, R510): a periodic known-answer test begins, after a reseed that is due with it, or ends with
its result; one that fails fences the block. -/
def execEntropyPeriodicKat (pass : Option Bool) (s : State) : Host.Outcome State Fault Refusal :=
  if !entPowered s then .next s else
  match pass with
  | none =>
    let s := if reseedDue s then reseed s 0 else s
    .next { s with ent := { s.ent with testing := true } }
  | some ok =>
    let s := { s with ent := { s.ent with testing := false } }
    .next (if ok then s else settle (fenceEntropy s))

/-- ENTROPY_CORE_MISMATCH (R497). -/
def execEntropyCoreMismatch (s : State) : Host.Outcome State Fault Refusal := .next (settle (fenceEntropy s))

/-- MASK_RESEED (R468): a unit's mask generator is seeded with the 256 bits drawn for it; the unit may be taken again,
by a cooperative set that waits too (R278). -/
def execMaskReseed (u : UnitId) (s : State) : Host.Outcome State Fault Refusal :=
  match grantedTo s (.mask u) with
  | [] => .next s
  | e :: _ =>
    let s := { s with ent := { s.ent with granted := s.ent.granted.filter fun g => decide (g.1 ≠ .mask u) } }
    .next (coopGrab (setUnit s u fun x => { x with seeded := true, sinceSeed := 0, mask := field e 0 256 }))

/-! ### The random-pool opcodes (R505-R509) -/

/-- Generate n entries beside the queue. -/
def ownEntries : Nat → BitVec 384 → List (BitVec 512) × BitVec 384
  | 0, st => ([], st)
  | n + 1, st =>
    let g := generate st
    let r := ownEntries n g.2
    (g.1 :: r.1, r.2)

/-- RNG_GET with PR: a reseed, then its own output; charged one draw an entry (R506). -/
def prGet (s : State) (q : Req) (n : Nat) : State :=
  if !mayGenerate s || s.ent.seeds.isEmpty then await s (.request q.id) else
  let k := ceilDiv n 64
  let s := reseed (unwait s (.request q.id)) 0
  match s.ent.drbg with
  | none => s
  | some st =>
    let r := ownEntries k st
    let s := stretch { s with ent := { s.ent with drbg := some r.2, c := s.ent.c + BitVec.ofNat 32 k } }
    let s := setStall s q.stall fun x => { x with draws := x.draws + k }
    output s q (slice (entryBytes r.1) 0 n) k

/-- RNG_GET. -/
def rngGetRun (s : State) (q : Req) (_ : List Byte) : State :=
  let n := (field q.desc.imm 0 32).toNat
  if bit q.desc.mode 0 then prGet s q n else output s q (randomBytes s q n) (ceilDiv n 64)

/-- RNG_RESEED: the queue is zeroised (R507). -/
def rngReseedRun (s : State) (q : Req) (_ : List Byte) : State :=
  if !serving s || s.ent.seeds.isEmpty then await s (.request q.id) else
  let s := reseed (unwait s (.request q.id)) (if q.desc.auxLen = 0 then 0 else of48 (auxOf q))
  finish { s with ent := { s.ent with queue := [] } } q.id 0 0 0 s.ent.reseeds.toNat []

/-- The source an RNG_RAW names. -/
def rawSource (d : Desc) : NsId := if bit d.mode 0 then 1 else 0

/-- A capture begins: the source is DIVERTED, its block in progress discarded; with RESTART its oscillators are stopped and
restarted, and its tests begin anew with sample 0 (R508, assumption 73). -/
def beginCapture (s : State) (q : Req) (n : NsId) (wasRun : Bool) : State :=
  nsEnter (setNs s n fun x => { x with capture := some q.id, wasRun := wasRun,
                                       test := if bit q.desc.mode 1 then freshTest x.test else x.test }) n .diverted

/-- RNG_RAW starts its capture on a usable source (R508). -/
def rngRawRun (s : State) (q : Req) (_ : List Byte) : State :=
  let n := rawSource q.desc
  let other : NsId := if n = 0 then 1 else 0
  if s.ns[n].capture.isSome then s else
  match s.ns[n].state with
  | .run => if s.ns[other].state = .run then beginCapture s q n true else failReq s q.id 0x40 0
  | .failed => beginCapture s q n false
  | _ => failReq s q.id 0x40 0

/-- RNG_GET (R506). -/
def execRngGet (i : Nat) (s : State) : Host.Outcome State Fault Refusal := runOp s i 0x60 rngGetRun
/-- RNG_RESEED (R507). -/
def execRngReseed (i : Nat) (s : State) : Host.Outcome State Fault Refusal := runOp s i 0x61 rngReseedRun
/-- RNG_RAW (R508). -/
def execRngRaw (i : Nat) (s : State) : Host.Outcome State Fault Refusal := runOp s i 0x68 rngRawRun

/-- RAW_CAPTURE_END (R489, R491, R508): every sample captured is delivered, RESULT the failures that the tests reported on
them; the tests run on the rest of what the diverted source gave too (assumption 63). The source leaves DIVERTED. -/
def execRawCaptureEnd (n : NsId) (samples : List Byte) (rest : List Bool) (s : State) : Host.Outcome State Fault Refusal :=
  match s.ns[n].capture with
  | none => .next s
  | some i =>
    let s := match findReq s i with
      | some q =>
        if q.done.isNone then
          (let bs := slice samples 0 ((field q.desc.imm 0 32).toNat / 8)
           let r := captureBits s.ns[n] (unpackBits bs)
           output (setNs s n fun _ => (captureBits r.1 rest).1) q bs r.2)
        else s
      | none => s
    .next (settle (endCapture s fun j => decide (j = i)))

/-! ### Registers (R514-R516) -/

/-- ENT_CTL written by PF1 (R514). -/
def wrEntCtl (s : State) (f : Fn) (v : BitVec 64) : State :=
  match f with
  | .pf0 => s
  | .pf1 => { s with ent := { s.ent with rawEn := bit v 0, prNormal := bit v 1 } }

/-- ENT_WAIT_LIMIT written by PF1 (R515). -/
def wrWaitLimit (s : State) (f : Fn) (v : BitVec 64) : State :=
  match f with
  | .pf0 => s
  | .pf1 => if (field v 0 16).toNat < 50 then s else { s with ent := { s.ent with waitLimit := field v 0 16 } }

/-- ENT_RESEED_CTL written by PF1: a LIMIT below TARGET is ignored and sets CMD_ERR (R510, R516). -/
def wrReseedCtl (s : State) (f : Fn) (v : BitVec 64) : State :=
  match f with
  | .pf0 => s
  | .pf1 =>
    let t := field v 0 5
    let l := field v 8 5
    let t' := if 6 ≤ t.toNat ∧ t.toNat ≤ 12 then t else s.ent.targetLog2
    let s := if l.toNat < t'.toNat then entErr s else s
    let l' := if 10 ≤ l.toNat ∧ l.toNat ≤ 20 ∧ t'.toNat ≤ l.toNat then l else s.ent.limitLog2
    stretch { s with ent := { s.ent with targetLog2 := t', limitLog2 := l' } }

/-- ENT_RESEED_CTL_WRITE (R510). -/
def execEntReseedCtlWrite (f : Fn) (v : BitVec 32) (s : State) : Host.Outcome State Fault Refusal :=
  .next (gateW s f fun s => wrReseedCtl s f (v.setWidth 64))

end Sys2Proof.Machine
end

