-- ==== Sys2Proof/Machine/KeyOps.lean ====
section
/-! DEFINITION. The Tack Room's opcodes, slot programming, life cycle and debug unlock (07). -/

namespace Sys2Proof.Machine

/-! ### Wrapping, deriving, generating, importing (R335-R341) -/

/-- BLOB_WRAP ends with a blob of a key; RESULT is its length (R335, R341). -/
def wrapOut (s : State) (q : Req) (k : Key) : State :=
  let b := wrapBlob s q.stall k (blobIv s q)
  output s q b b.length

/-- BLOB_WRAP: the key named, or a KEY intermediate as source, which is checked as a use is. -/
def blobWrapRun (s : State) (q : Req) (_ : List Byte) : State :=
  match q.key with
  | some k => wrapOut s q k
  | none =>
    match findInter s q.chain (toFin 8 (by decide) q.desc.src) with
    | .none st dt => failReq s q.id st dt
    | .key k _ _ =>
      match attrErr s q.stall q.desc k.attr false with
      | some dt => failReq s q.id 0x20 dt
      | none => wrapOut s q k

/-- End with a new key that takes its tally fields from the key AUX block (R336, R340). -/
def newKeyOut (s : State) (q : Req) (value : KeyAux → List Byte) : State :=
  match keyAux q with
  | none => failReq s q.id 0x30 0x09
  | some a =>
    match newKeyErr q.desc a with
    | some e => failReq s q.id e.1 e.2
    | none => outputKey s q [] (newKey q.desc a (value a)) [] 0

/-- KEY_DERIVE (R326, R337). -/
def keyDeriveRun (s : State) (q : Req) (_ : List Byte) : State :=
  match q.key with
  | none => s
  | some k =>
    if !narrower k.attr q.desc.imm then failReq s q.id 0x20 0x0C
    else newKeyOut s q fun a => kdf (deriveKin k) a.label (a.context ++ leBytes 8 q.desc.imm.toNat) (klen q.desc.imm)

/-- KEY_GENERATE (R338, R315). -/
def keyGenerateRun (s : State) (q : Req) (_ : List Byte) : State := newKeyOut s q fun _ => randomBytes s q (klen q.desc.imm)

/-- KEY_IMPORT (R339, R315). -/
def keyImportRun (s : State) (q : Req) (src : List Byte) : State := newKeyOut s q fun _ => src

/-- BLOB_WRAP (R341, R315). -/
def execBlobWrap (i : Nat) (agree : Bool) (s : State) : Host.Outcome State Fault Refusal :=
  runOp s i 0x70 (checkCores agree blobWrapRun)
/-- KEY_DERIVE (R337, R315). -/
def execKeyDerive (i : Nat) (agree : Bool) (s : State) : Host.Outcome State Fault Refusal :=
  runOp s i 0x72 (checkCores agree keyDeriveRun)
/-- KEY_GENERATE (R338, R315). -/
def execKeyGenerate (i : Nat) (agree : Bool) (s : State) : Host.Outcome State Fault Refusal :=
  runOp s i 0x73 (checkCores agree keyGenerateRun)
/-- KEY_IMPORT (R339, R315). -/
def execKeyImport (i : Nat) (agree : Bool) (s : State) : Host.Outcome State Fault Refusal :=
  runOp s i 0x77 (checkCores agree keyImportRun)

/-! ### The keyed-state store (R342-R346) -/

/-- Source field of an entry: blob TAG, or slot number in bytes 0 and 1 (R343). -/
def entrySource (q : Req) : List Byte :=
  if q.desc.keySrc = 2 then blobTagOf q else leBytes 2 q.desc.keyRef.toNat ++ zeros 14

/-- Put a new entry in the store; with none free, the request waits (R344, R345). -/
def storeEntry (s : State) (q : Req) (e : Entry) : State :=
  match nextFree s with
  | none => s
  | some h => finish (setReq (putEntry s h e) q.id fun x => { x with effect := true }) q.id 0 0 0 h.val []

/-- The entry of a stall for a key. -/
def newEntry (s : State) (q : Req) (kind : BitVec 2) (k : Key) (value : List Byte) : Entry :=
  { kind := kind, stall := q.stall, secure := s.stalls[q.stall].secure, mode := if kind = 1 then 0 else q.desc.mode,
    key := { k with value := value }, source := entrySource q, dropped := false }

/-- BLOB_UNWRAP: in a chain the key becomes a KEY intermediate, with its tally binding left behind (R351); otherwise an
entry of kind BLOB (R333, R335, R344). -/
def blobUnwrapRun (s : State) (q : Req) (_ : List Byte) : State :=
  match q.key with
  | none => s
  | some k => if q.desc.dstSel = 3 then outputKey s q [] k [] 0 else storeEntry s q (newEntry s q 1 k k.value)

/-- KSTATE_LOAD: HMAC state for KTYPE 0x08, KMAC state under the customization string Label for 0x09 (R342). -/
def kstateLoadRun (s : State) (q : Req) (_ : List Byte) : State :=
  match q.key, keyAux q with
  | none, _ => s
  | _, none => failReq s q.id 0x30 0x09
  | some k, some a =>
    if ktype k.attr = 8 then storeEntry s q (newEntry s q 2 k (prepared q.desc.alg k.value []))
    else storeEntry s q (newEntry s q 3 k (prepared q.desc.alg k.value a.label))

/-- KSTATE_DROP: free for new admissions at once, zeroised when its last user ends (R344, R346). -/
def kstateDropRun (s : State) (q : Req) (_ : List Byte) : State :=
  let h : Handle := toFin 2048 (by decide) (field q.desc.imm 0 11).toNat
  match findEntry s q.stall h with
  | .none st dt => failReq s q.id st dt
  | .key _ _ _ =>
    let s := { s with tkr := { s.tkr with store := upd s.tkr.store h fun e => { e with dropped := true } } }
    finish (setReq (sweepDropped s) q.id fun x => { x with effect := true }) q.id 0 0 0 0 []

/-- BLOB_UNWRAP (R333). -/
def execBlobUnwrap (i : Nat) (s : State) : Host.Outcome State Fault Refusal := runOp s i 0x71 blobUnwrapRun
/-- KSTATE_LOAD (R342). -/
def execKstateLoad (i : Nat) (s : State) : Host.Outcome State Fault Refusal := runOp s i 0x74 kstateLoadRun
/-- KSTATE_DROP (R346). -/
def execKstateDrop (i : Nat) (s : State) : Host.Outcome State Fault Refusal := runOp s i 0x75 kstateDropRun

/-- STORE_WAIT_EXPIRY (R345): a load still finds the store full after STORE_WAIT. -/
def execStoreWaitExpiry (i : Nat) (s : State) : Host.Outcome State Fault Refusal :=
  if ((readyReq s i 0x71).isSome || (readyReq s i 0x74).isSome) && (nextFree s).isNone then .next (failReq s i 0x20 0x08)
  else .next s

/-! ### Tally bindings (R352, R371) -/

/-- TALLY_BIND: the first free entry of the binding table. -/
def tallyBindRun (s : State) (q : Req) (_ : List Byte) : State :=
  match keyAux q with
  | none => failReq s q.id 0x30 0x09
  | some a =>
    let k : SlotId := toFin 512 (by decide) q.desc.keyRef.toNat
    if a.tallyAddr = 0 then failReq s q.id 0x30 0x09
    else if (slotBind s k).isSome then failReq s q.id 0x20 0x0F
    else match vfind s.tkr.tbind fun b => !b.valid with
      | [] => failReq s q.id 0x20 0x0E
      | j :: _ =>
        let b : TBind := { valid := true, slot := BitVec.ofNat 9 k.val, tallyAddr := a.tallyAddr, tallyLimit := a.tallyLimit }
        let s := { s with tkr := { s.tkr with tbind := s.tkr.tbind.set j b } }
        finish (setReq s q.id fun x => { x with effect := true }) q.id 0 0 0 j.val []

/-- TALLY_BIND (R352). -/
def execTallyBind (i : Nat) (s : State) : Host.Outcome State Fault Refusal := runOp s i 0x76 tallyBindRun

/-! ### Slot programming (R316-R321, R368, R369) -/

/-- An attribute word that a slot may not take (R319, R322, R323). -/
def slotAttrBad (a : BitVec 64) : Bool :=
  attrBad a || decide (32 < klen a) || ((ktypeRange (ktype a)).map fun x => x.2.2).getD true

/-- The value of a BLOB source, if R320 accepts it and no key lock stands (R692). -/
def progBlobValue (s : State) : Option (List Byte) :=
  if s.boot.keysLocked then none else
  let a := s.tkr.progBlob.toNat
  let n := localBlobLen s a
  if coPoisoned s a n then none else
  match unwrapBlob s (bvFin s.tkr.progStall) (coRead s a n) with
  | .bad _ => none
  | .key k _ =>
    if bit k.attr 30 ∧ ktype k.attr = ktype s.tkr.progAttr ∧ klen k.attr = klen s.tkr.progAttr ∧ klen k.attr ≤ 32 then some k.value
    else none

/-- ERR of TKR_PROG_STATUS set. -/
def progErr (s : State) (e : BitVec 4) : State := { s with tkr := { s.tkr with progErr := e } }

/-- A sequence starts on a slot, with its value where that is known. -/
def progStart (s : State) (k : SlotId) (v : Option (BitVec 256)) : State :=
  { s with tkr := { s.tkr with slots := upd s.tkr.slots k fun x => { x with state := .programming },
                               progBusy := some k, progWord := s.tkr.progAttr, progValue := v, progErr := 0 } }

/-- GO (R319, R320, R358); `agree` says whether the two cores agree on the blob's unwrapping, which is discarded otherwise,
with HS79 (R315, assumption 69). -/
def progGo (s : State) (agree : Bool) : State :=
  let k : SlotId := bvFin s.tkr.progSlot
  let lc := lcCode s
  if s.tkr.progBusy.isSome || s.tkr.lcBusy.isSome then progErr s 6
  else if k.val = 0 ∨ s.tkr.slots[k].state ≠ .unprogrammed then progErr s 1
  else if (lc ≠ 1 ∧ lc ≠ 2) ∨ s.tkr.debugOpen then progErr s 2
  else if slotAttrBad s.tkr.progAttr then progErr s 3
  else if s.tkr.progSource = 0 then progStart s k none
  else if !agree then raiseHs (progErr s 4) 79 none
  else match progBlobValue s with
    | some v => progStart s k (some (BitVec.ofNat 256 (leNat v)))
    | none => progErr s 4

/-- TKR_PROG_CTL written by PF1 (R368); a reserved SOURCE keeps its value. -/
def wrProgCtl (s : State) (f : Fn) (v m : BitVec 64) (agree : Bool) : State :=
  match f with
  | .pf0 => s
  | .pf1 =>
    let src := field v 9 2
    let s := { s with tkr := { s.tkr with progSlot := field v 0 9, progStall := field v 16 6,
                                          progSource := if 2 ≤ src.toNat then s.tkr.progSource else src } }
    if bit (v &&& m) 31 then progGo s agree else s

/-- TKR_PROG_GO (R319): TKR_PROG_CTL written with GO. -/
def execTkrProgGo (f : Fn) (w : GoWrite) (s : State) : Host.Outcome State Fault Refusal :=
  .next (gateW s f fun s => settle (wrProgCtl s f (w.value.setWidth 64 ||| 0x80000000) (BitVec.allOnes 64) w.agree))

/-- SLOT_PROGRAM_DONE (R318, R321, R369): value, attribute word and integrity code are written and read back; a slot
whose readback fails is BAD. -/
def execSlotProgramDone (readbackOk : Bool) (s : State) : Host.Outcome State Fault Refusal :=
  match s.tkr.progBusy, progValueNow s with
  | some k, some v =>
    let a := s.tkr.progWord
    let x : Slot := { value := v, attr := a, crc := crc32c (slotBytes v a), state := if readbackOk then .valid else .bad }
    let s := { s with tkr := { s.tkr with slots := s.tkr.slots.set k x, progBusy := none, progValue := none, progDone := true,
                                          progErr := if readbackOk then 0 else 5 },
                      ent := { s.ent with granted := s.ent.granted.filter fun g => decide (g.1 ≠ .slotProgram) } }
    let s := if readbackOk then s else raiseHs s 79 none
    .next (settle (raiseEv s 299))
  | _, _ => .next s

/-! ### Life cycle (R353-R355, R362) -/

/-- CMD_ERR of TKR_STATUS. -/
def tkrErr (s : State) : State := { s with tkr := { s.tkr with cmdErr := true } }

/-- Is an owner copy unprogrammed? -/
def copyBlank (c : OwnerCopy) : Bool := decide (c.hash = 0) && decide (c.crc = 0)
/-- Is an owner copy valid (R355)? -/
def copyValid (c : OwnerCopy) : Bool := !copyBlank c && decide (c.crc = crc32c (leBytes 48 c.hash.toNat))
/-- Is an owner copy BAD? -/
def copyBad (c : OwnerCopy) : Bool := !copyBlank c && !copyValid c

/-- The lowest-lettered valid copy, with its code in OWNER_COPY (R355, R361). -/
def ownerCopy (s : State) : Option (BitVec 2 × OwnerCopy) :=
  if copyValid s.tkr.ownerA then some (1, s.tkr.ownerA)
  else if copyValid s.tkr.ownerB then some (2, s.tkr.ownerB)
  else none

/-- The transition that a command starts in the present state; none when it is not listed (R354, R355). -/
def lcStart (s : State) (cmd : Nat) : Option LcMove :=
  let t := s.tkr
  match cmd, lcCode s with
  | 2, 3 => none
  | 2, _ => some .retire
  | 1, 1 =>
    let h := staged s
    if t.lcWord[1] ≠ 0 then
      (if (copyValid t.ownerA && decide (t.ownerA.hash = h)) || (copyValid t.ownerB && decide (t.ownerB.hash = h)) then some .finishOwn
       else none)
    else if h = 0 then none
    else if copyBlank t.ownerA then some (.own false)
    else if copyBlank t.ownerB then some (.own true)
    else none
  | _, _ => none

/-- TKR_LC_CMD written by PF1 (R354, R362): ignored without the key; a command refused sets CMD_ERR. -/
def wrLcCmd (s : State) (f : Fn) (v : BitVec 64) : State :=
  match f with
  | .pf0 => s
  | .pf1 =>
    if field v 16 16 ≠ 0x7AC0 then s
    else if s.tkr.lcBusy.isSome || s.tkr.progBusy.isSome then tkrErr s
    else match lcStart s (field v 0 4).toNat with
      | some m => { s with tkr := { s.tkr with lcBusy := some m, lcFrom := s.nextId } }
      | none => tkrErr s

/-- TKR_LC_TAKE_OWNERSHIP (R354). -/
def execTkrLcTakeOwnership (f : Fn) (v : BitVec 32) (s : State) : Host.Outcome State Fault Refusal :=
  .next (gateW s f fun s => wrLcCmd s f ((v.setWidth 64 &&& ~~~0xF) ||| 1))

/-- TKR_LC_RETIRE (R354). -/
def execTkrLcRetire (f : Fn) (v : BitVec 32) (s : State) : Host.Outcome State Fault Refusal :=
  .next (gateW s f fun s => wrLcCmd s f ((v.setWidth 64 &&& ~~~0xF) ||| 2))

/-- TKR_LC_CMD_INVALID (R354): a write of any command. -/
def execTkrLcCmdInvalid (f : Fn) (v : BitVec 32) (s : State) : Host.Outcome State Fault Refusal :=
  .next (gateW s f fun s => wrLcCmd s f (v.setWidth 64))

/-- A byte of the life-cycle word programmed; the transition ends (EV298). -/
def lcEnd (s : State) (i : Fin 3) : State :=
  raiseEv { s with tkr := { s.tkr with lcWord := s.tkr.lcWord.set i 0xFF, lcBusy := none } } 298

/-- An owner copy programmed with the staged hash, its CRC-32C, and what the readback finds. -/
def ownCopy (s : State) (copyB ok : Bool) : State :=
  let c : OwnerCopy := if ok then ownGood s else { ownGood s with crc := (Config.freeBits s.free).setWidth 32 }
  let s := if ok then s else takeFree s 1
  { s with tkr := if copyB then { s.tkr with ownerB := c } else { s.tkr with ownerA := c } }

/-- LC_TRANSITION_END (R354): RETIRE waits for the drain of the requests admitted before it, then zeroises every key. A copy
whose readback fails is not followed by byte 1. -/
def execLcTransitionEnd (readbackOk : Bool) (s : State) : Host.Outcome State Fault Refusal :=
  match s.tkr.lcBusy with
  | none => .next s
  | some .retire =>
    if s.reqs.any fun q => decide (q.id < s.tkr.lcFrom) then .next s else .next (settle (lcEnd (clearKeys s) 2))
  | some .finishOwn => .next (settle (lcEnd s 1))
  | some (.own b) =>
    let s := ownCopy s b readbackOk
    if readbackOk then .next (settle (lcEnd s 1))
    else .next (settle (raiseHs (raiseEv { s with tkr := { s.tkr with lcBusy := none } } 298) 79 none))

/-! ### TKR_DOMAIN, TKR_CTL and key idling (R349, R358, R363, R370) -/

/-- TKR_DOMAIN of a stall written by PF1. -/
def wrDomain (s : State) (f : Fn) (n : StallId) (v : BitVec 64) : State :=
  match f with
  | .pf0 => s
  | .pf1 =>
    match s.stalls[n].state with
    | .active | .quiescing | .resetting => tkrErr s
    | .free | .quiesced => setStall s n fun x => { x with domain := field v 0 32, kekGen := field v 32 24, importEn := bit v 56 }

/-- TKR_DOMAIN_WRITE (R358). -/
def execTkrDomainWrite (f : Fn) (n : StallId) (v : BitVec 64) (s : State) : Host.Outcome State Fault Refusal :=
  .next (gateW64 s f (0x0C800 + 8 * n.val) fun s => wrDomain s f n v)

/-- Is a unit's key register not in use: no request runs on the unit or is suspended on it? -/
def keyIdleNow (x : UnitState) : Bool := x.run.isNone && x.suspended.isNone

/-- TKR_CTL written by PF1: registers already idle for longer than a new KEY_IDLE are zeroised (R363). -/
def wrTkrCtl (s : State) (f : Fn) (v : BitVec 64) : State :=
  match f with
  | .pf0 => s
  | .pf1 =>
    let s := { s with tkr := { s.tkr with keyIdle := field v 0 16, storeWait := field v 16 16 } }
    if s.tkr.keyIdle = 0 then s else
    let late (x : UnitState) : Bool :=
      keyIdleNow x && (x.keyReg.map fun k => decide (1000 * s.tkr.keyIdle.toNat ≤ atRate s.boot.clkRate (s.cycle - k.lastUse))).getD false
    { s with units := vmap (fun x => if late x then { x with keyReg := none } else x) s.units }

/-- TKR_CTL_WRITE (R363). -/
def execTkrCtlWrite (f : Fn) (v : BitVec 32) (s : State) : Host.Outcome State Fault Refusal :=
  .next (gateW s f fun s => wrTkrCtl s f (v.setWidth 64))

/-- KEY_IDLE_EXPIRY (R349): a key register is unused for KEY_IDLE microseconds. -/
def execKeyIdleExpiry (u : UnitId) (s : State) : Host.Outcome State Fault Refusal :=
  .next (if s.tkr.keyIdle ≠ 0 ∧ keyIdleNow s.units[u] then zeroKeyReg s u else s)

/-! ### Debug unlock (R356, R357, R780) -/

/-- The 16-byte summary of R45, taken now. -/
def summary16 (s : State) : List Byte :=
  let b := s.boot
  let info : BitVec 32 := b.sequence
  [BitVec.ofNat 8 (lcCode s), if s.tkr.debugOpen then 1 else 0, b.imageSrc.setWidth 8, 0] ++ leBytes 4 info.toNat ++
  leBytes 8 b.fence.toNat

/-- MR1 extended with the digest of the summary, behind what waits in the bank (R45, R433). -/
def extendMr1 (s : State) : State :=
  if s.mrb.fenced then s else mrExtend (mrSettled s) 1 (sha384 (summary16 s))

/-- Does the TAP operate: from the end of RESET, or in board test (R768, R778)? -/
def tapActs (s : State) : Bool := s.boot.powered && (s.boot.testMode || decide (s.boot.phase ≠ .reset))

/-- An instruction that acts as BYPASS, under its code: the pins are released (R768, R779). -/
def tapBypass (s : State) (code : Byte) : State :=
  if tapActs s then answer { s with jtag := { s.jtag with ir := code, pinsHeld := false, pinsHighZ := false } } .ok else s

/-- May the DBG_ instructions act: the TAP out of board test (R768, R778)? -/
def dbgActs (s : State) : Bool := tapActs s && !s.boot.testMode

/-- A nonce shifted out, armed when Update-DR completes. -/
def nonceOut (s : State) (e : BitVec 512) (updateDr : Bool) : State :=
  let n := slice (entryBytes [e]) 0 32
  let s := { s with ent := { s.ent with granted := s.ent.granted.filter fun g => decide (g.1 ≠ .debugNonce) } }
  answer (if updateDr then { s with tkr := { s.tkr with nonce := some n } } else s) (.bytes n)

/-- DBG_NONCE (R356, R780, R786): 32 fresh DRBG bytes; zero after four failures and before OTP ends. A shift without its
draw waits for it. -/
def execDbgNonce (updateDr : Bool) (s : State) : Host.Outcome State Fault Refusal :=
  if !dbgActs s then .next (tapBypass s 0x20) else
  let s := { s with jtag := { s.jtag with ir := 0x20 } }
  if 4 ≤ s.tkr.fails.toNat ∨ s.boot.phase = .otp then .next (answer s (.bytes (zeros 32))) else
  match grantedTo s .debugNonce, s.ent.queue with
  | e :: _, _ => .next (nonceOut s e updateDr)
  | [], e :: t => .next (nonceOut { s with ent := { s.ent with queue := t } } e updateDr)
  | [], [] => .next s

/-- The 97-byte form of the staged owner key (R356, R365). -/
def ownerPoint (s : State) : List Byte := 0x04 :: s.tkr.ownerKey.toList.flatMap fun w => leBytes 8 w.toNat

/-- The message that a debug response signs (R356). -/
def debugMessage (nonce : List Byte) : List Byte := ascii "GY6448 DEBUG" ++ nonce ++ leBytes 4 0x16448A5B

/-- Does a P-384 signature of a message verify under a point? The message is hashed with SHA-384 (R67, R356). -/
def p384Ok (point sig msg : List Byte) : Bool :=
  Config.stdOk (.publicKey 0x45 2) [[2], [0], point] && Config.stdOk (.publicKey 0x45 3) [[2], [0], sig] &&
  Config.stdOk (.publicKey 0x45 4) [[2], [0], point, sig, [], sha384 msg]

/-- Is a response accepted (R356)? -/
def debugOk (s : State) (nonce resp : List Byte) : Bool :=
  match lcCode s with
  | 3 => true
  | 2 =>
    let bnu := (poolUnits .bignum).any fun u => !s.units[u].fenced
    bnu && ((ownerCopy s).map fun c => decide (sha384 (ownerPoint s) = leBytes 48 c.2.hash.toNat)).getD false &&
    p384Ok (ownerPoint s) resp (debugMessage nonce)
  | _ => s.tkr.allow

/-- Unlock (R357). -/
def debugUnlock (s : State) : State :=
  let s := clearKeys s
  let s := { s with tkr := { s.tkr with debugOpen := true } }
  let s := setPd s 63 fun p => { p with state := if p.state = .off then .waking else p.state }
  raiseEv (extendMr1 s) 297

/-- DBG_RESPONSE (R356): ignored with no armed nonce, and after four failures. -/
def execDbgResponse (resp : BitVec 768) (s : State) : Host.Outcome State Fault Refusal :=
  if !dbgActs s then .next (tapBypass s 0x21) else
  let s := { s with jtag := { s.jtag with ir := 0x21 } }
  match s.tkr.nonce with
  | none => .next s
  | some n =>
    if 4 ≤ s.tkr.fails.toNat then .next s else
    let s := { s with tkr := { s.tkr with nonce := none } }
    if debugOk s n (leBytes 96 resp.toNat) then .next (settle (debugUnlock s))
    else .next { s with tkr := { s.tkr with fails := s.tkr.fails + 1 } }

/-- The byte that DBG_STATE shifts out (R780). -/
def dbgStateByte (s : State) : Byte :=
  (flag 0 s.tkr.debugOpen ||| place 1 (BitVec.ofNat 2 (lcCode s)) ||| place 3 s.tkr.fails).setWidth 8

/-- DBG_STATE (R780). -/
def execDbgState (s : State) : Host.Outcome State Fault Refusal :=
  if !dbgActs s then .next (tapBypass s 0x22)
  else .next (answer { s with jtag := { s.jtag with ir := 0x22 } } (.bytes [dbgStateByte s]))

end Sys2Proof.Machine
end

