-- ==== Sys2Proof/Machine/Ready.lean ====
section
/-! DEFINITION. Entry to HELD and READY, and the graceful stop (02, 03). -/

namespace Sys2Proof.Machine

/-! ### Graceful stop (R83, R149-R151) -/

/-- A graceful stop accepted: draining (R150); before READY it is kept, and acted on at READY (R83). A second one changes
nothing (R153). -/
def stopAccept (s : State) : State :=
  if s.boot.phase ≠ .ready then { s with link := { s.link with stopKept := true } }
  else if s.link.stopState = 0 then { s with link := { s.link with stopState := 1 } }
  else s

/-- The last admitted request of a graceful stop has ended: STOPPED and EV292 (R150). -/
def stopEnd (s : State) : State :=
  if s.link.stopState = 1 ∧ s.reqs.isEmpty then raiseEv { s with link := { s.link with stopState := 2 } } 292 else s

/-- RESUME of BRD_STOP_CTL: only while STOPPED; every kept tail is then a doorbell accepted at that moment (R151, R153). -/
def stopResume (s : State) : State :=
  if s.link.stopState = 2 then acceptKept { s with link := { s.link with stopState := 0 } } fun _ => true else s

/-! ### The boot report and READY (R45, R50, R79-R84) -/

/-- MR1 extended once per boot, with EV289, EV290 and EV291 (R45, R50, R84). -/
def bootReport (s : State) : State :=
  let s := extendMr1 s
  let s := if s.boot.fallback || decide (s.boot.imageSrc = 0) then raiseEv s 289 else s
  let s := if s.boot.fence ≠ 0 then raiseEv s 290 else s
  if s.boot.keysLocked then raiseEv s 291 else s

/-- Gating requests written in HELD are taken at READY, as requests made then (R722). -/
def takeWaiting (s : State) : State :=
  (List.finRange 64).foldl (fun s d =>
    let p := s.pds[d]
    match p.waitFn with
    | none => s
    | some f =>
      let s := setPd s d fun p => { p with waitFn := none }
      if offWanted p then (if p.state = .off then s else offRequest (setPd s d fun p => { p with offReq := false }) f d)
      else if p.state = .off then onRequest (setPd s d fun p => { p with offReq := true }) d
      else s) s

/-- READY entered: EV288, BOOT_ATTEMPTS cleared, every bucket full, kept tails accepted, what waited for READY taken
(R80, R83, R84, R96, R305, R716, R722). -/
def toReady (s : State) : State :=
  let s := raiseEv { s with boot := { s.boot with phase := .ready, attempts := 0 },
                            stalls := vmap (fun x => { x with tokens := x.burst }) s.stalls } 288
  let s := if s.link.stopKept then { s with link := { s.link with stopKept := false, stopState := 1 } } else s
  (List.finRange 4).foldl (fun s g => if groupAwaited s g then demandWake s g else s) (takeWaiting (acceptKept s fun _ => true))

end Sys2Proof.Machine
end

