-- ==== Sys2Proof/Machine/MemOps.lean ====
section
/-! DEFINITION. The memory pool's opcodes: COPY, FILL, FLUSH, TALLY64 and LINEADD (12). -/

namespace Sys2Proof.Machine

/-- Do the local source and destination of a COPY overlap (R546)? -/
def copyOverlaps (d : Desc) : Bool :=
  decide (d.srcSel = 2) && decide (d.dstSel = 2) && decide (d.src < d.dst + d.srcLen) && decide (d.dst < d.src + d.srcLen)

/-- COPY: between overlapping local ranges the destination is a free value (R5, R546). -/
def copyRun (s : State) (q : Req) (src : List Byte) : State :=
  if copyOverlaps q.desc then output (takeFree s src.length) q (freeBytes s src.length) 0 else output s q src 0

/-- FILL: the pattern of IMM, byte 0 from IMM[7:0] (R545). -/
def fillRun (s : State) (q : Req) (_ : List Byte) : State :=
  let p := leBytes 8 q.desc.imm.toNat
  output s q ((List.range q.desc.dstLen).map fun i => p.getD (i % 8) 0) 0

/-- On whose behalf a reduction acts: a tally line that it allocates is common, charged to no stall (R531). -/
def tallyBy (s : State) (q : Req) : By :=
  { byReq q with who := (findLine s (lineOf q.desc.src)).map fun _ => q.stall }

/-- TALLY64_ADD: one read-modify-write in the home slice, after the line's crib copies are invalidated (R539, R543). -/
def tallyAddRun (s : State) (q : Req) (src : List Byte) : State :=
  let d := q.desc
  if !redReady s d.src then redInval s d.src else
  let v := BitVec.ofNat 64 (leNat src)
  let w := tallyOp (bit d.mode 0) (bit d.mode 1) v d.imm
  let s := redPut s (tallyBy s q) d.src (leBytes 8 w.toNat)
  output (setReq s q.id fun x => { x with effect := true }) q (if d.dstLen = 0 then [] else src) (v.toNat % 2 ^ 32)

/-- TALLY64_READ. -/
def tallyReadRun (s : State) (q : Req) (src : List Byte) : State :=
  output s q (if q.desc.dstLen = 0 then [] else src) (leNat src % 2 ^ 32)

/-- LINEADD: line, addend and carry-in to line and carry-out (R540). -/
def lineSum (line addend : List Byte) (c : Bool) : List Byte × Nat :=
  let t := leNat line + leNat addend + (if c then 1 else 0)
  (leBytes 512 (t % 2 ^ 4096), t / 2 ^ 4096)

/-- LINEADD (R540, R541). -/
def lineaddRun (s : State) (q : Req) (src : List Byte) : State :=
  let a := q.desc.dst
  if accessHeld s a then s
  else if coPoisoned s a 512 then failReq s q.id 0x70 0
  else if !redReady s a then redInval s a
  else
    let r := lineSum (coRead s a 512) src (bit q.desc.imm 0)
    finish (setReq (redPut s (byReq q) a r.1) q.id fun x => { x with effect := true }) q.id 0 0 512 r.2 []

/-! ### FLUSH (R547) -/

/-- Cached lines of a local range. -/
def linesIn (s : State) (a n : Nat) : List Line :=
  s.mgr.lines.filter fun x => decide (a ≤ lineAddr x.line) && decide (lineAddr x.line < a + n)

/-- A line that a FLUSH can take now: settled, and without crib copies when it is to become INVALID (R550). -/
def flushable (inval : Bool) (x : Line) : Bool :=
  (decide (x.state = .clean) || decide (x.state = .dirty)) && (!inval || decide (x.presence = 0))

/-- Write back one line of a FLUSH. -/
def flushLine (inval : Bool) (s : State) (x : Line) : State :=
  let s := writeBack s x
  if inval then dropLine s x.line else putLine s { x with dirty := 0, state := .clean }

/-- FLUSH: crib copies are invalidated first with INVAL; a line that waits is flushed after its writes are applied. -/
def flushRun (s : State) (q : Req) (_ : List Byte) : State :=
  let d := q.desc
  let inval := bit d.mode 0
  let ls := linesIn s d.dst d.dstLen
  if accessHeld s d.dst then s
  else if ls.all (flushable inval) then
    finish (ls.foldl (flushLine inval) s) q.id 0 0 0 (ls.filter fun x => decide (x.dirty ≠ 0)).length []
  else ls.foldl (fun s x => if inval && flushable false x && decide (x.presence ≠ 0) then startInval s x [] else s) s

/-- COPY (R545). -/
def execCopy (i : Nat) (s : State) : Host.Outcome State Fault Refusal := runOp s i 0x80 copyRun
/-- FILL (R545). -/
def execFill (i : Nat) (s : State) : Host.Outcome State Fault Refusal := runOp s i 0x81 fillRun
/-- FLUSH (R547). -/
def execFlush (i : Nat) (s : State) : Host.Outcome State Fault Refusal := runOp s i 0x88 flushRun
/-- TALLY64_ADD (R539). -/
def execTally64Add (i : Nat) (s : State) : Host.Outcome State Fault Refusal := runOp s i 0x84 tallyAddRun
/-- TALLY64_READ (R545). -/
def execTally64Read (i : Nat) (s : State) : Host.Outcome State Fault Refusal := runOp s i 0x85 tallyReadRun
/-- LINEADD (R540). -/
def execLineadd (i : Nat) (s : State) : Host.Outcome State Fault Refusal := runOp s i 0x86 lineaddRun

end Sys2Proof.Machine
end

