-- ==== Sys2Proof/Machine/MangerOps.lean ====
section
/-! DEFINITION. What happens inside the Manger: misses, fills, write-backs, cribs and the directory, repartition,
uncorrectable errors (12). -/

namespace Sys2Proof.Machine

/-! ### Misses (R531, R536, R537) -/

/-- Lines of a slice in a state. -/
def sliceLines (s : State) (k : SliceId) (st : LineState) : List Line :=
  s.mgr.lines.filter fun x => decide (x.state = st) && decide (homeSlice s x.line = some k)

/-- General miss registers in use, with that of a reduction when they are full (R536). -/
def missBusy (s : State) (k : SliceId) : Nat := (sliceLines s k .filling).length

/-- May an access take a miss register of its home slice: 0 to 45, or 47 for a reduction (R536)? -/
def missFree (s : State) (k : SliceId) (kind : AccKind) : Bool :=
  decide (missBusy s k < 46) || (decide (kind = .reduction) && decide (missBusy s k < 47))

/-- A line that a miss may replace (R531): settled, with no fill waiting for it. -/
def replaceable (x : Line) : Bool := (decide (x.state = .clean) || decide (x.state = .dirty)) && x.fills.isEmpty

/-- The victim among lines: least recently used, one with crib presence only when there is no other (R531). -/
def victim (ls : List Line) : Option Line :=
  let c := ls.filter replaceable
  match lruOf (c.filter fun x => decide (x.presence = 0)) with
  | some x => some x
  | none => lruOf c

/-- Replace a victim: crib copies invalidated first, dirty sectors written back first (R531, R550); the flag says that
its way is free now. -/
def replaceLine (s : State) (x : Line) : State × Bool :=
  if x.presence ≠ 0 then (startInval s { x with evict := true } [], false)
  else if x.dirty ≠ 0 then (putLine s { x with state := .writeback, evict := true }, false)
  else (dropLine s x.line, true)

/-- A line allocated by a miss, FILLING (R531, R538). -/
def fillingLine (s : State) (l : LineNo) (who : Option StallId) (fills : List UnitId) : Line :=
  { line := l, state := .filling, owner := ownerOf s (byNow s who) l, writer := none, type := grantType s (byNow s who) (lineAddr l),
    foreign := false, valid := 0,
    dirty := 0, poison := 0, data := 0, presence := 0, acks := 0, writes := [], since := s.cycle, fills := fills,
    evict := false, lastUse := s.cycle }

/-- An access waits in its slice's input queue (R537). -/
def missWait (s : State) (l : LineNo) (who : Option StallId) (kind : AccKind) : State :=
  { s with mgr := { s.mgr with missWaiting := s.mgr.missWaiting ++ [(l, who, kind)] } }

/-- Allocate a line once the victim among some lines has made way, or wait for it. -/
def allocAfter (s : State) (l : LineNo) (who : Option StallId) (kind : AccKind) (v : Option Line) : State :=
  match v with
  | none => missWait s l who kind
  | some x =>
    let r := replaceLine s x
    if r.2 then putLine r.1 (fillingLine s l who []) else missWait r.1 l who kind

/-- Is a stall at its capacity for one more owned line (R531)? -/
def atCapacity (s : State) (who : Option StallId) (l : LineNo) : Bool :=
  match who with
  | none => false
  | some n => !commonLine s (byNow s who) l && decide (effCap s n ≤ reserved s n + cachedLines s n)

/-- An access that misses (R531, R536): bypass, wait, or allocate; one to a line present joins it (R537). -/
def missStart (s : State) (l : LineNo) (who : Option StallId) (kind : AccKind) : State :=
  if (findLine s l).isSome || decide (s.mcs[lineChan l].state = .fenced) then s
  else if accessHeld s (lineAddr l) then missWait s l who kind
  else match homeSlice s l with
    | none => countBypass s who
    | some k =>
      let set := setLines s l
      if atCapacity s who l then
        (match victim (set.filter fun x => decide (x.owner = who)) with
         | none => countBypass s who
         | some x => if missFree s k kind then allocAfter s l who kind (some x) else missWait s l who kind)
      else if !missFree s k kind then missWait s l who kind
      else if set.length < 16 then putLine s (fillingLine s l who [])
      else allocAfter s l who kind (victim set)

/-- SLICE_MISS (R536). -/
def execSliceMiss (l : LineNo) (who : Option StallId) (kind : AccKind) (s : State) : Host.Outcome State Fault Refusal :=
  .next (missStart s l who kind)

/-- Accesses that wait try again, in arrival order (R537). -/
def retryMisses (s : State) : State :=
  s.mgr.missWaiting.foldl (fun s w => missStart s w.1 w.2.1 w.2.2) { s with mgr := { s.mgr with missWaiting := [] } }

/-- A line with its absent sectors read from the channel, poison included (R584). -/
def filledLine (s : State) (x : Line) : Line :=
  let d := dramLine s x.line
  let sector (k : Nat) : BitVec 4096 := ((BitVec.allOnes 512).setWidth 4096) <<< (512 * k)
  let have_ := (ones x.valid).foldl (fun m k => m ||| sector k) (0 : BitVec 4096)
  { x with data := (x.data &&& have_) ||| (d &&& ~~~ have_), valid := BitVec.allOnes 8,
           poison := (x.poison &&& x.valid) ||| (dramLinePoison s x.line &&& ~~~ x.valid) }

/-! ### Cribs (R548-R554) -/

/-- A crib replaces a line: EVICT clears its presence bit, and is counted as a crossing during INVALIDATING (R551,
R556). -/
def cribReplace (s : State) (u : UnitId) (l : LineNo) : State :=
  if !(s.units[u].crib.any fun c => decide (c.line = l)) then s else
  let s := cribDrop s u l
  match findLine s l with
  | none => s
  | some x =>
    let s := putLine s { x with presence := putBit x.presence u.val false }
    if x.state = .invalidating then { s with mgr := { s.mgr with crossings := satInc s.mgr.crossings } } else s

/-- Set of a line in a crib: 16 sets, by the low bits of the line number (R548; assumption 74). -/
def cribSet (l : LineNo) : BitVec 4 := field l 0 4

/-- The lines a crib holds beside one in that line's set, least recently used first. -/
def cribMates (s : State) (u : UnitId) (l : LineNo) : List CribLine :=
  s.units[u].crib.filter fun c => decide (cribSet c.line = cribSet l) && decide (c.line ≠ l)

/-- A slice sends a line to a crib and sets its presence bit; a full set of 8 ways first replaces its least recently used
line (R548, R549). -/
def cribInstall (s : State) (u : UnitId) (l : LineNo) : State :=
  match findLine s l with
  | none => s
  | some x =>
    let s := match cribMates s u l with
      | c :: t => if t.length + 1 < 8 then s else cribReplace s u c.line
      | [] => s
    let s := putLine s { x with presence := putBit x.presence u.val true }
    setUnit s u fun y =>
      { y with crib := (y.crib.filter fun c => decide (c.line ≠ l)) ++ [{ line := l, data := x.data, poison := x.poison }] }

/-- FILLs that waited for a line are served with its present data (R556). -/
def serveFills (s : State) (l : LineNo) : State :=
  match findLine s l with
  | none => s
  | some x => x.fills.foldl (fun s u => cribInstall s u l) (putLine s { x with fills := [] })

/-! ### Comb tables (R470-R472, R572) -/

/-- First line of the table area in the channel that holds it (R572). -/
def tableBase (s : State) (g : ChanId) : Nat := (g.val * 0x100000000 + usable s.mcs[g] - 0x200000) / 512

/-- The lines of a curve's table in the area of a channel, in their fixed order: at most 40 KiB (R471). -/
def curveLines (s : State) (g : ChanId) (curve : Nat) : List LineNo :=
  (List.range (min (Config.tableLines curve) 80)).map fun i =>
    BitVec.ofNat 25 (tableBase s g + (Config.tableFirst curve + i) % 4096)

/-- The curve of a fixed-base operation (R472). -/
def fixedCurve (d : Desc) : Option Nat := if [0x44, 0x47, 0x48].contains d.opcode then some d.param else none

/-- The table lines that a request's operation takes. -/
def tableNeeds (s : State) (d : Desc) : List LineNo :=
  match s.dram.tableChan, fixedCurve d with
  | some g, some c => curveLines s g c
  | _, _ => []

/-- Do units compute a fixed-base operation without tables (R472, R572, R716)? -/
def noTables (s : State) (d : Desc) : Bool :=
  !s.tableOk || s.noTable || (tableNeeds s d).any fun l =>
    decide (s.mcs[lineChan l].state ≠ .run) || !pdOn s (groupPd (lineChan l)) || coPoisoned s (lineAddr l) 512

/-- Does a line take a FILL: a table line of the operation that the unit runs, or Shared read-only by its type or by the
grant of the stall that the unit works for (R548)? -/
def cribMay (s : State) (u : UnitId) (l : LineNo) : Bool :=
  let q := s.units[u].run.bind (findReq s)
  (q.map fun q => (tableNeeds s q.desc).contains l).getD false ||
  match findLine s l with
  | some x => decide (x.type = 2)
  | none => (q.map fun q => commonLine s (byReq q) l).getD false

/-- A crib miss (R549): the line is filled into its slice and sent; one absent, or not settled, is served when it is. A
table line belongs to no stall. -/
def cribFetch (s : State) (u : UnitId) (l : LineNo) : State :=
  let q := s.units[u].run.bind (findReq s)
  let table := (q.map fun q => (tableNeeds s q.desc).contains l).getD false
  let s := missStart s l (if table then none else q.map (·.stall)) .read
  match findLine s l with
  | none => s
  | some x =>
    if x.state = .clean ∨ x.state = .dirty then
      cribInstall (putLine s (filledLine s x)) u l
    else putLine s { x with fills := if x.fills.contains u then x.fills else x.fills ++ [u] }

/-- CRIB_FILL (R549): a crib miss of a line that cribs may hold. -/
def execCribFill (u : UnitId) (l : LineNo) (s : State) : Host.Outcome State Fault Refusal :=
  .next (if pdPowered s (unitPd u) && cribMay s u l then cribFetch s u l else s)

/-- Does a crib hold a line? -/
def cribHolds (s : State) (u : UnitId) (l : LineNo) : Bool := s.units[u].crib.any fun c => decide (c.line = l)

/-- Load every table line of a request's operation that its unit's crib does not hold; those it holds are used, and so the
last to make way (R471, R548). -/
def tableLoad (s : State) (u : UnitId) (d : Desc) : State :=
  let ls := tableNeeds s d
  let s := cribUse s u fun c => ls.contains c.line
  ls.foldl (fun s l => if cribHolds s u l then s else cribFetch s u l) s

/-- CRIB_EVICT (R551). -/
def execCribEvict (u : UnitId) (l : LineNo) (s : State) : Host.Outcome State Fault Refusal := .next (cribReplace s u l)

/-- CRIB_INVAL (R552): the crib drops its copy of a line that is INVALIDATING. -/
def execCribInval (u : UnitId) (l : LineNo) (s : State) : Host.Outcome State Fault Refusal :=
  match findLine s l with
  | some x => .next (if x.state = .invalidating then cribDrop s u l else s)
  | none => .next s

/-- A settled line whose replacement was asked for goes: written back when dirty, INVALID otherwise. -/
def finishEvict (s : State) (x : Line) : State :=
  if x.dirty ≠ 0 then putLine s { x with state := .writeback } else retryMisses (dropLine s x.line)

/-- A line after its held writes: applied, or settled without any (R538, R556). -/
def applyHeld (s : State) (x : Line) : State × Line :=
  match x.writes with
  | [] => (s, { x with state := if x.dirty ≠ 0 then .dirty else .clean })
  | ws =>
    let s := mergeRest s x ws
    let y := lineStored x ws s.cycle { byNow s x.owner with writer := x.writer }
    if writeThrough s x.line then (writeBack s y, { y with dirty := 0, state := .clean }) else (s, y)

/-- The last answer of an invalidation: the held write is applied, presence is empty, waiting FILLs are sent new data
(R556). -/
def resolved (s : State) (x : Line) : State :=
  let t := satOf 16 (s.cycle - x.since)
  let s := if s.mgr.maxResolve.toNat < t.toNat then { s with mgr := { s.mgr with maxResolve := t } } else s
  let r := applyHeld s { x with presence := 0, acks := 0 }
  if x.evict then finishEvict r.1 r.2 else serveFills (putLine r.1 r.2) x.line

/-- CRIB_ACK (R556): one answer, ACK_PRESENT or ACK_ABSENT alike, for one INVAL sent. -/
def execCribAck (u : UnitId) (l : LineNo) (_present : Bool) (s : State) : Host.Outcome State Fault Refusal :=
  match findLine s l with
  | none => .next s
  | some x =>
    if x.state ≠ .invalidating ∨ x.acks = 0 then .next s else
    let s := cribDrop s u l
    if x.acks = 1 then .next (resolved s x) else .next (putLine s { x with acks := x.acks - 1 })

/-! ### Fills and write-backs (R538, R619) -/

/-- LINE_FILL_COMPLETE (R538, R584): the last sector arrives; waiting writes and FILLs follow. -/
def execLineFillComplete (l : LineNo) (s : State) : Host.Outcome State Fault Refusal :=
  match findLine s l with
  | none => .next s
  | some x =>
    if x.state ≠ .filling then .next s
    else if s.mcs[lineChan l].state = .fenced then .next (retryMisses (dropLine s l))
    else
      let r := applyHeld s (filledLine s x)
      .next (retryMisses (serveFills (putLine r.1 r.2) l))

/-- WRITEBACK_COMPLETE (R538): the channel accepts the last dirty sector; a line being replaced goes, and a write that
waited is applied. -/
def execWritebackComplete (l : LineNo) (s : State) : Host.Outcome State Fault Refusal :=
  match findLine s l with
  | none => .next s
  | some x =>
    if x.state ≠ .writeback then .next s
    else if x.evict then .next (retryMisses (dropLine (lineOut s x) l))
    else
      let r := applyHeld (writeBack s x) { x with dirty := 0 }
      .next (retryMisses (serveFills (putLine r.1 r.2) l))

/-! ### Partition modes (R527, R534, R557) -/

/-- A write of a slice's mode held or started (R534): a group's own repartition holds it, another group's makes it
pending. -/
def startRepart (s : State) (k : SliceId) (m : Bool × StallId) : State :=
  let g := sliceGroup k
  let put (r : Repart) : State :=
    { setSlice s k (fun x => { x with next := some m }) with mgr := { (setSlice s k fun x => { x with next := some m }).mgr with
        repart := s.mgr.repart.set g r } }
  match s.mgr.repart[g] with
  | .clean | .swap => setSlice s k fun x => { x with held := some m }
  | .pending => setSlice s k fun x => { x with next := some m }
  | .none => if s.mgr.repart.toList.any fun r => decide (r ≠ .none) then put .pending else put .clean

/-- The mode that a slice has, or will have. -/
def sliceWill (x : Slice) : Bool × StallId := (x.held.orElse fun _ => x.next).getD (x.dedicated, x.stall)

/-- May a function write a slice's mode (R527)? -/
def sliceMay (s : State) (f : Fn) (k : SliceId) (mode : Bool) (n : StallId) : Bool :=
  match f with
  | .pf1 => true
  | .pf0 => bit s.mgr.nmSlices k.val && (!mode || !s.stalls[n].secure)

/-- MGR_SLICE_CTL written (R527, R534, R557, R564). In APPLY, before the Manger works, a mode is taken at once. -/
def wrSliceCtl (s : State) (f : Fn) (k : SliceId) (v : BitVec 64) : State :=
  let mode := bit v 0
  let n : StallId := bvFin (field v 8 6)
  if !sliceMay s f k mode n then { s with mgr := { s.mgr with cfgErr := true } }
  else if sliceWill s.mgr.slices[k] = (mode, n) then s
  else if s.boot.phase = .apply then setSlice s k fun x => { x with dedicated := mode, stall := n }
  else if !mode ∧ !(sliceWill s.mgr.slices[k]).1 then setSlice s k fun x => { x with stall := n }
  else startRepart s k (mode, n)

/-- MGR_SLICE_CTL_WRITE (R534). -/
def execMgrSliceCtlWrite (f : Fn) (k : SliceId) (v : BitVec 32) (s : State) : Host.Outcome State Fault Refusal :=
  .next (gateW s f fun s => wrSliceCtl s f k (v.setWidth 64))

/-- The group in a phase. -/
def repartIn (s : State) (r : Repart) : Option ChanId := (vfind s.mgr.repart fun x => decide (x = r)).head?

/-- Set a group's phase. -/
def setRepart (s : State) (g : ChanId) (r : Repart) : State := { s with mgr := { s.mgr with repart := s.mgr.repart.set g r } }

/-- SWAP begins for one line of the group: crib copies are invalidated, the rest is INVALID (R534). -/
def swapLine (s : State) (x : Line) : State :=
  if x.state = .invalidating then s
  else if x.presence ≠ 0 then startInval s x []
  else dropLine (lineOut s x) x.line

/-- REPART_CLEAN_END (R534): the dirty sectors of the group have been written back; SWAP begins. -/
def execRepartCleanEnd (s : State) : Host.Outcome State Fault Refusal :=
  match repartIn s .clean with
  | none => .next s
  | some g =>
    let s := setRepart s g .swap
    .next (s.mgr.lines.foldl (fun s x => if lineChan x.line = g then swapLine s x else s) s)

/-- A slice takes its new mode. -/
def sliceSwap (x : Slice) : Slice :=
  match x.next with
  | some m => { x with dedicated := m.1, stall := m.2, next := none }
  | none => x

/-- The repartition that follows: of the same group for a held write, then of the lowest group pending (R534). -/
def nextRepart (s : State) (g : ChanId) : State :=
  let held := (groupSlices g).filter fun k => s.mgr.slices[k].held.isSome
  if !held.isEmpty then
    setRepart (held.foldl (fun s k => setSlice s k fun x => { x with next := x.held, held := none }) s) g .clean
  else match repartIn s .pending with
    | some h => setRepart s h .clean
    | none => s

/-- REPART_SWAP_END (R534): the new map is in force, and held accesses resume. -/
def execRepartSwapEnd (s : State) : Host.Outcome State Fault Refusal :=
  match repartIn s .swap with
  | none => .next s
  | some g =>
    if s.mgr.lines.any fun x => decide (lineChan x.line = g) && decide (x.state = .invalidating) then .next s else
    let s := flushGroup s g
    let s := (groupSlices g).foldl (fun s k => setSlice s k sliceSwap) s
    .next (settle (resumeHeld (retryMisses (nextRepart (setRepart s g .none) g))))

/-! ### Uncorrectable errors (R558, R559, R568) -/

/-- MGR_ERR_LOG: the first error is logged, later ones counted. Set, way and sector of an error outside a named line are
free values. -/
def logMgr (s : State) (k : SliceId) (err : SliceErr) (st : Option StallId) : State :=
  let l := s.mgr.errLog
  if l.valid then { s with mgr := { s.mgr with errLog := { l with lost := satInc l.lost } } } else
  let fr := Config.freeBits s.free
  let x : MgrLog :=
    { slice := BitVec.ofNat 4 k.val, set := fr.setWidth 7, way := (fr >>> 7).setWidth 4, sector := (fr >>> 11).setWidth 3,
      kind := 1, stall := (st.map fun n => BitVec.ofNat 6 n.val).getD 0, stallValid := st.isSome, lost := 0, valid := true }
  let y : MgrLog := match err with
    | .data line way sector => { x with set := setOf line, way := way, sector := BitVec.ofNat 3 sector.val }
    | .reserved _ => x
    | .tag => { x with kind := 2 }
    | .directory => { x with kind := 3 }
  { takeFree s 1 with mgr := { s.mgr with errLog := y } }

/-- MC_ERR_LOG: the first page is logged, later ones counted (R606). -/
def logMc (m : Mc) (page : BitVec 21) (source : BitVec 2) : Mc :=
  if m.errLog.valid then { m with errLog := { m.errLog with lost := satInc m.errLog.lost } }
  else { m with errLog := { page := page, source := source, lost := 0, valid := true } }

/-- The pages that a slice fence poisons are logged: dirty sectors of its lines that cannot be corrected (R583, R606). -/
def logFence (s : State) (k : SliceId) : State :=
  s.mgr.lines.foldl (fun s x =>
    if homeSlice s x.line = some k ∧ x.dirty &&& x.poison ≠ 0 then
      setMc s (lineChan x.line) fun m => logMc m (BitVec.ofNat 21 (lineAddr x.line % 0x100000000 / 2048)) 3
    else s) s

/-- Does a request still need the lines reserved for it: its work goes on, or its verified plaintext is still in them
(R392, R400)? -/
def needsLines (q : Req) : Bool :=
  match q.done with
  | none => true
  | some d => decide (vbrLines q.desc ≠ 0) && decide (d.status = 0) && !q.stores.isEmpty

/-- Is a request the first member of its chain that is not done? Later ones are skipped when its record posts (R256). -/
def firstOpen (s : State) (q : Req) : Bool :=
  q.done.isNone && s.reqs.all fun o => decide (o.chain ≠ q.chain) || o.done.isSome || decide (q.pos ≤ o.pos)

/-- Does the loss of a reservation fail a request: its own lines, or, for the lines of a chain, the member whose turn it
is (R256, R558)? -/
def losesLines (s : State) (q : Req) : ResvFor → Bool
  | .chain c => decide (c = q.chain) && firstOpen s q
  | .vbr i => decide (i = q.id) && needsLines q
  | .coop i => decide (i = q.id) && needsLines q

/-- A slice is fenced: requests with reservations there fail, its group's dirty sectors are written back and its lines
dropped, cribs included (R559). -/
def fenceSlice (s : State) (k : SliceId) : State :=
  let here := (s.mgr.resv.filter fun r => decide (r.slice = k)).map (·.who)
  let s := { s with reqs := s.reqs.map fun q => if here.any (losesLines s q) then endReq q 0x70 0 else q }
  setSlice (flushGroup (logFence s k) (sliceGroup k)) k fun x => { x with fenced := true }

/-- An uncorrectable error of a slice, reported on a Halter source (R558, R591). -/
def sliceBad (s : State) (k : SliceId) (err : SliceErr) (st : Option StallId) (hs : HsId) : State :=
  let s := logMgr s k err st
  let s := match err with
    | .data line _ sector =>
      (match findLine s line with
       | some x => if homeSlice s line = some k ∧ bit x.valid sector.val then putLine s { x with poison := putBit x.poison sector.val true } else s
       | none => s)
    | .reserved i => if ((findReq s i).map needsLines).getD false then failReq s i 0x70 0 else s
    | .tag | .directory => if s.mgr.slices[k].fenced then s else fenceSlice s k
  raiseHs s hs st

/-- SLICE_UNCORRECTABLE (R558). -/
def execSliceUncorrectable (k : SliceId) (err : SliceErr) (st : Option StallId) (s : State) : Host.Outcome State Fault Refusal :=
  .next (settle (sliceBad s k err st (sliceHs k)))

end Sys2Proof.Machine
end

