-- ==== Sys2Proof/Machine/Bignum.lean ====
section
/-! DEFINITION. The big-number units' opcodes (10). -/

namespace Sys2Proof.Machine

/-! ### Modular arithmetic (R458, R459) -/

/-- b to the power e, modulo n, bits of e from the highest down. -/
def powMod (b e n : Nat) : Nat :=
  (List.range (e.log2 + 1)).reverse.foldl (fun acc i => acc * acc % n * (if e.testBit i then b else 1) % n) (1 % n)

/-- Extended Euclid on a fuel: x with a·x ≡ gcd (mod n), and the gcd. -/
def egcd : Nat → Nat → Nat → Int → Int → Nat × Int
  | 0, a, _, x, _ => (a, x)
  | f + 1, a, b, x, y => if b = 0 then (a, x) else egcd f b (a % b) y (x - (a / b : Nat) * y)

/-- The inverse of a modulo n, when there is one. -/
def invMod (a n : Nat) : Option Nat :=
  let r := egcd (2 * (n.log2 + 2)) a n 1 0
  if r.1 = 1 then some (r.2 % (n : Int)).toNat else none

/-! ### RSA keys (R457) -/

/-- An RSA key value. -/
structure RsaKey where
  nbits : Nat
  e : Nat
  p : Nat
  q : Nat
  dp : Nat
  dq : Nat
  qinv : Nat
  deriving DecidableEq, Repr

/-- The key of an RSA key value; none when a structural rule is broken. -/
def rsaKey (v : List Byte) : Option RsaKey :=
  let nbits := fieldAt v 0 2
  let h := nbits / 16
  let e := fieldAt v 4 4
  let part (i : Nat) : Nat := beNat (slice v (8 + i * h) h)
  let prime (x : Nat) : Bool := decide (x % 2 = 1) && decide (2 ^ (nbits / 2 - 1) ≤ x)
  if nbits % 64 = 0 ∧ 1024 ≤ nbits ∧ nbits ≤ 8192 ∧ zeroAt v 2 2 ∧ v.length = 8 + 5 * h ∧
     (e = 0 ∨ (e % 2 = 1 ∧ 3 ≤ e)) ∧ prime (part 0) ∧ prime (part 1)
  then some { nbits := nbits, e := e, p := part 0, q := part 1, dp := part 2, dq := part 3, qinv := part 4 }
  else none

/-- B to the private exponent, by the two CRT halves. -/
def rsaPrivate (k : RsaKey) (b : Nat) : Nat :=
  let m1 := powMod (b % k.p) k.dp k.p
  let m2 := powMod (b % k.q) k.dq k.q
  m2 + (k.qinv * (m1 + k.p - m2 % k.p)) % k.p * k.q

/-- The E and NBITS that an opcode takes (R458). -/
def rsaFits (op : Nat) (k : RsaKey) : Bool :=
  match op with
  | 0x40 => decide (k.e = 0) && decide (k.nbits ≤ 3072)
  | 0x41 => decide (k.e ≠ 0) && decide (k.nbits ≤ 4096)
  | _ => decide (k.e ≠ 0) && decide (4160 ≤ k.nbits)

/-- The unit a request's record names: its lead. -/
def failCheck (s : State) (q : Req) : State :=
  match q.unit with
  | some u => fenceUnit s u 2
  | none => s

/-- RSA_PRIV_CRT and the keyed forms of MODEXP and COOP_MODEXP: structure, base length, output, B < N, then the result,
raised to E and compared with B when E is known (R467, R796). -/
def rsaRun (s : State) (q : Req) (src : List Byte) : State :=
  let d := q.desc
  match rsaKey (keyOf q) with
  | none => failReq s q.id 0x20 0x01
  | some k =>
    let b := beNat src
    if !rsaFits d.opcode k then failReq s q.id 0x20 0x01
    else if d.srcLen ≠ k.nbits / 8 then failReq s q.id 0x30 0x09
    else if tooLongOut d (k.nbits / 8) then failReq s q.id 0x32 0
    else if k.p * k.q ≤ b then failReq s q.id 0x30 0x09
    else
      let m := rsaPrivate k b
      if k.e ≠ 0 ∧ powMod m k.e (k.p * k.q) ≠ b then failCheck s q
      else output s q (beBytes (k.nbits / 8) m) 0

/-! ### Operand blocks (R459) -/

/-- Is a modulus odd, with a non-zero top byte? -/
def modulusOk (n : Nat) (len : Nat) : Bool := decide (n % 2 = 1) && decide (256 ^ (len - 1) ≤ n)

/-- Unkeyed MODEXP and COOP_MODEXP: A^(2^(8·ELEN)) × B^E mod N (R459); a block whose prediction exceeds 2 ms ends as at
admission (R477; assumption 20). -/
def modexpRun (s : State) (q : Req) (src : List Byte) : State :=
  let d := q.desc
  let nlen := fieldAt src 0 2
  let elen := fieldAt src 2 2
  let acc := decide (d.var = 1)
  let n := beNat (slice src 8 nlen)
  let e := beNat (slice src (8 + nlen) elen)
  let a := if acc then beNat (slice src (8 + nlen + elen) nlen) else 1
  let b := beNat (slice src (8 + nlen + elen + (if acc then nlen else 0)) nlen)
  let range := if d.opcode = 0x5C then decide (257 ≤ nlen ∧ nlen ≤ 2048) else decide (32 ≤ nlen ∧ nlen ≤ 1024)
  if !range || !(decide (1 ≤ elen ∧ elen ≤ nlen)) || !zeroAt src 4 4 ||
     decide (d.srcLen ≠ 8 + nlen + elen + nlen * (if acc then 2 else 1)) || !modulusOk n nlen || decide (n ≤ a) ||
     decide (n ≤ b) then failReq s q.id 0x30 0x09
  else if expTooLong s d nlen elen then setReq s q.id fun x => { endReq x 0x30 0x09 with started := false }
  else output s q (beBytes nlen (powMod a (2 ^ (8 * elen)) n * powMod b e n % n)) 0

/-- MODEXP and COOP_MODEXP by whether they name a key. -/
def modexpAny (s : State) (q : Req) (src : List Byte) : State :=
  if q.desc.keySrc = 0 then modexpRun s q src else rsaRun s q src

/-- RSA_PUB: B^E mod N (R458). -/
def rsaPubRun (s : State) (q : Req) (src : List Byte) : State :=
  let aux := auxOf q
  let nlen := fieldAt aux 0 2
  let e := fieldAt aux 4 4
  let n := beNat (slice aux 8 nlen)
  let b := beNat src
  if q.desc.auxLen ≠ 8 + nlen ∨ !zeroAt aux 2 2 ∨ e % 2 = 0 ∨ e < 3 ∨ !modulusOk n nlen ∨ n ≤ b then failReq s q.id 0x30 0x09
  else output s q (beBytes nlen (powMod b e n)) 0

/-- MODOP (R459). -/
def modopRun (s : State) (q : Req) (src : List Byte) : State :=
  let d := q.desc
  let nlen := fieldAt src 0 2
  let n := beNat (slice src 8 nlen)
  let alen := if d.var = 4 then 2 * nlen else nlen
  let a := beNat (slice src (8 + nlen) alen)
  let b := if d.var ≤ 2 then beNat (slice src (8 + nlen + alen) nlen) else 0
  let out (x : Nat) : State := output s q (beBytes nlen x) 0
  if nlen ≠ descNlen d ∨ !zeroAt src 2 6 ∨ !modulusOk n nlen ∨ (if d.var = 4 then n * 256 ^ nlen ≤ a else n ≤ a) ∨ n ≤ b then
    failReq s q.id 0x30 0x09
  else match d.var with
  | 0 => out ((a + b) % n)
  | 1 => out ((a + n - b) % n)
  | 2 => out (a * b % n)
  | 3 => (match invMod a n with
    | some x => out x
    | none => failReq s q.id 0x10 0x03)
  | _ => out (a % n)

/-! ### Curves and lattices (R453, R456, R458, R796) -/

/-- A standard's function of a request: its PARAM and VAR stand before its inputs (assumption 2). -/
def pk (q : Req) (part : Nat) (ins : List (List Byte)) (n : Nat) : List Byte :=
  stdBytes (.publicKey q.desc.opcode part) (leBytes 1 q.desc.param :: leBytes 1 q.desc.var :: ins) n

/-- A standard's verdict for a request. -/
def pkOk (q : Req) (part : Nat) (ins : List (List Byte)) : Bool :=
  Config.stdOk (.publicKey q.desc.opcode part) (leBytes 1 q.desc.param :: leBytes 1 q.desc.var :: ins)

/-- The structure of a request's private key: a P-curve scalar lies in [1, n - 1] (R457). -/
def scalarOk (q : Req) : Bool := decide (3 < q.desc.param) || decide (0x50 ≤ q.desc.opcode) || pkOk q 1 [keyOf q]

/-- ECDSA_SIGN: r ‖ s. -/
def ecdsaSignRun (s : State) (q : Req) (src : List Byte) : State :=
  if !scalarOk q then failReq s q.id 0x20 0x01 else
  let k := if q.desc.var = 0 then randomBytes s q (curveLen q.desc.param) else []
  output s q (pk q 0 [keyOf q, src, k] (2 * curveLen q.desc.param)) 0

/-- A verification: the public key, the signature's form, then the verdict; no output. -/
def verifyRun (s : State) (q : Req) (key sig ctx msg : List Byte) : State :=
  if !pkOk q 2 [key] then failReq s q.id 0x10 0x03
  else if !pkOk q 3 [sig] then failReq s q.id 0x10 0x01
  else if pkOk q 4 [key, sig, ctx, msg] then finish s q.id 0 0 0 0 []
  else failReq s q.id 0x10 0x01

/-- ECDSA_VERIFY: Q, r and s stand in AUX. -/
def ecdsaVerifyRun (s : State) (q : Req) (src : List Byte) : State :=
  let f := curveLen q.desc.param
  verifyRun s q (slice (auxOf q) 0 (1 + 2 * f)) (slice (auxOf q) (1 + 2 * f) (2 * f)) [] src

/-- EDDSA_VERIFY and MLDSA_VERIFY: signature ‖ message in SRC, public key ‖ context in AUX. -/
def splitVerifyRun (sigLen pubLen : Nat) (s : State) (q : Req) (src : List Byte) : State :=
  verifyRun s q (slice (auxOf q) 0 pubLen) (slice src 0 sigLen) ((auxOf q).drop pubLen) (src.drop sigLen)

/-- EDDSA_VERIFY. -/
def eddsaVerifyRun (s : State) (q : Req) (src : List Byte) : State :=
  splitVerifyRun (edSig q.desc.param) (ecPub q.desc.param) s q src

/-- MLDSA_VERIFY. -/
def mldsaVerifyRun (s : State) (q : Req) (src : List Byte) : State :=
  splitVerifyRun (dsaSig q.desc.param) (dsaPk q.desc.param) s q src

/-- EDDSA_SIGN. -/
def eddsaSignRun (s : State) (q : Req) (src : List Byte) : State :=
  output s q (pk q 0 [keyOf q, auxOf q, src] (edSig q.desc.param)) 0

/-- End with a shared secret made with a private key (R327, R460). -/
def secretOut (s : State) (q : Req) (v : List Byte) : State :=
  let priv := (q.key.map (·.attr)).getD 0
  outputKey s q [] { value := v, attr := secretAttr priv v.length, tallyAddr := 0, tallyLimit := 0 } [] 0

/-- ECDH. -/
def ecdhRun (s : State) (q : Req) (_ : List Byte) : State :=
  if !scalarOk q then failReq s q.id 0x20 0x01
  else if !pkOk q 2 [auxOf q] then failReq s q.id 0x10 0x03
  else secretOut s q (pk q 0 [keyOf q, auxOf q] (secretLen q.desc))

/-- XDH: an all-zero result fails (R479). -/
def xdhRun (s : State) (q : Req) (_ : List Byte) : State :=
  let z := pk q 0 [keyOf q, auxOf q] (secretLen q.desc)
  if !pkOk q 2 [auxOf q] then failReq s q.id 0x10 0x03
  else if z.all (· = 0) then failReq s q.id 0x10 0x04
  else secretOut s q z

/-- MLKEM_DECAPS, with implicit rejection. -/
def mlkemDecapsRun (s : State) (q : Req) (src : List Byte) : State := secretOut s q (pk q 0 [keyOf q, src] 32)

/-- MLKEM_ENCAPS: ciphertext, then the secret; a ciphertext beside an intermediate goes to the host address in IMM (R460). -/
def mlkemEncapsRun (s : State) (q : Req) (_ : List Byte) : State :=
  let ek := auxOf q
  let m := randomBytes s q 32
  if !pkOk q 2 [ek] then failReq s q.id 0x10 0x03 else
  let ct := pk q 0 [ek, m] (kemCt q.desc.param)
  let k : Key := { value := pk q 5 [ek, m] 32, attr := encapsAttr s q.stall, tallyAddr := 0, tallyLimit := 0 }
  if q.desc.dstSel = 3 then
    finish (putKeyInter s q k) q.id 0 0 (ct.length + 32) 0 (hostStores s q [(q.desc.imm.toNat, ct.length)] ct)
  else outputKey s q ct k [] 0

/-- Key generation: the public key of a named key, or a new key's blob and public key (R461). -/
def keygenRun (s : State) (q : Req) (_ : List Byte) : State :=
  let d := q.desc
  let pub (v : List Byte) : List Byte := pk q 0 [v] (keygenPub d)
  if d.keySrc ≠ 0 then (if scalarOk q then output s q (pub (keyOf q)) 0 else failReq s q.id 0x20 0x01)
  else match keyAux q with
  | none => failReq s q.id 0x30 0x09
  | some a =>
    match newKeyErr d a with
    | some e => failReq s q.id e.1 e.2
    | none =>
      let rnd := randomBytes s q (klen d.imm)
      let v := if d.opcode = 0x47 ∧ d.param ≤ 3 then pk q 5 [rnd] (klen d.imm) else rnd
      outputKey s q [] (newKey d a v) (pub v) 0

/-- Does attempt κ of an ML-DSA signature succeed? -/
def attemptOk (q : Req) (src rnd : List Byte) (k : Nat) : Bool := pkOk q 4 [keyOf q, auxOf q, src, rnd, leBytes 2 k]

/-- MLDSA_SIGN: attempts from START on, at most ATT_MAX of them and none at index 256 (R463). -/
def mldsaSignRun (s : State) (q : Req) (src : List Byte) : State :=
  let d := q.desc
  let start := (field d.imm 0 8).toNat
  let most := min (attMax s.boot.clkRate d.param) (256 - start)
  let rnd := if d.var = 0 then randomBytes s q 32 else []
  match (List.range most).find? fun j => attemptOk q src rnd (start + j) with
  | some j => output s q (pk q 0 [keyOf q, auxOf q, src, rnd, leBytes 2 (start + j)] (dsaSig d.param)) (j + 1)
  | none => setReq s q.id fun q =>
      { q with done := some { status := 0x10, detail := 0x02, outLen := 0, result := BitVec.ofNat 32 (start + most) }, stores := [] }

/-- Count an operation of a request's units towards the next mask reseed (R468). -/
def countOps (s : State) (q : Req) : State :=
  (q.unit.toList ++ q.coop).foldl (fun s u => setUnit s u fun x =>
    { x with sinceSeed := x.sinceSeed + 1, seeded := x.seeded && decide (x.sinceSeed + 1 < 2 ^ 20) }) s

/-- Run a big-number operation, which counts on its units. -/
def runBn (s : State) (i op : Nat) (k : State → Req → List Byte → State) : Host.Outcome State Fault Refusal :=
  runOp s i op fun s q src => k (countOps s q) q src

/-- Run a fixed-base operation: its unit first loads its curve's table into its crib, and waits for the lines that its
slices do not send at once; without tables it runs on the curve alone, to the same result (R471, R472). -/
def withTables (k : State → Req → List Byte → State) (s : State) (q : Req) (src : List Byte) : State :=
  match q.unit with
  | none => k s q src
  | some u =>
    if noTables s q.desc then k s q src else
    let s := tableLoad s u q.desc
    if (tableNeeds s q.desc).all (cribHolds s u) then k s q src else s

/-- Run a fixed-base operation, which counts on its units when it runs. -/
def runBase (s : State) (op : Nat) (r : CoreRun) (k : State → Req → List Byte → State) : Host.Outcome State Fault Refusal :=
  runOp s r.req op fun s q src =>
    withTables (fun s q src => checkCores (r.agree || !wrapsBlob q.desc) k (countOps s q) q src) s q src

/-- Run a big-number operation that may write its key as a blob: the Tack Room wraps it on two cores, whose results are
equal or not (R315, R332). -/
def runBlob (s : State) (op : Nat) (r : CoreRun) (k : State → Req → List Byte → State) : Host.Outcome State Fault Refusal :=
  runBn s r.req op fun s q src => checkCores (r.agree || !wrapsBlob q.desc) k s q src

/-- MODEXP (R459). -/
def execModexp (i : Nat) (s : State) : Host.Outcome State Fault Refusal := runBn s i 0x40 modexpAny
/-- RSA_PRIV_CRT (R458). -/
def execRsaPrivCrt (i : Nat) (s : State) : Host.Outcome State Fault Refusal := runBn s i 0x41 rsaRun
/-- RSA_PUB (R458). -/
def execRsaPub (i : Nat) (s : State) : Host.Outcome State Fault Refusal := runBn s i 0x42 rsaPubRun
/-- ECDSA_SIGN (R458). -/
def execEcdsaSign (i : Nat) (s : State) : Host.Outcome State Fault Refusal := runBase s 0x44 ⟨i, true⟩ ecdsaSignRun
/-- ECDSA_VERIFY (R458). -/
def execEcdsaVerify (i : Nat) (s : State) : Host.Outcome State Fault Refusal := runBn s i 0x45 ecdsaVerifyRun
/-- ECDH (R460). -/
def execEcdh (r : CoreRun) (s : State) : Host.Outcome State Fault Refusal := runBlob s 0x46 r ecdhRun
/-- EC_KEYGEN (R461). -/
def execEcKeygen (r : CoreRun) (s : State) : Host.Outcome State Fault Refusal := runBase s 0x47 r keygenRun
/-- EDDSA_SIGN (R458). -/
def execEddsaSign (i : Nat) (s : State) : Host.Outcome State Fault Refusal := runBase s 0x48 ⟨i, true⟩ eddsaSignRun
/-- EDDSA_VERIFY (R458). -/
def execEddsaVerify (i : Nat) (s : State) : Host.Outcome State Fault Refusal := runBn s i 0x49 eddsaVerifyRun
/-- XDH (R460). -/
def execXdh (r : CoreRun) (s : State) : Host.Outcome State Fault Refusal := runBlob s 0x4A r xdhRun
/-- MLKEM_KEYGEN (R461). -/
def execMlkemKeygen (r : CoreRun) (s : State) : Host.Outcome State Fault Refusal := runBlob s 0x50 r keygenRun
/-- MLKEM_ENCAPS (R460). -/
def execMlkemEncaps (r : CoreRun) (s : State) : Host.Outcome State Fault Refusal := runBlob s 0x51 r mlkemEncapsRun
/-- MLKEM_DECAPS (R479). -/
def execMlkemDecaps (r : CoreRun) (s : State) : Host.Outcome State Fault Refusal := runBlob s 0x52 r mlkemDecapsRun
/-- MLDSA_KEYGEN (R461). -/
def execMldsaKeygen (r : CoreRun) (s : State) : Host.Outcome State Fault Refusal := runBlob s 0x54 r keygenRun
/-- MLDSA_SIGN (R463). -/
def execMldsaSign (i : Nat) (s : State) : Host.Outcome State Fault Refusal := runBn s i 0x55 mldsaSignRun
/-- MLDSA_VERIFY (R458). -/
def execMldsaVerify (i : Nat) (s : State) : Host.Outcome State Fault Refusal := runBn s i 0x56 mldsaVerifyRun
/-- MODOP (R459). -/
def execModop (i : Nat) (s : State) : Host.Outcome State Fault Refusal := runBn s i 0x58 modopRun
/-- COOP_MODEXP (R473). -/
def execCoopModexp (i : Nat) (s : State) : Host.Outcome State Fault Refusal := runBn s i 0x5C modexpAny

end Sys2Proof.Machine
end

