-- ==== Sys2Proof/Machine/Channels.lean ====
section
/-! DEFINITION. Memory channels, ECC and the Scrubber, and the posted-write stall check (13, 14). -/

namespace Sys2Proof.Machine

/-! ### Channel states (R570, R573, R595-R597) -/

/-- A channel is fenced, with its Halter source; before READY its bit of CFG_SELFTEST_FENCE is set (R99, R104, R597). -/
def fenceChan (s : State) (g : ChanId) : State :=
  let s := if s.boot.phase = .ready then s else { s with boot := { s.boot with fence := putBit s.boot.fence (59 + g.val) true } }
  raiseHs (mcEnter s g .fenced) (chanHs g) none

/-- CHANNEL_TRAINING_END (R570, R595): training and checker patterns end, or the retrain of a woken channel fails; the
density comes from MR8. -/
def execChannelTrainingEnd (g : ChanId) (ok : Bool) (density : BitVec 3) (ranks2 : Bool) (s : State) :
    Host.Outcome State Fault Refusal :=
  match s.mcs[g].state with
  | .training =>
    if ok && decide (density.toNat ≤ 6) then
      .next (setMc (mcEnter s g .filling) g fun m => { m with density := density, ranks2 := ranks2, trained := true })
    else .next (settle (fenceChan s g))
  | .selfRefresh => if ok || decide (s.pds[groupPd g].state ≠ .waking) then .next s else .next (settle (fenceChan s g))
  | _ => .next s

/-- A channel's contents all zero with valid BCH (R93). -/
def zeroFill (s : State) (g : ChanId) : State :=
  let lo := g.val * 0x100000000
  { s with dram := { s.dram with cells := cellClear s.dram.cells lo (lo + 0x100000000),
                                 poison := s.dram.poison.filter fun k => decide (chanOf (64 * k) ≠ g) } }

/-- CHANNEL_FILL_END (R153, R595, R596): the channel runs, and BAR4 accesses held for its fill go on. -/
def execChannelFillEnd (g : ChanId) (s : State) : Host.Outcome State Fault Refusal :=
  match s.mcs[g].state with
  | .filling => .next (settle (resumeHeld (mcEnter (zeroFill s g) g .run)))
  | _ => .next s

/-- MR4_POLL (R573). -/
def execMr4Poll (g : ChanId) (hot : Bool) (s : State) : Host.Outcome State Fault Refusal :=
  match s.mcs[g].state with
  | .run =>
    let s := setMc s g fun m => { m with hot := hot }
    .next (if hot then settle (raiseHs s (chanHs g) none) else s)
  | _ => .next s

/-- TRACKING_FAIL (R595): oscillator tracking or retraining fails twice in succession. -/
def execTrackingFail (g : ChanId) (s : State) : Host.Outcome State Fault Refusal :=
  match s.mcs[g].state with
  | .run => .next (settle (fenceChan s g))
  | _ => .next s

/-! ### ECC (R579-R581, R604-R606) -/

/-- Is a usable page of a running channel named? -/
def pageOk (s : State) (g : ChanId) (page : Nat) : Bool :=
  decide (s.mcs[g].state = .run) && decide (page * 2048 < usable s.mcs[g])

/-- DRAM_CORRECTABLE_READ (R579, R599): counted, and queued for repair; `lastSecond` counts the errors of the last
second. -/
def execDramCorrectableRead (g : ChanId) (page : BitVec 21) (lastSecond : Nat) (s : State) : Host.Outcome State Fault Refusal :=
  if !pageOk s g page.toNat then .next s else
  let s := setMc s g fun m => { m with corrected := satInc m.corrected,
                                       repairQ := if m.repairQ.length < 8 then m.repairQ ++ [page] else m.repairQ }
  .next (if s.mcs[g].ceThresh.toNat < lastSecond then raiseEv s 305 else s)

/-- A page poisoned as a whole (R580): all 32 sectors. -/
def poisonPage (s : State) (g : ChanId) (page : BitVec 21) (source : BitVec 2) : State :=
  let first := (g.val * 0x100000000 + page.toNat * 2048) / 64
  let p := (List.range 32).foldl (fun p i => setPoison p (first + i) true) s.dram.poison
  setMc { s with dram := { s.dram with poison := p } } g fun m => logMc { m with uncorr := satInc m.uncorr } page source

/-- DRAM_UNCORRECTABLE_READ (R580, R599). -/
def execDramUncorrectableRead (g : ChanId) (page : BitVec 21) (st : Option StallId) (s : State) : Host.Outcome State Fault Refusal :=
  if !pageOk s g page.toNat then .next s else .next (settle (raiseHs (poisonPage s g page 1) (chanHs g) st))

/-- REPAIR_REWRITE (R579): the oldest page of the repair queue is rewritten. -/
def execRepairRewrite (g : ChanId) (s : State) : Host.Outcome State Fault Refusal :=
  match s.mcs[g].repairQ with
  | [] => .next s
  | _ :: t => .next (setMc s g fun m => { m with repairQ := t, repairs := satInc m.repairs })

/-- An uncorrectable SRAM word has the outcome of its structure, on its own source or the Scrubber's (R581, R591). -/
def sramBad (s : State) (w : SramWord) (scrub : Bool) : State :=
  let hs (k : HsId) : HsId := if scrub then 94 else k
  match w with
  | .manger k err st => sliceBad s k err st (hs (sliceHs k))
  | .crib u l => raiseHs (cribDrop s u l) (hs (unitHs u)) ((s.units[u].run.bind (findReq s)).map (·.stall))
  | .store h => raiseHs { s with tkr := { s.tkr with store := s.tkr.store.set h Entry.reset } } (hs 79) none
  | .entropyQueue i => raiseHs { s with ent := { s.ent with queue := s.ent.queue.eraseIdx i } } (hs 78) none
  | .bridle q =>
    let x := q.bind (findReq s)
    let s := match x with
      | some q => if q.done.isNone then failReq s q.id 0x7F 0 else setReq s q.id fun q => endReq q 0x7F 0
      | none => s
    raiseHs s (hs 81) (x.map (·.stall))

/-- SRAM_UNCORRECTABLE (R581). -/
def execSramUncorrectable (w : SramWord) (s : State) : Host.Outcome State Fault Refusal := .next (settle (sramBad s w false))

/-! ### The Scrubber (R590-R594) -/

/-- Change a sweep. -/
def setSweep (s : State) (i : Fin 5) (g : Sweep → Sweep) : State := { s with scb := { s.scb with sweeps := upd s.scb.sweeps i g } }

/-- The sweep of a channel. -/
def chanSweep (g : ChanId) : Fin 5 := ⟨g.val, by omega⟩

/-- A scrub read counted by its result (R591, R611). -/
def countScrub (s : State) (i : Fin 5) (r : EccResult) : State :=
  let s := setSweep s i fun x => { x with pos := x.pos + 1, rewrite := decide (r = .correctable) }
  match r with
  | .clean => s
  | .correctable => { s with scb := { s.scb with foundCor := satInc s.scb.foundCor } }
  | .uncorrectable => { s with scb := { s.scb with foundUnc := satInc s.scb.foundUnc } }

/-- SCRUB_DRAM_READ (R590, R591): the next page of a channel's lap. -/
def execScrubDramRead (g : ChanId) (r : EccResult) (s : State) : Host.Outcome State Fault Refusal :=
  let pos := s.scb.sweeps[chanSweep g].pos
  if !bit s.scb.dramEn g.val || !pageOk s g pos then .next s else
  let s := countScrub s (chanSweep g) r
  .next (if r = .uncorrectable then settle (raiseHs (poisonPage s g (BitVec.ofNat 21 pos) 2) 94 none) else s)

/-- A correctable SRAM word found (R581, R565). -/
def sramCorrected (s : State) (w : SramWord) : State :=
  let s := { s with scb := { s.scb with sramCe := satInc s.scb.sramCe } }
  match w with
  | .manger k _ _ => setSlice s k fun x => { x with corrected := satInc x.corrected }
  | _ => s

/-- SCRUB_SRAM_READ (R590, R591): one word of the SRAM sweep. -/
def execScrubSramRead (w : SramWord) (r : EccResult) (s : State) : Host.Outcome State Fault Refusal :=
  if !s.scb.sramEn then .next s else
  let s := countScrub s 4 r
  .next (match r with
    | .clean => s
    | .correctable => sramCorrected s w
    | .uncorrectable => settle (sramBad s w true))

/-- SCRUB_REWRITE (R591): the corrected word or page is rewritten. -/
def execScrubRewrite (i : Fin 5) (s : State) : Host.Outcome State Fault Refusal := .next (setSweep s i fun x => { x with rewrite := false })

/-- SCRUB_LAP_END (R592, R593): the lap's time in ms. -/
def execScrubLapEnd (i : Fin 5) (ms : BitVec 32) (s : State) : Host.Outcome State Fault Refusal :=
  .next (setSweep s i fun x => { x with last := ms, laps := satInc x.laps, pos := 0, overdue := false })

/-- SCRUB_LAP_OVERDUE (R593): once for a lap; a limit of 0 disables the check. -/
def execScrubLapOverdue (i : Fin 5) (s : State) : Host.Outcome State Fault Refusal :=
  let limit := if i.val < 4 then s.scb.dramMin else s.scb.sramMin
  if limit = 0 ∨ s.scb.sweeps[i].overdue then .next s else .next (raiseEv (setSweep s i fun x => { x with overdue := true }) 304)

end Sys2Proof.Machine
end

