-- ==== Sys2Proof/Machine/RegMap.lean ====
section
/-! DEFINITION. The register map of BAR0 (03, 19): which register a byte offset names on a function. -/

namespace Sys2Proof.Machine

/-- The registers of BAR0, by the index of 19; one constructor for each row, with its instance. -/
inductive Reg where
  | brdId | linkStatus | winBase | dmaCtl | ltrActive | ltrIdle | dbStray | brdErrLog | stopStatus | stopCtl
  | msix (v : BitVec 10) (word : Fin 4)
  | pba (i : Fin 16)
  | pwbStatus | pwbCtl | rdStatus | cplStatus | cplCtl
  | bootStatus | imageInfo | imageErr | selftestFence | resetCause | swReset | bootCtl
  | domCtl (d : PdId) | domStatus (d : PdId) | pwrPin | pwrCtl | pwrThrottle | pwrOn | pwrStatus
  | hltStatus (i : Fin 3) | hltRail | hltSummary | sevReact | guardCtl | guardOut | safeCtl | alertCtl | selfTest | attrLog
  | srcCfg (k : HsId)
  | tmpStatus | tmpAck | vbatCtl | inCtl (n : InputId) | inStatus (n : InputId) | monStatus | tmpTemp
  | entStatus | entCtl | waitLimit | reseedCtl | drbgCount | entStretch
  | srcCtl (n : NsId) | srcStatus (n : NsId) | srcFails (n : NsId)
  | scbCtl | scbOverdue | scbStatus | scbLap (i : Fin 5) | scbFound | scbSramCe
  | mcCtl (g : ChanId) | mcStatus (g : ChanId) | mcUsable (g : ChanId) | mcEccCnt (g : ChanId) | mcCeThresh (g : ChanId)
  | mcErrLog (g : ChanId)
  | mrValue (k : MrId) (j : Fin 6) | mrCount (k : MrId) | mrbNmMask | mrbStatus
  | dspCtl | dspStatus | katCtl | katStatus | dspFence | stallPin (n : StallId) | alarmTb (n : StallId)
  | ringReg (r : RingId) (reg : RingReg) | ringStatus (r : RingId)
  | tkrStatus | lcCmd | tkrCtl | debugCtl | ownerHash (j : Fin 6) | ownerKey (j : Fin 12) | slotSel | slotInfo | slotAttr
  | slotBad (j : Fin 8) | progCtl | progAttr | progBlob | progStatus | tkrDomain (n : StallId)
  | tbind (k : Fin 64) (word : Fin 3)
  | stlCmd (n : StallId) | stlStatus (n : StallId) | stlWorld (n : StallId) | stlWeight (n : StallId)
  | stlDrbgRate (n : StallId) | stlMgrLines (n : StallId) | stlBlobQuota (n : StallId)
  | stlPasid (n : StallId) (k : Fin 8) | stlRingAdd (n : StallId) | stlRingRemove (n : StallId) | stlCfgErr (n : StallId)
  | stlRings (n : StallId) (j : Fin 4) | stlMrOwn (n : StallId)
  | pk (k : Fin 256) (word : PkWord) | pdkEpoch | epochCtl | protFence | denyLog
  | mgrStatus | mgrCtl | nmSlices | dirStats | mgrErrLog | sliceCtl (k : SliceId) | sliceStatus (k : SliceId)
  | stallUse (n : StallId)
  | unitStatus (u : UnitId) | unitReqs (u : UnitId) | unitBytes (u : UnitId) | unitFault (u : UnitId) | clCtl | bnuCtl
  | feedCtl | feedLen | feedData | feedLastVb | feedLast | feedStatus | feedOut (j : Fin 8) | feedTimeout
  | route (k : EvId) (aliased : Bool) | evtCause (i : Fin 5) | evtPend (i : Fin 5) | mirror (i : Fin 2) | evtCtl | evtStatus
  | evtMsgs
  deriving DecidableEq, Repr

/-- Is a register 64 bits wide (19)? -/
def Reg.wide : Reg → Bool
  | .winBase | .brdErrLog | .pba _ | .selftestFence | .pwrPin | .pwrOn | .selfTest | .attrLog | .srcCfg _ | .inCtl _
  | .inStatus _ | .drbgCount | .scbLap _ | .scbFound | .mcUsable _ | .mcEccCnt _ | .mcErrLog _ | .mrValue _ _ | .mrbNmMask
  | .katStatus | .dspFence | .stallPin _ | .alarmTb _ | .ownerHash _ | .ownerKey _ | .slotAttr | .slotBad _ | .progAttr
  | .progBlob | .tkrDomain _ | .stlRings _ _ | .stlMrOwn _ | .denyLog | .dirStats | .mgrErrLog | .sliceStatus _ | .stallUse _
  | .unitReqs _ | .unitBytes _ | .feedCtl | .feedLen | .feedData | .feedLast | .feedStatus | .feedOut _ | .route _ _
  | .evtCause _ | .evtPend _ | .evtMsgs => true
  | .ringReg _ reg => decide (reg ≠ .ctl)
  | .tbind _ word => decide (word ≠ 0)
  | .pk _ word => decide (word ≠ .rights)
  | .mirror i => decide (i = 0)
  | _ => false

/-- The instance that an offset names in an array of registers: base, stride, number of instances. -/
def inst (off base stride n : Nat) : Option (Fin n) :=
  if h : base ≤ off ∧ (off - base) % stride = 0 ∧ (off - base) / stride < n then some ⟨(off - base) / stride, h.2.2⟩ else none

/-- The first of several candidates. -/
def firstSome : List (Option Reg) → Option Reg
  | [] => none
  | some r :: _ => some r
  | none :: t => firstSome t

/-- BRD_, CFG_ and the pools of 14. -/
def regBrd (f : Fn) (off : Nat) : Option Reg :=
  let pf0 := decide (f = .pf0)
  match off with
  | 0x00000 => some .brdId
  | 0x00008 => some .linkStatus
  | 0x00010 => if pf0 then some .winBase else none
  | 0x00018 => some .dmaCtl
  | 0x00020 => if pf0 then some .ltrActive else none
  | 0x00024 => if pf0 then some .ltrIdle else none
  | 0x00028 => some .dbStray
  | 0x00030 => some .brdErrLog
  | 0x00040 => some .stopStatus
  | 0x00044 => if pf0 then none else some .stopCtl
  | 0x00100 => some .pwbStatus
  | 0x00104 => some .pwbCtl
  | 0x00108 => some .rdStatus
  | 0x01000 => some .bootStatus
  | 0x01004 => some .imageInfo
  | 0x01008 => some .imageErr
  | 0x01010 => some .selftestFence
  | 0x01018 => some .resetCause
  | 0x01020 => if pf0 then none else some .swReset
  | 0x01024 => if pf0 then none else some .bootCtl
  | _ => none

/-- PWR_, HLT_, TMP_. -/
def regSafe (off : Nat) : Option Reg :=
  match off with
  | 0x02400 => some .pwrPin
  | 0x02408 => some .pwrCtl
  | 0x02410 => some .pwrThrottle
  | 0x02418 => some .pwrOn
  | 0x02420 => some .pwrStatus
  | 0x03000 => some (.hltStatus 0)
  | 0x03004 => some (.hltStatus 1)
  | 0x03008 => some (.hltStatus 2)
  | 0x03010 => some .hltRail
  | 0x03018 => some .hltSummary
  | 0x03020 => some .sevReact
  | 0x03030 => some .guardCtl
  | 0x03034 => some .guardOut
  | 0x03038 => some .safeCtl
  | 0x0303C => some .alertCtl
  | 0x03040 => some .selfTest
  | 0x03048 => some .attrLog
  | 0x04000 => some .tmpStatus
  | 0x04008 => some .tmpAck
  | 0x04010 => some .vbatCtl
  | 0x04300 => some .monStatus
  | 0x04308 => some .tmpTemp
  | _ => firstSome [(inst off 0x02000 8 64).map .domCtl, (inst off 0x02200 8 64).map .domStatus,
      (inst off 0x03100 8 96).map .srcCfg, (inst off 0x04100 0x20 9).map .inCtl, (inst off 0x04108 0x20 9).map .inStatus]

/-- ENT_, SCB_, MRB_, MC_. -/
def regMem (off : Nat) : Option Reg :=
  match off with
  | 0x05000 => some .entStatus
  | 0x05004 => some .entCtl
  | 0x05008 => some .waitLimit
  | 0x0500C => some .reseedCtl
  | 0x05010 => some .drbgCount
  | 0x05018 => some .entStretch
  | 0x06000 => some .scbCtl
  | 0x06008 => some .scbOverdue
  | 0x06010 => some .scbStatus
  | 0x06050 => some .scbFound
  | 0x06058 => some .scbSramCe
  | 0x07C00 => some .mrbNmMask
  | 0x07C08 => some .mrbStatus
  | _ => firstSome [(inst off 0x05100 0x40 2).map .srcCtl, (inst off 0x05108 0x40 2).map .srcStatus,
      (inst off 0x05110 0x40 2).map .srcFails, (inst off 0x06020 8 5).map .scbLap,
      (inst off 0x07000 0x40 48).map fun k => .mrValue k 0, (inst off 0x07008 0x40 48).map fun k => .mrValue k 1,
      (inst off 0x07010 0x40 48).map fun k => .mrValue k 2, (inst off 0x07018 0x40 48).map fun k => .mrValue k 3,
      (inst off 0x07020 0x40 48).map fun k => .mrValue k 4, (inst off 0x07028 0x40 48).map fun k => .mrValue k 5,
      (inst off 0x07030 0x40 48).map .mrCount,
      (inst off 0x30000 0x1000 4).map .mcCtl, (inst off 0x30008 0x1000 4).map .mcStatus,
      (inst off 0x30010 0x1000 4).map .mcUsable, (inst off 0x30018 0x1000 4).map .mcEccCnt,
      (inst off 0x30020 0x1000 4).map .mcCeThresh, (inst off 0x30030 0x1000 4).map .mcErrLog]

/-- DSP_. -/
def regDsp (off : Nat) : Option Reg :=
  match off with
  | 0x08000 => some .dspCtl
  | 0x08004 => some .dspStatus
  | 0x08010 => some .katCtl
  | 0x08018 => some .katStatus
  | 0x08020 => some .dspFence
  | 0x08800 => some .cplStatus
  | 0x08808 => some .cplCtl
  | _ => firstSome [(inst off 0x08100 8 64).map .stallPin, (inst off 0x08400 8 64).map .alarmTb,
      (inst off 0x0A000 0x20 256).map fun r => .ringReg r .base, (inst off 0x0A008 0x20 256).map fun r => .ringReg r .cpl,
      (inst off 0x0A010 0x20 256).map fun r => .ringReg r .hwb, (inst off 0x0A018 0x20 256).map fun r => .ringReg r .ctl,
      (inst off 0x0A01C 0x20 256).map .ringStatus]

/-- TKR_, on PF1 alone. -/
def regTkr (off : Nat) : Option Reg :=
  match off with
  | 0x0C000 => some .tkrStatus
  | 0x0C008 => some .lcCmd
  | 0x0C010 => some .tkrCtl
  | 0x0C020 => some .debugCtl
  | 0x0C100 => some .slotSel
  | 0x0C108 => some .slotInfo
  | 0x0C110 => some .slotAttr
  | 0x0C300 => some .progCtl
  | 0x0C308 => some .progAttr
  | 0x0C310 => some .progBlob
  | 0x0C318 => some .progStatus
  | _ => firstSome [(inst off 0x0C040 8 6).map .ownerHash, (inst off 0x0C080 8 12).map .ownerKey,
      (inst off 0x0C200 8 8).map .slotBad, (inst off 0x0C800 8 64).map .tkrDomain,
      (inst off 0x0CC00 0x20 64).map fun k => .tbind k 0, (inst off 0x0CC08 0x20 64).map fun k => .tbind k 1,
      (inst off 0x0CC10 0x20 64).map fun k => .tbind k 2]

/-- STL_: the window of 1 KiB of each stall. -/
def regStl (off : Nat) : Option Reg :=
  let n : StallId := toFin 64 (by decide) ((off - 0x10000) / 0x400)
  let o := (off - 0x10000) % 0x400
  match o with
  | 0x000 => some (.stlCmd n)
  | 0x004 => some (.stlStatus n)
  | 0x008 => some (.stlWorld n)
  | 0x010 => some (.stlWeight n)
  | 0x014 => some (.stlDrbgRate n)
  | 0x018 => some (.stlMgrLines n)
  | 0x01C => some (.stlBlobQuota n)
  | 0x040 => some (.stlRingAdd n)
  | 0x044 => some (.stlRingRemove n)
  | 0x048 => some (.stlCfgErr n)
  | 0x070 => some (.stlMrOwn n)
  | _ => firstSome [(inst o 0x020 4 8).map fun k => .stlPasid n k, (inst o 0x050 8 4).map fun j => .stlRings n j]

/-- PDK_, on PF1 alone. -/
def regPdk (off : Nat) : Option Reg :=
  match off with
  | 0x22000 => some .pdkEpoch
  | 0x22004 => some .epochCtl
  | 0x22008 => some .protFence
  | 0x22010 => some .denyLog
  | _ => firstSome [(inst off 0x20000 0x20 256).map fun k => .pk k .base, (inst off 0x20008 0x20 256).map fun k => .pk k .limit,
      (inst off 0x20010 0x20 256).map fun k => .pk k .mask, (inst off 0x20018 0x20 256).map fun k => .pk k .rights]

/-- MGR_. -/
def regMgr (off : Nat) : Option Reg :=
  match off with
  | 0x28000 => some .mgrStatus
  | 0x28004 => some .mgrCtl
  | 0x28008 => some .nmSlices
  | 0x28020 => some .dirStats
  | 0x28030 => some .mgrErrLog
  | _ => firstSome [(inst off 0x28100 8 16).map .sliceCtl, (inst off 0x28180 8 16).map .sliceStatus,
      (inst off 0x28400 8 64).map .stallUse]

/-- A unit from an index in its pool. -/
def unitAt (base : Nat) {n : Nat} (k : Fin n) : UnitId := toFin 56 (by decide) (base + k.val)

/-- CL_, DL_, BNU_. -/
def regUnit (off : Nat) : Option Reg :=
  match off with
  | 0x40400 => some .clCtl
  | 0x57900 => some .feedCtl
  | 0x57908 => some .feedLen
  | 0x57910 => some .feedData
  | 0x57918 => some .feedLastVb
  | 0x57920 => some .feedLast
  | 0x57928 => some .feedStatus
  | 0x57980 => some .feedTimeout
  | 0x58400 => some .bnuCtl
  | _ => firstSome [(inst off 0x40000 0x800 32).map fun k => .unitStatus (unitAt 0 k),
      (inst off 0x40008 0x800 32).map fun k => .unitReqs (unitAt 0 k), (inst off 0x40010 0x800 32).map fun k => .unitBytes (unitAt 0 k),
      (inst off 0x40018 0x800 32).map fun k => .unitFault (unitAt 0 k),
      (inst off 0x50000 0x800 16).map fun k => .unitStatus (unitAt 32 k),
      (inst off 0x50008 0x800 16).map fun k => .unitReqs (unitAt 32 k), (inst off 0x50010 0x800 16).map fun k => .unitBytes (unitAt 32 k),
      (inst off 0x50018 0x800 16).map fun k => .unitFault (unitAt 32 k), (inst off 0x57940 8 8).map .feedOut,
      (inst off 0x58000 0x800 8).map fun k => .unitStatus (unitAt 48 k),
      (inst off 0x58008 0x800 8).map fun k => .unitReqs (unitAt 48 k), (inst off 0x58018 0x800 8).map fun k => .unitFault (unitAt 48 k)]

/-- EVT_; the alias EVT_NM_ROUTE is on PF1 alone. -/
def regEvt (f : Fn) (off : Nat) : Option Reg :=
  match off with
  | 0x61100 => some (.mirror 0)
  | 0x61108 => some (.mirror 1)
  | 0x61200 => some .evtCtl
  | 0x61208 => some .evtStatus
  | 0x61210 => some .evtMsgs
  | _ => firstSome [(inst off 0x60000 8 320).map fun k => .route k false, (inst off 0x61000 8 5).map .evtCause,
      (inst off 0x61040 8 5).map .evtPend,
      match f with
      | .pf0 => none
      | .pf1 => (inst off 0x64000 8 192).map fun k => .route ⟨k.val, by omega⟩ true]

/-- The MSI-X table, each entry as four words, and the Pending Bit Array (R131). -/
def regMsix (f : Fn) (off : Nat) : Option Reg :=
  let n := match f with
    | .pf0 => 1024
    | .pf1 => 256
  if off < 0xF8000 then
    let w := (off - 0xF0000) / 4
    if off % 4 = 0 ∧ w / 4 < n then some (.msix (BitVec.ofNat 10 (w / 4)) (toFin 4 (by decide) w)) else none
  else if off % 8 = 0 ∧ (off - 0xF8000) / 8 < n / 64 then some (.pba (toFin 16 (by decide) ((off - 0xF8000) / 8))) else none

/-- The register that begins at a BAR0 offset on a function; none where the index lists none (R117, R119, R752, R753). -/
def regAt (f : Fn) (off : Nat) : Option Reg :=
  if off < 0x02000 then regBrd f off
  else if off < 0x05000 then regSafe off
  else if off < 0x08000 then regMem off
  else if off < 0x0C000 then regDsp off
  else if off < 0x10000 then (if f = .pf1 then regTkr off else none)
  else if off < 0x20000 then regStl off
  else if off < 0x28000 then (if f = .pf1 then regPdk off else none)
  else if off < 0x30000 then regMgr off
  else if off < 0x34000 then regMem off
  else if off < 0x40000 then none
  else if off < 0x60000 then regUnit off
  else if off < 0x70000 then regEvt f off
  else if 0xF0000 ≤ off ∧ off < 0xF9000 then regMsix f off
  else none

/-- The register whose low half, or whole when it is 32 bits wide, begins at an offset, or whose high half does. -/
inductive Half where
  | whole (r : Reg)
  | low (r : Reg)
  | high (r : Reg)
  | none
  deriving DecidableEq, Repr

/-- What 4 bytes at an offset cover (R753). -/
def halfAt (f : Fn) (off : Nat) : Half :=
  if off % 4 ≠ 0 then .none else
  match regAt f off with
  | some r => if r.wide then .low r else .whole r
  | .none =>
    if off < 4 then .none else
    match regAt f (off - 4) with
    | some r => if r.wide then .high r else .none
    | .none => .none

end Sys2Proof.Machine
end

