-- ==== Sys2Proof/Machine/Tamper.lean ====
section
/-! DEFINITION. The Tamper Monitor and its battery-backed section (16). -/

namespace Sys2Proof.Machine

/-- Input 0 to 3 (R679). -/
def batteryInput (n : InputId) : Bool := decide (n.val < 4)

/-- Is an input's registered level active under its polarity? -/
def inActive (x : TmpIn) : Bool := x.level = x.active

/-- Halter source of an input (R679). -/
def inHs (n : InputId) : HsId := if h : n.val < 8 then ⟨86 + n.val, by omega⟩ else 84

/-- Set a bit of TMP_MON_STATUS (R700). -/
def setMon (s : State) (i : Nat) : State := { s with tmp := { s.tmp with mon := putBit s.tmp.mon i true } }

/-- The response in effect: before READY every input 0 to 7 is KEY_CLEAR (R47, R688). -/
def effResp (s : State) (n : InputId) : Bool :=
  (decide (s.boot.phase ≠ .ready) && decide (n.val < 8)) || decide (s.tmp.inp[n].resp = 1)

/-- The actions of a qualified assertion or chatter tamper (R682, R688). -/
def tamperAct (s : State) (n : InputId) : State :=
  let s := setIn s n fun x => { x with raised := true }
  let s := if n.val = 8 then setMon s 5 else s
  let s := raiseHs s (inHs n) none
  if !effResp s n then s else
  let s := if n.val < 8 then { s with tmp := { s.tmp with latch := putBit s.tmp.latch n.val true } }
           else { s with tmp := { s.tmp with extLock := true } }
  keyClear s

/-- Enter CHATTER at edge CHATTER_COUNT + 1 of a window (R684). -/
def enterChatter (s : State) (n : InputId) : State :=
  let old := s.tmp.inp[n].state
  let s := raiseEv (setIn s n fun x => { x with state := .chatter }) 309
  if s.tmp.inp[n].chatTamper ∧ old ≠ .asserted ∧ old ≠ .pendingD then tamperAct s n else s

/-- The state after a registered transition to a level (R681, R793). -/
def afterLevel (st : TmpState) (active : Bool) : TmpState :=
  match st, active with
  | .idle, true => .pendingA
  | .pendingA, false => .idle
  | .asserted, false => .pendingD
  | .pendingD, true => .asserted
  | x, _ => x

/-- TAMPER_TRANSITION (R680, R681, R684): a registered transition to a level; a window counts against the CHATTER_COUNT that
stood when it began (R686). Inputs 4 to 8 are ignored while the supplies are out of their limits (R781). -/
def execTamperTransition (n : InputId) (level : Bool) (s : State) : Host.Outcome State Fault Refusal :=
  if !s.boot.powered ∧ !batteryInput n then .next s else
  let s := setIn s n fun x => { x with level := level, rawEdges := x.rawEdges + 1 }
  let x := s.tmp.inp[n]
  match x.state with
  | .disabled => .next s
  | .chatter => .next (setIn s n fun x => { x with chatterEdges := satInc x.chatterEdges })
  | _ =>
    let limit := if x.windowCount = 0 then x.chatterCount else x.windowLimit
    let s := setIn s n fun x => { x with state := afterLevel x.state (inActive x), windowCount := x.windowCount + 1,
                                         windowLimit := limit, raised := if x.state = .idle then false else x.raised }
    if limit.toNat < x.windowCount + 1 then .next (settle (enterChatter (setIn s n fun y => { y with state := x.state }) n))
    else .next s

/-- CHATTER_WINDOW_EXPIRY (R684). -/
def execChatterWindowExpiry (n : InputId) (s : State) : Host.Outcome State Fault Refusal :=
  .next (setIn s n fun x => { x with windowCount := 0 })

/-- TAMPER_FILTER_EXPIRY (R681, R682). An input that its kept configuration leaves enabled over a chip reset acts at once,
before the end of OTP too (R47, R694; assumption 75). -/
def execTamperFilterExpiry (n : InputId) (s : State) : Host.Outcome State Fault Refusal :=
  match s.tmp.inp[n].state with
  | .pendingA => .next (settle (tamperAct (setIn s n fun x => { x with state := .asserted }) n))
  | .pendingD => .next (raiseEv (setIn s n fun x => { x with state := .idle, stuck := false, raised := false }) 310)
  | _ => .next s

/-- CHATTER_EXIT (R681, R685). -/
def execChatterExit (n : InputId) (s : State) : Host.Outcome State Fault Refusal :=
  let x := s.tmp.inp[n]
  if x.state ≠ .chatter then .next s
  else if !inActive x then
    .next (raiseEv (setIn s n fun x => { x with state := .idle, stuck := false, raised := false, windowCount := 0 }) 310)
  else
    let s := setIn s n fun x => { x with state := .asserted, windowCount := 0 }
    .next (if x.raised then s else settle (tamperAct s n))

/-- STUCK_TIMEOUT (R683): STUCK_S seconds since the qualified assertion without a qualified deassertion. -/
def execStuckTimeout (n : InputId) (s : State) : Host.Outcome State Fault Refusal :=
  let x := s.tmp.inp[n]
  match x.state with
  | .asserted | .pendingD | .chatter =>
    if x.stuck || !x.raised then .next s else .next (raiseEv (setIn s n fun x => { x with stuck := true }) 308)
  | _ => .next s

/-- EN and ACTIVE take new values: enabling enters IDLE or PENDING_A, disabling ends any state, a polarity change of an
enabled input acts as a transition (R681, R793). -/
def inputMode (x : TmpIn) (en active : Bool) : TmpIn :=
  let y := { x with en := en, active := active }
  if !en then { y with state := .disabled, stuck := false, raised := false, windowCount := 0 }
  else if !x.en then { y with state := if inActive y then .pendingA else .idle, raised := false, windowCount := 0 }
  else if x.active = active then y
  else { y with state := afterLevel y.state (inActive y) }

/-- Bits [59:0] of TMP_INn_CTL as they read (R698). -/
def inCtl (x : TmpIn) : BitVec 64 :=
  flag 0 x.en ||| flag 1 x.active ||| place 2 x.resp ||| flag 4 x.chatTamper ||| place 16 x.filterUs |||
  place 32 x.stuckS ||| place 40 x.chatterCount ||| place 52 x.chatterWin

/-- TMP_INn_CTL written by PF1 (R698): values out of range are ignored, EN and ACTIVE of inputs 0 to 3 are read-only. -/
def wrInCtl (s : State) (f : Fn) (n : InputId) (v m : BitVec 64) : State :=
  match f with
  | .pf0 => s
  | .pf1 =>
    let x := s.tmp.inp[n]
    let resp := field v 2 2
    let filt := field v 16 16
    let stuck := field v 32 8
    let cnt := field v 40 12
    let win := field v 52 8
    let y := if x.lock then x else
      let y := { x with resp := if 2 ≤ resp.toNat then x.resp else resp, chatTamper := bit v 4,
                        filterUs := if filt = 0 then x.filterUs else filt, stuckS := if stuck = 0 then x.stuckS else stuck,
                        chatterCount := if cnt.toNat < 4 then x.chatterCount else cnt,
                        chatterWin := if win = 0 then x.chatterWin else win }
      if batteryInput n then y else inputMode y (bit v 0) (bit v 1)
    let y := if bit m 63 ∧ !x.lockWritten then { y with lock := bit v 63, lockWritten := true } else y
    setIn s n fun _ => y

/-- TMP_IN_EN_WRITE (R681): a TMP_INn_CTL write. -/
def execTmpInEnWrite (f : Fn) (n : InputId) (v : BitVec 64) (s : State) : Host.Outcome State Fault Refusal :=
  .next (gateW64 s f (0x04100 + 0x20 * n.val) fun s => wrInCtl s f n v (BitVec.allOnes 64))

/-- TMP_IN_ACTIVE_WRITE (R793): a TMP_INn_CTL write. -/
def execTmpInActiveWrite (f : Fn) (n : InputId) (v : BitVec 64) (s : State) : Host.Outcome State Fault Refusal :=
  .next (gateW64 s f (0x04100 + 0x20 * n.val) fun s => wrInCtl s f n v (BitVec.allOnes 64))

/-- TMP_VBAT_CTL written by PF1: the write is on its way to the battery section; LOCK acts at once (R697). -/
def wrVbatCtl (s : State) (f : Fn) (v m : BitVec 64) : State :=
  match f with
  | .pf0 => s
  | .pf1 =>
    let t := s.tmp
    let t1 := if t.vbLock then t else { t with vbWrites := t.vbWrites ++ [v.setWidth 32] }
    { s with tmp := if bit m 31 ∧ !t.vbLockWritten then { t1 with vbLock := bit v 31, vbLockWritten := true } else t1 }

/-- The battery section's enables and polarities as inputs 0 to 3 follow them. -/
def followBattery (s : State) : State :=
  (List.finRange 9).foldl (fun s n =>
    if batteryInput n then setIn s n fun x => inputMode x (bit s.tmp.vbEn n.val) (bit s.tmp.vbActive n.val) else s) s

/-- TMP_VBAT_CTL_ARRIVAL (R697): the oldest write reaches the section. -/
def execTmpVbatCtlArrival (s : State) : Host.Outcome State Fault Refusal :=
  match s.tmp.vbWrites with
  | [] => .next s
  | v :: t =>
    let filt := field v 8 4
    .next (followBattery { s with tmp := { s.tmp with
      vbWrites := t, vbEn := field v 0 4, vbActive := field v 4 4,
      vbFilter := if filt = 0 then s.tmp.vbFilter else filt } })

/-- TMP_ACK written by PF1 (R689). -/
def wrAck (s : State) (f : Fn) (v : BitVec 64) : State :=
  match f with
  | .pf0 => s
  | .pf1 =>
    if field v 16 16 ≠ 0x7AC1 then s else
    let quiet (n : InputId) : Bool :=
      match s.tmp.inp[n].state with
      | .disabled | .idle => true
      | _ => false
    let sel := (List.finRange 9).filter fun n => decide (n.val < 8) && bit v n.val && bit s.tmp.latch n.val
    let stay := sel.filter fun n => !quiet n
    let latch := (sel.filter quiet).foldl (fun l n => putBit l n.val false) s.tmp.latch
    let extStay := s.tmp.extLock && bit v 9 && !quiet 8
    let t : Tmp :=
      { s.tmp with latch := latch, lost := s.tmp.lost && !(bit v 8),
                   extLock := s.tmp.extLock && !(bit v 9 && quiet 8),
                   ackErr := s.tmp.ackErr || !stay.isEmpty || extStay }
    if t.latch = 0 ∧ !t.lost ∧ !t.extLock then
      { s with tmp := { t with canary := 0x5A3C96E1 }, boot := { s.boot with keysLocked := false } }
    else { s with tmp := t }

/-- TMP_ACK (R689). -/
def execTmpAck (f : Fn) (v : BitVec 32) (s : State) : Host.Outcome State Fault Refusal :=
  .next (gateW s f fun s => wrAck s f (v.setWidth 64))

/-- VBAT_SAMPLE (R687): one oscillator period, from VDD_AON leaving its limits until OTP ends, with the pin levels given;
VB_FILTER consecutive active samples of an
enabled input latch it. -/
def execVbatSample (levels : BitVec 4) (s : State) : Host.Outcome State Fault Refusal :=
  if !s.tmp.vbSampling then .next s else
  let t := s.tmp
  let hit (n : Fin 4) : Bool := bit t.vbEn n.val && decide (bit levels n.val = bit t.vbActive n.val)
  let cnt := vmapIdx (fun n c => if hit n then c + 1 else 0) t.vbCount
  let latch := (List.finRange 4).foldl (fun l n =>
    if t.vbFilter.toNat ≤ cnt[n] then putBit l n.val true else l) t.latch
  .next { s with tmp := { t with vbCount := cnt, latch := latch } }

/-- VBAT_REMOVED (R687, R774): without VBAT the section loses its contents while main power is off; what it then holds
is the operand. While main power is good it runs from VDD_AON and loses nothing (R786). -/
def execVbatRemoved (latch : BitVec 8) (canary : BitVec 32) (s : State) : Host.Outcome State Fault Refusal :=
  .next (if s.boot.powered then s else { s with tmp := { s.tmp with latch := latch, canary := canary } })

/-- Cause bit of a monitor condition (R690, R700). -/
def monBit : MonCond → Nat
  | .coreLo => 0 | .sramLo => 1 | .aonLo => 2 | .hi => 3 | .io => 4
  | .tempHi => 8 | .tempLo => 9 | .trip => 10
  | .refclk => 16 | .coreClk => 17 | .aonOsc => 18

/-- Halter source of a monitor condition (R690). -/
def monHs : MonCond → HsId
  | .coreLo | .sramLo | .aonLo | .hi | .io => 84
  | .tempHi | .tempLo | .trip => 85
  | .refclk | .coreClk | .aonOsc => 83

/-- MONITOR_CONDITION (R38, R643, R690, R691): the monitor of CORE_CLK is armed at the end of CLOCK. -/
def execMonitorCondition (c : MonCond) (s : State) : Host.Outcome State Fault Refusal :=
  if c = .coreClk ∧ !s.boot.clkMon then .next s else
  let s := raiseHs (setMon s (monBit c)) (monHs c) none
  match c with
  | .coreLo | .sramLo | .aonLo => .next (brownOut s)
  | .trip => .next (let s := brownOut s; { s with tmp := { s.tmp with tripHold := true } })
  | .coreClk => .next (let s := settle s; { s with hlt := { s.hlt with clkRef := true } })
  | _ => .next (settle s)

/-- Whole degrees Celsius of a temperature register in 1/16 degree. -/
def degrees16 (t : BitVec 16) : Int := t.toInt

/-- Entry and exit temperatures of a throttle level above B, in 1/16 degree (R718). -/
def throttleIn (b : Int) : Nat → Int
  | 1 => b
  | 2 => b + 48
  | _ => b + 80

/-- See `throttleIn`. -/
def throttleOut (b : Int) : Nat → Int
  | 1 => b - 48
  | 2 => b
  | _ => b + 32

/-- The throttle level follows a temperature sample: up after one sample at or above the entry temperature, down after
two consecutive samples below the exit temperature (R718). -/
def throttle (s : State) (t : BitVec 16) : State :=
  let b : Int := 16 * s.pwr.thrBase.toNat
  let l := s.pwr.level.toNat
  let enter (n : Nat) : State :=
    raiseEv { s with pwr := { s.pwr with level := BitVec.ofNat 2 n, changes := satInc s.pwr.changes, below := false } } 313
  let up := if throttleIn b 3 ≤ degrees16 t then 3 else if throttleIn b 2 ≤ degrees16 t then 2
            else if throttleIn b 1 ≤ degrees16 t then 1 else 0
  if l < up then enter up
  else if 0 < l ∧ degrees16 t < throttleOut b l then
    (if s.pwr.below then enter (l - 1) else { s with pwr := { s.pwr with below := true } })
  else { s with pwr := { s.pwr with below := false } }

/-- TEMP_SAMPLE (R690, R701, R718): a sample of the junction temperature; a held trip ends at 115 degrees or below. -/
def execTempSample (t : BitVec 16) (s : State) : Host.Outcome State Fault Refusal :=
  let hold := s.tmp.tripHold && decide (16 * 115 < degrees16 t)
  .next (throttle { s with tmp := { s.tmp with temp := t, tripHold := hold } } t)

end Sys2Proof.Machine
end

