-- ==== Sys2Proof/Machine/RegRead.lean ====
section
/-! DEFINITION. What a read of each BAR0 register returns on a function, field by field as the chapters' tables give
it; a field of access WO reads 0 (R13), reserved bits read 0 (R15). -/

namespace Sys2Proof.Machine

/-! ### Bridle, Configuration Loader, pools (02, 03, 14) -/

/-- PHASE codes of R38. -/
def phaseCode : Phase → BitVec 4
  | .reset => 0 | .otp => 1 | .clock => 2 | .preloadTest => 3 | .load => 4 | .apply => 5 | .memory => 6
  | .selfTest => 7 | .rootGen => 8 | .ready => 9 | .held => 0xA | .bootFailed => 0xF

/-- BRD_ID (R156). -/
def rdBrdId : BitVec 64 := place 0 0x1E9B#16 ||| place 16 0xB0#8

/-- BRD_LINK_STATUS (R157). -/
def rdLinkStatus (s : State) : BitVec 64 :=
  place 0 s.link.rate ||| place 4 s.link.width ||| flag 8 s.link.up ||| place 16 s.link.retrains

/-- BRD_ERR_LOG of a function (R162). -/
def rdErrLog (x : ErrLog) : BitVec 64 :=
  place 0 x.ring ||| place 8 x.kind ||| flag 11 x.fetch ||| place 12 x.pasid ||| place 48 x.lost ||| flag 63 x.valid

/-- A word of an MSI-X table entry (R131). -/
def rdMsix (s : State) (f : Fn) (v : BitVec 10) (word : Fin 4) : BitVec 64 :=
  let e := (fnState s f).msix[bvFin v]
  match word with
  | 0 => e.addr &&& 0xFFFFFFFF
  | 1 => e.addr >>> 32
  | 2 => e.data.setWidth 64
  | 3 => e.ctl.setWidth 64

/-- BRD_PWB_STATUS (R636). -/
def rdPwbStatus (s : State) : BitVec 64 :=
  place 0 (satOf 10 (pwbHeaders s)) ||| place 16 (satOf 11 (pwbData s)) ||| flag 31 s.link.pwbStalled

/-- BRD_RD_STATUS (R638). -/
def rdRdStatus (s : State) : BitVec 64 :=
  place 0 (satOf 10 (tagsUsed s)) ||| place 16 (satOf 5 (alarmTags s)) ||| place 24 (satOf 8 (cplBuf s))

/-- CFG_BOOT_STATUS (R101). -/
def rdBootStatus (s : State) : BitVec 64 :=
  let b := s.boot
  place 0 (phaseCode b.phase) ||| place 4 b.imageSrc ||| flag 6 b.aValid ||| flag 7 b.bValid ||| flag 8 b.signed |||
  flag 9 b.vbatReport ||| flag 10 b.keysLocked ||| flag 11 (decide (b.fence ≠ 0)) ||| place 12 b.clkRate |||
  place 14 b.spiMode ||| place 17 b.failCause

/-- CFG_IMAGE_ERR (R103). -/
def rdImageErr (s : State) : BitVec 64 := place 0 s.boot.aErr ||| place 8 s.boot.bErr ||| place 16 s.boot.badRecord

/-- CFG_RESET_CAUSE (R105). -/
def rdResetCause (s : State) : BitVec 64 :=
  flag 0 s.boot.causePor ||| flag 1 s.boot.causePerst ||| flag 2 s.boot.causeHalter ||| flag 3 s.boot.causeSoftware |||
  place 8 s.boot.attempts

/-! ### Power Controller, Halter, Tamper Monitor (15, 16, 17) -/

/-- State codes of a domain (R726). -/
def pdCode : PdState → BitVec 3
  | .off => 0 | .waking => 1 | .on => 2 | .draining => 3 | .secureHold => 4 | .poweringDown => 5

/-- RESULT codes (R726). -/
def pdResultCode : PdResult → BitVec 3
  | .none => 0 | .done => 1 | .inProgress => 2 | .pending => 3 | .denied => 4

/-- PWR_DOM_STATUS of a domain; HOLD_CAUSE names the kinds of secure-world state of the hold that are
still present (R720, R726). -/
def rdDomStatus (s : State) (f : Fn) (d : PdId) : BitVec 64 :=
  let p := s.pds[d]
  place 0 (pdCode p.state) ||| place 3 (pdResultCode p.result) ||| flag 6 (bit s.pwr.pin d.val) ||| flag 7 p.demand |||
  (match f with
   | .pf0 => 0
   | .pf1 => place 8 (p.hold &&& secureState s d)) ||| flag 11 p.fail ||| place 16 p.gates

/-- PWR_CTL (R728). -/
def rdPwrCtl (s : State) : BitVec 64 :=
  place 0 s.pwr.minCl ||| place 8 s.pwr.minDl ||| place 16 s.pwr.minBn ||| place 24 s.pwr.thrBase

/-- HLT_STATUSi (R669). -/
def rdHltStatus (s : State) (i : Fin 3) : BitVec 64 :=
  (maskOf fun j : Fin 32 => s.hlt.src[toFin 96 (by decide) (32 * i.val + j.val)].latch).setWidth 64

/-- The source of a bit of HLT_RAIL: HS48 to HS55, then HS72 to HS95 (R670). -/
def railHs (j : Fin 32) : HsId := if h : j.val < 8 then ⟨48 + j.val, by omega⟩ else ⟨64 + j.val, by omega⟩

/-- HLT_RAIL (R670). -/
def rdHltRail (s : State) : BitVec 64 := (maskOf fun j : Fin 32 => s.hlt.src[railHs j].rail).setWidth 64

/-- HLT_SUMMARY (R671). -/
def rdSummary (s : State) : BitVec 64 :=
  place 0 (satOf 3 (maxSev s)) ||| flag 3 s.hlt.safe ||| flag 4 s.hlt.alert ||| flag 5 s.hlt.nmiSent |||
  flag 6 s.hlt.unattrib ||| flag 7 s.hlt.cfgErr ||| flag 8 s.hlt.clkRef ||| place 16 s.hlt.first |||
  place 24 (satOf 7 (latchedCount s))

/-- HLT_SELFTEST; 0 on PF0 (R677). -/
def rdSelfTest (s : State) (f : Fn) : BitVec 64 :=
  match f with
  | .pf0 => 0
  | .pf1 => place 0 s.hlt.selfPeriod ||| place 16 s.hlt.cause ||| place 20 s.hlt.source ||| place 32 s.hlt.passes

/-- HLT_ATTR_LOG (R678). -/
def rdAttrLog (s : State) : BitVec 64 :=
  place 0 s.hlt.logSource ||| place 8 s.hlt.logStall ||| flag 14 s.hlt.logReset ||| flag 63 s.hlt.logValid

/-- HLT_SRC_CFGk (R673). -/
def rdSrcCfg (s : State) (k : HsId) : BitVec 64 :=
  let x := s.hlt.src[k]
  srcCfgLow s k ||| flag 31 x.lock ||| place 32 x.count ||| place 48 x.c ||| flag 56 x.promoted

/-- TMP_STATUS (R695). -/
def rdTmpStatus (s : State) : BitVec 64 :=
  place 0 s.tmp.latch ||| flag 8 s.tmp.lost ||| flag 9 s.boot.keysLocked ||| flag 10 s.tmp.extLock ||| flag 11 s.tmp.ackErr

/-- TMP_VBAT_CTL as the battery section holds it (R697). -/
def rdVbatCtl (s : State) : BitVec 64 :=
  place 0 s.tmp.vbEn ||| place 4 s.tmp.vbActive ||| place 8 s.tmp.vbFilter ||| flag 31 s.tmp.vbLock

/-- State codes of a tamper input (R699). -/
def tmpCode : TmpState → BitVec 3
  | .disabled => 0 | .idle => 1 | .pendingA => 2 | .asserted => 3 | .pendingD => 4 | .chatter => 5

/-- TMP_INn_STATUS (R699). -/
def rdInStatus (s : State) (n : InputId) : BitVec 64 :=
  let x := s.tmp.inp[n]
  place 0 (tmpCode x.state) ||| flag 3 x.level ||| flag 4 x.stuck ||| place 16 x.chatterEdges ||| place 32 x.rawEdges

/-! ### Entropy Block, Scrubber, channels, Measurement Bank (09, 11, 13) -/

/-- State codes of the Entropy Block (R513). -/
def entCode : EntState → BitVec 3
  | .off => 0 | .init => 1 | .run => 2 | .degraded => 3 | .halted => 4 | .fenced => 5

/-- ENT_STATUS (R513). -/
def rdEntStatus (s : State) : BitVec 64 :=
  place 0 (entCode s.ent.state) ||| flag 3 s.ent.stretched ||| flag 4 s.ent.atLimit ||| flag 5 s.ent.cmdErr |||
  place 8 (satOf 7 s.ent.queue.length) ||| place 16 (satOf 2 s.ent.seeds.length) ||| flag 18 s.ent.testing

/-- ENT_SRC_CTL (R519). -/
def rdSrcCtl (x : Ns) : BitVec 64 := flag 0 x.policy ||| place 8 x.rct ||| place 16 x.apt ||| place 26 x.failLimit

/-- State codes of a noise source (R520). -/
def nsCode : NsState → BitVec 3
  | .off => 0 | .startup => 1 | .run => 2 | .retest => 3 | .failed => 4 | .diverted => 5

/-- ENT_SRC_STATUS (R520). -/
def rdSrcStatus (x : Ns) : BitVec 64 :=
  place 0 (nsCode x.state) ||| flag 3 x.bootFailed ||| place 4 x.retests ||| place 6 (satOf 2 x.fails) ||| place 8 x.lastCause |||
  place 16 x.rate

/-- Pages of a channel's lap. -/
def lapPages (s : State) (i : Fin 5) : Nat := usable s.mcs[toFin 4 (by decide) i.val] / 2048

/-- PROGRESS of a lap (R610): of a channel by its pages; of the SRAM sweep a free value, since the number of words is not
given. -/
def lapProgress (s : State) (i : Fin 5) : BitVec 10 :=
  if i.val = 4 then (Config.freeBits s.free).setWidth 10
  else satOf 10 (s.scb.sweeps[i].pos * 1024 / lapPages s i)

/-- SCB_LAP_DRAMg and SCB_LAP_SRAM (R610). -/
def rdLap (s : State) (i : Fin 5) : BitVec 64 :=
  place 0 s.scb.sweeps[i].last ||| place 32 s.scb.sweeps[i].laps ||| place 48 (lapProgress s i)

/-- SCB_CTL (R607). -/
def rdScbCtl (s : State) : BitVec 64 :=
  place 0 s.scb.dramEn ||| flag 4 s.scb.sramEn ||| place 8 s.scb.paceDram ||| place 24 s.scb.sramPace

/-- State codes of a channel (R602). -/
def mcCode : McState → BitVec 3
  | .off => 0 | .training => 1 | .filling => 2 | .run => 3 | .selfRefresh => 4 | .fenced => 5 | .absent => 6

/-- MC_STATUS (R602). -/
def rdMcStatus (x : Mc) : BitVec 64 := place 0 (mcCode x.state) ||| place 4 x.density ||| flag 8 x.ranks2 ||| flag 9 x.hot

/-- MC_ERR_LOG (R606). -/
def rdMcErrLog (x : McLog) : BitVec 64 := place 0 x.page ||| place 24 x.source ||| place 56 x.lost ||| flag 63 x.valid

/-- Does an extend wait or compute: one of the register path, or an MR_EXTEND on the bank that extends (R435, R452)? -/
def mrBusy (s : State) : Bool :=
  !s.mrb.queue.isEmpty || (running s .measurement).any fun q => q.done.isNone && !bit q.desc.mode 0

/-- MRB_STATUS of a function (R452). -/
def rdMrbStatus (s : State) (f : Fn) : BitVec 64 :=
  flag 0 s.mrb.seqErr[fnIx f] ||| flag 1 s.mrb.denied[fnIx f] ||| flag 2 s.mrb.fenced ||| flag 3 (mrBusy s)

/-! ### Dispatcher and rings (05, 06) -/

/-- DSP_CTL (R306). -/
def rdDspCtl (s : State) : BitVec 64 :=
  place 0 s.disp.normalAlarmMax ||| place 8 s.disp.bulkStretch ||| flag 16 s.disp.preemptEn

/-- DSP_STATUS (R307). -/
def rdDspStatus (s : State) : BitVec 64 :=
  flag 0 s.disp.budgetRefused ||| flag 1 s.disp.starvedCl ||| flag 2 s.disp.starvedDl ||| flag 3 s.disp.starvedBn

/-- DSP_KAT_STATUS (R309). -/
def rdKatStatus (s : State) : BitVec 64 :=
  let show_ (lo act base : Nat) (u : Option UnitId) : BitVec 64 :=
    match u with
    | some k => place lo (BitVec.ofNat 5 (k.val - base)) ||| flag act true
    | none => 0
  show_ 0 7 0 s.disp.rotUnit[0] ||| show_ 8 15 32 s.disp.rotUnit[1] ||| show_ 16 23 48 s.disp.rotUnit[2] |||
  place 32 s.disp.passes

/-- DSP_FENCE (R310). -/
def rdFence (s : State) : BitVec 64 := (maskOf fun u : UnitId => s.units[u].fenced).setWidth 64

/-- DSP_STALL_PIN (R311). -/
def rdStallPin (x : Stall) : BitVec 64 := place 0 x.pinCl ||| place 32 x.pinDl ||| place 48 x.pinBn

/-- DSP_ALARM_TB (R312). -/
def rdAlarmTb (x : Stall) : BitVec 64 := place 0 x.burst ||| place 8 x.rate ||| place 32 x.tokens

/-- Does a candidate of several BNUs wait for units: those it holds and those free now are too few (R278)? -/
def coopLacks (s : State) (r : RingId) (n : StallId) (g : List BufD) : Bool :=
  match g.head? with
  | none => false
  | some b =>
    let need := unitsNeeded s b.desc
    let held := if s.disp.coop = some (.ring r) then (heldUnits s).length else 0
    decide (1 < need) && decide (held + (freeFor s n (inBudget s.rings[r] g) .bignum).length < need)

/-- ADMIT_WAIT of a ring (R271): its candidate waits for a resource or a barrier; one that admission ends with an error
waits for a record slot at most. -/
def admitWait (s : State) (r : RingId) : Bool :=
  ringMay s r && (candidate s.rings[r]).isSome &&
  match eligible s r with
  | none => true
  | some (n, g) =>
    (takeSlots s n (inBudget s.rings[r] g) g.length).isNone ||
    (decide ((ruling s n g).1 = .ok) && (!placeable s r n g || coopLacks s r n g))

/-- DSP_RING_STATUS (R271). -/
def rdRingStatus (s : State) (r : RingId) : BitVec 64 :=
  let x := s.rings[r]
  place 0 x.fetch ||| flag 16 (drained s r) ||| flag 17 x.tailErr ||| flag 18 x.cfgErr ||| flag 19 (admitWait s r) |||
  place 24 (satOf 8 (s.reqs.filter fun q => decide (q.ring = r)).length)

/-- A configuration register of a ring (R268-R270). -/
def rdRingReg (x : Ring) : RingReg → BitVec 64
  | .base => place 12 x.base
  | .cpl => place 12 x.cpl
  | .hwb => place 3 x.hwb
  | .ctl => ctlBits x

/-! ### Tack Room (07) -/

/-- TKR_STATUS (R361). -/
def rdTkrStatus (s : State) : BitVec 64 :=
  place 0 (BitVec.ofNat 2 (lcCode s)) ||| flag 2 s.tkr.debugOpen ||| flag 3 s.boot.keysLocked |||
  flag 4 (s.tkr.lcBusy.isSome || s.tkr.progBusy.isSome) ||| flag 5 s.tkr.cmdErr |||
  place 6 (((ownerCopy s).map fun c => c.1).getD 0) ||| flag 8 (lcPartial s) ||| place 16 (satOf 12 (storeUsed s))

/-- TKR_OWNER_HASHj: the staged hash, or the valid programmed copy once OWNED (R365). -/
def rdOwnerHash (s : State) (j : Fin 6) : BitVec 64 :=
  if s.tkr.lcWord[1] = 0xFF then (match ownerCopy s with
    | some c => field c.2.hash (64 * j.val) 64
    | none => 0)
  else s.tkr.stagedHash[j]

/-- State codes of a slot (R366). -/
def slotCode : SlotState → BitVec 2
  | .unprogrammed => 0 | .valid => 1 | .bad => 2 | .programming => 3

/-- TKR_SLOT_INFO of the selected slot (R366). -/
def rdSlotInfo (s : State) : BitVec 64 :=
  let k : SlotId := bvFin s.tkr.slotSel
  place 0 (slotCode s.tkr.slots[k].state) ||| flag 2 (slotBind s k).isSome

/-- TKR_SLOT_ATTR (R366). -/
def rdSlotAttr (s : State) : BitVec 64 :=
  let x := s.tkr.slots[(bvFin s.tkr.slotSel : Fin 512)]
  if x.state = .valid then x.attr else 0

/-- TKR_SLOT_BADj (R367). -/
def rdSlotBad (s : State) (j : Fin 8) : BitVec 64 :=
  maskOf fun i : Fin 64 => decide (s.tkr.slots[toFin 512 (by decide) (64 * j.val + i.val)].state = .bad)

/-- TKR_PROG_CTL (R368). -/
def rdProgCtl (s : State) : BitVec 64 := place 0 s.tkr.progSlot ||| place 9 s.tkr.progSource ||| place 16 s.tkr.progStall

/-- TKR_PROG_STATUS (R369). -/
def rdProgStatus (s : State) : BitVec 64 :=
  flag 0 s.tkr.progBusy.isSome ||| flag 1 s.tkr.progDone ||| place 4 s.tkr.progErr

/-- TKR_DOMAIN (R370). -/
def rdDomain (x : Stall) : BitVec 64 := place 0 x.domain ||| place 32 x.kekGen ||| flag 56 x.importEn

/-- TKR_TBINDk (R371). -/
def rdTbind (b : TBind) (word : Fin 3) : BitVec 64 :=
  match word with
  | 0 => flag 0 b.valid ||| place 16 b.slot
  | 1 => b.tallyAddr
  | 2 => b.tallyLimit

/-! ### Stalls and Paddocks (04) -/

/-- STL_PASIDk (R210). -/
def rdPasid (x : Stall) (k : Fin 8) : BitVec 64 := place 0 x.pasid[k] ||| flag 31 x.pasidValid[k]

/-- STL_CFG_ERR (R212). -/
def rdStlErr (x : Stall) : BitVec 64 :=
  flag 0 x.badCmd ||| flag 1 x.ringRefused ||| flag 2 x.pasidInUse ||| flag 3 x.worldRefused

/-- STL_RINGSj (R213). -/
def rdStlRings (s : State) (n : StallId) (j : Fin 4) : BitVec 64 :=
  maskOf fun i : Fin 64 => decide (s.rings[toFin 256 (by decide) (64 * j.val + i.val)].owner = some n)

/-- A word of a PK entry, read from the staged bank (R193, R215). -/
def rdPk (e : PkEntry) : PkWord → BitVec 64
  | .base => flag 0 e.valid ||| place 12 e.base
  | .limit => place 12 e.limit
  | .mask => e.mask
  | .rights => flag 0 e.rd ||| flag 1 e.wr ||| flag 2 e.red ||| flag 3 e.win ||| place 4 e.type ||| place 8 e.prio

/-- PDK_EPOCH_CTL (R217). -/
def rdEpochCtl (s : State) : BitVec 64 :=
  flag 8 s.pdk.pending ||| flag 9 s.pdk.stageErr ||| place 16 (satOf 3 (undrained s).length)

/-- PDK_PROT_FENCE (R218). -/
def rdProtFence (s : State) : BitVec 64 := place 0 s.pdk.target ||| flag 16 s.pdk.fenceDone ||| flag 17 s.pdk.irq

/-- PDK_DENY_LOG (R219). -/
def rdDenyLog (x : DenyLog) : BitVec 64 :=
  place 0 x.page ||| place 22 x.stall ||| flag 28 x.bar4 ||| flag 29 x.conflict ||| place 30 x.entry ||| place 38 x.epoch |||
  place 54 x.lost ||| flag 63 x.valid

/-! ### Manger (12) -/

/-- MGR_STATUS (R561). -/
def rdMgrStatus (s : State) : BitVec 64 :=
  (maskOf fun k : SliceId => inPool s k).setWidth 64 |||
  place 16 (maskOf fun g : ChanId => decide (s.mgr.repart[g] ≠ .none)) ||| flag 20 s.mgr.cfgErr

/-- MGR_SLICE_CTL: the mode last written (R564). -/
def rdSliceCtl (x : Slice) : BitVec 64 := flag 0 (sliceWill x).1 ||| place 8 (BitVec.ofNat 6 (sliceWill x).2.val)

/-- Reserved lines that the holder of a reservation has written, and so claimed (R528): the lines of a chain's
intermediates, those of a VBR request whose plaintext stands in them, those of a cooperative operation that has run. -/
def claimedBy (s : State) (who : ResvFor) : Nat :=
  let ran (i : Nat) : Bool := ((findReq s i).map fun q => q.done.isSome && q.started).getD false
  match who with
  | .chain c => ((s.inters.filter fun x => decide (x.chain = c)).map fun x => ceilDiv x.bytes.length 512).foldl (· + ·) 0
  | .vbr i => if ran i then ((findReq s i).map fun q => vbrLines q.desc).getD 0 else 0
  | .coop i => if ran i then ((findReq s i).map fun q => coopLines q.desc).getD 0 else 0

/-- Reserved lines claimed in a slice: a holder claims the lines of its reservation in their order (R528, R565). -/
def sliceClaimed (s : State) (k : SliceId) : Nat :=
  let rs := s.mgr.resv
  ((List.range rs.length).map fun i =>
    match rs[i]? with
    | none => 0
    | some r =>
      if r.slice ≠ k then 0 else
      let before := (((rs.take i).filter fun x => decide (x.who = r.who)).map (·.lines)).foldl (· + ·) 0
      min r.lines (claimedBy s r.who - before)).foldl (· + ·) 0

/-- Miss registers in use, with that of a write-back (R536, R565). -/
def missUsed (s : State) (k : SliceId) : Nat := missBusy s k + min 1 (sliceLines s k .writeback).length

/-- STATE of a slice; a fence shows until chip reset (R559, R565). -/
def sliceState (s : State) (k : SliceId) : BitVec 3 :=
  let x := s.mgr.slices[k]
  let g := sliceGroup k
  let moving := decide (s.mgr.repart[g] = .clean) || decide (s.mgr.repart[g] = .swap)
  if x.fenced then 3
  else if !pdPowered s (groupPd g) then 4
  else if x.next.isSome && moving then 2
  else if x.dedicated then 1 else 0

/-- MGR_SLICE_STATUS (R565). -/
def rdSliceStatus (s : State) (k : SliceId) : BitVec 64 :=
  let dirty := (s.mgr.lines.filter fun x => decide (homeSlice s x.line = some k) && decide (x.dirty ≠ 0)).length
  place 0 (sliceState s k) ||| place 4 (satOf 12 (sliceClaimed s k)) ||| place 16 (satOf 12 dirty) |||
  place 32 (satOf 6 (missUsed s k)) ||| place 48 s.mgr.slices[k].corrected

/-- MGR_STALL_USE (R566). -/
def rdStallUse (s : State) (n : StallId) : BitVec 64 :=
  place 0 (satOf 16 (reserved s n)) ||| place 16 (satOf 16 (cachedLines s n)) ||| place 32 s.stalls[n].bypass

/-- MGR_DIR_STATS (R567). -/
def rdDirStats (s : State) : BitVec 64 := place 0 s.mgr.invals ||| place 32 s.mgr.crossings ||| place 48 s.mgr.maxResolve

/-- MGR_ERR_LOG (R568). -/
def rdMgrLog (x : MgrLog) : BitVec 64 :=
  place 0 x.slice ||| place 4 x.set ||| place 11 x.way ||| place 15 x.sector ||| place 18 x.kind ||| place 20 x.stall |||
  flag 26 x.stallValid ||| place 56 x.lost ||| flag 63 x.valid

/-! ### Units and the feed (08, 09, 10) -/

/-- Has a feed session claimed the lane (R410, R426)? -/
def feedClaimed (s : State) (u : UnitId) : Bool :=
  decide (u = dl15) && (decide (s.feed.state = .opened) || decide (s.feed.state = .finishing))

/-- STATE of a unit (R403, R442, R481): a fenced unit shows it whether powered or not, and a unit in FEED or HELD is under
test only after it (R410, R464). -/
def unitState (s : State) (u : UnitId) : BitVec 3 :=
  let x := s.units[u]
  if x.fenced then 4
  else if !pdPowered s (unitPd u) then 0
  else if s.pds[unitPd u].state = .secureHold then 5
  else if x.run.isSome || x.suspended.isSome then 2
  else if x.held || feedClaimed s u then 6
  else if x.testing || x.testDue then 3
  else 1

/-- CL_STATUS, DL_STATUS or BNU_STATUS (R403, R442, R481): a BNU that is free is held at once for a cooperative set that
waits for it (R278); the key of a feed session is in the lane (R426). -/
def rdUnitStatus (s : State) (u : UnitId) : BitVec 64 :=
  let s := coopGrab s
  let x := s.units[u]
  place 0 (unitState s u) ||| flag 3 (x.keyReg.isSome || (decide (u = dl15) && s.feed.key.isSome)) |||
  (if u.val < 48 then flag 4 x.suspended.isSome else flag 4 x.coop ||| (if x.coop then place 8 x.lead else 0))

/-- CL_FAULT, DL_FAULT or BNU_FAULT (R405). -/
def rdFault (x : UnitState) : BitVec 64 := place 0 x.faultCause ||| place 8 x.faultCount ||| flag 31 x.faultValid

/-- State codes of the feed (R448). -/
def feedCode : FeedState → BitVec 3
  | .idle => 0 | .waiting => 1 | .opened => 2 | .finishing => 3 | .done => 4 | .error => 5

/-- A feed register on PF1 (R445-R449). -/
def rdFeed (x : Feed) : Reg → BitVec 64
  | .feedCtl => place 0 x.alg ||| flag 8 x.keyed ||| place 16 x.handle ||| place 32 x.stall
  | .feedLen => place 0 x.msgLen ||| place 32 x.outBytes
  | .feedLastVb => place 0 x.vb
  | .feedStatus =>
    place 0 (feedCode x.state) ||| flag 3 x.seqErr ||| place 8 x.code ||| place 16 x.endCause ||| place 32 x.count
  | .feedOut j => field x.out (64 * j.val) 64
  | .feedTimeout => place 0 x.idleUs
  | _ => 0

/-! ### Event Router (18) -/

/-- A route entry (R746). -/
def rdEntry (e : EvSrc) : BitVec 64 :=
  place 0 e.vector ||| flag 12 e.en ||| place 13 e.prio ||| place 16 e.holdoff ||| place 24 e.count ||| place 32 e.raises

/-- EVT_ROUTEk or EVT_NM_ROUTEk: 0 for an entry that the function may not use (R738, R747). -/
def rdRoute (s : State) (f : Fn) (k : EvId) (aliased : Bool) : BitVec 64 :=
  match routeTarget s f k aliased with
  | some t => rdEntry (evSrc s t k)
  | none => 0

/-- 64 sources of a function, as EVT_CAUSE and EVT_PEND lay them out (R748). -/
def evMask (s : State) (f : Fn) (i : Fin 5) (p : EvSrc → Bool) : BitVec 64 :=
  maskOf fun j : Fin 64 => p (evSrc s f (toFin 320 (by decide) (64 * i.val + j.val)))

/-- Messages pending on a function (R751). -/
def evPending (s : State) (f : Fn) : Nat := (vfind s.evt.fns[fnIx f].src (·.pending)).length

/-- EVT_STATUS (R751). -/
def rdEvtStatus (s : State) (f : Fn) : BitVec 64 :=
  let e := s.evt.fns[fnIx f]
  place 0 (satOf 9 (evPending s f)) ||| flag 16 e.parity ||| place 23 e.parSrc

/-! ### The read -/

/-- A register of an STL_ window; 0 on PF0 for a Secure-world stall (R118, R754). -/
def rdStl (s : State) (f : Fn) (n : StallId) (v : BitVec 64) : BitVec 64 := if stlMay s f n then v else 0

/-- A register of a ring; 0 where R267 says so. -/
def rdRing (s : State) (f : Fn) (r : RingId) (v : BitVec 64) : BitVec 64 := if ringWr s f r then v else 0

/-- A register of the Bridle or the Configuration Loader. -/
def readBrd (s : State) (f : Fn) : Reg → BitVec 64
  | .brdId => rdBrdId
  | .linkStatus => rdLinkStatus s
  | .winBase => place 28 s.link.winBase
  | .dmaCtl => flag 0 (fnState s f).dataRo
  | .ltrActive => place 0 s.link.ltrActive
  | .ltrIdle => place 0 s.link.ltrIdle
  | .dbStray => place 0 (fnState s f).stray
  | .brdErrLog => rdErrLog (fnState s f).errLog
  | .stopStatus => place 0 s.link.stopState
  | .msix v word => rdMsix s f v word
  | .pba i => field (fnState s f).msixPend (64 * i.val) 64
  | .pwbStatus => rdPwbStatus s
  | .pwbCtl => place 0 s.link.pwbStallMs
  | .rdStatus => rdRdStatus s
  | .bootStatus => rdBootStatus s
  | .imageInfo => place 0 s.boot.sequence
  | .imageErr => rdImageErr s
  | .selftestFence => s.boot.fence
  | .resetCause => rdResetCause s
  | .bootCtl => flag 0 s.boot.readyHold
  | _ => 0

/-- A register of the Power Controller, the Halter or the Tamper Monitor. -/
def readSafe (s : State) (f : Fn) : Reg → BitVec 64
  | .domCtl d => flag 0 s.pds[d].offReq
  | .domStatus d => rdDomStatus s f d
  | .pwrPin => place 0 s.pwr.pin
  | .pwrCtl => rdPwrCtl s
  | .pwrThrottle => place 0 s.pwr.level ||| place 16 s.pwr.changes
  | .pwrOn => maskOf fun d : PdId => pdPowered s d
  | .pwrStatus => flag 0 s.pwr.cfgErr
  | .hltStatus i => rdHltStatus s i
  | .hltRail => rdHltRail s
  | .hltSummary => rdSummary s
  | .sevReact => place 0 s.hlt.sevReact
  | .guardCtl => place 0 s.hlt.safeLevel ||| flag 31 s.hlt.guardLock
  | .guardOut => place 0 s.hlt.guardValue ||| place 8 s.hlt.guardDrive
  | .safeCtl => flag 8 s.hlt.safe ||| flag 9 s.hlt.relErr
  | .alertCtl => flag 0 s.hlt.alertForce ||| flag 8 s.hlt.alert ||| flag 9 s.hlt.clrErr
  | .selfTest => rdSelfTest s f
  | .attrLog => rdAttrLog s
  | .srcCfg k => rdSrcCfg s k
  | .tmpStatus => rdTmpStatus s
  | .vbatCtl => rdVbatCtl s
  | .inCtl n => inCtl s.tmp.inp[n] ||| flag 63 s.tmp.inp[n].lock
  | .inStatus n => rdInStatus s n
  | .monStatus => place 0 s.tmp.mon
  | .tmpTemp => place 0 s.tmp.temp
  | _ => 0

/-- A register of the Entropy Block, the Scrubber, a channel or the Measurement Bank. -/
def readMem (s : State) (f : Fn) : Reg → BitVec 64
  | .entStatus => rdEntStatus s
  | .entCtl => flag 0 s.ent.rawEn ||| flag 1 s.ent.prNormal
  | .waitLimit => place 0 s.ent.waitLimit
  | .reseedCtl => place 0 s.ent.targetLog2 ||| place 8 s.ent.limitLog2
  | .drbgCount => place 0 s.ent.c ||| place 32 s.ent.counted
  | .entStretch => place 0 s.ent.episodes ||| place 16 s.ent.limitHits
  | .srcCtl n => rdSrcCtl s.ns[n]
  | .srcStatus n => rdSrcStatus s.ns[n]
  | .srcFails n => place 0 s.ns[n].rctFails ||| place 16 s.ns[n].aptFails
  | .scbCtl => rdScbCtl s
  | .scbOverdue => place 0 s.scb.dramMin ||| place 16 s.scb.sramMin
  | .scbStatus => (maskOf fun i : Fin 5 => s.scb.sweeps[i].overdue).setWidth 64
  | .scbLap i => rdLap s i
  | .scbFound => place 0 s.scb.foundCor ||| place 32 s.scb.foundUnc
  | .scbSramCe => place 0 s.scb.sramCe
  | .mcCtl g => place 0 s.mcs[g].strength ||| place 2 s.mcs[g].rate ||| flag 8 s.mcs[g].enable
  | .mcStatus g => rdMcStatus s.mcs[g]
  | .mcUsable g => BitVec.ofNat 64 (usable s.mcs[g])
  | .mcEccCnt g => place 0 s.mcs[g].corrected ||| place 32 s.mcs[g].uncorr ||| place 48 s.mcs[g].repairs
  | .mcCeThresh g => place 0 s.mcs[g].ceThresh
  | .mcErrLog g => rdMcErrLog s.mcs[g].errLog
  | .mrValue k j => field s.mrb.value[k] (64 * j.val) 64
  | .mrCount k => place 0 s.mrb.count[k]
  | .mrbNmMask => place 0 s.mrb.nmMask
  | .mrbStatus => rdMrbStatus s f
  | _ => 0

/-- A register of the Dispatcher or the Tack Room. -/
def readDsp (s : State) (f : Fn) : Reg → BitVec 64
  | .dspCtl => rdDspCtl s
  | .dspStatus => rdDspStatus s
  | .katCtl => place 0 s.disp.periodMs
  | .katStatus => rdKatStatus s
  | .dspFence => rdFence s
  | .stallPin n => rdStl s f n (rdStallPin s.stalls[n])
  | .alarmTb n => rdStl s f n (rdAlarmTb s.stalls[n])
  | .ringReg r reg => rdRing s f r (rdRingReg s.rings[r] reg)
  | .ringStatus r => rdRing s f r (rdRingStatus s r)
  | .cplStatus => place 0 (satOf 13 (slotsUsed s)) ||| place 16 (satOf 6 (reserveUsed s))
  | .cplCtl => place 0 s.disp.perStall
  | .tkrStatus => rdTkrStatus s
  | .tkrCtl => place 0 s.tkr.keyIdle ||| place 16 s.tkr.storeWait
  | .debugCtl => flag 0 s.tkr.allow ||| place 8 s.tkr.fails
  | .ownerHash j => rdOwnerHash s j
  | .ownerKey j => s.tkr.ownerKey[j]
  | .slotSel => place 0 s.tkr.slotSel
  | .slotInfo => rdSlotInfo s
  | .slotAttr => rdSlotAttr s
  | .slotBad j => rdSlotBad s j
  | .progCtl => rdProgCtl s
  | .progAttr => s.tkr.progAttr
  | .progBlob => place 0 s.tkr.progBlob
  | .progStatus => rdProgStatus s
  | .tkrDomain n => rdDomain s.stalls[n]
  | .tbind k word => rdTbind s.tkr.tbind[k] word
  | _ => 0

/-- A register of a stall, the Paddock Table or the Manger. -/
def readStl (s : State) (f : Fn) : Reg → BitVec 64
  | .stlStatus n => rdStl s f n (stlStatus s n)
  | .stlWorld n => rdStl s f n (flag 0 s.stalls[n].secure)
  | .stlWeight n => rdStl s f n (place 0 s.stalls[n].weight)
  | .stlDrbgRate n => rdStl s f n (place 0 s.stalls[n].drbgRate)
  | .stlMgrLines n => rdStl s f n (place 0 s.stalls[n].lines ||| place 16 s.stalls[n].cap)
  | .stlBlobQuota n => rdStl s f n (place 0 s.stalls[n].quota ||| place 16 (satOf 12 (quotaHeld s n)))
  | .stlPasid n k => rdStl s f n (rdPasid s.stalls[n] k)
  | .stlCfgErr n => rdStl s f n (rdStlErr s.stalls[n])
  | .stlRings n j => rdStl s f n (rdStlRings s n j)
  | .stlMrOwn n => rdStl s f n (place 0 s.stalls[n].mrOwn)
  | .pk k word => rdPk s.pdk.staged[k] word
  | .pdkEpoch => place 0 s.pdk.epoch
  | .epochCtl => rdEpochCtl s
  | .protFence => rdProtFence s
  | .denyLog => rdDenyLog s.pdk.denyLog
  | .mgrStatus => rdMgrStatus s
  | .mgrCtl => place 0 s.mgr.rsvWays
  | .nmSlices => place 0 s.mgr.nmSlices
  | .dirStats => rdDirStats s
  | .mgrErrLog => rdMgrLog s.mgr.errLog
  | .sliceCtl k => rdSliceCtl s.mgr.slices[k]
  | .sliceStatus k => rdSliceStatus s k
  | .stallUse n => rdStl s f n (rdStallUse s n)
  | _ => 0

/-- A register of a unit, the feed or the Event Router. -/
def readUnit (s : State) (f : Fn) : Reg → BitVec 64
  | .unitStatus u => rdUnitStatus s u
  | .unitReqs u => s.units[u].reqs
  | .unitBytes u => s.units[u].bytes
  | .unitFault u => rdFault s.units[u]
  | .clCtl => flag 0 s.gcmShortTag ||| flag 1 s.vbrRequired
  | .bnuCtl => flag 0 s.tableOk ||| flag 1 s.noTable
  | .feedCtl => if f = .pf1 then rdFeed s.feed .feedCtl else 0
  | .feedLen => if f = .pf1 then rdFeed s.feed .feedLen else 0
  | .feedLastVb => if f = .pf1 then rdFeed s.feed .feedLastVb else 0
  | .feedStatus => if f = .pf1 then rdFeed s.feed .feedStatus else 0
  | .feedOut j => if f = .pf1 then rdFeed s.feed (.feedOut j) else 0
  | .feedTimeout => if f = .pf1 then rdFeed s.feed .feedTimeout else 0
  | .route k aliased => rdRoute s f k aliased
  | .evtCause i => evMask s f i (·.cause)
  | .evtPend i => evMask s f i (·.pending)
  | .mirror i => if i = 0 then field s.evt.nmMirror 0 64 else place 0 (field s.evt.nmMirror 64 32)
  | .evtCtl => place 0 s.evt.age
  | .evtStatus => rdEvtStatus s f
  | .evtMsgs => s.evt.fns[fnIx f].msgs
  | _ => 0

/-- The block of a register, as the reads above divide them. -/
def regBlock : Reg → Fin 6
  | .brdId | .linkStatus | .winBase | .dmaCtl | .ltrActive | .ltrIdle | .dbStray | .brdErrLog | .stopStatus | .stopCtl
  | .msix _ _ | .pba _ | .pwbStatus | .pwbCtl | .rdStatus | .bootStatus | .imageInfo | .imageErr | .selftestFence
  | .resetCause | .swReset | .bootCtl => 0
  | .domCtl _ | .domStatus _ | .pwrPin | .pwrCtl | .pwrThrottle | .pwrOn | .pwrStatus | .hltStatus _ | .hltRail | .hltSummary
  | .sevReact | .guardCtl | .guardOut | .safeCtl | .alertCtl | .selfTest | .attrLog | .srcCfg _ | .tmpStatus | .tmpAck
  | .vbatCtl | .inCtl _ | .inStatus _ | .monStatus | .tmpTemp => 1
  | .entStatus | .entCtl | .waitLimit | .reseedCtl | .drbgCount | .entStretch | .srcCtl _ | .srcStatus _ | .srcFails _
  | .scbCtl | .scbOverdue | .scbStatus | .scbLap _ | .scbFound | .scbSramCe | .mcCtl _ | .mcStatus _ | .mcUsable _
  | .mcEccCnt _ | .mcCeThresh _ | .mcErrLog _ | .mrValue _ _ | .mrCount _ | .mrbNmMask | .mrbStatus => 2
  | .dspCtl | .dspStatus | .katCtl | .katStatus | .dspFence | .stallPin _ | .alarmTb _ | .ringReg _ _ | .ringStatus _
  | .cplStatus | .cplCtl | .tkrStatus | .lcCmd | .tkrCtl | .debugCtl | .ownerHash _ | .ownerKey _ | .slotSel | .slotInfo
  | .slotAttr | .slotBad _ | .progCtl | .progAttr | .progBlob | .progStatus | .tkrDomain _ | .tbind _ _ => 3
  | .stlCmd _ | .stlStatus _ | .stlWorld _ | .stlWeight _ | .stlDrbgRate _ | .stlMgrLines _ | .stlBlobQuota _ | .stlPasid _ _
  | .stlRingAdd _ | .stlRingRemove _ | .stlCfgErr _ | .stlRings _ _ | .stlMrOwn _ | .pk _ _ | .pdkEpoch | .epochCtl
  | .protFence | .denyLog | .mgrStatus | .mgrCtl | .nmSlices | .dirStats | .mgrErrLog | .sliceCtl _ | .sliceStatus _
  | .stallUse _ => 4
  | .unitStatus _ | .unitReqs _ | .unitBytes _ | .unitFault _ | .clCtl | .bnuCtl | .feedCtl | .feedLen | .feedData
  | .feedLastVb | .feedLast | .feedStatus | .feedOut _ | .feedTimeout | .route _ _ | .evtCause _ | .evtPend _ | .mirror _
  | .evtCtl | .evtStatus | .evtMsgs => 5

/-- The current value of a register as a function reads it. -/
def readReg (s : State) (f : Fn) (r : Reg) : BitVec 64 :=
  match regBlock r with
  | 0 => readBrd s f r
  | 1 => readSafe s f r
  | 2 => readMem s f r
  | 3 => readDsp s f r
  | 4 => readStl s f r
  | 5 => readUnit s f r

end Sys2Proof.Machine
end

