-- ==== Sys2Proof/Machine/RegWrite.lean ====
section
/-! DEFINITION. What a write of each BAR0 register does. Each takes the value of the whole register and the mask of the
bits that the write covers with the effects of R13 (R756); fields that a function holds RO keep their value. -/

namespace Sys2Proof.Machine

/-- An effect that PF1 alone has. -/
def onPf1 (s : State) (f : Fn) (t : State) : State :=
  match f with
  | .pf0 => s
  | .pf1 => t

/-! ### Bridle and Configuration Loader (02, 03, 14) -/

/-- BRD_WIN_BASE (R130, R158). -/
def wrWinBase (s : State) (v : BitVec 64) : State := { s with link := { s.link with winBase := field v 28 6 } }

/-- BRD_DMA_CTL of a function (R159). -/
def wrDmaCtl (s : State) (f : Fn) (v : BitVec 64) : State := setFn s f fun x => { x with dataRo := bit v 0 }

/-- BRD_LTR_ACTIVE (R160). Every scale code is stored, 0b110 and 0b111 too (assumption 77). -/
def wrLtrActive (s : State) (v : BitVec 64) : State := { s with link := { s.link with ltrActive := field v 0 13 } }
/-- BRD_LTR_IDLE (R160); its scale as BRD_LTR_ACTIVE (assumption 77). -/
def wrLtrIdle (s : State) (v : BitVec 64) : State := { s with link := { s.link with ltrIdle := field v 0 13 } }

/-- BRD_DB_STRAY of a function: W1C, bit by bit (R161). -/
def wrStray (s : State) (f : Fn) (a : BitVec 64) : State := setFn s f fun x => { x with stray := x.stray &&& ~~~ field a 0 32 }

/-- BRD_ERR_LOG of a function: VALID cleared, and LOST with it (R162). -/
def wrErrLog (s : State) (f : Fn) (a : BitVec 64) : State :=
  if bit a 63 then setFn s f fun x => { x with errLog := { x.errLog with valid := false, lost := 0 } } else s

/-- BRD_STOP_CTL (R151, R163). -/
def wrStopCtl (s : State) (f : Fn) (a : BitVec 64) : State := onPf1 s f (if bit a 0 then stopResume s else s)

/-- A word of an MSI-X table entry (R131-R133), whose address keeps its two low bits 0 and whose Vector Control holds the
mask bit alone (PRESUMED, the PCI Express entry format, assumption 8); messages
held back by masking are noted. -/
def wrMsix (s : State) (f : Fn) (k : BitVec 10) (word : Fin 4) (v : BitVec 64) : State :=
  let v32 := field v 0 32
  let put (e : MsixEntry) : MsixEntry :=
    match word with
    | 0 => { e with addr := (e.addr >>> 32 <<< 32) ||| ((v32 >>> 2) <<< 2).setWidth 64 }
    | 1 => { e with addr := (e.addr &&& 0xFFFFFFFF) ||| (v32.setWidth 64 <<< 32) }
    | 2 => { e with data := v32 }
    | 3 => { e with ctl := v32 &&& 1 }
  noteAllEv (setFn s f fun x => { x with msix := upd x.msix (bvFin k) put })

/-- BRD_PWB_STATUS: STALLED (R636). -/
def wrPwbStatus (s : State) (f : Fn) (a : BitVec 64) : State :=
  onPf1 s f (if bit a 31 then { s with link := { s.link with pwbStalled := false } } else s)

/-- BRD_PWB_CTL (R637). -/
def wrPwbCtl (s : State) (f : Fn) (v : BitVec 64) : State :=
  onPf1 s f (if field v 0 16 = 0 then s else { s with link := { s.link with pwbStallMs := field v 0 16 } })

/-- CFG_RESET_CAUSE (R105). -/
def wrResetCause (s : State) (f : Fn) (a : BitVec 64) : State :=
  onPf1 s f { s with boot := { s.boot with
    causePor := s.boot.causePor && !bit a 0, causePerst := s.boot.causePerst && !bit a 1,
    causeHalter := s.boot.causeHalter && !bit a 2, causeSoftware := s.boot.causeSoftware && !bit a 3 } }

/-- CFG_SW_RESET: the key raises a chip reset (R106). -/
def wrSwReset (s : State) (f : Fn) (a : BitVec 64) : State :=
  onPf1 s f (if field a 0 32 = 0xC41F0001 then chipReset s false false true else s)

/-- CFG_BOOT_CTL: READY_HOLD is an SO field; RELEASE moves HELD to READY (R82, R107). -/
def wrBootCtl (s : State) (f : Fn) (v m : BitVec 64) : State :=
  let s1 := if bit m 0 ∧ !s.boot.readyHoldWritten then
      { s with boot := { s.boot with readyHold := bit v 0, readyHoldWritten := true } } else s
  onPf1 s f (if bit (v &&& m) 1 ∧ s1.boot.phase = .held then toReady s1 else s1)

/-! ### Power Controller, Halter, Tamper Monitor (15, 16, 17) -/

/-- PWR_STATUS (R731). -/
def wrPwrStatus (s : State) (f : Fn) (a : BitVec 64) : State :=
  onPf1 s f (if bit a 0 then { s with pwr := { s.pwr with cfgErr := false } } else s)

/-- HLT_RAIL: a bit whose pair still disagrees latches again (R646, R670). -/
def wrRail (s : State) (f : Fn) (a : BitVec 64) : State :=
  onPf1 s f ((List.finRange 32).foldl (fun s j =>
    if bit a j.val then setHs s (railHs j) fun x => { x with rail := x.rail && x.railBad } else s) s)

/-- HLT_SUMMARY: NMI_SENT, UNATTRIB, CFG_ERR (R671). -/
def wrSummary (s : State) (f : Fn) (a : BitVec 64) : State :=
  onPf1 s f { s with hlt := { s.hlt with nmiSent := s.hlt.nmiSent && !bit a 5, unattrib := s.hlt.unattrib && !bit a 6,
                                         cfgErr := s.hlt.cfgErr && !bit a 7 } }

/-- HLT_SEV_REACT: bit 7 of each byte is reserved (R672). -/
def wrSevReact (s : State) (f : Fn) (v : BitVec 64) : State :=
  onPf1 s f { s with hlt := { s.hlt with sevReact := field v 0 32 &&& 0x7F7F7F7F, sevParityBad := false } }

/-- HLT_SELFTEST: values of SELF_PERIOD_MS below 10 are ignored (R677). -/
def wrSelfTest (s : State) (f : Fn) (v : BitVec 64) : State :=
  onPf1 s f (if (field v 0 16).toNat < 10 then s else { s with hlt := { s.hlt with selfPeriod := field v 0 16 } })

/-- HLT_ATTR_LOG (R678). -/
def wrAttrLog (s : State) (f : Fn) (a : BitVec 64) : State :=
  onPf1 s f (if bit a 63 then { s with hlt := { s.hlt with logValid := false } } else s)

/-- TMP_STATUS: ACK_ERR (R695). -/
def wrTmpStatus (s : State) (f : Fn) (a : BitVec 64) : State :=
  onPf1 s f (if bit a 11 then { s with tmp := { s.tmp with ackErr := false } } else s)

/-- TMP_MON_STATUS (R700). -/
def wrMonStatus (s : State) (f : Fn) (a : BitVec 64) : State :=
  onPf1 s f { s with tmp := { s.tmp with mon := s.tmp.mon &&& ~~~ field a 0 19 } }

/-! ### Entropy Block, Scrubber, channels, Measurement Bank (09, 11, 13) -/

/-- ENT_STATUS: CMD_ERR (R513). -/
def wrEntStatus (s : State) (f : Fn) (a : BitVec 64) : State :=
  onPf1 s f (if bit a 5 then { s with ent := { s.ent with cmdErr := false } } else s)

/-- SCB_CTL: paces of 0 are ignored (R607). -/
def wrScbCtl (s : State) (v : BitVec 64) : State :=
  let p := field v 8 16
  let q := field v 24 8
  { s with scb := { s.scb with dramEn := field v 0 4, sramEn := bit v 4, paceDram := if p = 0 then s.scb.paceDram else p,
                               sramPace := if q = 0 then s.scb.sramPace else q } }

/-- SCB_OVERDUE (R608). -/
def wrScbOverdue (s : State) (v : BitVec 64) : State :=
  { s with scb := { s.scb with dramMin := field v 0 16, sramMin := field v 16 16 } }

/-- MC_CTL: SO fields of PF1; a reserved RATE neither changes the field nor uses up its first write (R14, R601). -/
def wrMcCtl (s : State) (f : Fn) (g : ChanId) (v m : BitVec 64) : State :=
  onPf1 s f (if !bit m 0 then s else setMc s g fun x =>
    let y := if x.written then x else { x with strength := field v 0 2, enable := bit v 8, written := true }
    if x.rateWritten ∨ 4 ≤ (field v 2 3).toNat then y else { y with rate := field v 2 3, rateWritten := true })

/-- MC_CE_THRESH: values below 16 are ignored (R605). -/
def wrCeThresh (s : State) (g : ChanId) (v : BitVec 64) : State :=
  if (field v 0 16).toNat < 16 then s else setMc s g fun x => { x with ceThresh := field v 0 16 }

/-- MC_ERR_LOG: VALID cleared, and LOST with it (R606). -/
def wrMcErrLog (s : State) (g : ChanId) (a : BitVec 64) : State :=
  if bit a 63 then setMc s g fun x => { x with errLog := { x.errLog with valid := false, lost := 0 } } else s

/-- MRB_NM_MASK (R451). -/
def wrNmMask (s : State) (f : Fn) (v : BitVec 64) : State := onPf1 s f { s with mrb := { s.mrb with nmMask := field v 0 48 } }

/-- MRB_STATUS: a function's own SEQ_ERR and DENIED (R452). -/
def wrMrbStatus (s : State) (f : Fn) (a : BitVec 64) : State :=
  let i := fnIx f
  { s with mrb := { s.mrb with seqErr := s.mrb.seqErr.set i (s.mrb.seqErr[i] && !bit a 0),
                               denied := s.mrb.denied.set i (s.mrb.denied[i] && !bit a 1) } }

/-! ### Dispatcher (05, 06, 14) -/

/-- DSP_CTL: NORMAL_ALARM_MAX is PF1's (R306). -/
def wrDspCtl (s : State) (f : Fn) (v : BitVec 64) : State :=
  let n := field v 0 6
  let b := field v 8 3
  { s with disp := { s.disp with
      normalAlarmMax := if f = .pf1 ∧ n.toNat ≤ 32 then n else s.disp.normalAlarmMax,
      bulkStretch := if b.toNat ≤ 4 then b else s.disp.bulkStretch, preemptEn := bit v 16 } }

/-- DSP_STATUS: BUDGET_REFUSED (R307). -/
def wrDspStatus (s : State) (a : BitVec 64) : State :=
  { s with disp := { s.disp with budgetRefused := s.disp.budgetRefused && !bit a 0 } }

/-- DSP_KAT_CTL: values below 100 are ignored (R308). -/
def wrKatCtl (s : State) (v : BitVec 64) : State :=
  if (field v 0 16).toNat < 100 then s else { s with disp := { s.disp with periodMs := field v 0 16 } }

/-- DSP_STALL_PIN of a stall (R311). -/
def wrStallPin (s : State) (f : Fn) (n : StallId) (v : BitVec 64) : State :=
  if stlMay s f n then setStall s n fun x => { x with pinCl := field v 0 32, pinDl := field v 32 16, pinBn := field v 48 8 } else s

/-- DSP_RING_STATUS: TAIL_ERR and CFG_ERR (R271). -/
def wrRingStatus (s : State) (f : Fn) (r : RingId) (a : BitVec 64) : State :=
  if ringWr s f r then setRing s r fun x => { x with tailErr := x.tailErr && !bit a 17, cfgErr := x.cfgErr && !bit a 18 } else s

/-- DSP_CPL_CTL: 16 to 4064 (R640). -/
def wrCplCtl (s : State) (f : Fn) (v : BitVec 64) : State :=
  let n := field v 0 12
  onPf1 s f (if 16 ≤ n.toNat ∧ n.toNat ≤ 4064 then { s with disp := { s.disp with perStall := n } } else s)

/-! ### Tack Room, on PF1 alone (07) -/

/-- TKR_STATUS: CMD_ERR (R361). -/
def wrTkrStatus (s : State) (a : BitVec 64) : State := { s with tkr := { s.tkr with cmdErr := s.tkr.cmdErr && !bit a 5 } }

/-- TKR_DEBUG_CTL: ALLOW (R364). -/
def wrDebugCtl (s : State) (v : BitVec 64) : State := { s with tkr := { s.tkr with allow := bit v 0 } }

/-- TKR_OWNER_HASHj: ignored once OWNED (R365). -/
def wrOwnerHash (s : State) (j : Fin 6) (v : BitVec 64) : State :=
  if s.tkr.lcWord[1] = 0xFF then s else { s with tkr := { s.tkr with stagedHash := s.tkr.stagedHash.set j v } }

/-- TKR_OWNER_KEYj (R365). -/
def wrOwnerKey (s : State) (j : Fin 12) (v : BitVec 64) : State :=
  { s with tkr := { s.tkr with ownerKey := s.tkr.ownerKey.set j v } }

/-- TKR_SLOT_SEL (R366). -/
def wrSlotSel (s : State) (v : BitVec 64) : State := { s with tkr := { s.tkr with slotSel := field v 0 9 } }
/-- TKR_PROG_ATTR (R368). -/
def wrProgAttr (s : State) (v : BitVec 64) : State := { s with tkr := { s.tkr with progAttr := v } }
/-- TKR_PROG_BLOB (R368). -/
def wrProgBlob (s : State) (v : BitVec 64) : State := { s with tkr := { s.tkr with progBlob := field v 0 34 } }
/-- TKR_PROG_STATUS: DONE (R369). -/
def wrProgStatus (s : State) (a : BitVec 64) : State := { s with tkr := { s.tkr with progDone := s.tkr.progDone && !bit a 1 } }

/-! ### Stalls, Paddocks, Manger (04, 12) -/

/-- STL_WEIGHT: 0 is ignored (R206). -/
def wrWeight (s : State) (f : Fn) (n : StallId) (v : BitVec 64) : State :=
  if stlMay s f n ∧ field v 0 8 ≠ 0 then setStall s n fun x => { x with weight := field v 0 8 } else s

/-- STL_DRBG_RATE (R207). -/
def wrDrbgRate (s : State) (f : Fn) (n : StallId) (v : BitVec 64) : State :=
  if stlMay s f n then setStall s n fun x => { x with drbgRate := field v 0 16 } else s

/-- STL_BLOB_QUOTA: values above 2048 are ignored (R209). -/
def wrQuota (s : State) (f : Fn) (n : StallId) (v : BitVec 64) : State :=
  onPf1 s f (if 2048 < (field v 0 12).toNat then s else setStall s n fun x => { x with quota := field v 0 12 })

/-- STL_CFG_ERR (R212). -/
def wrStlErr (s : State) (f : Fn) (n : StallId) (a : BitVec 64) : State :=
  if !stlMay s f n then s else setStall s n fun x =>
    { x with badCmd := x.badCmd && !bit a 0, ringRefused := x.ringRefused && !bit a 1,
             pasidInUse := x.pasidInUse && !bit a 2, worldRefused := x.worldRefused && !bit a 3 }

/-- STL_MR_OWN (R214). -/
def wrMrOwn (s : State) (f : Fn) (n : StallId) (v : BitVec 64) : State :=
  onPf1 s f (setStall s n fun x => { x with mrOwn := field v 0 48 })

/-- PDK_DENY_LOG: VALID cleared, and LOST with it (R219). -/
def wrDenyLog (s : State) (a : BitVec 64) : State :=
  if bit a 63 then { s with pdk := { s.pdk with denyLog := { s.pdk.denyLog with valid := false, lost := 0 } } } else s

/-- MGR_STATUS: CFG_ERR (R561). -/
def wrMgrStatus (s : State) (a : BitVec 64) : State := { s with mgr := { s.mgr with cfgErr := s.mgr.cfgErr && !bit a 20 } }

/-- MGR_CTL: 2 to 8 (R562). -/
def wrMgrCtl (s : State) (f : Fn) (v : BitVec 64) : State :=
  let n := field v 0 4
  onPf1 s f (if 2 ≤ n.toNat ∧ n.toNat ≤ 8 then { s with mgr := { s.mgr with rsvWays := n } } else s)

/-- MGR_NM_SLICES (R563). -/
def wrNmSlices (s : State) (f : Fn) (v : BitVec 64) : State := onPf1 s f { s with mgr := { s.mgr with nmSlices := field v 0 16 } }

/-- MGR_ERR_LOG: VALID cleared, and LOST with it (R568). -/
def wrMgrLog (s : State) (f : Fn) (a : BitVec 64) : State :=
  onPf1 s f (if bit a 63 then { s with mgr := { s.mgr with errLog := { s.mgr.errLog with valid := false, lost := 0 } } } else s)

/-! ### Units and the Event Router (08, 09, 10, 18) -/

/-- VALID of a unit's FAULT register (R405). -/
def wrFault (s : State) (f : Fn) (u : UnitId) (a : BitVec 64) : State :=
  onPf1 s f (if bit a 31 then setUnit s u fun x => { x with faultValid := false } else s)

/-- CL_CTL (R407). -/
def wrClCtl (s : State) (f : Fn) (v : BitVec 64) : State :=
  onPf1 s f { s with gcmShortTag := bit v 0, vbrRequired := bit v 1 }

/-- BNU_CTL (R484). -/
def wrBnuCtl (s : State) (f : Fn) (v : BitVec 64) : State := onPf1 s f { s with noTable := bit v 1 }

/-- EVT_CAUSEi of a function (R736, R748). -/
def wrCause (s : State) (f : Fn) (i : Fin 5) (a : BitVec 64) : State :=
  setEvFn s f fun e => { e with src := vmapIdx (fun k x =>
    if k.val / 64 = i.val ∧ bit a (k.val % 64) then { x with cause := false } else x) e.src }

/-- EVT_CTL: values below 256 are ignored (R750). -/
def wrEvtCtl (s : State) (f : Fn) (v : BitVec 64) : State :=
  onPf1 s f (if (field v 0 16).toNat < 256 then s else { s with evt := { s.evt with age := field v 0 16 } })

/-- EVT_STATUS of a function: PARITY (R751). -/
def wrEvtStatus (s : State) (f : Fn) (a : BitVec 64) : State := setEvFn s f fun e => { e with parity := e.parity && !bit a 16 }

/-! ### The write -/

/-- A write of a Bridle or Configuration Loader register. -/
def writeBrd (s : State) (f : Fn) (r : Reg) (v m : BitVec 64) : State :=
  let a := v &&& m
  match r with
  | .winBase => wrWinBase s v
  | .dmaCtl => wrDmaCtl s f v
  | .ltrActive => wrLtrActive s v
  | .ltrIdle => wrLtrIdle s v
  | .dbStray => wrStray s f a
  | .brdErrLog => wrErrLog s f a
  | .stopCtl => wrStopCtl s f a
  | .msix k word => wrMsix s f k word v
  | .pwbStatus => wrPwbStatus s f a
  | .pwbCtl => wrPwbCtl s f v
  | .resetCause => wrResetCause s f a
  | .swReset => wrSwReset s f a
  | .bootCtl => wrBootCtl s f v m
  | _ => s

/-- A write of a Power Controller, Halter or Tamper Monitor register. -/
def writeSafe (s : State) (f : Fn) (r : Reg) (v m : BitVec 64) : State :=
  let a := v &&& m
  match r with
  | .domCtl d => wrDomCtl s f d v
  | .pwrPin => wrPin s f v
  | .pwrCtl => wrPwrCtl s f v
  | .pwrStatus => wrPwrStatus s f a
  | .hltStatus i => wrHltStatus s f i a
  | .hltRail => wrRail s f a
  | .hltSummary => wrSummary s f a
  | .sevReact => wrSevReact s f v
  | .guardCtl => wrGuardCtl s f v m
  | .guardOut => wrGuardOut s f v
  | .safeCtl => wrSafeCtl s f a
  | .alertCtl => wrAlertCtl s f v m
  | .selfTest => wrSelfTest s f v
  | .attrLog => wrAttrLog s f a
  | .srcCfg k => wrSrcCfg s f k v m
  | .tmpStatus => wrTmpStatus s f a
  | .tmpAck => wrAck s f a
  | .vbatCtl => wrVbatCtl s f v m
  | .inCtl n => wrInCtl s f n v m
  | .monStatus => wrMonStatus s f a
  | _ => s

/-- A write of an Entropy Block, Scrubber, channel or Measurement Bank register. -/
def writeMem (s : State) (f : Fn) (r : Reg) (v m : BitVec 64) : State :=
  let a := v &&& m
  match r with
  | .entStatus => wrEntStatus s f a
  | .entCtl => wrEntCtl s f v
  | .waitLimit => wrWaitLimit s f v
  | .reseedCtl => wrReseedCtl s f v
  | .srcCtl n => wrSrcCtl s f n v m
  | .scbCtl => wrScbCtl s v
  | .scbOverdue => wrScbOverdue s v
  | .mcCtl g => wrMcCtl s f g v m
  | .mcCeThresh g => wrCeThresh s g v
  | .mcErrLog g => wrMcErrLog s g a
  | .mrValue k j => if m = BitVec.allOnes 64 then wrMrValue s f k j v else s
  | .mrbNmMask => wrNmMask s f v
  | .mrbStatus => wrMrbStatus s f a
  | _ => s

/-- A write of a Dispatcher or Tack Room register. -/
def writeDsp (s : State) (f : Fn) (r : Reg) (v m : BitVec 64) : State :=
  let a := v &&& m
  match r with
  | .dspCtl => wrDspCtl s f v
  | .dspStatus => wrDspStatus s a
  | .katCtl => wrKatCtl s v
  | .stallPin n => wrStallPin s f n v
  | .alarmTb n => wrAlarmTb s f n v
  | .ringReg k reg => wrRingReg s f k reg v
  | .ringStatus k => wrRingStatus s f k a
  | .cplCtl => wrCplCtl s f v
  | .tkrStatus => wrTkrStatus s a
  | .lcCmd => wrLcCmd s f a
  | .tkrCtl => wrTkrCtl s f v
  | .debugCtl => wrDebugCtl s v
  | .ownerHash j => wrOwnerHash s j v
  | .ownerKey j => wrOwnerKey s j v
  | .slotSel => wrSlotSel s v
  | .progCtl => wrProgCtl s f v m true
  | .progAttr => wrProgAttr s v
  | .progBlob => wrProgBlob s v
  | .progStatus => wrProgStatus s a
  | .tkrDomain n => wrDomain s f n v
  | _ => s

/-- A write of a stall, Paddock Table or Manger register. -/
def writeStl (s : State) (f : Fn) (r : Reg) (v m : BitVec 64) : State :=
  let a := v &&& m
  match r with
  | .stlCmd n => if m = 0 then s else wrStlCmd s f n (field v 0 4).toNat
  | .stlWorld n => wrWorld s f n v
  | .stlWeight n => wrWeight s f n v
  | .stlDrbgRate n => wrDrbgRate s f n v
  | .stlMgrLines n => wrMgrLines s f n v
  | .stlBlobQuota n => wrQuota s f n v
  | .stlPasid n k => wrPasid s f n k v
  | .stlRingAdd n => if m = 0 then s else wrRingAdd s f n v
  | .stlRingRemove n => if m = 0 then s else wrRingRemove s f n v
  | .stlCfgErr n => wrStlErr s f n a
  | .stlMrOwn n => wrMrOwn s f n v
  | .pk k word => wrPk s f k word v
  | .epochCtl => wrEpochCtl s f v m
  | .protFence => wrProtFence s f v
  | .denyLog => wrDenyLog s a
  | .mgrStatus => wrMgrStatus s a
  | .mgrCtl => wrMgrCtl s f v
  | .nmSlices => wrNmSlices s f v
  | .mgrErrLog => wrMgrLog s f a
  | .sliceCtl k => wrSliceCtl s f k v
  | _ => s

/-- A write of a unit, feed or Event Router register. -/
def writeUnit (s : State) (f : Fn) (r : Reg) (v m : BitVec 64) : State :=
  let a := v &&& m
  match r with
  | .unitFault u => wrFault s f u a
  | .clCtl => wrClCtl s f v
  | .bnuCtl => wrBnuCtl s f v
  | .feedCtl => wrFeedCtl s f v m
  | .feedLen => wrFeedLen s f v
  | .feedData => if m = BitVec.allOnes 64 then wrFeedWord s f false v else s
  | .feedLastVb => wrFeedVb s f v
  | .feedLast => if m = BitVec.allOnes 64 then wrFeedWord s f true v else s
  | .feedStatus => onPf1 s f (if bit a 3 then { s with feed := { s.feed with seqErr := false } } else s)
  | .feedTimeout => wrFeedTimeout s f v
  | .route k aliased => wrRoute s f k aliased v
  | .evtCause i => wrCause s f i a
  | .mirror i => wrMirror s f i v
  | .evtCtl => wrEvtCtl s f v
  | .evtStatus => wrEvtStatus s f a
  | _ => s

/-- A register written by a function. -/
def writeReg (s : State) (f : Fn) (r : Reg) (v m : BitVec 64) : State :=
  match regBlock r with
  | 0 => writeBrd s f r v m
  | 1 => writeSafe s f r v m
  | 2 => writeMem s f r v m
  | 3 => writeDsp s f r v m
  | 4 => writeStl s f r v m
  | 5 => writeUnit s f r v m

/-! ### 4-byte and 8-byte writes (R114-R116, R756) -/

/-- Bits [31:0]. -/
def low32 : BitVec 64 := 0xFFFFFFFF
/-- Bits [63:32]. -/
def high32 : BitVec 64 := 0xFFFFFFFF00000000

/-- A function's held low half of the register at an offset (R756). -/
def heldLow (s : State) (f : Fn) (off : BitVec 20) : Option (BitVec 32) :=
  ((fnState s f).lows.find? fun x => decide (x.1 = off)).map (·.2)

/-- Hold a low half; a second one replaces it. -/
def holdLow (s : State) (f : Fn) (off : BitVec 20) (v : BitVec 32) : State :=
  setFn s f fun x => { x with lows := (off, v) :: x.lows.filter fun y => decide (y.1 ≠ off) }

/-- Has a 64-bit register nothing in its high half that a write changes? -/
def highReadOnly : Reg → Bool
  | .alarmTb _ | .route _ _ => true
  | _ => false

/-- A 4-byte write. -/
def write4 (s : State) (f : Fn) (off : BitVec 20) (v : BitVec 32) : State :=
  match halfAt f off.toNat with
  | .none => s
  | .whole r => writeReg s f r (v.setWidth 64) low32
  | .low _ => holdLow s f off v
  | .high r =>
    let base := off - 4
    let hi := v.setWidth 64 <<< 32
    match heldLow s f base with
    | some lo => writeReg (dropLow s f base) f r (hi ||| lo.setWidth 64) (BitVec.allOnes 64)
    | none => if highReadOnly r then s else writeReg s f r (hi ||| (readReg s f r &&& low32)) high32

/-- Do BAR0 writes take effect in the present phase (R81, R82)? -/
def writesOpen (s : State) : Bool := decide (s.boot.phase = .held) || decide (s.boot.phase = .ready)

/-- An 8-byte write: a 64-bit register as a whole, or two 4-byte writes, low address first; the second is ignored when the
first has reset the chip (R81, R116). -/
def write8 (s : State) (f : Fn) (off : BitVec 20) (v : BitVec 64) : State :=
  match halfAt f off.toNat with
  | .low r => writeReg (dropLow s f off) f r v (BitVec.allOnes 64)
  | _ =>
    let s := write4 s f off (field v 0 32)
    if writesOpen s then write4 s f (off + 4) (field v 32 32) else s

end Sys2Proof.Machine
end

