-- ==== Sys2Proof/Machine/Access.lean ====
section
/-! DEFINITION. Accesses of BAR0 by offset: 4-byte and 8-byte writes, and 4-byte reads with their captured high halves
(00, 03, 19). -/

namespace Sys2Proof.Machine

/-- Is an offset one of the CFG_ block (R117)? -/
def inCfg (off : BitVec 20) : Bool := decide (0x01000 ≤ off.toNat ∧ off.toNat < 0x02000)

/-- A write that arrives before HELD: ignored, but for CFG_SW_RESET; in BOOT_FAILED ignored as well (R81, R100). -/
def earlyWrite (s : State) (f : Fn) (off : BitVec 20) (v : BitVec 64) : State :=
  if s.boot.phase = .bootFailed ∨ off ≠ 0x01020 then s else wrSwReset s f v

/-- A write of 4 or 8 bytes at an offset; one that is not aligned is ignored (R114). -/
def barWrite (s : State) (f : Fn) (off : BitVec 20) (wide : Bool) (v : BitVec 64) : State :=
  gateBar s f fun s =>
    if off.toNat % (if wide then 8 else 4) ≠ 0 then s
    else if s.boot.phase = .held ∨ s.boot.phase = .ready then
      settle (if wide then write8 s f off v else write4 s f off (field v 0 32))
    else earlyWrite s f off v

/-- A register as a 4-byte read shows it; only the SRAM lap holds a free value, which the read uses up. -/
def readTaken (s : State) (r : Reg) : State := if r = .scbLap 4 then takeFree s 1 else s

/-- What a 4-byte read of a whole register does besides answering: STL_STATUS clears NOTICE (R204, R757). -/
def readEffect (s : State) (f : Fn) (r : Reg) : State :=
  match r with
  | .stlStatus n => if stlMay s f n then setStall s n fun x => { x with notice := 0 } else s
  | _ => s

/-- A 4-byte read (R115, R756). -/
def read4 (s : State) (f : Fn) (off : BitVec 20) : State :=
  match halfAt f off.toNat with
  | .none => answer s (.value 0)
  | .whole r => readEffect (answer s (.value (readReg s f r))) f r
  | .low r =>
    let v := readReg s f r
    setFn (readTaken (answer s (.value (v &&& low32))) r) f fun x => { x with captured := some (off, field v 32 32) }
  | .high r =>
    match (fnState s f).captured with
    | some (o, h) =>
      if o = off - 4 then setFn (answer s (.value (h.setWidth 64))) f fun x => { x with captured := none }
      else readTaken (answer s (.value (readReg s f r >>> 32))) r
    | none => readTaken (answer s (.value (readReg s f r >>> 32))) r

/-- What a 4-byte read of an offset shows, with nothing captured: a register, a half of one, or 0 (R119). -/
def peek4 (s : State) (f : Fn) (off : BitVec 20) : BitVec 64 :=
  match halfAt f off.toNat with
  | .none => 0
  | .whole r => readReg s f r
  | .low r => readReg s f r &&& low32
  | .high r => readReg s f r >>> 32

/-- The effects of reading an offset in an 8-byte access. -/
def peekEffect (s : State) (f : Fn) (off : BitVec 20) : State :=
  match halfAt f off.toNat with
  | .whole r => readEffect s f r
  | .low r => readTaken s r
  | _ => s

/-- An 8-byte read: a 64-bit register as a whole, or two 4-byte reads, low address first (R115, R116). -/
def read8 (s : State) (f : Fn) (off : BitVec 20) : State :=
  let v := peek4 s f off ||| (peek4 s f (off + 4) <<< 32)
  peekEffect (peekEffect (answer s (.value v)) f off) f (off + 4)

/-- A read in the window of a measurement register shows every extend whose input the function has completed (R436, R450). -/
def mrRead (s : State) (f : Fn) (off : BitVec 20) : State :=
  if 0x07000 ≤ off.toNat ∧ off.toNat < 0x07C00 then mrSettledFor s f (toFin 48 (by decide) ((off.toNat - 0x07000) / 0x40)) else s

/-- A read of 4 or 8 bytes of BAR0; one that is not aligned returns 0 (R114). In BOOT_FAILED only the CFG_ block answers
with its registers; elsewhere what is read is not given, a free value (R81, R100). -/
def barRead (s : State) (f : Fn) (off : BitVec 20) (wide : Bool) : State :=
  gateBar s f fun s =>
    if off.toNat % (if wide then 8 else 4) ≠ 0 then answer s (.value 0)
    else if s.boot.phase = .bootFailed ∧ !inCfg off then
      takeFree (answer s (.value (if wide then Config.freeBits s.free else Config.freeBits s.free &&& low32))) 1
    else if wide then read8 (mrRead s f off) f off else read4 (mrRead s f off) f off

/-! ### Doorbell pages (R114, R120, R121, R164-R166) -/

/-- The ring of an offset of BAR2. -/
def pageRing (off : BitVec 20) : RingId := bvFin (field off 12 8)

/-- BRD_DB_STATUS of a ring (R166). -/
def pageStatus (s : State) (r : RingId) (n : StallId) : BitVec 64 :=
  flag 0 s.rings[r].enable ||| flag 1 s.rings[r].fetchErr ||| flag 2 (ringPaused s r n)

/-- A word of a live page (R120, R164-R166). -/
def pageWord (s : State) (r : RingId) (n : StallId) (off : BitVec 12) : BitVec 64 :=
  match off.toNat with
  | 0x000 => place 0 s.rings[r].tail
  | 0x008 => place 0 s.rings[r].dbHead
  | 0x010 => pageStatus s r n
  | _ => 0

/-- A read in the doorbell pages: 0 on a page that is not live (R121). -/
def pageRead (s : State) (f : Fn) (off : BitVec 20) (wide : Bool) : State :=
  gateBar s f fun s =>
    let r := pageRing off
    answer s (.value (
      if off.toNat % (if wide then 8 else 4) ≠ 0 then 0 else
      match s.rings[r].owner with
      | some n => if worldFn s n = f then pageWord s r n (field off 0 12) else 0
      | none => 0))

/-- A write in the doorbell pages: BRD_DB_TAIL, BRD_DB_STATUS, or a read-only or reserved offset. -/
def pageStore (s : State) (f : Fn) (off : BitVec 20) (wide : Bool) (v : BitVec 64) : State :=
  let r := pageRing off
  if off.toNat % (if wide then 8 else 4) ≠ 0 then gateBar s f fun s => s else
  match (field off 0 12).toNat with
  | 0x000 => settle (pageWrite s f r fun s n => tailWrite s r n (field v 0 16))
  | 0x010 => pageWrite s f r fun s _ => statusWrite s r (field v 0 32)
  | _ => pageWrite s f r fun s _ => s

/-! ### The commands -/

/-- LOW_HALF_WRITE (R115, R756): a 4-byte write of the low half of a 64-bit register. -/
def execLowHalfWrite (f : Fn) (off : BitVec 20) (v : BitVec 32) (s : State) : Host.Outcome State Fault Refusal :=
  .next (barWrite s f off false (v.setWidth 64))

/-- HIGH_HALF_WRITE (R115, R756): a 4-byte write of the high half of a 64-bit register. -/
def execHighHalfWrite (f : Fn) (off : BitVec 20) (v : BitVec 32) (s : State) : Host.Outcome State Fault Refusal :=
  .next (barWrite s f off false (v.setWidth 64))

/-- LOW_HALF_READ (R115, R116, R756): a read of BAR0, or of the doorbell pages. -/
def execLowHalfRead (f : Fn) (page : Bool) (off : BitVec 20) (wide : Bool) (s : State) : Host.Outcome State Fault Refusal :=
  .next (if page then pageRead s f off wide else barRead s f off wide)

/-- REGISTER_WRITE (R13, R114-R116): a write of 4 or 8 bytes in BAR0, or in the doorbell pages. -/
def execRegisterWrite (f : Fn) (page : Bool) (off : BitVec 20) (wide : Bool) (v : BitVec 64) (s : State) :
    Host.Outcome State Fault Refusal := .next (if page then pageStore s f off wide v else barWrite s f off wide v)

end Sys2Proof.Machine
end

