-- ==== Sys2Proof/Machine/Image.lean ====
section
/-! DEFINITION. The Weaha image: header, records, signature, the choice between the two copies, and the application of
its records (02). -/

namespace Sys2Proof.Machine

/-! ### The SPI read (R51-R55) -/

/-- Offsets of copy A and copy B by IMG_SEL (R51). -/
def copyBase : BitVec 2 → Option (Nat × Nat)
  | 0 => some (0x00000000, 0x00100000)
  | 1 => some (0x00200000, 0x00300000)
  | 2 => some (0x01000000, 0x01100000)
  | _ => none

/-- Are 4-byte addresses used (R55)? -/
def addr4 (x : Option Sfdp) : Bool := (x.map fun d => d.needs4 && d.has4).getD false

/-- SPI_MODE by the SFDP found (R53-R55, R101); 0 when the flash is not read. -/
def spiModeOf (imgSel : BitVec 2) (x : Option Sfdp) : BitVec 3 :=
  if copyBase imgSel = none then 0 else
  let quad := (x.map fun d => d.fast144 && decide (d.quadEnable.toNat ≤ 5)).getD false
  match quad, addr4 x with
  | false, false => 1
  | false, true => 2
  | true, false => 3
  | true, true => 4

/-- Bytes of the flash that can be reached: 128 Mbit without SFDP or with 3-byte addresses (R54, R55). -/
def reachable (x : Option Sfdp) : Nat :=
  match x with
  | none => 0x1000000
  | some d => if addr4 x then d.bytes else min d.bytes 0x1000000

/-! ### Header (R58, R59) -/

/-- Fields of a copy's header. -/
structure Header where
  sequence : BitVec 32
  total : Nat
  recLen : Nat
  sigOff : Nat
  signed : Bool
  deriving DecidableEq, Repr

/-- The header fields of a copy's bytes. -/
def headerOf (b : List Byte) : Header :=
  { sequence := BitVec.ofNat 32 (fieldAt b 0x08 4), total := fieldAt b 0x0C 4, recLen := fieldAt b 0x14 4,
    sigOff := fieldAt b 0x18 4, signed := bit (BitVec.ofNat 32 (fieldAt b 0x1C 4)) 0 }

/-- Do the sizes and offsets of a header agree (R58)? -/
def headerRules (b : List Byte) (h : Header) : Bool :=
  decide (fieldAt b 0x06 2 = 64) && decide (fieldAt b 0x10 4 = 64) && decide (h.recLen % 4 = 0) && decide (8 ≤ h.recLen) &&
  decide (h.total = 64 + h.recLen + (if h.signed then 200 else 0)) && decide (h.total ≤ 0x100000) &&
  decide (h.sigOff = if h.signed then 64 + h.recLen else 0) && decide (fieldAt b 0x1C 4 < 2) && zeroAt b 0x20 28

/-- First failing header check of a copy at an offset, with its code of R103; 0 when it is a candidate. -/
def headerErr (reach base : Nat) (b : List Byte) : BitVec 8 :=
  if reach < base + 64 ∨ b.length < 64 then 0x01
  else if slice b 0 4 ≠ [0x57, 0x48, 0x41, 0x31] ∨ fieldAt b 0x04 2 ≠ 1 then 0x02
  else if fieldAt b 0x3C 4 ≠ (crc32c (b.take 0x3C)).toNat then 0x03
  else if !headerRules b (headerOf b) then 0x04
  else if reach < base + (headerOf b).total then 0x01
  else 0

/-! ### Records (R60-R66) -/

/-- What the records of a copy give. -/
structure Parsed where
  clock : Option (BitVec 2)
  ids : Option (Vector (BitVec 16) 4)
  writes : List RegWrite
  deriving DecidableEq, Repr

/-- Is a REGWRITE target allowed (R62, R64, R758)? -/
def targetOk (target : Nat) (wide : Bool) : Bool :=
  let t := BitVec.ofNat 32 target
  let off := target % 0x100000
  let f : Fn := if bit t 31 then .pf1 else .pf0
  decide (field t 20 11 = 0) && decide (off % (if wide then 8 else 4) = 0) && decide (halfAt f off ≠ .none) &&
  (decide (off < 0x1000) || decide (0x2000 ≤ off) || decide (off = 0x1024))

/-- One REGWRITE entry of a record's value. -/
def entryOf (v : List Byte) (wide : Bool) (k : Nat) : Nat × RegWrite :=
  let size := if wide then 12 else 8
  let t := fieldAt v (size * k) 4
  (t, { fn := if bit (BitVec.ofNat 32 t) 31 then .pf1 else .pf0, offset := BitVec.ofNat 20 t, wide := wide,
        data := BitVec.ofNat 64 (fieldAt v (size * k + 4) (size - 4)) })

/-- The entries of a REGWRITE record: a code of R103, or the writes. -/
def entriesOf (v : List Byte) (wide : Bool) : Sum (BitVec 8) (List RegWrite) :=
  let size := if wide then 12 else 8
  if v.length % size ≠ 0 then .inl 0x06 else
  let es := (List.range (v.length / size)).map (entryOf v wide)
  if es.all fun e => targetOk e.1 wide then .inr (es.map (·.2)) else .inl 0x07

/-- A record's effect on what is parsed, or the code of the check that it fails (R61, R65). -/
def recordStep (p : Parsed) (type : Nat) (v : List Byte) : Sum (BitVec 8) Parsed :=
  if 4096 < v.length then .inl 0x06 else
  match type with
  | 0x0001 =>
    let c := leNat v
    if p.clock.isSome ∨ v.length ≠ 4 ∨ 3 ≤ c then .inl 0x06 else .inr { p with clock := some (BitVec.ofNat 2 c) }
  | 0x0002 =>
    if p.ids.isSome ∨ v.length ≠ 8 then .inl 0x06
    else .inr { p with ids := some (Vector.ofFn fun i => BitVec.ofNat 16 (fieldAt v (2 * i.val) 2)) }
  | 0x0010 =>
    match entriesOf v false with
    | .inl e => .inl e
    | .inr ws => .inr { p with writes := p.writes ++ ws }
  | 0x0011 =>
    match entriesOf v true with
    | .inl e => .inl e
    | .inr ws => .inr { p with writes := p.writes ++ ws }
  | 0x00FF => if 256 < v.length then .inl 0x06 else .inr p
  | _ => .inl 0x06

/-- The records of an area, from one on: the parse, or the code and index of the first failing record. -/
def recordWalk : Nat → List Byte → Nat → Parsed → Sum (BitVec 8 × Nat) Parsed
  | 0, _, k, _ => .inl (0x08, k)
  | n + 1, b, k, p =>
    if b.length < 8 then .inl (0x08, k) else
    let len := fieldAt b 2 2
    let body := 4 + roundUp len 4
    if b.length < body + 4 then .inl (0x06, k)
    else if fieldAt b body 4 ≠ (crc32c (b.take body)).toNat then .inl (0x05, k)
    else if !zeroAt b (4 + len) (roundUp len 4 - len) then .inl (0x06, k)
    else
      let type := fieldAt b 0 2
      let rest := b.drop (body + 4)
      if type = 0xFFFF then
        (if len ≠ 0 then .inl (0x06, k) else if rest.isEmpty then .inr p else .inl (0x08, k))
      else match recordStep p type (slice b 4 len) with
        | .inl e => .inl (e, k)
        | .inr q => recordWalk n rest (k + 1) q

/-! ### Signature and validity (R67-R70, R78) -/

/-- First failing signature check of a SIGNED copy, by R103: the owner's key on an OWNED or RETIRED part, a BNU to verify
on, the block and the signature. -/
def sigErr (s : State) (bnu : BitVec 8) (b : List Byte) (h : Header) : BitVec 8 :=
  let blk := slice b h.sigOff 200
  let key := slice blk 0x04 97
  let owner := ((ownerCopy s).map fun c => decide (sha384 key = leBytes 48 c.2.hash.toNat)).getD false
  if 2 ≤ lcCode s ∧ !owner then 0x0A
  else if bnu = 0 then 0x0C
  else if fieldAt blk 0 2 ≠ 1 ∨ !zeroAt blk 2 2 ∨ !zeroAt blk 0x65 3 ∨ blk.getD 4 0 ≠ 0x04 ∨
      !p384Ok key (slice blk 0x68 96) (b.take h.sigOff) then 0x0B
  else 0

/-- A candidate copy read in full: its error code and failing record, or the image it gives. -/
def validate (s : State) (bnu : BitVec 8) (b : List Byte) : Sum (BitVec 8 × Nat) Image :=
  let h := headerOf b
  match recordWalk (h.recLen / 8 + 1) (slice b 64 h.recLen) 0 { clock := none, ids := none, writes := [] } with
  | .inl e => .inl e
  | .inr p =>
    let e : BitVec 8 := if h.signed then sigErr s bnu b h else if 2 ≤ lcCode s then 0x09 else 0
    if e ≠ 0 then .inl (e, 0)
    else .inr { sequence := h.sequence, signed := h.signed, clock := p.clock, ids := p.ids, writes := p.writes,
                digest := sha384 (slice b 0 h.total) }

/-- What the choice between the copies finds (R71, R103): codes, failing record, source, image, and whether the copy
first tried was passed over. -/
structure Choice where
  aErr : BitVec 8
  bErr : BitVec 8
  bad : Nat
  src : BitVec 2
  image : Option Image
  fallback : Bool
  deriving DecidableEq, Repr

/-- No copy read. -/
def Choice.none : Choice := { aErr := 0x01, bErr := 0x01, bad := 0, src := 0, image := .none, fallback := false }

/-- Try copies in order, each with its source code (1 A, 2 B). BAD_RECORD (R103) holds the record of the last copy that
failed, 0 where its header or signature failed; a copy that passes leaves it (assumption 51). -/
def tryCopies (s : State) (bnu : BitVec 8) (c : Choice) : List (BitVec 2 × List Byte) → Bool → Choice
  | [], _ => c
  | (src, b) :: t, later =>
    match validate s bnu b with
    | .inr i => { c with src := src, image := some i, fallback := later }
    | .inl (e, k) =>
      tryCopies s bnu (if src = 1 then { c with aErr := e, bad := k } else { c with bErr := e, bad := k }) t true

/-- The Configuration Loader's choice (R71): candidates by header, the higher SEQUENCE first, copy A on a tie. -/
def chooseImage (s : State) (bnu : BitVec 8) (a b : List Byte) : Choice :=
  match copyBase s.boot.imgSel with
  | none => Choice.none
  | some (oa, ob) =>
    let reach := reachable s.boot.sfdp
    let ea := headerErr reach oa a
    let eb := headerErr reach ob b
    let c : Choice := { Choice.none with aErr := ea, bErr := eb }
    let order := match decide (ea = 0), decide (eb = 0) with
      | true, true => if (headerOf a).sequence.toNat < (headerOf b).sequence.toNat then [(2, b), (1, a)] else [(1, a), (2, b)]
      | true, false => [(1, a)]
      | false, true => [(2, b)]
      | false, false => []
    tryCopies s bnu c order false

/-! ### Application (R63, R66) -/

/-- The bits of a register whose effects a REGWRITE entry has: SO fields, and the WO fields of STL_CMD, STL_RING_ADD,
STL_RING_REMOVE and PDK_EPOCH_CTL (R63). -/
def imageMask : Reg → BitVec 64
  | .mcCtl _ | .stlCmd _ | .stlRingAdd _ | .stlRingRemove _ => BitVec.allOnes 64
  | .bootCtl => 1
  | .srcCfg _ | .guardCtl | .vbatCtl => 0x80000000
  | .inCtl _ => 0x8000000000000000
  | .epochCtl => 3
  | _ => 0

/-- Four bytes of an entry: a 32-bit register, or one half of a 64-bit register, whose other half keeps its value. -/
def imageWrite4 (s : State) (f : Fn) (off : Nat) (v : BitVec 32) : State :=
  match halfAt f off with
  | .none => s
  | .whole r => writeReg s f r (v.setWidth 64) (imageMask r)
  | .low r => writeReg s f r ((readReg s f r &&& high32) ||| v.setWidth 64) (imageMask r &&& low32)
  | .high r => writeReg s f r ((readReg s f r &&& low32) ||| (v.setWidth 64 <<< 32)) (imageMask r &&& high32)

/-- A refill that a commit started ends before the next entry is applied (R63). -/
def imageRefill (s : State) : State := { s with pdk := { s.pdk with pending := false } }

/-- One REGWRITE entry. -/
def imageWrite (s : State) (w : RegWrite) : State :=
  let off := w.offset.toNat
  imageRefill (if w.wide then
    (match halfAt w.fn off with
     | .low r => writeReg s w.fn r w.data (imageMask r)
     | _ => imageWrite4 (imageWrite4 s w.fn off (field w.data 0 32)) w.fn (off + 4) (field w.data 32 32))
    else imageWrite4 s w.fn off (field w.data 0 32))

/-- The entries of the applied image, in order; none under Walk defaults. -/
def imageWrites (s : State) : List RegWrite := (s.boot.image.map (·.writes)).getD []

/-- The register state that the applied image gives: its entries over the chip-reset state (R91). -/
def imageState (s : State) : State :=
  (imageWrites s).foldl imageWrite { State.reset with boot := { Boot.reset with phase := .apply } }

end Sys2Proof.Machine
end

