-- ==== Sys2Proof/Machine/Boot.lean ====
section
/-! DEFINITION. Resets of the whole device and the phases of start-up (02). -/

namespace Sys2Proof.Machine

/-! ### Power-on and chip reset (R37, R89-R97, R765, R771) -/

/-- What a power-on reset keeps of the Tamper Monitor: the battery section (R694). -/
def coldTmp (t : Tmp) : Tmp :=
  { Tmp.reset with latch := t.latch, lost := t.lost, canary := t.canary, vbEn := t.vbEn, vbActive := t.vbActive,
                   vbFilter := t.vbFilter, vbCount := t.vbCount }

/-- The device under power-on reset: OTP, the battery section and what stands at its pins are kept (R91). -/
def coldReset (s : State) : State :=
  let s := abandonOtp s
  { State.reset with
    pending := s.pending, free := s.free, nextId := s.nextId, resp := s.resp, linkOut := s.linkOut,
    boot := { Boot.reset with perst := s.boot.perst, imgSel := s.boot.imgSel, testMode := s.boot.testMode,
                              refclkSel := s.boot.refclkSel, i2cAddr := s.boot.i2cAddr },
    tkr := keepOtp s.tkr, tmp := coldTmp s.tmp }

/-- POWER_ON_RESET (R37, R89, R765): internal power-on reset is released, and the straps are sampled; IMG_SEL too when
PERST_N is high already. -/
def execPowerOnReset (i2cAddr : BitVec 3) (refclkSel testMode : Bool) (imgSel : BitVec 2) (s : State) :
    Host.Outcome State Fault Refusal :=
  let s := coldReset s
  .next { s with boot := { s.boot with i2cAddr := i2cAddr, refclkSel := refclkSel, testMode := testMode,
                                       imgSel := if s.boot.perst then s.boot.imgSel else imgSel } }

/-- POWER_LOSS (R771): a supply falls below its threshold, and power-on reset stands until POWER_ON_RESET. -/
def execPowerLoss (s : State) : Host.Outcome State Fault Refusal :=
  let s := coldReset s
  .next { s with boot := { s.boot with powered := false } }

/-- PERST_N_ASSERT (R89, R94): a chip reset, held while the pin is low. -/
def execPerstNAssert (s : State) : Host.Outcome State Fault Refusal :=
  if s.boot.perst then .next s
  else if !s.boot.powered then .next { s with boot := { s.boot with perst := true } }
  else
    let s := chipReset s true false false
    .next { s with boot := { s.boot with perst := true } }

/-- PERST_N_DEASSERT (R37, R765): boot time zero, at which IMG_SEL is sampled. -/
def execPerstNDeassert (imgSel : BitVec 2) (s : State) : Host.Outcome State Fault Refusal :=
  .next (if s.boot.perst then { s with boot := { s.boot with perst := false, imgSel := imgSel } } else s)

/-- CFG_SW_RESET (R81, R106): PF1 writes the key, in any phase but BOOT_FAILED (R100). -/
def execCfgSwReset (f : Fn) (v : BitVec 32) (s : State) : Host.Outcome State Fault Refusal :=
  .next (gateBar s f fun s => if s.boot.phase = .bootFailed then s else wrSwReset s f (v.setWidth 64))

/-- CHIP_RESET (R91, R97): one reset for the causes of one cycle; IMG_SEL is sampled at the end of the pulse unless PERST_N
holds the device. -/
def execChipReset (perst halter software : Bool) (imgSel : BitVec 2) (s : State) : Host.Outcome State Fault Refusal :=
  if !s.boot.powered || !(perst || halter || software) then .next s else
  let low := s.boot.perst || perst
  let s := chipReset s perst halter software
  .next { s with boot := { s.boot with perst := low, imgSel := if low then s.boot.imgSel else imgSel } }

/-! ### RESET to PRELOAD_TEST (R38, R41, R43, R46, R99) -/

/-- Move to a phase. -/
def toPhase (s : State) (p : Phase) : State := { s with boot := { s.boot with phase := p } }

/-- RESET_PHASE_END (R38, R43, R668, R692, R768): the alert state is re-evaluated; a part in board test, held by PERST_N or
by the trip point stays in RESET. -/
def execResetPhaseEnd (s : State) : Host.Outcome State Fault Refusal :=
  if s.boot.phase ≠ .reset ∨ !s.boot.powered ∨ s.boot.perst ∨ s.boot.testMode ∨ s.tmp.tripHold then .next s
  else .next (toPhase { s with hlt := { s.hlt with alert := alertWanted s } } .otp)

/-- State of an OTP slot as evaluated: a BAD slot stays BAD (R318). -/
def evalSlot (x : Slot) : Slot :=
  { x with state := if x.state = .bad then .bad
                    else if x.value = 0 ∧ x.attr = 0 ∧ x.crc = 0 then .unprogrammed
                    else if x.crc = crc32c (slotBytes x.value x.attr) then .valid else .bad }

/-- OTP sensed and checked: HS79 for a BAD TS0, once for BAD slots, for a BAD owner copy, for an interrupted transition
(R88, R318, R353, R355). -/
def senseOtp (s : State) : State :=
  let slots := vmap evalSlot s.tkr.slots
  let s := { s with tkr := { s.tkr with slots := slots, sensed := true } }
  let s := if slots[0].state = .bad then raiseHs s 79 none else s
  let s := if (vfind slots fun x => decide (x.state = .bad)).any fun k => decide (k.val ≠ 0) then raiseHs s 79 none else s
  let s := if copyBad s.tkr.ownerA || copyBad s.tkr.ownerB then raiseHs s 79 none else s
  if lcPartial s then raiseHs s 79 none else s

/-- The battery section read at OTP: the canary, the report and KEYS_LOCKED; its sampling ends (R46, R687). -/
def batteryReport (s : State) : State :=
  let s := if s.tmp.canary = 0x5A3C96E1 then s else
    { s with tmp := { s.tmp with lost := true, vbEn := 0, vbActive := 0, vbFilter := 4 } }
  let report := decide (s.tmp.latch ≠ 0) || s.tmp.lost
  let cold := s.boot.causePor && !s.boot.causePerst && !s.boot.causeHalter && !s.boot.causeSoftware
  { s with boot := { s.boot with vbatReport := report, keysLocked := report || (!cold && s.boot.keysLocked) },
           tmp := { s.tmp with vbSampling := false, vbCount := Vector.replicate 4 0 } }

/-- OTP_PHASE_END (R38, R46, R47, R318, R353): OTP sensed, the battery report copied, the tamper inputs armed. -/
def execOtpPhaseEnd (s : State) : Host.Outcome State Fault Refusal :=
  if s.boot.phase ≠ .otp then .next s
  else .next (settle (followBattery (batteryReport (senseOtp (toPhase s .clock)))))

/-- PLL_LOCK (R38, R41): the core runs at the boot rate of 0.5 GHz, and the clock monitor is armed. -/
def execPllLock (s : State) : Host.Outcome State Fault Refusal :=
  if s.boot.phase ≠ .clock ∨ s.boot.pllUnlocked then .next s
  else .next { s with boot := { s.boot with phase := .preloadTest, clkOn := true, clkRate := 2, clkMon := true },
                      hlt := { s.hlt with clkRef := false } }

/-- PLL_LOCK_TIMEOUT (R99): the device stays in CLOCK with the core stopped, alert asserted, HS83. -/
def execPllLockTimeout (s : State) : Host.Outcome State Fault Refusal :=
  if s.boot.phase ≠ .clock ∨ s.boot.pllUnlocked then .next s
  else .next (settle (raiseHs { s with boot := { s.boot with pllUnlocked := true }, hlt := { s.hlt with alert := true } } 83 none))

/-- BOOT_FAILED with its cause: the alert state, configuration space open, HS95 (R43, R99, R100). -/
def bootFail (s : State) (cause : BitVec 3) : State :=
  { s with boot := { s.boot with phase := .bootFailed, failCause := cause, cfgOpen := true },
           hlt := { s.hlt with alert := true } }

/-- A SECDED checker that fails its patterns: bit 63 of CFG_SELFTEST_FENCE, the source of R581, and the fence that the
structure's chapter has: a slice, the unit of a crib, the DRBG behind the output queue. The keyed-state store and the
Bridle's buffers have none (R76, R99, R581, R582, assumption 56). -/
def sramFail (s : State) (x : SramPart) : State :=
  match x with
  | .slice k => bootFence (setSlice s k fun x => { x with fenced := true }) 63 (sliceHs k)
  | .crib u => bootFence (setUnit s u fun x => { x with fenced := true, testing := false }) 63 (unitHs u)
  | .store => bootFence s 63 79
  | .entropyQueue => bootFence (entFence s) 63 78
  | .bridle => bootFence s 63 81


/-- PRELOAD_TEST_END (R76, R99, R38): Halter, Measurement Bank and MS0 checker tests; PD56 and PD48 to PD55 are powered,
and LOAD begins with what SFDP gives. -/
def execPreloadTestEnd (halterOk mrbOk ms0Ok : Bool) (sfdp : Option Sfdp) (s : State) : Host.Outcome State Fault Refusal :=
  if s.boot.phase ≠ .preloadTest then .next s
  else if !halterOk then .next (settle (raiseHs (bootFail s 1) 95 none))
  else if !mrbOk then .next (settle (selfFail (bootFail s 2) 6 none))
  else
    let s := if ms0Ok then s else sramFail s (.slice 0)
    let s := { s with pds := vmapIdx (fun d p => if 48 ≤ d.val ∧ d.val ≤ 56 then { p with state := .on } else p) s.pds,
                      boot := { s.boot with phase := .load, sfdp := sfdp,
                                            spiDriven := decide (copyBase s.boot.imgSel ≠ none) } }
    .next (settle s)

/-! ### LOAD and APPLY (R39, R44, R63-R75, R724) -/

/-- Big-number units that pass their pre-load tests; the others are fenced (R76). -/
def preloadBnu (s : State) (pass : BitVec 8) : State :=
  (List.finRange 8).foldl (fun s (k : Fin 8) =>
    if bit pass k.val then s else bootFenceUnit s ⟨48 + k.val, by omega⟩) s

/-- The INFO latch of HS80 (R99, R647). -/
def raiseInfo (s : State) (k : HsId) : State :=
  { s with hlt := { s.hlt with inbox := s.hlt.inbox ++ [{ src := k, stall := none, rail := false, info := true, again := false }] } }

/-- LOAD_PHASE_END (R39, R51-R73, R101-R103): the choice between the copies; HS80 when one was passed over or none is
valid; the SPI pins are released. -/
def execLoadPhaseEnd (copyA copyB : List Byte) (bnuPass : BitVec 8) (s : State) : Host.Outcome State Fault Refusal :=
  if s.boot.phase ≠ .load then .next s else
  let c := chooseImage s bnuPass copyA copyB
  let s := preloadBnu s bnuPass
  let b : Boot :=
    { s.boot with phase := .apply, aErr := c.aErr, bErr := c.bErr, badRecord := BitVec.ofNat 16 c.bad,
                  imageSrc := c.src, aValid := decide (c.src = 1), bValid := decide (c.src = 2),
                  signed := (c.image.map (·.signed)).getD false, sequence := (c.image.map (·.sequence)).getD 0,
                  spiMode := spiModeOf s.boot.imgSel s.boot.sfdp, fallback := c.image.isSome && c.fallback,
                  image := c.image, spiDriven := false }
  let s := { s with boot := b }
  .next (settle (if c.image.isNone then raiseHs s 80 none else if c.fallback then raiseInfo s 80 else s))

/-- CORE_CLK and the PCI Express IDs of the image, or of Walk defaults (R41, R66, R74). -/
def applyFixed (s : State) : State :=
  let clk := ((s.boot.image.bind fun i => i.clock)).getD 0
  let s := { s with boot := { s.boot with clkRate := clk, clkOn := true } }
  match s.boot.image.bind fun i => i.ids with
  | some v =>
    setFn (setFn s .pf0 fun x => { x with subVendor := v[0], subDevice := v[1] }) .pf1
      fun x => { x with subVendor := v[2], subDevice := v[3] }
  | none => s

/-- A tamper input under the image's configuration, its kept state going on (R694). -/
def mergeInput (old new : TmpIn) : TmpIn :=
  inputMode { old with resp := new.resp, chatTamper := new.chatTamper, filterUs := new.filterUs, stuckS := new.stuckS,
                       chatterCount := new.chatterCount, chatterWin := new.chatterWin, lock := new.lock,
                       lockWritten := new.lockWritten } new.en new.active

/-- The input as the image's entries find it: reset configuration, the battery's enable and polarity. -/
def bareInput (n : InputId) (x : TmpIn) : TmpIn :=
  if batteryInput n then { TmpIn.reset n with en := x.en, active := x.active } else TmpIn.reset n

/-- The image's entries in order (R63, R66), with the tamper inputs' state kept. -/
def applyImage (s : State) : State :=
  let old := s.tmp.inp
  let s := { s with tmp := { s.tmp with inp := vmapIdx bareInput old } }
  let s := (imageWrites s).foldl imageWrite s
  { s with tmp := { s.tmp with inp := vmapIdx (fun n x => mergeInput old[n] x) s.tmp.inp } }

/-- MR0 extended with the digest of the accepted copy, or with 48 zero bytes (R44). -/
def extendMr0 (s : State) : State :=
  if s.mrb.fenced then s else mrExtend (mrSettled s) 0 ((s.boot.image.map (·.digest)).getD (zeros 48))

/-- A domain after APPLY (R38, R724): off when its OFF_REQ is 1; powered otherwise. PD63 stays off. -/
def bootDomain (s : State) (d : PdId) : State :=
  let p := s.pds[d]
  if d.val = 63 then s
  else if offWanted p then
    (if p.state = .off then setPd s d fun p => { p with result := .done }
     else setPd (powerLost s d) d fun p => { p with state := .off, result := .done, gates := satInc p.gates })
  else
    let s := setPd s d fun p => { p with state := .on }
    if h : d.val < 56 then setUnit s ⟨d.val, h⟩ fun x => { x with testing := !x.fenced }
    else if h : 60 ≤ d.val ∧ d.val < 62 then nsEnter s ⟨d.val - 60, by omega⟩ .startup
    else if d.val = 62 then entEnter s .init
    else s

/-- A channel as MEMORY begins (R570, R595, R596). -/
def bootChannel (s : State) (g : ChanId) : State :=
  if !s.mcs[g].enable then mcEnter s g .absent
  else if pdOn s (groupPd g) then mcEnter s g .training
  else s

/-- The domains in the order of their tests: PD62 before the sources that feed it. -/
def bootOrder : List PdId := (List.finRange 64).filter (fun d => decide (d.val = 62)) ++ (List.finRange 64).filter fun d => decide (d.val ≠ 62)

/-- APPLY_PHASE_END (R38, R42, R44, R63, R66, R75, R724). -/
def execApplyPhaseEnd (s : State) : Host.Outcome State Fault Refusal :=
  if s.boot.phase ≠ .apply then .next s else
  let s := extendMr0 (applyImage (applyFixed s))
  let s := { s with boot := { s.boot with phase := .memory, applied := true, cfgOpen := true } }
  .next (settle ((List.finRange 4).foldl bootChannel (bootOrder.foldl bootDomain s)))

/-! ### MEMORY, SELF_TEST and ROOT_GEN (R40, R76, R85-R88, R572) -/

/-- Is a channel still training or filling? -/
def channelBusy (m : Mc) : Bool := decide (m.state = .training) || decide (m.state = .filling)

/-- MEMORY_PHASE_END (R40, R76, R470, R572, R582): the table area lies in the highest-numbered channel in RUN; the SRAM
checkers that failed their patterns are named. -/
def execMemoryPhaseEnd (tablesOk : Bool) (badSram : List SramPart) (s : State) : Host.Outcome State Fault Refusal :=
  if s.boot.phase ≠ .memory ∨ s.mcs.toList.any channelBusy then .next s else
  let top := (vfind s.mcs fun m => decide (m.state = .run)).getLast?
  let s := badSram.foldl sramFail s
  .next (settle { s with boot := { s.boot with phase := .selfTest, tablesBuilt := tablesOk && top.isSome },
                         dram := { s.dram with tableChan := top }, tableOk := tablesOk && top.isSome })

/-- A failed self-test of bit i of CFG_SELFTEST_FENCE; a structure without power is not tested. The SRAM checkers of bit 63
have had their tests by the end of MEMORY; which of the two health tests of a source failed is a free value (R76, R104,
R491, R724; assumption 3). -/
def testFail (s : State) (i : Fin 64) : State :=
  if h : i.val < 56 then
    (if s.units[(⟨i.val, h⟩ : UnitId)].testing then bootFenceUnit s ⟨i.val, h⟩ else s)
  else if h : i.val < 58 then
    let n : NsId := ⟨i.val - 56, by omega⟩
    (if s.ns[n].state = .startup then
       healthFail (takeFree s 1) n (if bit (Config.freeBits s.free) 0 then .rct else .apt) else s)
  else if i.val = 58 then
    (if s.ent.state = .off then s else bootFence (entFence s) 58 78)
  else if h : i.val < 63 then
    let g : ChanId := ⟨i.val - 59, by omega⟩
    (if s.mcs[g].state = .run then fenceChan s g else s)
  else s

/-- Does ROOT_GEN run (R85, R87)? -/
def rootDue (s : State) : Bool :=
  decide (lcCode s = 0) && decide (s.tkr.slots[0].state = .unprogrammed) && !s.ent.fenced

/-- SELF_TEST_PHASE_END (R76, R87, R309): the tests still running end, the failed ones named and the others counted as
passed. A start-up test of a source and the DRBG's instantiation end before it. -/
def execSelfTestPhaseEnd (failed : BitVec 64) (s : State) : Host.Outcome State Fault Refusal :=
  let busy := (List.finRange 2).any fun n => decide (s.ns[n].state = .startup) && !bit failed (56 + n.val)
  if s.boot.phase ≠ .selfTest ∨ s.boot.selfTested ∨ busy ∨ (s.ent.state = .init ∧ !bit failed 58 ∧ nsRunning s ≠ 0) then .next s else
  let s := (List.finRange 64).foldl (fun s i => if bit failed i.val then testFail s i else s) s
  let s := { s with units := vmap (fun x => { x with testing := false }) s.units,
                    boot := { s.boot with selfTested := true },
                    disp := { s.disp with passes := satAdd s.disp.passes (vfind s.units fun x => x.testing).length } }
  .next (settle (if rootDue s then toPhase s .rootGen else s))

/-- The attribute word that ROOT_GEN leaves in TS0: the specification gives none, so it is a free value (assumption 3). -/
def rootAttr (s : State) : BitVec 64 := Config.freeBits s.free

/-- ROOT_GEN (R86): the root drawn is programmed into TS0 and read back, and the SEEDED byte follows. Without a draw the
part stays BLANK. -/
def execRootGen (readbackOk : Bool) (s : State) : Host.Outcome State Fault Refusal :=
  if s.boot.phase ≠ .rootGen then .next s else
  match grantedTo s .root with
  | [] => .next s
  | e :: _ =>
    let v := BitVec.ofNat 256 (leNat (slice (entryBytes [e]) 0 32))
    let x : Slot := { value := v, attr := rootAttr s, crc := crc32c (slotBytes v (rootAttr s)),
                      state := if readbackOk then .valid else .bad }
    let s := takeFree { s with tkr := { s.tkr with slots := s.tkr.slots.set 0 x },
                               ent := { s.ent with granted := s.ent.granted.filter fun g => decide (g.1 ≠ .root) } } 1
    .next (settle (if readbackOk then lcEnd s 0 else raiseHs s 79 none))

/-! ### HELD and READY (R45, R80-R84) -/

/-- Is boot past its last phase before HELD or READY? ROOT_GEN ends with TS0 programmed, with the DRBG fenced, or with its
draw given up (R87). -/
def bootDone (s : State) : Bool :=
  (decide (s.boot.phase = .selfTest) && s.boot.selfTested) ||
  (decide (s.boot.phase = .rootGen) && (!rootDue s || s.ent.granted.any fun g => decide (g.1 = .root) && g.2.isEmpty))

/-- HELD_ENTRY (R38, R45, R82). -/
def execHeldEntry (s : State) : Host.Outcome State Fault Refusal :=
  .next (if bootDone s && s.boot.readyHold then settle (bootReport (toPhase s .held)) else s)

/-- READY_ENTRY (R45, R80, R84). -/
def execReadyEntry (s : State) : Host.Outcome State Fault Refusal :=
  .next (if bootDone s && !s.boot.readyHold then settle (toReady (bootReport s)) else s)

/-- CFG_BOOT_CTL_RELEASE (R82, R107): a write with RELEASE 1. -/
def execCfgBootCtlRelease (f : Fn) (v : BitVec 32) (s : State) : Host.Outcome State Fault Refusal :=
  .next (gateW s f fun s => settle (wrBootCtl s f (v.setWidth 64 ||| 2) (BitVec.allOnes 64)))

end Sys2Proof.Machine
end

