-- ==== Sys2Proof/Machine/Cipher.lean ====
section
/-! DEFINITION. The cipher lanes' opcodes (08). -/

namespace Sys2Proof.Machine

/-! ### The cipher AUX block (R376, R378-R384, R790) -/

/-- IV_LEN of an AUX block. -/
def ivLen (aux : List Byte) : Nat := fieldAt aux 0 1
/-- The IV. -/
def ivOf (aux : List Byte) : List Byte := slice aux 8 (ivLen aux)
/-- AAD_LEN. -/
def aadLen (aux : List Byte) : Nat := fieldAt aux 2 2

/-- IV_LEN values of an opcode (R378, R384). -/
def ivLenOk (d : Desc) (n : Nat) : Bool :=
  match d.opcode with
  | 0x0A => if d.ivGen then decide (n = 12) else decide (1 ≤ n ∧ n ≤ 16)
  | 0x0B => decide (1 ≤ n ∧ n ≤ 16)
  | 0x0C | 0x0D => decide (7 ≤ n ∧ n ≤ 13)
  | 0x10 | 0x11 | 0x12 => decide (n = 12)
  | _ => decide (n = 16)

/-- CTR_BITS (R377). -/
def ctrBits (d : Desc) : Nat := if field d.imm 0 8 = 0 then 128 else (field d.imm 0 8).toNat

/-- The rules of the AUX block that depend on its contents. -/
def cipherAuxOk (d : Desc) (aux : List Byte) : Bool :=
  let n := ivLen aux
  let p := d.srcLen - d.aadSrc
  let aead := aeadDec d.opcode || aeadEnc d.opcode
  if d.auxLen = 0 then true else
  zeroAt aux 1 1 && zeroAt aux 4 4 && decide (d.auxLen = 40 + aadLen aux) && (aead || decide (aadLen aux = 0)) &&
  ivLenOk d n && zeroAt aux (8 + n) (16 - n) && (!d.ivGen || zeroAt aux 8 16) &&
  (if aeadDec d.opcode then zeroAt aux (0x18 + d.tlen) (16 - d.tlen) else zeroAt aux 0x18 16) &&
  (!(decide (d.opcode = 0x0C ∨ d.opcode = 0x0D)) || decide (p < 2 ^ (8 * (15 - n))))

/-- Are the halves of an XTS key equal (R374)? -/
def xtsHalvesEqual (k : List Byte) : Bool := decide (k.take (k.length / 2) = k.drop (k.length / 2))

/-! ### Modes over a block function (R372, R378-R383) -/

/-- Data cut into blocks of n bytes, the last one perhaps shorter. -/
def blocksOf (n : Nat) (bs : List Byte) : List (List Byte) :=
  (List.range (ceilDiv bs.length n)).map fun i => (bs.drop (n * i)).take n

/-- Exclusive or, as long as the shorter of the two. -/
def xorBytes (a b : List Byte) : List Byte := List.zipWith (· ^^^ ·) a b

/-- AES encryption of one block (FIPS 197). -/
def aesEnc (k b : List Byte) : List Byte := stdBytes (.cipher 0x00) [k, b] 16
/-- AES decryption of one block. -/
def aesDec (k b : List Byte) : List Byte := stdBytes (.cipher 0x01) [k, b] 16

/-- A chained mode: each block and the feedback before it give an output block and the next feedback (SP 800-38A). -/
def chained (step : List Byte → List Byte → List Byte × List Byte) (iv bs : List Byte) : List Byte :=
  ((blocksOf 16 bs).foldl (fun x b => let r := step x.1 b; (r.2, x.2 ++ r.1)) (iv, ([] : List Byte))).2

/-- ECB, CBC, CFB128 and OFB (SP 800-38A). -/
def plainMode (op : Nat) (k iv bs : List Byte) : List Byte :=
  match op with
  | 0x00 => (blocksOf 16 bs).flatMap (aesEnc k)
  | 0x01 => (blocksOf 16 bs).flatMap (aesDec k)
  | 0x02 => chained (fun p b => let c := aesEnc k (xorBytes b p); (c, c)) iv bs
  | 0x03 => chained (fun p b => (xorBytes (aesDec k b) p, b)) iv bs
  | 0x07 => chained (fun p b => let c := xorBytes b (aesEnc k p); (c, c)) iv bs
  | 0x08 => chained (fun p b => (xorBytes b (aesEnc k p), b)) iv bs
  | _ => chained (fun p b => let e := aesEnc k p; (xorBytes b e, e)) iv bs

/-- Data combined with a key stream given by its blocks. -/
def streamed (n : Nat) (stream : Nat → List Byte) (bs : List Byte) : List Byte :=
  ((blocksOf n bs).zipIdx.map fun x => xorBytes x.1 (stream x.2)).flatten

/-- Counter block j: the last `bits` bits of the initial block, big-endian, advanced j times; the others stand (R379). -/
def ctrBlock (bits : Nat) (iv : List Byte) (j : Nat) : List Byte :=
  let v := beNat iv
  let m := 2 ^ bits
  beBytes 16 (v / m * m + (v % m + j) % m)

/-- Counter mode from a counter block. -/
def ctrMode (bits : Nat) (k iv bs : List Byte) : List Byte := streamed 16 (fun j => aesEnc k (ctrBlock bits iv j)) bs

/-- ChaCha20 from a block counter (R383). -/
def chachaMode (ctr : Nat) (k nonce bs : List Byte) : List Byte :=
  streamed 64 (fun j => stdBytes (.cipher 0x10) [k, nonce, leBytes 4 (ctr + j)] 64) bs

/-- XTS: data unit j, of DU_LEN bytes or the whole request, under tweak i + j modulo 2^128 (R380). -/
def xtsMode (op du : Nat) (k iv bs : List Byte) : List Byte :=
  let unit_ := if du = 0 then bs.length else du
  ((blocksOf unit_ bs).zipIdx.map fun x =>
    stdBytes (.cipher op) [k, leBytes 16 ((leNat iv + x.2) % 2 ^ 128), x.1] x.1.length).flatten

/-- J0 of GCM: a 12-byte IV and a counter of 1, or GHASH of any other (R381). -/
def gcmStart (k iv : List Byte) : List Byte := if iv.length = 12 then iv ++ [0, 0, 0, 1] else stdBytes .gcmJ0 [k, iv] 16

/-- Counter block i of CCM: q - 1 in the flags byte, the nonce, i in q bytes (R382). -/
def ccmBlock (nonce : List Byte) (i : Nat) : List Byte :=
  BitVec.ofNat 8 (14 - nonce.length) :: nonce ++ beBytes (15 - nonce.length) i

/-- The key stream of an AEAD over its plaintext or ciphertext: GCM from inc32 of J0, CCM from counter 1, ChaCha20 from
block 1 (R381-R383). -/
def aeadData (enc : Nat) (k iv bs : List Byte) : List Byte :=
  match enc with
  | 0x0A => ctrMode 32 k (ctrBlock 32 (gcmStart k iv) 1) bs
  | 0x0C => streamed 16 (fun j => aesEnc k (ccmBlock iv (j + 1))) bs
  | _ => chachaMode 1 k iv bs

/-- The tag of an AEAD: over the ciphertext in GCM and ChaCha20-Poly1305, over the plaintext in CCM, which formats the tag
length with it (R382). -/
def aeadTag (enc tlen : Nat) (k iv aad plain ct : List Byte) : List Byte :=
  if enc = 0x0C then stdBytes (.cipherTag enc) [k, iv, aad, plain, leBytes 1 tlen] tlen
  else stdBytes (.cipherTag enc) [k, iv, aad, ct] tlen

/-! ### Overlap of source and destination (R388) -/

/-- The memory that a request reads as its source, and that its output of n bytes fills: local or host, with its ranges. -/
def sourceSpans (q : Req) : Bool × List (Nat × Nat) :=
  match q.desc.srcSel with
  | 2 => (true, [(q.desc.src, q.desc.srcLen)])
  | 3 => (true, [])
  | _ => (false, if hasSrc q.desc then q.srcSpans.getD [(q.desc.src, q.desc.srcLen)] else [])

/-- The ranges of the destination that an output of n bytes fills. -/
def destSpans (q : Req) (n : Nat) : Bool × List (Nat × Nat) :=
  match q.desc.dstSel with
  | 0 => (false, [(q.desc.dst, n)])
  | 1 => (false, takeSpans (q.dstSpans.getD []) n)
  | 2 => (true, [(q.desc.dst, n)])
  | _ => (true, [])

/-- Do two ranges share a byte? -/
def spansMeet (a b : Nat × Nat) : Bool :=
  decide (0 < a.2) && decide (0 < b.2) && decide (a.1 < b.1 + b.2) && decide (b.1 < a.1 + a.2)

/-- Is a request in place: one selector and one address for source and destination (R388)? -/
def inPlace (d : Desc) : Bool := decide (d.srcSel = d.dstSel) && decide (d.src = d.dst) && decide (d.srcLen ≠ 0)

/-- Does an output of n bytes overlap the source otherwise than in place, or in place with the shift of IV_GEN (R388)? -/
def cipherOverlaps (q : Req) (n : Nat) : Bool :=
  if inPlace q.desc then q.desc.ivGen
  else
    let a := sourceSpans q
    let b := destSpans q n
    decide (a.1 = b.1) && a.2.any fun x => b.2.any (spansMeet x)

/-- The bytes that an operation writes to its destination: its output, or undefined ones under an overlap (R5, R388). -/
def cipherBytes (s : State) (q : Req) (bs : List Byte) : State × List Byte :=
  if cipherOverlaps q bs.length then (takeFree s bs.length, freeBytes s bs.length) else (s, bs)

/-- End a cipher operation with its output. -/
def cipherOut (s : State) (q : Req) (bs : List Byte) (result : Nat) : State :=
  let r := cipherBytes s q bs
  output r.1 q r.2 result

/-! ### The operation -/

/-- RESULT of a counter mode (R379, R383). -/
def cipherResult (d : Desc) (aux : List Byte) : Nat :=
  if d.opcode = 0x04 then beNat (ctrBlock (ctrBits d) (ivOf aux) (ceilDiv d.srcLen 16)) % 2 ^ 32
  else if d.opcode = 0x10 then ((field d.imm 0 32).toNat + ceilDiv d.srcLen 64) % 2 ^ 32
  else 0

/-- Additional data of an AEAD request: the AUX AAD, then the first AAD_SRC bytes of the source (R386). -/
def aadOf (q : Req) (src : List Byte) : List Byte := slice (auxOf q) 0x28 (aadLen (auxOf q)) ++ src.take q.desc.aadSrc

/-- AEAD encryption: [IV], ciphertext, tag (R378, R384). -/
def aeadSeal (s : State) (q : Req) (src : List Byte) : State :=
  let d := q.desc
  let iv := if d.ivGen then randomBytes s q 12 else ivOf (auxOf q)
  let plain := src.drop d.aadSrc
  let ct := aeadData d.opcode (keyOf q) iv plain
  cipherOut s q ((if d.ivGen then iv else []) ++ ct ++ aeadTag d.opcode d.tlen (keyOf q) iv (aadOf q src) plain ct) 0

/-- Stores that stand when a streamed decryption fails its tag: none under VBR, none of a member of a chain (R247, R390,
R392, R401). -/
def failedStores (q : Req) (xs : List Store) : List Store := if vbrLines q.desc ≠ 0 ∨ 2 ≤ q.members then [] else xs

/-- AEAD decryption (R389, R390, R392). -/
def aeadOpen (s : State) (q : Req) (src : List Byte) : State :=
  let d := q.desc
  let iv := ivOf (auxOf q)
  let ct := src.drop d.aadSrc
  let plain := aeadData (d.opcode - 1) (keyOf q) iv ct
  let r := cipherBytes s q plain
  if aeadTag (d.opcode - 1) d.tlen (keyOf q) iv (aadOf q src) plain ct = slice (auxOf q) 0x18 d.tlen then output r.1 q r.2 0
  else finish r.1 q.id 0x10 0 0 0 (failedStores q (storesOf s q r.2))

/-- Output of an opcode without a tag to compare (R378-R380, R383). -/
def modeOut (q : Req) (src : List Byte) : List Byte :=
  let d := q.desc
  let k := keyOf q
  let iv := ivOf (auxOf q)
  match d.opcode with
  | 0x04 => ctrMode (ctrBits d) k iv src
  | 0x05 | 0x06 => xtsMode d.opcode (field d.imm 0 32).toNat k iv src
  | 0x0E => stdBytes (.cipherTag 0x0E) [k, src] d.tlen
  | 0x10 => chachaMode (field d.imm 0 32).toNat k iv src
  | op => plainMode op k iv src

/-- ECB, CBC and XTS decryption expand the decryption round keys of the register, which keeps them (R396). -/
def expandDec (s : State) (q : Req) : State :=
  match q.unit with
  | some u =>
    if q.desc.opcode = 0x01 ∨ q.desc.opcode = 0x03 ∨ q.desc.opcode = 0x06 then
      setUnit s u fun x => { x with keyReg := x.keyReg.map fun k => { k with decKeys := true } }
    else s
  | none => s

/-- Does an AES_CTR request wrap its counter (R379)? -/
def ctrWraps (d : Desc) (aux : List Byte) : Bool :=
  decide (d.opcode = 0x04) && decide (2 ^ ctrBits d < beNat (ivOf aux) % 2 ^ ctrBits d + ceilDiv d.srcLen 16)

/-- A cipher request with its source: key structure, AUX rules, then the operation. A counter that wraps ends the request
as admission does, its record naming no lane (R379, assumption 32). -/
def cipherRun (s : State) (q : Req) (src : List Byte) : State :=
  let d := q.desc
  if (d.opcode = 0x05 ∨ d.opcode = 0x06) ∧ xtsHalvesEqual (keyOf q) then failReq s q.id 0x20 0x01
  else if !cipherAuxOk d (auxOf q) then failReq s q.id 0x30 0x09
  else if ctrWraps d (auxOf q) then setReq s q.id fun x => { endReq x 0x30 0x09 with started := false }
  else
    let s := expandDec (countBytes s q d.srcLen) q
    if aeadEnc d.opcode then aeadSeal s q src
    else if aeadDec d.opcode then aeadOpen s q src
    else cipherOut s q (modeOut q src) (cipherResult d (auxOf q))

/-- AES_ECB_ENC (R378). -/
def execAesEcbEnc (i : Nat) (s : State) : Host.Outcome State Fault Refusal := runOp s i 0x00 cipherRun
/-- AES_ECB_DEC (R378). -/
def execAesEcbDec (i : Nat) (s : State) : Host.Outcome State Fault Refusal := runOp s i 0x01 cipherRun
/-- AES_CBC_ENC (R378). -/
def execAesCbcEnc (i : Nat) (s : State) : Host.Outcome State Fault Refusal := runOp s i 0x02 cipherRun
/-- AES_CBC_DEC (R378). -/
def execAesCbcDec (i : Nat) (s : State) : Host.Outcome State Fault Refusal := runOp s i 0x03 cipherRun
/-- AES_CTR (R379). -/
def execAesCtr (i : Nat) (s : State) : Host.Outcome State Fault Refusal := runOp s i 0x04 cipherRun
/-- AES_XTS_ENC (R380). -/
def execAesXtsEnc (i : Nat) (s : State) : Host.Outcome State Fault Refusal := runOp s i 0x05 cipherRun
/-- AES_XTS_DEC (R380). -/
def execAesXtsDec (i : Nat) (s : State) : Host.Outcome State Fault Refusal := runOp s i 0x06 cipherRun
/-- AES_CFB_ENC (R378). -/
def execAesCfbEnc (i : Nat) (s : State) : Host.Outcome State Fault Refusal := runOp s i 0x07 cipherRun
/-- AES_CFB_DEC (R378). -/
def execAesCfbDec (i : Nat) (s : State) : Host.Outcome State Fault Refusal := runOp s i 0x08 cipherRun
/-- AES_OFB (R378). -/
def execAesOfb (i : Nat) (s : State) : Host.Outcome State Fault Refusal := runOp s i 0x09 cipherRun
/-- AES_GCM_ENC (R378, R384). -/
def execAesGcmEnc (i : Nat) (s : State) : Host.Outcome State Fault Refusal := runOp s i 0x0A cipherRun
/-- AES_GCM_DEC (R389). -/
def execAesGcmDec (i : Nat) (s : State) : Host.Outcome State Fault Refusal := runOp s i 0x0B cipherRun
/-- AES_CCM_ENC (R382). -/
def execAesCcmEnc (i : Nat) (s : State) : Host.Outcome State Fault Refusal := runOp s i 0x0C cipherRun
/-- AES_CCM_DEC (R389). -/
def execAesCcmDec (i : Nat) (s : State) : Host.Outcome State Fault Refusal := runOp s i 0x0D cipherRun
/-- AES_CMAC (R378). -/
def execAesCmac (i : Nat) (s : State) : Host.Outcome State Fault Refusal := runOp s i 0x0E cipherRun
/-- CHACHA20 (R383). -/
def execChacha20 (i : Nat) (s : State) : Host.Outcome State Fault Refusal := runOp s i 0x10 cipherRun
/-- CHACHA20_POLY1305_ENC (R383). -/
def execChacha20Poly1305Enc (i : Nat) (s : State) : Host.Outcome State Fault Refusal := runOp s i 0x11 cipherRun
/-- CHACHA20_POLY1305_DEC (R389). -/
def execChacha20Poly1305Dec (i : Nat) (s : State) : Host.Outcome State Fault Refusal := runOp s i 0x12 cipherRun

end Sys2Proof.Machine
end

