-- ==== Sys2Proof/Machine/Flr.lean ====
section
/-! DEFINITION. Function level reset and hot reset (02, 03). -/

namespace Sys2Proof.Machine

/-- The registers that a function reset returns to: the applied image's, or the chip-reset values before APPLY (R91). -/
def flrImage (s : State) : State := if s.boot.applied then imageState s else State.reset

/-- Is a stall of a function's world? -/
def ofWorld (s : State) (f : Fn) (n : StallId) : Bool := decide (worldFn s n = f)

/-- A stall's configuration returned to the image; its world, its TKR_DOMAIN and its Manger counter are kept (R91, R179,
R305, R360, R512, R560). -/
def flrStall (img old : Stall) : Stall :=
  { img with secure := old.secure, bypass := old.bypass, domain := old.domain, kekGen := old.kekGen,
             importEn := old.importEn, drbgNow := old.drbgNow, tokens := img.burst, draws := 0, vInteractive := 0, vBulk := 0,
             lastRing := Vector.replicate 7 255, resetCause := 0, aborted := [] }

/-- A ring at a function reset (R139, R266): of the function's world, to the image, or unassigned where the image gives it
to the other world; unowned, to the image's stall of the function's world; else untouched. -/
def flrRing (mine : StallId → Bool) (img old : Ring) : Ring :=
  match old.owner, img.owner with
  | some n, some m => if !mine n then old else if mine m then img else Ring.reset
  | some n, none => if mine n then img else old
  | none, some m => if mine m then img else old
  | none, none => old

/-- A function's copy of the Event Router: the image's routes, causes, messages and counters cleared (R745). -/
def flrEvents (img : EvtFn) : EvtFn :=
  { src := vmap (fun e => { e with raises := 0, bad := false, cause := false, pending := false,
                                   alarm := false, counted := 0, holding := false, since := none }) img.src,
    parity := false, parSrc := 0, msgs := 0 }

/-- A function's own state: configuration space, error log and MSI-X table reset; BRD_DMA_CTL, BRD_DB_STRAY and the IDs
kept; the function is under reset until FLR_COMPLETE (R19, R91, R140, R756). -/
def flrFn (img old : FnState) : FnState :=
  { FnState.reset old.subDevice with dataRo := old.dataRo, stray := old.stray, subVendor := old.subVendor,
                                     msix := img.msix, flr := true }

/-- The feed session at an FLR of PF1 (R429, R441). -/
def flrFeed (s : State) (f : Fn) : State :=
  match f with
  | .pf0 => s
  | .pf1 => { feedEnd s 5 with feed := Feed.reset }

/-- Requests, keys and lines of the stalls of a function's world gone, with no record (R91, R92, R555). -/
def flrWork (s : State) (f : Fn) : State :=
  let ns := (List.finRange 64).filter (ofWorld s f)
  let s := ns.foldl (fun s n => zeroStall (abortStall s n) n) s
  dropFetches s fun r => (s.rings[r].owner.map fun n => decide (n ∈ ns)).getD false

/-- A function level reset (R91, R92, R139, R140, R305, R441, R635, R745). -/
def flrDo (s : State) (f : Fn) : State :=
  let img := flrImage s
  let mine := ofWorld s f
  let s := flrFeed (flrWork s f) f
  { s with
    stalls := vmapIdx (fun n x => if mine n then flrStall img.stalls[n] x else x) s.stalls,
    rings := vmapIdx (fun r x => flrRing mine img.rings[r] x) s.rings,
    link := { s.link with pwb := s.link.pwb.filter fun w => decide (w.fn ≠ f) },
    fns := upd s.fns (fnIx f) (flrFn img.fns[fnIx f]),
    mrb := { s.mrb with buf := s.mrb.buf.set (fnIx f) none },
    evt := { s.evt with fns := upd s.evt.fns (fnIx f) fun _ => flrEvents img.evt.fns[fnIx f] } }

/-- FLR (R139, R140): a configuration write; retried before configuration space opens and under an FLR. -/
def execFlr (f : Fn) (s : State) : Host.Outcome State Fault Refusal :=
  if !s.boot.cfgOpen || (fnState s f).flr then .next (answer s .retry) else .next (answer (flrDo s f) .ok)

/-- FLR_COMPLETE (R140, R141): no transaction of the function is pending any more. -/
def execFlrComplete (f : Fn) (s : State) : Host.Outcome State Fault Refusal :=
  if !(fnState s f).flr then .next s else
  let s := setFn s f fun x => { x with flr := false }
  .next (pumpReads { s with link := { s.link with reads := s.link.reads.filter fun r => decide (r.fn ≠ f) } })

/-- HOT_RESET (R142, R154): the link goes down; both functions are reset, and HS81 is raised. RATE and WIDTH keep their last
values while the link is down (R157; assumption 71). -/
def execHotReset (s : State) : Host.Outcome State Fault Refusal :=
  if !s.link.up then .next s else
  let s := flrDo (flrDo { s with link := { s.link with up := false, lost := true } } .pf0) .pf1
  .next (settle (raiseHs s 81 none))

end Sys2Proof.Machine
end

