-- ==== Sys2Proof/Machine/Jtag.lean ====
section
/-! DEFINITION. The TAP's instructions for boundary scan and identification (20). -/

namespace Sys2Proof.Machine

/-- An instruction selected that leaves the pins alone. -/
def tapSelect (s : State) (code : Byte) : State :=
  { s with jtag := { s.jtag with ir := code, pinsHeld := false, pinsHighZ := false } }

/-- IDCODE (R760, R779). -/
def execIdcode (s : State) : Host.Outcome State Fault Refusal :=
  .next (if tapActs s then answer (tapSelect s 0x01) (.value 0x16448A5B) else s)

/-- EXTEST (R768, R779): the scan register captures the pins and, in board test, drives them. -/
def execExtest (pins scan : BitVec 58) (s : State) : Host.Outcome State Fault Refusal :=
  if !s.boot.testMode then .next (tapBypass s 0x00)
  else if !tapActs s then .next s
  else .next (answer { s with jtag := { s.jtag with ir := 0x00, scan := scan, pinsHeld := true, pinsHighZ := false } }
    (.value (pins.setWidth 64)))

/-- SAMPLE/PRELOAD (R779): the pins are captured and the scan register loaded. -/
def execSamplePreload (pins scan : BitVec 58) (s : State) : Host.Outcome State Fault Refusal :=
  .next (if tapActs s then
    answer { s with jtag := { s.jtag with ir := 0x02, scan := scan, pinsHeld := false, pinsHighZ := false } } (.value (pins.setWidth 64))
    else s)

/-- HIGHZ (R768, R779). -/
def execHighz (s : State) : Host.Outcome State Fault Refusal :=
  if !s.boot.testMode then .next (tapBypass s 0x03)
  else if !tapActs s then .next s
  else .next (answer { s with jtag := { s.jtag with ir := 0x03, pinsHeld := false, pinsHighZ := true } } .ok)

/-- CLAMP (R768, R779): the scan register holds the pins. -/
def execClamp (s : State) : Host.Outcome State Fault Refusal :=
  if !s.boot.testMode then .next (tapBypass s 0x04)
  else if !tapActs s then .next s
  else .next (answer { s with jtag := { s.jtag with ir := 0x04, pinsHeld := true, pinsHighZ := false } } .ok)

/-- The codes of the other instructions (R779). -/
def tapCodes : List Byte := [0x00, 0x01, 0x02, 0x03, 0x04, 0x20, 0x21, 0x22]

/-- BYPASS (R779): its own code and every unlisted one; a listed code has a command of its own, and is taken as 0xFF. -/
def execBypass (code : Byte) (s : State) : Host.Outcome State Fault Refusal :=
  .next (tapBypass s (if code ∈ tapCodes then 0xFF else code))

/-- TAP_RESET (R778, R780): IDCODE selected, the pins released; an armed nonce stays armed. -/
def execTapReset (s : State) : Host.Outcome State Fault Refusal := .next (if tapActs s then tapSelect s 0x01 else s)

end Sys2Proof.Machine
end

