-- ==== Sys2Proof/Machine/Link.lean ====
section
/-! DEFINITION. The host link and the I2C management target (03). -/

namespace Sys2Proof.Machine

/-! ### Configuration requests and power states (R75, R108-R112, R132, R137, R143) -/

/-- Identity of a function: vendor, device, revision, class (R111). -/
def idWord (f : Fn) : BitVec 64 :=
  place 0 (0x1E9B#16) ||| place 16 (match f with | .pf0 => 0x6448#16 | .pf1 => 0x6449#16) ||| place 32 (0xB0#8) |||
  place 40 (0x108000#24)

/-- AER registers of a function in the model's bit order: uncorrectable, correctable from bit 16, severity from bit 32. -/
def aerWord (x : FnState) : BitVec 64 := place 0 x.aerUnc ||| place 16 x.aerCor ||| place 32 x.aerSev

/-- Does a function carry a capability (R108, R112)? -/
def carries (f : Fn) : Cap → Bool
  | .powerManagement | .pciExpress | .msix | .aer | .pasid => true
  | .ltr => match f with
    | .pf0 => true
    | .pf1 => false
  | .msi | .srIov | .ats | .pri | .ide | .tph | .resizableBar | .vpd | .l1PmSubstates => false

/-- Link features (R108), in the model's bit order: rates 2.5 to 32.0 GT/s from bit 0, largest width 8 from bit 8, ASPM L0s
at bit 16 and L1 at bit 17. -/
def linkCaps : BitVec 64 := place 0 (0x1F#5) ||| place 8 (8#6) ||| flag 16 false ||| flag 17 true

/-- Device features (R108, R137), in the model's bit order: largest payload 512 bytes from bit 0, 10-bit tag requester at bit
3, Function Level Reset at bit 4, timeout ranges supported from bit 5, timeout disable at bit 9; ECRC, ID-Based Ordering,
No-Snoop and Atomic Operations from bit 16. -/
def deviceCaps : BitVec 64 :=
  place 0 (2#3) ||| flag 3 true ||| flag 4 true ||| place 5 (1#4) ||| flag 9 false ||| place 16 (0#4)

/-- PASID features (R108): width 20 from bit 0; Execute at bit 8, Privileged Mode at bit 9. -/
def pasidCaps : BitVec 64 := place 0 (20#5) ||| flag 8 false ||| flag 9 false

/-- MSI-X features of a function (R131): Table Size from bit 0, table offset and BIR from bit 16, Pending Bit Array offset
and BIR from bit 40. -/
def msixCaps (f : Fn) : BitVec 64 :=
  place 0 (match f with | .pf0 => 1023#11 | .pf1 => 255#11) ||| place 16 (0xF0000#20 ||| 0#20) ||| place 40 (0xF8000#20 ||| 0#20)

/-- Transactions Pending of a function: a host read outstanding (R141). -/
def transPending (s : State) (f : Fn) : Bool := s.link.reads.any fun r => decide (r.fn = f)

/-- The control fields of a function, in the model's bit order (R108, R123, R132, R137, R143). -/
def controls (x : FnState) : BitVec 64 :=
  flag 0 x.msixEnable ||| flag 1 x.functionMask ||| flag 2 x.pasidEnable ||| flag 3 x.roEnable ||| flag 4 x.tag10 |||
  place 8 x.cto ||| place 12 x.mrrs ||| place 16 x.mps ||| flag 20 x.fatalEn ||| flag 21 x.d3hot

/-- Address bits that a BAR register holds: 1 MiB for BAR0 and BAR2, 256 MiB for BAR4 of PF0, none where it is not
implemented (R113). -/
def barMask (f : Fn) (i : Fin 6) : BitVec 32 :=
  match i, f with
  | 0, _ | 2, _ => 0xFFF00000
  | 1, _ | 3, _ => 0xFFFFFFFF
  | 4, .pf0 => 0xF0000000
  | 5, .pf0 => 0xFFFFFFFF
  | 4, .pf1 | 5, .pf1 => 0

/-- Type bits of a BAR register: 64-bit, and prefetchable for BAR4 (R113). -/
def barType (f : Fn) (i : Fin 6) : BitVec 32 :=
  match i, f with
  | 0, _ | 2, _ => 0x4
  | 4, .pf0 => 0xC
  | _, _ => 0

/-- What an open configuration request does. -/
def configDo (s : State) (f : Fn) (op : CfgOp) : State :=
  let x := fnState s f
  let put (g : FnState → FnState) : State := answer (setFn s f g) .ok
  match op with
  | .readIds => answer s (.value (idWord f))
  | .readMultiFunction => answer s (.value 1)
  | .readCapability c => answer s (.value (flag 0 (carries f c)))
  | .readLinkCaps => answer s (.value linkCaps)
  | .readDeviceCaps => answer s (.value deviceCaps)
  | .readDeviceStatus => answer s (.value (flag 5 (transPending s f)))
  | .readPasidCaps => answer s (.value pasidCaps)
  | .readMsixCaps => answer s (.value (msixCaps f))
  | .readControls => answer s (.value (controls x))
  | .readBar i => answer s (.value (place 0 (x.bars[i] ||| barType f i)))
  | .writeBar i v => put fun x => { x with bars := x.bars.set i (v &&& barMask f i) }
  | .readSubsystem => answer s (.value (place 0 x.subVendor ||| place 16 x.subDevice))
  | .readAer => answer s (.value (aerWord x))
  | .setMsixEnable v => noteAllEv (put fun x => { x with msixEnable := v })
  | .setFunctionMask v => noteAllEv (put fun x => { x with functionMask := v })
  | .setPasidEnable v => put fun x => { x with pasidEnable := v }
  | .setRelaxedOrdering v => put fun x => { x with roEnable := v }
  | .setTag10 v => put fun x => { x with tag10 := v }
  | .setCompletionTimeout v => put fun x => { x with cto := v }
  | .setMaxRead v => put fun x => { x with mrrs := v }
  | .setMaxPayload v => put fun x => { x with mps := v }
  | .setFatalReporting v => put fun x => { x with fatalEn := v }
  | .setSeverity v => put fun x => { x with aerSev := v }
  | .clearAer u c => put fun x => { x with aerUnc := x.aerUnc &&& ~~~ u, aerCor := x.aerCor &&& ~~~ c }

/-- Is a configuration request answered with Retry (R75, R140)? -/
def cfgRetry (s : State) (f : Fn) : Bool := !s.boot.cfgOpen || (fnState s f).flr

/-- CONFIG_REQUEST (R75, R140). -/
def execConfigRequest (f : Fn) (op : CfgOp) (s : State) : Host.Outcome State Fault Refusal :=
  .next (if cfgRetry s f then answer s .retry else configDo s f op)

/-- D3HOT_ENTRY (R143). -/
def execD3hotEntry (f : Fn) (s : State) : Host.Outcome State Fault Refusal :=
  .next (if cfgRetry s f then answer s .retry else noteAllEv (answer (setFn s f fun x => { x with d3hot := true }) .ok))

/-- D0_RETURN (R143): rings resume, and messages that waited for D0 become eligible (R132). -/
def execD0Return (f : Fn) (s : State) : Host.Outcome State Fault Refusal :=
  .next (if cfgRetry s f then answer s .retry else noteAllEv (answer (setFn s f fun x => { x with d3hot := false }) .ok))

/-! ### The link (R79, R114, R135, R153, R157) -/

/-- Is a link rate and width one that the Bridle supports (R108, R157)? It trains to no other. -/
def linkMode (rate width : BitVec 4) : Bool :=
  decide (1 ≤ rate.toNat ∧ rate.toNat ≤ 5) && decide (width = 1 ∨ width = 2 ∨ width = 4 ∨ width = 8)

/-- LINK_UP (R79, R90, R142, R157): the data link becomes active, from the end of RESET on; after a Hot Reset or a link-down
event this is a retrain (assumption 71). -/
def execLinkUp (rate width : BitVec 4) (s : State) : Host.Outcome State Fault Refusal :=
  if s.link.up ∨ s.boot.phase = .reset ∨ !linkMode rate width then .next s
  else .next { s with link := { s.link with up := true, rate := rate, width := width, lost := false,
                                            retrains := if s.link.lost then satInc s.link.retrains else s.link.retrains } }

/-- LINK_RETRAIN (R153, R157): nothing in flight is lost. -/
def execLinkRetrain (rate width : BitVec 4) (s : State) : Host.Outcome State Fault Refusal :=
  if !s.link.up ∨ !linkMode rate width then .next s
  else .next { s with link := { s.link with rate := rate, width := width, retrains := satInc s.link.retrains } }

/-- AER bit of an uncorrectable link error. -/
def linkBit : LinkErr → Nat
  | .dataLinkProtocol => 0
  | .flowControl => 2
  | .receiverOverflow => 6
  | _ => 7

/-- AER bit of a correctable link error. -/
def linkCor : LinkErr → Option Nat
  | .receiver => some 0
  | .badTlp => some 1
  | .badDllp => some 2
  | .replayRollover => some 3
  | .replayTimeout => some 4
  | _ => none

/-- LINK_PROTOCOL_ERROR (R135, R154): logged on both functions; HS81 for those that are fatal by default. -/
def execLinkProtocolError (e : LinkErr) (s : State) : Host.Outcome State Fault Refusal :=
  match linkCor e with
  | some i => .next (setAerCor (setAerCor s .pf0 i) .pf1 i)
  | none => .next (settle (raiseHs (setAer2 s (linkBit e)) 81 none))

/-- BAR_ACCESS_MALFORMED (R114): ignored, or read as 0, without error. -/
def execBarAccessMalformed (f : Fn) (isWrite : Bool) (s : State) : Host.Outcome State Fault Refusal :=
  .next (gateBar s f fun s => answer s (if isWrite then .ok else .value 0))

/-- UNSUPPORTED_REQUEST (R135). -/
def execUnsupportedRequest (f : Fn) (s : State) : Host.Outcome State Fault Refusal :=
  .next (answer (setAer s f 8) .unsupported)

/-- The oldest write of a function, and the buffer without it (R614). -/
def takeOldest (f : Fn) : List Pw → Option (Pw × List Pw)
  | [] => none
  | w :: t => if w.fn = f then some (w, t) else (takeOldest f t).map fun x => (x.1, w :: x.2)

/-- POSTED_WRITE_SEND (R140, R262, R614): the oldest write of a function goes on the link, and reads that waited for it may
follow; none under FLR. -/
def execPostedWriteSend (f : Fn) (s : State) : Host.Outcome State Fault Refusal :=
  if (fnState s f).flr then .next s else
  match takeOldest f s.link.pwb with
  | some (w, t) => .next (pumpReads (emit { s with link := { s.link with pwb := t } } (.write w)))
  | none => .next s

/-- PWB_STALL_TIMEOUT (R634): the buffer holds its contents. -/
def execPwbStallTimeout (s : State) : Host.Outcome State Fault Refusal :=
  if s.link.pwb.isEmpty then .next s
  else .next (settle (raiseHs { s with link := { s.link with pwbStalled := true } } 81 none))

/-- Does any enabled ring hold work (R125): descriptors between HEAD and TAIL (assumption 72)? -/
def ringsWork (s : State) : Bool := s.rings.toList.any fun r => r.enable && decide (r.head ≠ r.tail)

/-- LTR_SEND (R112, R125): the active value while a ring holds work; the idle value with no work and no DMA. -/
def execLtrSend (s : State) : Host.Outcome State Fault Refusal :=
  if ringsWork s then .next (emit s (.ltr s.link.ltrActive))
  else if s.link.reads.isEmpty && s.link.pwb.isEmpty then .next (emit s (.ltr s.link.ltrIdle))
  else .next s

/-- BRD_STOP_CTL_RESUME (R151): a write with RESUME 1. -/
def execBrdStopCtlResume (f : Fn) (v : BitVec 32) (s : State) : Host.Outcome State Fault Refusal :=
  .next (gateW s f fun s => wrStopCtl s f (v.setWidth 64 ||| 1))

/-- GRACEFUL_STOP_STOPPED (R150). -/
def execGracefulStopStopped (s : State) : Host.Outcome State Fault Refusal := .next (settle (stopEnd s))

/-! ### The I2C target (R144-R149) -/

/-- Does the target answer its address (R152)? -/
def i2cActs (s : State) : Bool := s.boot.powered && decide (s.boot.phase ≠ .reset)

/-- The target's 7-bit address (R144). -/
def i2cAddress (s : State) : Byte := 0b01011000 + s.boot.i2cAddr.setWidth 8

/-- The bytes of a read: the response, its error code as the byte beyond it, then 0xFF (R145, R146). -/
def i2cBytes (s : State) (cmd : Byte) (resp : List Byte) (reads : Nat) : List Byte :=
  let a := i2cAddress s
  let pec := crc8 ([a <<< 1, cmd, (a <<< 1) ||| 1] ++ resp)
  (resp ++ [pec] ++ List.replicate reads 0xFF).take reads

/-- A read command: data bytes written after its command byte are not acknowledged (R147). -/
def i2cRead (s : State) (x : I2cRead) (cmd : Byte) (resp : List Byte) : Host.Outcome State Fault Refusal :=
  .next (answer s (if i2cActs s ∧ x.written = 0 then .bytes (i2cBytes s cmd resp x.reads) else .nak))

/-- I2C_ID (R147). -/
def execI2cId (x : I2cRead) (s : State) : Host.Outcome State Fault Refusal :=
  i2cRead s x 0x00 (leBytes 2 0x1E9B ++ leBytes 2 0x6448 ++ [0xB0, 0x01, i2cAddress s, 0])

/-- I2C_STATE (R147). -/
def execI2cState (x : I2cRead) (s : State) : Host.Outcome State Fault Refusal :=
  i2cRead s x 0x10 [if s.tkr.sensed then BitVec.ofNat 8 (lcCode s) else 0xFF, if s.tkr.debugOpen then 1 else 0,
                  if s.boot.keysLocked then 1 else 0, (phaseCode s.boot.phase).setWidth 8]

/-- The latched status, HS0 in bit 0 of byte 0. -/
def latchedMask (s : State) : BitVec 96 := maskOf fun k => s.hlt.src[k].latch

/-- I2C_HALTER (R147). -/
def execI2cHalter (x : I2cRead) (s : State) : Host.Outcome State Fault Refusal :=
  i2cRead s x 0x20 (leBytes 12 (latchedMask s).toNat ++ [BitVec.ofNat 8 (maxSev s), if s.hlt.safe then 1 else 0, 0, 0])

/-- I2C_TELEMETRY (R147, R148). -/
def execI2cTelemetry (x : I2cRead) (s : State) : Host.Outcome State Fault Refusal :=
  let l := s.link
  i2cRead s x 0x30 (leBytes 2 l.telTemp.toNat ++ leBytes 2 l.telVdd.toNat ++ leBytes 2 l.telPower.toNat ++
    [l.telClk, l.telThrottle] ++ leBytes 2 l.telStalls.toNat ++ [0, 0])

/-- I2C_STOP_STATE (R147). -/
def execI2cStopState (x : I2cRead) (s : State) : Host.Outcome State Fault Refusal :=
  i2cRead s x 0x81 [s.link.stopState.setWidth 8]

/-- I2C_STOP (R149): accepted with exactly the bytes 0x53 and 0x54; acknowledged in every case. -/
def execI2cStop (data : List Byte) (s : State) : Host.Outcome State Fault Refusal :=
  if !i2cActs s then .next (answer s .nak)
  else .next (answer (if data = [0x53, 0x54] then stopAccept s else s) .ok)

/-- The command codes of R147. -/
def i2cCodes : List Byte := [0x00, 0x10, 0x20, 0x30, 0x80, 0x81]

/-- I2C_UNKNOWN_COMMAND (R147): not acknowledged. -/
def execI2cUnknownCommand (code : Byte) (s : State) : Host.Outcome State Fault Refusal :=
  .next (answer s (if i2cActs s ∧ code ∈ i2cCodes then .ok else .nak))

/-- Stalls with a ring enabled. -/
def busyStalls (s : State) : Nat := ((List.finRange 64).filter fun n => (stallRings s n).any fun r => s.rings[r].enable).length

/-- TELEMETRY_REFRESH (R148). -/
def execTelemetryRefresh (vddMv powerMw : BitVec 16) (s : State) : Host.Outcome State Fault Refusal :=
  if !i2cActs s then .next s else
  .next { s with link := { s.link with telTemp := s.tmp.temp, telVdd := vddMv, telPower := powerMw,
                                       telClk := s.boot.clkRate.setWidth 8, telThrottle := s.pwr.level.setWidth 8,
                                       telStalls := BitVec.ofNat 16 (busyStalls s) } }

end Sys2Proof.Machine
end

