-- ==== Sys2Proof/Machine/Dispatch.lean ====
section
/-! DEFINITION. One arm for each command of the table: a direct call of its meaning. -/

namespace Sys2Proof.Machine

/-- What a command does to everything but the queue, by the rule its meaning names. -/
def exec (i : Instr) (s : State) : Host.Outcome State Fault Refusal :=
  match i with
  | .powerOnReset i2cAddr refclkSel testMode imgSel => Sys2Proof.Machine.execPowerOnReset i2cAddr refclkSel testMode imgSel s
  | .perstNAssert => Sys2Proof.Machine.execPerstNAssert s
  | .perstNDeassert imgSel => Sys2Proof.Machine.execPerstNDeassert imgSel s
  | .cfgSwReset fn value => Sys2Proof.Machine.execCfgSwReset fn value s
  | .chipReset perst halter software imgSel => Sys2Proof.Machine.execChipReset perst halter software imgSel s
  | .resetPhaseEnd => Sys2Proof.Machine.execResetPhaseEnd s
  | .otpPhaseEnd => Sys2Proof.Machine.execOtpPhaseEnd s
  | .pllLock => Sys2Proof.Machine.execPllLock s
  | .pllLockTimeout => Sys2Proof.Machine.execPllLockTimeout s
  | .preloadTestEnd halterOk mrbOk ms0Ok sfdp => Sys2Proof.Machine.execPreloadTestEnd halterOk mrbOk ms0Ok sfdp s
  | .loadPhaseEnd copyA copyB bnuPass => Sys2Proof.Machine.execLoadPhaseEnd copyA copyB bnuPass s
  | .applyPhaseEnd => Sys2Proof.Machine.execApplyPhaseEnd s
  | .memoryPhaseEnd tablesOk badSram => Sys2Proof.Machine.execMemoryPhaseEnd tablesOk badSram s
  | .selfTestPhaseEnd failed => Sys2Proof.Machine.execSelfTestPhaseEnd failed s
  | .rootGen readbackOk => Sys2Proof.Machine.execRootGen readbackOk s
  | .heldEntry => Sys2Proof.Machine.execHeldEntry s
  | .readyEntry => Sys2Proof.Machine.execReadyEntry s
  | .cfgBootCtlRelease fn value => Sys2Proof.Machine.execCfgBootCtlRelease fn value s
  | .configRequest fn op => Sys2Proof.Machine.execConfigRequest fn op s
  | .flr fn => Sys2Proof.Machine.execFlr fn s
  | .flrComplete fn => Sys2Proof.Machine.execFlrComplete fn s
  | .hotReset => Sys2Proof.Machine.execHotReset s
  | .linkRetrain rate width => Sys2Proof.Machine.execLinkRetrain rate width s
  | .d3hotEntry fn => Sys2Proof.Machine.execD3hotEntry fn s
  | .d0Return fn => Sys2Proof.Machine.execD0Return fn s
  | .barAccessMalformed fn isWrite => Sys2Proof.Machine.execBarAccessMalformed fn isWrite s
  | .unsupportedRequest fn => Sys2Proof.Machine.execUnsupportedRequest fn s
  | .brdDbTailWrite fn ring value => Sys2Proof.Machine.execBrdDbTailWrite fn ring value s
  | .alarmTokenRefill => Sys2Proof.Machine.execAlarmTokenRefill s
  | .descriptorFetchIssue ring => Sys2Proof.Machine.execDescriptorFetchIssue ring s
  | .hostReadCompletion rd ans => Sys2Proof.Machine.execHostReadCompletion rd ans s
  | .completionTimeout rd => Sys2Proof.Machine.execCompletionTimeout rd s
  | .lateCompletion rd => Sys2Proof.Machine.execLateCompletion rd s
  | .fetchErrClear fn ring value => Sys2Proof.Machine.execFetchErrClear fn ring value s
  | .chainOverlengthReject ring => Sys2Proof.Machine.execChainOverlengthReject ring s
  | .candidateAdmission ring => Sys2Proof.Machine.execCandidateAdmission ring s
  | .blobUnwrapDone req coresAgree => Sys2Proof.Machine.execBlobUnwrapDone req coresAgree s
  | .preemptSuspend unit => Sys2Proof.Machine.execPreemptSuspend unit s
  | .suspendedResume unit => Sys2Proof.Machine.execSuspendedResume unit s
  | .chainMemberStart req => Sys2Proof.Machine.execChainMemberStart req s
  | .coopHoldComplete => Sys2Proof.Machine.execCoopHoldComplete s
  | .coopHoldTimeout => Sys2Proof.Machine.execCoopHoldTimeout s
  | .katDue pool => Sys2Proof.Machine.execKatDue pool s
  | .katStart unit => Sys2Proof.Machine.execKatStart unit s
  | .katEnd unit pass => Sys2Proof.Machine.execKatEnd unit pass s
  | .unitFaultCheckFail unit cause => Sys2Proof.Machine.execUnitFaultCheckFail unit cause s
  | .requestComplete req => Sys2Proof.Machine.execRequestComplete req s
  | .headRecordWrite ring => Sys2Proof.Machine.execHeadRecordWrite ring s
  | .intermediateZeroise chain => Sys2Proof.Machine.execIntermediateZeroise chain s
  | .vbrRelease req => Sys2Proof.Machine.execVbrRelease req s
  | .vbrLinesZeroise req => Sys2Proof.Machine.execVbrLinesZeroise req s
  | .coopLinesZeroise req => Sys2Proof.Machine.execCoopLinesZeroise req s
  | .protFenceDone => Sys2Proof.Machine.execProtFenceDone s
  | .aesEcbEnc req => Sys2Proof.Machine.execAesEcbEnc req s
  | .aesEcbDec req => Sys2Proof.Machine.execAesEcbDec req s
  | .aesCbcEnc req => Sys2Proof.Machine.execAesCbcEnc req s
  | .aesCbcDec req => Sys2Proof.Machine.execAesCbcDec req s
  | .aesCtr req => Sys2Proof.Machine.execAesCtr req s
  | .aesXtsEnc req => Sys2Proof.Machine.execAesXtsEnc req s
  | .aesXtsDec req => Sys2Proof.Machine.execAesXtsDec req s
  | .aesCfbEnc req => Sys2Proof.Machine.execAesCfbEnc req s
  | .aesCfbDec req => Sys2Proof.Machine.execAesCfbDec req s
  | .aesOfb req => Sys2Proof.Machine.execAesOfb req s
  | .aesGcmEnc req => Sys2Proof.Machine.execAesGcmEnc req s
  | .aesGcmDec req => Sys2Proof.Machine.execAesGcmDec req s
  | .aesCcmEnc req => Sys2Proof.Machine.execAesCcmEnc req s
  | .aesCcmDec req => Sys2Proof.Machine.execAesCcmDec req s
  | .aesCmac req => Sys2Proof.Machine.execAesCmac req s
  | .chacha20 req => Sys2Proof.Machine.execChacha20 req s
  | .chacha20Poly1305Enc req => Sys2Proof.Machine.execChacha20Poly1305Enc req s
  | .chacha20Poly1305Dec req => Sys2Proof.Machine.execChacha20Poly1305Dec req s
  | .hash req => Sys2Proof.Machine.execHash req s
  | .hashFrag req => Sys2Proof.Machine.execHashFrag req s
  | .xof req => Sys2Proof.Machine.execXof req s
  | .hmac req => Sys2Proof.Machine.execHmac req s
  | .hmacFrag req => Sys2Proof.Machine.execHmacFrag req s
  | .kmac req => Sys2Proof.Machine.execKmac req s
  | .kmacXof req => Sys2Proof.Machine.execKmacXof req s
  | .mrExtend req => Sys2Proof.Machine.execMrExtend req s
  | .modexp req => Sys2Proof.Machine.execModexp req s
  | .rsaPrivCrt req => Sys2Proof.Machine.execRsaPrivCrt req s
  | .rsaPub req => Sys2Proof.Machine.execRsaPub req s
  | .ecdsaSign req => Sys2Proof.Machine.execEcdsaSign req s
  | .ecdsaVerify req => Sys2Proof.Machine.execEcdsaVerify req s
  | .ecdh run => Sys2Proof.Machine.execEcdh run s
  | .ecKeygen run => Sys2Proof.Machine.execEcKeygen run s
  | .eddsaSign req => Sys2Proof.Machine.execEddsaSign req s
  | .eddsaVerify req => Sys2Proof.Machine.execEddsaVerify req s
  | .xdh run => Sys2Proof.Machine.execXdh run s
  | .mlkemKeygen run => Sys2Proof.Machine.execMlkemKeygen run s
  | .mlkemEncaps run => Sys2Proof.Machine.execMlkemEncaps run s
  | .mlkemDecaps run => Sys2Proof.Machine.execMlkemDecaps run s
  | .mldsaKeygen run => Sys2Proof.Machine.execMldsaKeygen run s
  | .mldsaSign req => Sys2Proof.Machine.execMldsaSign req s
  | .mldsaVerify req => Sys2Proof.Machine.execMldsaVerify req s
  | .modop req => Sys2Proof.Machine.execModop req s
  | .coopModexp req => Sys2Proof.Machine.execCoopModexp req s
  | .rngGet req => Sys2Proof.Machine.execRngGet req s
  | .rngReseed req => Sys2Proof.Machine.execRngReseed req s
  | .rngRaw req => Sys2Proof.Machine.execRngRaw req s
  | .blobWrap req coresAgree => Sys2Proof.Machine.execBlobWrap req coresAgree s
  | .blobUnwrap req => Sys2Proof.Machine.execBlobUnwrap req s
  | .keyDerive req coresAgree => Sys2Proof.Machine.execKeyDerive req coresAgree s
  | .keyGenerate req coresAgree => Sys2Proof.Machine.execKeyGenerate req coresAgree s
  | .kstateLoad req => Sys2Proof.Machine.execKstateLoad req s
  | .kstateDrop req => Sys2Proof.Machine.execKstateDrop req s
  | .tallyBind req => Sys2Proof.Machine.execTallyBind req s
  | .keyImport req coresAgree => Sys2Proof.Machine.execKeyImport req coresAgree s
  | .copy req => Sys2Proof.Machine.execCopy req s
  | .fill req => Sys2Proof.Machine.execFill req s
  | .flush req => Sys2Proof.Machine.execFlush req s
  | .tally64Add req => Sys2Proof.Machine.execTally64Add req s
  | .tally64Read req => Sys2Proof.Machine.execTally64Read req s
  | .lineadd req => Sys2Proof.Machine.execLineadd req s
  | .fence req => Sys2Proof.Machine.execFence req s
  | .nop req => Sys2Proof.Machine.execNop req s
  | .bar4Access offset acc => Sys2Proof.Machine.execBar4Access offset acc s
  | .stlCmdEnable fn stall => Sys2Proof.Machine.execStlCmdEnable fn stall s
  | .stlCmdQuiesce fn stall => Sys2Proof.Machine.execStlCmdQuiesce fn stall s
  | .quiesceComplete stall => Sys2Proof.Machine.execQuiesceComplete stall s
  | .stlCmdResume fn stall => Sys2Proof.Machine.execStlCmdResume fn stall s
  | .stlCmdReset fn stall => Sys2Proof.Machine.execStlCmdReset fn stall s
  | .stlCmdRelease fn stall => Sys2Proof.Machine.execStlCmdRelease fn stall s
  | .stlCmdInvalid fn stall cmd => Sys2Proof.Machine.execStlCmdInvalid fn stall cmd s
  | .stallResetEnd stall => Sys2Proof.Machine.execStallResetEnd stall s
  | .stlRingAdd fn stall value => Sys2Proof.Machine.execStlRingAdd fn stall value s
  | .stlRingRemove fn stall value => Sys2Proof.Machine.execStlRingRemove fn stall value s
  | .stlPasidWrite fn stall k value => Sys2Proof.Machine.execStlPasidWrite fn stall k value s
  | .stlWorldWrite fn stall value => Sys2Proof.Machine.execStlWorldWrite fn stall value s
  | .stlMgrLinesWrite fn stall value => Sys2Proof.Machine.execStlMgrLinesWrite fn stall value s
  | .capacityEviction stall => Sys2Proof.Machine.execCapacityEviction stall s
  | .stlStatusRead fn stall => Sys2Proof.Machine.execStlStatusRead fn stall s
  | .drbgRateWindow => Sys2Proof.Machine.execDrbgRateWindow s
  | .dspRingEnable fn ring value => Sys2Proof.Machine.execDspRingEnable fn ring value s
  | .dspRingDisable fn ring value => Sys2Proof.Machine.execDspRingDisable fn ring value s
  | .dspRingCfgWrite fn ring reg value => Sys2Proof.Machine.execDspRingCfgWrite fn ring reg value s
  | .dspAlarmTbWrite fn stall value => Sys2Proof.Machine.execDspAlarmTbWrite fn stall value s
  | .pdkEpochCommit fn => Sys2Proof.Machine.execPdkEpochCommit fn s
  | .heldCommitApply => Sys2Proof.Machine.execHeldCommitApply s
  | .stagedRefillEnd => Sys2Proof.Machine.execStagedRefillEnd s
  | .pdkEpochDiscard fn => Sys2Proof.Machine.execPdkEpochDiscard fn s
  | .pkEntryWrite fn k word value => Sys2Proof.Machine.execPkEntryWrite fn k word value s
  | .pdkProtFenceWrite fn value => Sys2Proof.Machine.execPdkProtFenceWrite fn value s
  | .i2cId x => Sys2Proof.Machine.execI2cId x s
  | .i2cState x => Sys2Proof.Machine.execI2cState x s
  | .i2cHalter x => Sys2Proof.Machine.execI2cHalter x s
  | .i2cTelemetry x => Sys2Proof.Machine.execI2cTelemetry x s
  | .i2cStop data => Sys2Proof.Machine.execI2cStop data s
  | .i2cStopState x => Sys2Proof.Machine.execI2cStopState x s
  | .i2cUnknownCommand code => Sys2Proof.Machine.execI2cUnknownCommand code s
  | .telemetryRefresh vddMv powerMw => Sys2Proof.Machine.execTelemetryRefresh vddMv powerMw s
  | .gracefulStopStopped => Sys2Proof.Machine.execGracefulStopStopped s
  | .brdStopCtlResume fn value => Sys2Proof.Machine.execBrdStopCtlResume fn value s
  | .ltrSend => Sys2Proof.Machine.execLtrSend s
  | .msixUnmask fn vector => Sys2Proof.Machine.execMsixUnmask fn vector s
  | .lowHalfWrite fn offset value => Sys2Proof.Machine.execLowHalfWrite fn offset value s
  | .highHalfWrite fn offset value => Sys2Proof.Machine.execHighHalfWrite fn offset value s
  | .lowHalfRead fn page offset wide => Sys2Proof.Machine.execLowHalfRead fn page offset wide s
  | .registerWrite fn page offset wide value => Sys2Proof.Machine.execRegisterWrite fn page offset wide value s
  | .tkrProgGo fn w => Sys2Proof.Machine.execTkrProgGo fn w s
  | .slotProgramDone readbackOk => Sys2Proof.Machine.execSlotProgramDone readbackOk s
  | .tkrLcTakeOwnership fn value => Sys2Proof.Machine.execTkrLcTakeOwnership fn value s
  | .tkrLcRetire fn value => Sys2Proof.Machine.execTkrLcRetire fn value s
  | .lcTransitionEnd readbackOk => Sys2Proof.Machine.execLcTransitionEnd readbackOk s
  | .tkrLcCmdInvalid fn value => Sys2Proof.Machine.execTkrLcCmdInvalid fn value s
  | .tkrDomainWrite fn stall value => Sys2Proof.Machine.execTkrDomainWrite fn stall value s
  | .tkrCtlWrite fn value => Sys2Proof.Machine.execTkrCtlWrite fn value s
  | .keyIdleExpiry unit => Sys2Proof.Machine.execKeyIdleExpiry unit s
  | .storeWaitExpiry req => Sys2Proof.Machine.execStoreWaitExpiry req s
  | .dbgNonce updateDr => Sys2Proof.Machine.execDbgNonce updateDr s
  | .dbgResponse response => Sys2Proof.Machine.execDbgResponse response s
  | .dbgState => Sys2Proof.Machine.execDbgState s
  | .idcode => Sys2Proof.Machine.execIdcode s
  | .extest pins scan => Sys2Proof.Machine.execExtest pins scan s
  | .samplePreload pins scan => Sys2Proof.Machine.execSamplePreload pins scan s
  | .highz => Sys2Proof.Machine.execHighz s
  | .clamp => Sys2Proof.Machine.execClamp s
  | .bypass code => Sys2Proof.Machine.execBypass code s
  | .tapReset => Sys2Proof.Machine.execTapReset s
  | .noiseHealthFail src samples => Sys2Proof.Machine.execNoiseHealthFail src samples s
  | .freqMonitorWindow src samples edges => Sys2Proof.Machine.execFreqMonitorWindow src samples edges s
  | .startupTestEnd src samples => Sys2Proof.Machine.execStartupTestEnd src samples s
  | .entSrcRetest fn src value => Sys2Proof.Machine.execEntSrcRetest fn src value s
  | .entSrcPolicyWrite fn src value => Sys2Proof.Machine.execEntSrcPolicyWrite fn src value s
  | .seedReady src samples => Sys2Proof.Machine.execSeedReady src samples s
  | .drbgInstantiate => Sys2Proof.Machine.execDrbgInstantiate s
  | .drbgGenerate => Sys2Proof.Machine.execDrbgGenerate s
  | .drbgReseed => Sys2Proof.Machine.execDrbgReseed s
  | .entropyPeriodicKat pass => Sys2Proof.Machine.execEntropyPeriodicKat pass s
  | .entropyCoreMismatch => Sys2Proof.Machine.execEntropyCoreMismatch s
  | .entropyDraw consumer => Sys2Proof.Machine.execEntropyDraw consumer s
  | .entropyWaitExpiry consumer => Sys2Proof.Machine.execEntropyWaitExpiry consumer s
  | .rawCaptureEnd src samples rest => Sys2Proof.Machine.execRawCaptureEnd src samples rest s
  | .entReseedCtlWrite fn value => Sys2Proof.Machine.execEntReseedCtlWrite fn value s
  | .maskReseed unit => Sys2Proof.Machine.execMaskReseed unit s
  | .sliceMiss line stall kind => Sys2Proof.Machine.execSliceMiss line stall kind s
  | .lineFillComplete line => Sys2Proof.Machine.execLineFillComplete line s
  | .writebackComplete line => Sys2Proof.Machine.execWritebackComplete line s
  | .sliceWrite req => Sys2Proof.Machine.execSliceWrite req s
  | .cribAck crib line present => Sys2Proof.Machine.execCribAck crib line present s
  | .cribEvict crib line => Sys2Proof.Machine.execCribEvict crib line s
  | .cribInval crib line => Sys2Proof.Machine.execCribInval crib line s
  | .cribFill crib line => Sys2Proof.Machine.execCribFill crib line s
  | .mgrSliceCtlWrite fn slice value => Sys2Proof.Machine.execMgrSliceCtlWrite fn slice value s
  | .repartCleanEnd => Sys2Proof.Machine.execRepartCleanEnd s
  | .repartSwapEnd => Sys2Proof.Machine.execRepartSwapEnd s
  | .sliceUncorrectable slice err stall => Sys2Proof.Machine.execSliceUncorrectable slice err stall s
  | .channelTrainingEnd ch ok density ranks2 => Sys2Proof.Machine.execChannelTrainingEnd ch ok density ranks2 s
  | .channelFillEnd ch => Sys2Proof.Machine.execChannelFillEnd ch s
  | .mr4Poll ch hot => Sys2Proof.Machine.execMr4Poll ch hot s
  | .trackingFail ch => Sys2Proof.Machine.execTrackingFail ch s
  | .dramCorrectableRead ch page lastSecond => Sys2Proof.Machine.execDramCorrectableRead ch page lastSecond s
  | .dramUncorrectableRead ch page stall => Sys2Proof.Machine.execDramUncorrectableRead ch page stall s
  | .repairRewrite ch => Sys2Proof.Machine.execRepairRewrite ch s
  | .scrubDramRead ch result => Sys2Proof.Machine.execScrubDramRead ch result s
  | .scrubSramRead word result => Sys2Proof.Machine.execScrubSramRead word result s
  | .scrubRewrite sweep => Sys2Proof.Machine.execScrubRewrite sweep s
  | .scrubLapEnd sweep ms => Sys2Proof.Machine.execScrubLapEnd sweep ms s
  | .scrubLapOverdue sweep => Sys2Proof.Machine.execScrubLapOverdue sweep s
  | .sramUncorrectable word => Sys2Proof.Machine.execSramUncorrectable word s
  | .pwbStallTimeout => Sys2Proof.Machine.execPwbStallTimeout s
  | .halterSourceAssert src stall => Sys2Proof.Machine.execHalterSourceAssert src stall s
  | .railDisagreement src => Sys2Proof.Machine.execRailDisagreement src s
  | .promoWindowExpiry src => Sys2Proof.Machine.execPromoWindowExpiry src s
  | .hltStatusClear fn ix value => Sys2Proof.Machine.execHltStatusClear fn ix value s
  | .hltSafeCtlForce fn value => Sys2Proof.Machine.execHltSafeCtlForce fn value s
  | .hltSafeCtlRelease fn value => Sys2Proof.Machine.execHltSafeCtlRelease fn value s
  | .hltAlertCtlClear fn value => Sys2Proof.Machine.execHltAlertCtlClear fn value s
  | .hltAlertCtlForce fn value => Sys2Proof.Machine.execHltAlertCtlForce fn value s
  | .hltSrcCfgWrite fn src value => Sys2Proof.Machine.execHltSrcCfgWrite fn src value s
  | .hltGuardCtlWrite fn value => Sys2Proof.Machine.execHltGuardCtlWrite fn value s
  | .hltGuardOutWrite fn value => Sys2Proof.Machine.execHltGuardOutWrite fn value s
  | .halterSelfCheck injectOk copiesOk badParity => Sys2Proof.Machine.execHalterSelfCheck injectOk copiesOk badParity s
  | .padReadbackMismatch => Sys2Proof.Machine.execPadReadbackMismatch s
  | .tamperTransition input level => Sys2Proof.Machine.execTamperTransition input level s
  | .chatterWindowExpiry input => Sys2Proof.Machine.execChatterWindowExpiry input s
  | .tamperFilterExpiry input => Sys2Proof.Machine.execTamperFilterExpiry input s
  | .chatterExit input => Sys2Proof.Machine.execChatterExit input s
  | .stuckTimeout input => Sys2Proof.Machine.execStuckTimeout input s
  | .tmpInEnWrite fn input value => Sys2Proof.Machine.execTmpInEnWrite fn input value s
  | .tmpInActiveWrite fn input value => Sys2Proof.Machine.execTmpInActiveWrite fn input value s
  | .tmpAck fn value => Sys2Proof.Machine.execTmpAck fn value s
  | .tmpVbatCtlArrival => Sys2Proof.Machine.execTmpVbatCtlArrival s
  | .vbatSample levels => Sys2Proof.Machine.execVbatSample levels s
  | .monitorCondition cond => Sys2Proof.Machine.execMonitorCondition cond s
  | .tempSample temp => Sys2Proof.Machine.execTempSample temp s
  | .pwrOffReq fn pd => Sys2Proof.Machine.execPwrOffReq fn pd s
  | .pwrOnReq fn pd => Sys2Proof.Machine.execPwrOnReq fn pd s
  | .domainPowerStable pd => Sys2Proof.Machine.execDomainPowerStable pd s
  | .domainDrainComplete pd => Sys2Proof.Machine.execDomainDrainComplete pd s
  | .secureHoldEnd pd => Sys2Proof.Machine.execSecureHoldEnd pd s
  | .powerDownComplete pd => Sys2Proof.Machine.execPowerDownComplete pd s
  | .demandWake group => Sys2Proof.Machine.execDemandWake group s
  | .pwrPinWrite fn value => Sys2Proof.Machine.execPwrPinWrite fn value s
  | .domainTransitionTimeout pd => Sys2Proof.Machine.execDomainTransitionTimeout pd s
  | .blockReset pd => Sys2Proof.Machine.execBlockReset pd s
  | .eventRaise src parityBad => Sys2Proof.Machine.execEventRaise src parityBad s
  | .holdoffExpiry fn src => Sys2Proof.Machine.execHoldoffExpiry fn src s
  | .eventSelection fn parityBad => Sys2Proof.Machine.execEventSelection fn parityBad s
  | .evtRouteWrite fn src nmAlias value => Sys2Proof.Machine.execEvtRouteWrite fn src nmAlias value s
  | .evtNmMirrorWrite fn ix value => Sys2Proof.Machine.execEvtNmMirrorWrite fn ix value s
  | .mrValueWrite fn mr j value => Sys2Proof.Machine.execMrValueWrite fn mr j value s
  | .mrExtendApply => Sys2Proof.Machine.execMrExtendApply s
  | .bankEngineMismatch => Sys2Proof.Machine.execBankEngineMismatch s
  | .dlFeedStart fn value => Sys2Proof.Machine.execDlFeedStart fn value s
  | .feedSessionClaim => Sys2Proof.Machine.execFeedSessionClaim s
  | .dlFeedData fn value => Sys2Proof.Machine.execDlFeedData fn value s
  | .dlFeedLast fn value => Sys2Proof.Machine.execDlFeedLast fn value s
  | .feedFinish => Sys2Proof.Machine.execFeedFinish s
  | .dlFeedAbort fn value => Sys2Proof.Machine.execDlFeedAbort fn value s
  | .feedIdleTimeout => Sys2Proof.Machine.execFeedIdleTimeout s
  | .feedSessionTimeout => Sys2Proof.Machine.execFeedSessionTimeout s
  | .powerLoss => Sys2Proof.Machine.execPowerLoss s
  | .vbatRemoved latch canary => Sys2Proof.Machine.execVbatRemoved latch canary s
  | .linkUp rate width => Sys2Proof.Machine.execLinkUp rate width s
  | .linkProtocolError err => Sys2Proof.Machine.execLinkProtocolError err s
  | .postedWriteSend fn => Sys2Proof.Machine.execPostedWriteSend fn s
  | .failureAgesOut src => Sys2Proof.Machine.execFailureAgesOut src s
  | .halterSourceDeassert src => Sys2Proof.Machine.execHalterSourceDeassert src s

end Sys2Proof.Machine
end

