-- ==== Sys2Proof/Machine/Tick.lean ====
section
/-! DEFINITION. What one CORE_CLK cycle does with no command waiting (assumption 1). -/

namespace Sys2Proof.Machine

/-- A cycle of CORE_CLK: the count of cycles since the chip reset, from which deadlines, admission intervals and ages
are measured, advances; candidates that have become eligible take their virtual times (R41, R275, R279, R286, R740;
assumptions 1 and 22); in every eighth cycle DL15 takes a word of feed input, the least rate that R430 gives it. It
stands while CORE_CLK is off. -/
def tick (s : State) : State :=
  if s.boot.clkOn then
    let s := noteEligible { s with cycle := s.cycle + 1 }
    if s.cycle % 8 = 0 then feedTake s else s
  else s

end Sys2Proof.Machine
end

