-- ==== Sys2Proof/Safety.lean ====
section
/-! DEFINITION. What the statements speak of: a command that completes, the memory as it reads, the conditions under
which a register access or a request is served, and the invariant of local memory. -/

namespace Sys2Proof.Safety

open Sys2Proof.Machine

/-- The outcome is a next state. -/
def Completes (o : Host.Outcome State Fault Refusal) : Prop := ∃ t, o = .next t

/-- A command, run on a state, answers a next state with a property. -/
def Ends (c : Instr) (s : State) (p : State → Prop) : Prop := ∃ t, exec c s = .next t ∧ p t

/-- Local memory is in its one canonical form: bytes at rising addresses, none zero. -/
def MemoryCanonical (s : State) : Prop := Memory.wf s.dram.cells = true

/-- Every byte of local memory reads as before: the channels' own byte, and the coherent one that an access reads. -/
def SameMemory (s t : State) : Prop :=
  ∀ a, cellGet t.dram.cells a = cellGet s.dram.cells a ∧ coByte t a = coByte s a

/-- The bytes of a store read back at their addresses, and every other byte of local memory reads as before. -/
def Stored (s t : State) (a : Nat) (bs : List Byte) : Prop :=
  (∀ k, k < bs.length → coByte t (a + k) = bs.getD k 0) ∧
  ∀ x, x < 0x400000000 → (x < a ∨ a + bs.length ≤ x) → coByte t x = coByte s x

/-- Cached lines as the Manger leaves them: a dirty sector is a valid one, and a settled line holds no write (R538, R556). -/
def LinesSettled (s : State) : Prop :=
  ∀ x ∈ s.mgr.lines, x.dirty &&& ~~~ x.valid = 0 ∧ ((x.state = .clean ∨ x.state = .dirty) → x.writes = [])

/-- A range of local memory within one line, of a channel that is not fenced. -/
def InOneLine (s : State) (a n : Nat) : Prop :=
  0 < n ∧ (a + n - 1) / 512 = a / 512 ∧ a < 0x400000000 ∧ s.mcs[chanOf a].state ≠ .fenced

/-- Local memory, channels, the Manger, keys, units, intermediates, the Entropy Block and the measurement registers are as
before. -/
def DevicesKept (s t : State) : Prop :=
  t.dram = s.dram ∧ t.mcs = s.mcs ∧ t.mgr = s.mgr ∧ t.tkr = s.tkr ∧ t.units = s.units ∧ t.inters = s.inters ∧ t.ent = s.ent ∧
  t.mrb = s.mrb

/-- No assertion waits at the Halter's input. -/
def Quiet (s : State) : Prop := s.hlt.inbox = []

/-- A function's register writes are served: in D0, not under FLR, in HELD or READY (R81, R100, R140, R143). -/
def WritesServed (s : State) (f : Fn) : Prop :=
  (fnState s f).d3hot = false ∧ (fnState s f).flr = false ∧ (s.boot.phase = .held ∨ s.boot.phase = .ready)

/-- No route entry has a parity error on record (R744). -/
def RoutesGood (s : State) : Prop := ∀ f k, (evSrc s f k).bad = false

/-- A request of an opcode runs on its bytes: it is ready, and its source has arrived. -/
def RunsOn (s : State) (i op : Nat) (q : Req) (b : List Byte) : Prop :=
  readyReq s i op = some q ∧ srcBytes s q = .bytes b

/-- A request's outcome in a state: status, detail, output length, result. -/
def OutcomeIs (t : State) (i : Nat) (status detail : Byte) (outLen result : Nat) : Prop :=
  (findReq t i).bind (·.done) =
    some { status := status, detail := detail, outLen := BitVec.ofNat 32 outLen, result := BitVec.ofNat 32 result }

/-- The stores that a request's outcome leaves to be posted. -/
def StoresOf (t : State) (i : Nat) : List Store := ((findReq t i).map (·.stores)).getD []

/-- A command ends a request well: OK, so many bytes of output, a result, and the stores that carry those bytes. -/
def Answers (c : Instr) (s : State) (i : Nat) (q : Req) (bs : List Byte) (result : Nat) : Prop :=
  Ends c s fun t => OutcomeIs t i 0 0 bs.length result ∧ StoresOf t i = storesOf s q bs

/-- A command ends a request with a status and a DETAIL, no output and no result. -/
def Fails (c : Instr) (s : State) (i : Nat) (status detail : Byte) : Prop :=
  Ends c s fun t => OutcomeIs t i status detail 0 0 ∧ StoresOf t i = []

/-- The cipher rows with their opcodes, for one request (R378). -/
def cipherRows (i : Nat) : List (Instr × Nat) :=
  [(.aesEcbEnc i, 0x00), (.aesEcbDec i, 0x01), (.aesCbcEnc i, 0x02), (.aesCbcDec i, 0x03), (.aesCtr i, 0x04), (.aesXtsEnc i, 0x05),
   (.aesXtsDec i, 0x06), (.aesCfbEnc i, 0x07), (.aesCfbDec i, 0x08), (.aesOfb i, 0x09), (.aesGcmEnc i, 0x0A), (.aesGcmDec i, 0x0B),
   (.aesCcmEnc i, 0x0C), (.aesCcmDec i, 0x0D), (.aesCmac i, 0x0E), (.chacha20 i, 0x10), (.chacha20Poly1305Enc i, 0x11),
   (.chacha20Poly1305Dec i, 0x12)]

/-- The rows of units whose operation touches nothing but its request: the ciphers, the digests, the big-number units
without a check of a private result, the memory opcodes without a store of their own, and the key opcodes whose two cores
agree. -/
def plainRows (i : Nat) : List Instr :=
  (cipherRows i).map (·.1) ++
  [.hash i, .hashFrag i, .xof i, .hmac i, .hmacFrag i, .kmac i, .kmacXof i, .rsaPub i, .modop i, .ecdsaVerify i,
   .eddsaVerify i, .mldsaSign i, .mldsaVerify i, .ecdh ⟨i, true⟩, .xdh ⟨i, true⟩, .mlkemEncaps ⟨i, true⟩,
   .mlkemDecaps ⟨i, true⟩, .mlkemKeygen ⟨i, true⟩, .mldsaKeygen ⟨i, true⟩, .blobWrap i true, .keyDerive i true, .keyGenerate i true, .keyImport i true, .copy i, .fill i,
   .tally64Read i]

/-- The fixed-base operations, which use a precomputed table where there is one (R471). -/
def baseRows (i : Nat) : List Instr := [.ecdsaSign i, .eddsaSign i, .ecKeygen ⟨i, true⟩]

/-- Commands of the host side and of the registers that reach no memory, no key, no unit and no measurement. -/
def hostSide : Instr → Bool
  | .configRequest _ _ | .d3hotEntry _ | .d0Return _ | .linkUp _ _ | .linkRetrain _ _ | .barAccessMalformed _ _
  | .unsupportedRequest _ | .postedWriteSend _ | .ltrSend | .i2cId _ | .i2cState _ | .i2cHalter _
  | .i2cTelemetry _ | .i2cStopState _ | .i2cUnknownCommand _ | .telemetryRefresh _ _ | .idcode | .samplePreload _ _ | .tapReset | .bypass _
  | .extest _ _ | .highz | .clamp | .dbgState | .brdDbTailWrite _ _ _ | .fetchErrClear _ _ _ | .alarmTokenRefill
  | .dspAlarmTbWrite _ _ _ | .dspRingEnable _ _ _ | .descriptorFetchIssue _ | .stlCmdEnable _ _ | .stlCmdQuiesce _ _
  | .stlCmdResume _ _ | .quiesceComplete _ | .stlRingAdd _ _ _ | .stlRingRemove _ _ _ | .stlPasidWrite _ _ _ _
  | .stlWorldWrite _ _ _ | .stlMgrLinesWrite _ _ _ | .stlStatusRead _ _ | .drbgRateWindow | .pdkEpochCommit _
  | .pdkEpochDiscard _ | .pkEntryWrite _ _ _ _ | .heldCommitApply | .stagedRefillEnd | .pdkProtFenceWrite _ _
  | .protFenceDone | .eventRaise _ none | .holdoffExpiry _ _ | .eventSelection _ none | .evtRouteWrite _ _ _ _
  | .evtNmMirrorWrite _ _ _ | .msixUnmask _ _ | .halterSourceDeassert _ | .promoWindowExpiry _ | .hltSafeCtlForce _ _
  | .hltSafeCtlRelease _ _ | .hltAlertCtlForce _ _ | .hltAlertCtlClear _ _ | .hltGuardCtlWrite _ _ | .hltGuardOutWrite _ _
  | .hltSrcCfgWrite _ _ _ => true
  | _ => false

/-- What READY does with nothing waiting for it (R80, R83, R84, R96, R305): the phase, BOOT_ATTEMPTS 0, every Alarm bucket
full, EV288 raised, a kept stop begun. -/
def ReadyFrom (s t : State) : Prop :=
  t = { s with boot := { s.boot with phase := .ready, attempts := 0 }, stalls := t.stalls, evt := t.evt, fns := t.fns,
               link := { s.link with stopKept := false, stopState := if s.link.stopKept then 1 else s.link.stopState } } ∧
  (∀ n : StallId, t.stalls[n] = { s.stalls[n] with tokens := s.stalls[n].burst }) ∧ (evSrc t .pf1 288).cause = true

/-- Nothing waits for READY: no kept tail, no gating request, no access of a group (R80, R716, R722). -/
def NothingWaits (s : State) : Prop :=
  (∀ r : RingId, s.rings[r].kept = false) ∧ (∀ d : PdId, s.pds[d].waitFn = none) ∧ ∀ g : ChanId, groupAwaited s g = false

/-- The boot report (R45, R50, R84): MR1 extended with the digest of the summary; EV289 for a fallback or Walk defaults, EV290
for a fence, EV291 for locked keys. -/
def BootReported (s t : State) : Prop :=
  (s.mrb.fenced = false → s.mrb.queue = [] →
    t.mrb.value[(1 : MrId)] = BitVec.ofNat 384 (leNat (sha384 (mrBytes s 1 ++ slice (sha384 (summary16 s)) 0 48))) ∧
    t.mrb.count[(1 : MrId)] = satInc s.mrb.count[(1 : MrId)]) ∧
  (s.mrb.fenced = true → t.mrb = s.mrb) ∧
  (s.boot.fallback = true ∨ s.boot.imageSrc = 0 → (evSrc t .pf1 289).cause = true) ∧
  (s.boot.fence ≠ 0 → (evSrc t .pf1 290).cause = true) ∧ (s.boot.keysLocked = true → (evSrc t .pf1 291).cause = true)

/-- A doorbell page is live: the function is in D0, the ring belongs to a stall of its world, and the device has left
RESET and not ended in BOOT_FAILED (R120, R121). -/
def PageLive (s : State) (f : Fn) (r : RingId) (n : StallId) : Prop :=
  (fnState s f).d3hot = false ∧ (fnState s f).flr = false ∧ s.boot.phase ≠ .reset ∧ s.boot.phase ≠ .bootFailed ∧
  s.rings[r].owner = some n ∧ worldFn s n = f

/-! ### Resets (R89, R91, R96) -/

/-- What OTP holds stands through a reset, but for a slot, a life-cycle byte or a root that is being programmed. -/
def OtpStands (s t : State) : Prop :=
  (∀ k : SlotId, s.tkr.progBusy ≠ some k → (k = 0 → rootBusy s = false) → t.tkr.slots[k] = s.tkr.slots[k]) ∧
  (s.tkr.lcBusy = none →
    (rootBusy s = false → t.tkr.lcWord = s.tkr.lcWord) ∧ t.tkr.ownerA = s.tkr.ownerA ∧ t.tkr.ownerB = s.tkr.ownerB)

/-- What every reset of the chip returns to its reset value: all of the state but the command queue, the answers given, the
model's counters, and what a reset's own statement says of boot, telemetry, OTP, the Halter, the Tamper Monitor and the
TAP. Nothing is listed in local memory. -/
def ChipCleared (t : State) : Prop :=
  t = { State.reset with pending := t.pending, free := t.free, nextId := t.nextId, resp := t.resp, linkOut := t.linkOut,
                         boot := t.boot, link := t.link, tkr := t.tkr, hlt := t.hlt, tmp := t.tmp, jtag := t.jtag } ∧
  t.link = { Link.reset with telTemp := t.link.telTemp, telVdd := t.link.telVdd, telPower := t.link.telPower } ∧
  t.tkr = { Tkr.reset with slots := t.tkr.slots, lcWord := t.tkr.lcWord, ownerA := t.tkr.ownerA, ownerB := t.tkr.ownerB } ∧
  ∀ a, cellGet t.dram.cells a = 0

/-- A power-on reset (R91, R694): the causes, KEYS_LOCKED and the attempts return to their values, the Halter and the TAP
to reset, OTP and the battery section stand, and of the boot state only what stands at the pins is left. -/
def PowerOnResetFrom (s t : State) : Prop :=
  ChipCleared t ∧ OtpStands s t ∧ t.pending = s.pending ∧
  t.boot = { Boot.reset with perst := s.boot.perst, imgSel := t.boot.imgSel, testMode := t.boot.testMode,
                             refclkSel := t.boot.refclkSel, i2cAddr := t.boot.i2cAddr, powered := t.boot.powered } ∧
  t.hlt = Hlt.reset ∧ t.link = Link.reset ∧ t.jtag = State.reset.jtag ∧
  t.tmp = { Tmp.reset with latch := s.tmp.latch, lost := s.tmp.lost, canary := s.tmp.canary, vbEn := s.tmp.vbEn,
                           vbActive := s.tmp.vbActive, vbFilter := s.tmp.vbFilter, vbCount := s.tmp.vbCount }

/-- A chip reset for a set of causes (R91, R668, R694): causes accumulate; KEYS_LOCKED, OTP, the Halter's latches, rail
latches and safe state, the tamper section and configuration, the TAP and what stands at the pins are kept; the rest
returns to its reset value; the third early Halter reset in a row ends boot in BOOT_FAILED (R96, R100). -/
def ChipResetFrom (perst halter software : Bool) (s t : State) : Prop :=
  let early : Bool := halter && !perst && decide (s.boot.phase ≠ .ready)
  let attempts : BitVec 4 := if perst then 0 else if early then s.boot.attempts + 1 else s.boot.attempts
  let failed : Bool := early && decide (attempts = 3)
  ChipCleared t ∧ OtpStands s t ∧ t.pending = s.pending ∧ t.jtag = s.jtag ∧
  t.boot = { Boot.reset with
    phase := if failed then .bootFailed else .reset, failCause := if failed then 3 else 0, cfgOpen := failed, attempts := attempts,
    keysLocked := s.boot.keysLocked, causePor := s.boot.causePor, causePerst := s.boot.causePerst || perst,
    causeHalter := s.boot.causeHalter || halter, causeSoftware := s.boot.causeSoftware || software, perst := t.boot.perst,
    imgSel := t.boot.imgSel, testMode := s.boot.testMode, refclkSel := s.boot.refclkSel, i2cAddr := s.boot.i2cAddr,
    powered := s.boot.powered } ∧
  t.hlt = { Hlt.reset with src := t.hlt.src, nmiSent := s.hlt.nmiSent, unattrib := s.hlt.unattrib, cfgErr := s.hlt.cfgErr,
                           first := s.hlt.first, safe := s.hlt.safe, alert := s.hlt.alert || failed } ∧
  (∀ k : HsId, t.hlt.src[k] = { HSrc.reset k with
    latch := s.hlt.src[k].latch, rail := s.hlt.src[k].rail, asserted := s.hlt.src[k].asserted, railBad := s.hlt.src[k].railBad,
    infoLatch := s.hlt.src[k].infoLatch }) ∧
  t.tmp = { s.tmp with vbLock := false, vbLockWritten := false, ackErr := false, inp := t.tmp.inp } ∧
  (∀ n : InputId, t.tmp.inp[n] = { s.tmp.inp[n] with lock := false, lockWritten := false })

end Sys2Proof.Safety
end

