-- ==== Sys2Proof/Certificates/Slice0/Obligations.lean ====
section
/-! DEFINITION. The statements for the provers. Each command is stated to complete with the effect that its rule gives, and
each family has a frame. -/

open Sys2Proof Sys2Proof.Machine Sys2Proof.Safety

/-! ### The block as a whole -/

/-- A step with a command at the front of the queue is that command's meaning on the state with the queue's rest. The
clauses rest on the model's choice of assumption log 1. -/
def Obligations.StepRunsFrontCommand : Prop :=
  ∀ (s : State) (c : Instr) (rest : List Instr), s.pending = c :: rest → step s = exec c { s with pending := rest }

/-- Every command answers a next state in every state: none stops the block. The clauses rest on the model's choice of
assumption log 4. -/
def Obligations.EveryCommandAnswersNextState : Prop := ∀ (c : Instr) (s : State), Completes (exec c s)

/-- Local memory is canonical after reset. -/
def Obligations.ResetMemoryIsCanonical : Prop := MemoryCanonical State.reset

/-- Every step, whatever the command, keeps local memory in its canonical form. -/
def Obligations.StepKeepsMemoryCanonical : Prop :=
  ∀ (s t : State), MemoryCanonical s → step s = .next t → MemoryCanonical t

/-- A step takes exactly the command at the front: no command adds to the queue or takes from it. The clauses rest on the
model's choice of assumption log 1. -/
def Obligations.StepConsumesOneCommand : Prop :=
  ∀ (s t : State), step s = .next t → t.pending = s.pending.tail

/-! ### Resets (R89, R91, R96, R97, R106) -/

/-- POWER_ON_RESET and POWER_LOSS end in every state, and leave the power-on column of R91: every register at its power-on
value, but for OTP, the battery section and the pins. POWER_ON_RESET samples the straps, and IMG_SEL where PERST_N is
high; POWER_LOSS leaves the device without power. The clauses rest on the model's choices of assumption log 7, 8, 55. -/
def Obligations.PowerOnResetRestoresPowerOnColumn : Prop :=
  ∀ (s : State) (a : BitVec 3) (r tm : Bool) (im : BitVec 2),
    Ends (.powerOnReset a r tm im) s (fun t => PowerOnResetFrom s t ∧ t.boot.powered = true ∧ t.boot.i2cAddr = a ∧
      t.boot.refclkSel = r ∧ t.boot.testMode = tm ∧ t.boot.imgSel = if s.boot.perst then s.boot.imgSel else im) ∧
    Ends .powerLoss s (fun t => PowerOnResetFrom s t ∧ t.boot.powered = false ∧ t.boot.i2cAddr = s.boot.i2cAddr ∧
      t.boot.refclkSel = s.boot.refclkSel ∧ t.boot.testMode = s.boot.testMode ∧ t.boot.imgSel = s.boot.imgSel)

/-- CHIP_RESET with a cause, PERST_N_ASSERT of a powered device, and CFG_SW_RESET by which PF1 writes the key, each end in
the chip column of R91 with their own causes; CHIP_RESET samples IMG_SEL unless PERST_N holds the device.
PERST_N_DEASSERT releases the device and samples IMG_SEL, and changes nothing else. CFG_SW_RESET changes nothing when
PF0 writes it, or when the value is not the key (R106); an assertion of PERST_N that is low already changes nothing,
and without power it is noted alone. The clauses rest on the model's choices of assumption log 7, 8, 55. -/
def Obligations.ChipResetAppliesChipColumn : Prop :=
  (∀ (s : State) (im : BitVec 2),
     (∀ perst halter software : Bool, s.boot.powered = true → (perst || halter || software) = true →
       Ends (.chipReset perst halter software im) s fun t => ChipResetFrom perst halter software s t ∧
         t.boot.perst = (s.boot.perst || perst) ∧ t.boot.imgSel = if s.boot.perst || perst then s.boot.imgSel else im) ∧
     (s.boot.perst = false → s.boot.powered = true →
       Ends .perstNAssert s fun t => ChipResetFrom true false false s t ∧ t.boot.perst = true ∧ t.boot.imgSel = s.boot.imgSel) ∧
     (s.boot.perst = false → s.boot.powered = false →
       exec .perstNAssert s = .next { s with boot := { s.boot with perst := true } }) ∧
     (s.boot.perst = true → exec .perstNAssert s = .next s) ∧
     (s.boot.perst = true →
       exec (.perstNDeassert im) s = .next { s with boot := { s.boot with perst := false, imgSel := im } }) ∧
     (s.boot.perst = false → exec (.perstNDeassert im) s = .next s)) ∧
  (∀ (s : State) (v : BitVec 32),
     ((fnState s .pf1).d3hot = false → (fnState s .pf1).flr = false →
       (s.boot.phase ≠ .bootFailed → v = 0xC41F0001 →
         Ends (.cfgSwReset .pf1 v) s fun t => ChipResetFrom false false true s t ∧ t.boot.perst = s.boot.perst ∧ t.boot.imgSel = s.boot.imgSel) ∧
       ((s.boot.phase = .bootFailed ∨ v ≠ 0xC41F0001) → exec (.cfgSwReset .pf1 v) s = .next s)) ∧
     ((fnState s .pf0).d3hot = false → (fnState s .pf0).flr = false → exec (.cfgSwReset .pf0 v) s = .next s))

/-! ### Start-up (02) -/

/-- RESET, OTP, CLOCK and PRELOAD_TEST end as R38 states: the alert state is re-evaluated, an OTP without a failed check
is evaluated (R318), a failed PLL lock leaves the device in CLOCK with HS83 and the alert (R99), a failed Halter or
Measurement Bank test ends in BOOT_FAILED with its cause (R99). LOAD ends with the copy chosen recorded, HS80 where
none is valid and its INFO latch where one was passed over, and a big-number unit that failed fenced (R39, R71, R76,
R99). APPLY applies the entries in order over CORE_CLK and the identities, extends MR0, opens configuration space and
starts the domains and the channels (R44, R63, R66, R75). The clauses rest on the model's choices of assumption log 4,
12, 51, 56. -/
def Obligations.StartupPhasesEndAsStated : Prop :=
  (∀ s : State, Quiet s →
     (s.boot.phase = .reset → s.boot.powered = true → s.boot.perst = false → s.boot.testMode = false →
       s.tmp.tripHold = false →
       exec .resetPhaseEnd s = .next { s with boot := { s.boot with phase := .otp }, hlt := { s.hlt with alert := alertWanted s } }) ∧
     (s.boot.phase = .otp → (∀ k : SlotId, (evalSlot s.tkr.slots[k]).state ≠ .bad) → copyBad s.tkr.ownerA = false →
       copyBad s.tkr.ownerB = false → lcPartial s = false →
       Ends .otpPhaseEnd s fun t => t.boot.phase = .clock ∧ t.tkr.sensed = true ∧
         (∀ k : SlotId, t.tkr.slots[k] = evalSlot s.tkr.slots[k]) ∧
         t.boot.vbatReport = (decide (s.tmp.latch ≠ 0) || s.tmp.lost || decide (s.tmp.canary ≠ 0x5A3C96E1)) ∧
         (t.boot.vbatReport = true → t.boot.keysLocked = true) ∧ t.dram = s.dram ∧ t.mgr = s.mgr ∧ t.stalls = s.stalls) ∧
     (s.boot.phase = .clock → s.boot.pllUnlocked = false →
       exec .pllLock s =
         .next { s with boot := { s.boot with phase := .preloadTest, clkOn := true, clkRate := 2, clkMon := true },
                        hlt := { s.hlt with clkRef := false } } ∧
       exec .pllLockTimeout s =
         .next (settle (raiseHs { s with boot := { s.boot with pllUnlocked := true }, hlt := { s.hlt with alert := true } } 83 none))) ∧
     (s.boot.phase = .preloadTest → ∀ (m0 : Bool) (f : Option Sfdp),
       (Ends (.preloadTestEnd true true true f) s fun t => t.boot.phase = .load ∧ t.boot.sfdp = f ∧
         (∀ d : PdId, t.pds[d].state = if 48 ≤ d.val ∧ d.val ≤ 56 then .on else s.pds[d].state) ∧ t.hlt = s.hlt ∧ t.units = s.units) ∧
       (∀ mr, exec (.preloadTestEnd false mr m0 f) s = .next (settle (raiseHs (bootFail s 1) 95 none))) ∧
       exec (.preloadTestEnd true false m0 f) s = .next (settle (selfFail (bootFail s 2) 6 none)) ∧
       (bootFail s 1).boot.phase = .bootFailed ∧ (bootFail s 1).boot.failCause = 1 ∧ (bootFail s 2).boot.failCause = 2)) ∧
  (∀ s : State, Quiet s →
     (s.boot.phase = .load → ∀ a b : List Byte,
       let c := chooseImage s 0xFF a b
       (c.image ≠ none → c.fallback = false →
         Ends (.loadPhaseEnd a b 0xFF) s fun t => t.boot.phase = .apply ∧ t.boot.image = c.image ∧ t.boot.imageSrc = c.src ∧
           t.boot.aErr = c.aErr ∧ t.boot.bErr = c.bErr ∧ t.boot.spiDriven = false ∧ t.hlt = s.hlt ∧ t.units = s.units ∧
           t.dram = s.dram ∧ t.tkr = s.tkr) ∧
       (c.image = none →
         Ends (.loadPhaseEnd a b 0xFF) s fun t => ∃ u, t = settle (raiseHs u 80 none) ∧ u.boot.phase = .apply ∧
           u.boot.image = none ∧ u.boot.imageSrc = c.src) ∧
       (c.image ≠ none → c.fallback = true →
         Ends (.loadPhaseEnd a b 0xFF) s fun t => ∃ u, t = settle (raiseInfo u 80) ∧ u.boot.phase = .apply ∧
           u.boot.image = c.image ∧ u.boot.imageSrc = c.src)) ∧
     (s.boot.phase = .load → ∀ (a b : List Byte) (pass : BitVec 8),
       Ends (.loadPhaseEnd a b pass) s fun t => ∃ u, t = settle u ∧ u.boot.phase = .apply ∧
         u.boot.image = (chooseImage s pass a b).image ∧ ∀ (u' : UnitId) (k : Fin 8), u'.val = 48 + k.val →
           u.units[u'].fenced = (s.units[u'].fenced || !bit pass k.val) ∧
           (bit pass k.val = false → bit u.boot.fence u'.val = true ∧ ∃ x ∈ u.hlt.inbox, x.src = unitHs u')) ∧
     (s.boot.phase = .apply →
       let u := extendMr0 (applyImage (applyFixed s))
       exec .applyPhaseEnd s =
         .next (settle ((List.finRange 4).foldl bootChannel (bootOrder.foldl bootDomain
           { u with boot := { u.boot with phase := .memory, applied := true, cfgOpen := true } }))) ∧
       (s.boot.image = none → (applyFixed s).boot.clkRate = 0 ∧ imageWrites s = [] ∧
         (s.mrb.fenced = false → extendMr0 s = mrExtend (mrSettled s) 0 (zeros 48)))))

/-- MEMORY ends with the table area in the highest channel that runs (R40, R470, R572), and a failed SRAM checker of a
slice or of a crib fenced, with bit 63 (R76, R582); SELF_TEST ends with each unit that failed while it was tested
fenced, and leads to ROOT_GEN where the part is BLANK (R76, R87); ROOT_GEN programs TS0 with the root drawn and SEEDED
follows (R86). The clauses rest on the model's choices of assumption log 4, 40, 56, 57. -/
def Obligations.MemorySelfTestAndRootGenEnd : Prop :=
  ∀ s : State, Quiet s →
    (s.boot.phase = .memory → s.mcs.toList.any channelBusy = false → ∀ ok : Bool,
      (Ends (.memoryPhaseEnd ok []) s fun t => t.boot.phase = .selfTest ∧
        t.dram.tableChan = (vfind s.mcs fun m => decide (m.state = .run)).getLast? ∧
        t.tableOk = (ok && t.dram.tableChan.isSome) ∧ t.boot.fence = s.boot.fence ∧ t.dram.cells = s.dram.cells ∧
        t.units = s.units ∧ t.mcs = s.mcs) ∧
      (∀ bad : List SramPart, Ends (.memoryPhaseEnd ok bad) s fun t => ∃ u, t = settle u ∧ u.boot.phase = .selfTest ∧
        (bad ≠ [] → bit u.boot.fence 63 = true) ∧ (∀ k : SliceId, .slice k ∈ bad → u.mgr.slices[k].fenced = true) ∧
        (∀ v : UnitId, .crib v ∈ bad → u.units[v].fenced = true) ∧ (.entropyQueue ∈ bad → u.ent.fenced = true))) ∧
    (s.boot.phase = .selfTest → s.boot.selfTested = false → (∀ n : NsId, s.ns[n].state ≠ .startup) → s.ent.state ≠ .init →
      (Ends (.selfTestPhaseEnd 0) s fun t => t.boot.selfTested = true ∧ t.boot.fence = s.boot.fence ∧
        (∀ u : UnitId, t.units[u] = { s.units[u] with testing := false }) ∧
        t.boot.phase = (if rootDue s then .rootGen else .selfTest)) ∧
      (∀ failed : BitVec 64, field failed 56 8 = (0 : BitVec 8) →
        Ends (.selfTestPhaseEnd failed) s fun t => ∃ x, t = settle x ∧ x.boot.selfTested = true ∧
          ∀ u : UnitId, x.units[u].fenced = (s.units[u].fenced || (bit failed u.val && s.units[u].testing)) ∧
            bit x.boot.fence u.val = (bit s.boot.fence u.val || (bit failed u.val && s.units[u].testing)))) ∧
    (s.boot.phase = .rootGen → RoutesGood s → ∀ (e : BitVec 512) (rest : List (BitVec 512)), grantedTo s .root = e :: rest →
      Ends (.rootGen true) s fun t => t.tkr.slots[(0 : SlotId)].state = .valid ∧
        t.tkr.slots[(0 : SlotId)].value = BitVec.ofNat 256 (leNat (slice (entryBytes [e]) 0 32)) ∧
        t.tkr.lcWord[(0 : Fin 3)] = 0xFF ∧ (∀ k : SlotId, k ≠ 0 → t.tkr.slots[k] = s.tkr.slots[k]) ∧ grantedTo t .root = [] ∧
        t.dram = s.dram ∧ t.units = s.units)

/-- Boot ends in HELD when READY_HOLD is set and in READY otherwise, after the boot report of either; at READY the phase
changes, EV288 is raised, BOOT_ATTEMPTS is cleared, every token bucket is full and a kept stop begins; a RELEASE by
PF1 takes HELD to READY and takes READY_HOLD from its first write, and PF0's changes nothing (R45, R80, R82, R84,
R96). With tails, gating requests or accesses waiting, READY takes those too. The clauses rest on the model's choice
of assumption log 4. -/
def Obligations.BootEndsInHeldOrReady : Prop :=
  ∀ s : State, Quiet s → RoutesGood s →
    (bootDone s = true → s.boot.readyHold = true →
      Ends .heldEntry s fun t => t = { s with boot := { s.boot with phase := .held }, mrb := t.mrb, evt := t.evt, fns := t.fns } ∧
        BootReported (toPhase s .held) t) ∧
    (bootDone s = true → s.boot.readyHold = false →
      exec .readyEntry s = .next (settle (toReady (bootReport s))) ∧
      (NothingWaits s → Ends .readyEntry s fun t => BootReported s t ∧ ReadyFrom { s with mrb := t.mrb } t)) ∧
    (s.boot.phase = .held → ∀ v : BitVec 32,
      let x := if s.boot.readyHoldWritten then s else { s with boot := { s.boot with readyHold := bit v 0, readyHoldWritten := true } }
      (WritesServed s .pf1 → exec (.cfgBootCtlRelease .pf1 v) s = .next (settle (toReady x)) ∧
        (NothingWaits s → Ends (.cfgBootCtlRelease .pf1 v) s fun t => ReadyFrom x t)) ∧
      (WritesServed s .pf0 → exec (.cfgBootCtlRelease .pf0 v) s = .next s))

/-! ### Configuration space, the link and function resets (03) -/

/-- Once configuration space is open and the function is not under FLR, a configuration request answers with the
identities, the Multi-Function bit, the capabilities, the link, device, PASID and MSI-X features, the Device Status,
the subsystem, AER and control fields and the BARs, or writes the field that it names and no other (R108, R111-R113,
R131, R135, R137, R141); D3hot and D0 are entered, with no message and no cause lost (R143); before that each is
answered with Retry and changes nothing (R75, R140). The clauses rest on the model's choices of assumption log 5, 8. -/
def Obligations.ConfigurationRequestsAct : Prop :=
  ∀ (s : State) (f : Fn),
    let x := fnState s f
    let reads (op : CfgOp) (w : BitVec 64) : Prop := exec (.configRequest f op) s = .next (answer s (.value w))
    let sets (op : CfgOp) (y : FnState) : Prop := Ends (.configRequest f op) s fun t => t.resp = .ok ∧ fnState t f = y ∧
      t = { s with resp := t.resp, fns := t.fns } ∧ ∀ g, g ≠ f → fnState t g = fnState s g
    let power (c : Instr) (v : Bool) : Prop := Ends c s fun t => t.resp = .ok ∧ (fnState t f).d3hot = v ∧
      fnState t f = { x with d3hot := v, msixPend := (fnState t f).msixPend } ∧
      t = { s with resp := t.resp, fns := t.fns, evt := t.evt } ∧
      ∀ g k, (evSrc t g k).cause = (evSrc s g k).cause ∧ (evSrc t g k).pending = (evSrc s g k).pending ∧
        ((evSrc s g k).pending = true → evEligible t g k = true → (evSrc t g k).since ≠ none)
    (cfgRetry s f = true →
      (∀ op, exec (.configRequest f op) s = .next (answer s .retry)) ∧ exec (.d3hotEntry f) s = .next (answer s .retry) ∧
      exec (.d0Return f) s = .next (answer s .retry)) ∧
    (s.boot.cfgOpen = true → x.flr = false →
      (∃ w : BitVec 64, reads .readIds w ∧ field w 0 16 = 0x1E9B ∧
        field w 16 16 = (match f with | .pf0 => 0x6448 | .pf1 => 0x6449) ∧ field w 32 8 = 0xB0 ∧ field w 40 24 = 0x108000) ∧
      reads .readMultiFunction 1 ∧
      (∀ c, reads (.readCapability c) (if c = .powerManagement ∨ c = .pciExpress ∨ c = .msix ∨ c = .aer ∨ c = .pasid ∨
        (c = .ltr ∧ f = .pf0) then 1 else 0)) ∧
      reads .readLinkCaps 0x2081F ∧ reads .readDeviceCaps 0x3A ∧ reads .readPasidCaps 0x14 ∧
      reads .readMsixCaps (match f with | .pf0 => 0xF80000F000003FF | .pf1 => 0xF80000F000000FF) ∧
      reads .readDeviceStatus (if s.link.reads.any fun r => decide (r.fn = f) then 0x20 else 0) ∧
      reads .readControls (controls x) ∧ reads .readAer (aerWord x) ∧
      reads .readSubsystem (place 0 x.subVendor ||| place 16 x.subDevice) ∧
      (∀ i, reads (.readBar i) ((x.bars[i] ||| barType f i).setWidth 64)) ∧
      (∀ i v, sets (.writeBar i v) { x with bars := x.bars.set i (v &&& barMask f i) }) ∧
      (∀ v, sets (.setPasidEnable v) { x with pasidEnable := v }) ∧ (∀ v, sets (.setRelaxedOrdering v) { x with roEnable := v }) ∧
      (∀ v, sets (.setTag10 v) { x with tag10 := v }) ∧ (∀ v, sets (.setCompletionTimeout v) { x with cto := v }) ∧
      (∀ v, sets (.setMaxRead v) { x with mrrs := v }) ∧ (∀ v, sets (.setMaxPayload v) { x with mps := v }) ∧
      (∀ v, sets (.setFatalReporting v) { x with fatalEn := v }) ∧ (∀ v, sets (.setSeverity v) { x with aerSev := v }) ∧
      (∀ u c, sets (.clearAer u c) { x with aerUnc := x.aerUnc &&& ~~~ u, aerCor := x.aerCor &&& ~~~ c }) ∧
      (∀ v, exec (.configRequest f (.setMsixEnable v)) s = .next (noteAllEv (answer (setFn s f fun y => { y with msixEnable := v }) .ok))) ∧
      (∀ v, exec (.configRequest f (.setFunctionMask v)) s = .next (noteAllEv (answer (setFn s f fun y => { y with functionMask := v }) .ok))) ∧
      power (.d3hotEntry f) true ∧ power (.d0Return f) false)

/-- What the link brings about: training to a supported rate and width is kept, and a retrain counted, the one after a
loss of the link among them (R108, R142, R157); an uncorrectable link error is logged on both functions and raises
HS81, a correctable one is logged on both (R135); malformed accesses are ignored or read 0 (R114), an Unsupported
Request is logged and answered (R135); the oldest write of a function is sent, and only host reads may follow it
(R614); a buffer that stalls keeps its contents and raises HS81 (R634); LTR messages carry the value for work, or for
no work and no DMA (R125); STOPPED is reached with EV292 when no request is admitted, and RESUME ends it, with the
kept tails accepted (R150, R151). The clauses rest on the model's choices of assumption log 5, 59, 70, 71, 72. -/
def Obligations.LinkEventsAct : Prop :=
  ∀ s : State,
    (s.link.up = false → s.boot.phase ≠ .reset → ∀ r w, linkMode r w = true →
      exec (.linkUp r w) s = .next { s with link := { s.link with
        up := true, rate := r, width := w, lost := false,
        retrains := if s.link.lost then satInc s.link.retrains else s.link.retrains } }) ∧
    (s.link.up = true → ∀ r w, linkMode r w = true →
      exec (.linkRetrain r w) s =
        .next { s with link := { s.link with rate := r, width := w, retrains := satInc s.link.retrains } }) ∧
    (∀ e, linkCor e = none → exec (.linkProtocolError e) s = .next (settle (raiseHs (setAer2 s (linkBit e)) 81 none))) ∧
    (∀ e i, linkCor e = some i → Ends (.linkProtocolError e) s fun t => t = { s with fns := t.fns } ∧
      ∀ f, (fnState t f) = { fnState s f with aerCor := putBit (fnState s f).aerCor i true }) ∧
    (∀ f w, (fnState s f).d3hot = false → (fnState s f).flr = false →
      exec (.barAccessMalformed f w) s = .next (answer s (if w then .ok else .value 0))) ∧
    (∀ f, exec (.unsupportedRequest f) s = .next (answer (setAer s f 8) .unsupported)) ∧
    (∀ f w l, (fnState s f).flr = false → takeOldest f s.link.pwb = some (w, l) →
      Ends (.postedWriteSend f) s fun t => t.link.pwb = l ∧
        (∃ rs : List Rd, t.linkOut = s.linkOut ++ .write w :: rs.map .read ∧ t.link.reads = s.link.reads ++ rs) ∧
        t = { s with linkOut := t.linkOut, link := { s.link with pwb := l, reads := t.link.reads, readQ := t.link.readQ } } ∧
        (s.link.readQ = [] → t.link.readQ = [] ∧ t.link.reads = s.link.reads)) ∧
    (s.link.pwb ≠ [] → exec .pwbStallTimeout s = .next (settle (raiseHs { s with link := { s.link with pwbStalled := true } } 81 none))) ∧
    (ringsWork s = true → exec .ltrSend s = .next (emit s (.ltr s.link.ltrActive))) ∧
    (ringsWork s = false → s.link.reads = [] → s.link.pwb = [] → exec .ltrSend s = .next (emit s (.ltr s.link.ltrIdle))) ∧
    (WritesServed s .pf1 → ∀ v, s.link.stopState = 2 →
      exec (.brdStopCtlResume .pf1 v) s = .next (acceptKept { s with link := { s.link with stopState := 0 } } fun _ => true)) ∧
    (s.link.stopState = 1 → s.reqs = [] → Quiet s → RoutesGood s →
      Ends .gracefulStopStopped s fun t => t = { s with link := { s.link with stopState := 2 }, evt := t.evt, fns := t.fns } ∧
        (evSrc t .pf1 292).cause = true)

/-- Posted writes of one function leave the buffer in the order in which they entered it: the one sent is the first of its
function, the others keep their order, and nothing but host reads is sent with it (R614). The clauses rest on the
model's choices of assumption log 5, 70. -/
def Obligations.PostedWritesLeaveInOrder : Prop :=
  ∀ (s : State) (f : Fn), (fnState s f).flr = false →
    ∀ (pre : List Pw) (w : Pw) (post : List Pw), s.link.pwb = pre ++ w :: post → (∀ x ∈ pre, x.fn ≠ f) → w.fn = f →
      Ends (.postedWriteSend f) s fun t => t.link.pwb = pre ++ post ∧
        ∃ rs : List Rd, t.linkOut = s.linkOut ++ .write w :: rs.map .read

/-- A function level reset returns the stalls of the function's own world to the applied registers, but for their world,
their TKR_DOMAIN and IMPORT_EN and their counters, and the rings of those stalls to the image's rings of that world;
it drops the world's requests and keys and the function's writes not yet sent, and touches no stall and no ring of the
other world (R91, R92, R139, R140); it ends at FLR_COMPLETE with no read of the function left (R141); a hot reset is
one of each function with HS81 (R142). The clauses rest on the model's choices of assumption log 58, 71. -/
def Obligations.FunctionResetStaysInItsWorld : Prop :=
  ∀ (s : State) (f : Fn),
    (s.boot.cfgOpen = true → (fnState s f).flr = false →
      Ends (.flr f) s fun t => t.resp = .ok ∧ (fnState t f).flr = true ∧
        (∀ n : StallId, worldFn s n ≠ f → t.stalls[n] = s.stalls[n]) ∧
        (∀ n : StallId, worldFn s n = f → t.stalls[n] = { (flrImage s).stalls[n] with
          secure := s.stalls[n].secure, domain := s.stalls[n].domain, kekGen := s.stalls[n].kekGen, importEn := s.stalls[n].importEn,
          bypass := t.stalls[n].bypass, drbgNow := t.stalls[n].drbgNow, tokens := (flrImage s).stalls[n].burst, draws := 0,
          vInteractive := 0, vBulk := 0, lastRing := Vector.replicate 7 255, resetCause := 0, aborted := [] }) ∧
        (∀ (r : RingId) (n : StallId), s.rings[r].owner = some n → worldFn s n ≠ f → t.rings[r] = s.rings[r]) ∧
        (∀ (r : RingId) (n : StallId), s.rings[r].owner = some n → worldFn s n = f → t.rings[r] =
          match (flrImage s).rings[r].owner with
          | some m => if worldFn s m = f then (flrImage s).rings[r] else Ring.reset
          | none => (flrImage s).rings[r]) ∧
        (∀ q ∈ t.reqs, worldFn s q.stall ≠ f) ∧ (∀ h : Handle, t.tkr.store[h].kind ≠ 0 → worldFn s t.tkr.store[h].stall ≠ f) ∧
        (∀ w ∈ t.link.pwb, w.fn ≠ f) ∧ t.pending = s.pending) ∧
    ((fnState s f).flr = true → Ends (.flrComplete f) s fun t => (fnState t f).flr = false ∧
      (∀ g, g ≠ f → fnState t g = fnState s g) ∧ t.stalls = s.stalls ∧ t.rings = s.rings ∧ t.reqs = s.reqs ∧
      (s.link.readQ = [] → t.link.reads = s.link.reads.filter fun r => decide (r.fn ≠ f))) ∧
    (s.link.up = true → exec .hotReset s =
      .next (settle (raiseHs (flrDo (flrDo { s with link := { s.link with up := false, lost := true } } .pf0) .pf1) 81 none)))

/-- The I2C target answers its read commands with the bytes of R147 and their CRC-8, does not acknowledge data bytes
written after them, accepts a stop only with the bytes 0x53 and 0x54, acknowledges no unknown code, and changes
nothing else (R144-R149); TELEMETRY is taken anew at a refresh (R148). The TAP's instructions select their register
and act on the pins as R778 and R779 state; without board test EXTEST, HIGHZ and CLAMP act as BYPASS. The clauses rest
on the model's choices of assumption log 5, 60, 76. -/
def Obligations.SidebandPortsAnswer : Prop :=
  (∀ s : State, s.boot.powered = true → s.boot.phase ≠ .reset →
     (∀ n, exec (.i2cId ⟨0, n⟩) s =
       .next (answer s (.bytes (i2cBytes s 0x00 [0x9B, 0x1E, 0x48, 0x64, 0xB0, 0x01, i2cAddress s, 0] n)))) ∧
     (∀ n, s.tkr.sensed = true → exec (.i2cState ⟨0, n⟩) s =
       .next (answer s (.bytes (i2cBytes s 0x10 [BitVec.ofNat 8 (lcCode s), if s.tkr.debugOpen then 1 else 0,
         if s.boot.keysLocked then 1 else 0, (phaseCode s.boot.phase).setWidth 8] n)))) ∧
     (∀ n, exec (.i2cHalter ⟨0, n⟩) s =
       .next (answer s (.bytes (i2cBytes s 0x20 (leBytes 12 (latchedMask s).toNat ++
         [BitVec.ofNat 8 (maxSev s), if s.hlt.safe then 1 else 0, 0, 0]) n)))) ∧
     (∀ n, exec (.i2cTelemetry ⟨0, n⟩) s =
       .next (answer s (.bytes (i2cBytes s 0x30 (leBytes 2 s.link.telTemp.toNat ++ leBytes 2 s.link.telVdd.toNat ++
         leBytes 2 s.link.telPower.toNat ++ [s.link.telClk, s.link.telThrottle] ++ leBytes 2 s.link.telStalls.toNat ++ [0, 0]) n)))) ∧
     (∀ n, exec (.i2cStopState ⟨0, n⟩) s = .next (answer s (.bytes (i2cBytes s 0x81 [s.link.stopState.setWidth 8] n)))) ∧
     (∀ w n, 0 < w → exec (.i2cId ⟨w, n⟩) s = .next (answer s .nak) ∧ exec (.i2cState ⟨w, n⟩) s = .next (answer s .nak) ∧
       exec (.i2cHalter ⟨w, n⟩) s = .next (answer s .nak) ∧ exec (.i2cTelemetry ⟨w, n⟩) s = .next (answer s .nak) ∧
       exec (.i2cStopState ⟨w, n⟩) s = .next (answer s .nak)) ∧
     exec (.i2cStop [0x53, 0x54]) s = .next (answer (stopAccept s) .ok) ∧
     (∀ d, d ≠ [0x53, 0x54] → exec (.i2cStop d) s = .next (answer s .ok)) ∧
     (∀ c, c ∉ i2cCodes → exec (.i2cUnknownCommand c) s = .next (answer s .nak)) ∧
     (∀ v p, exec (.telemetryRefresh v p) s =
       .next { s with link :=
         { s.link with telTemp := s.tmp.temp, telVdd := v, telPower := p, telClk := s.boot.clkRate.setWidth 8,
                       telThrottle := s.pwr.level.setWidth 8, telStalls := BitVec.ofNat 16 (busyStalls s) } })) ∧
  (∀ s : State, tapActs s = true →
     let bypassed (code : Byte) : State :=
       { s with jtag := { s.jtag with ir := code, pinsHeld := false, pinsHighZ := false }, resp := .ok }
     let selected : State := { s with jtag := { s.jtag with ir := 0x01, pinsHeld := false, pinsHighZ := false } }
     exec .idcode s = .next (answer selected (.value 0x16448A5B)) ∧
     (∀ p c, exec (.samplePreload p c) s =
       .next { s with jtag := { s.jtag with ir := 0x02, scan := c, pinsHeld := false, pinsHighZ := false },
                      resp := .value (p.setWidth 64) }) ∧
     exec .tapReset s = .next selected ∧
     (∀ c, c ∉ tapCodes → exec (.bypass c) s = .next (bypassed c)) ∧
     (∀ c, c ∈ tapCodes → exec (.bypass c) s = .next (bypassed 0xFF)) ∧
     (s.boot.testMode = true →
       (∀ p c, exec (.extest p c) s =
         .next { s with jtag := { s.jtag with ir := 0x00, scan := c, pinsHeld := true, pinsHighZ := false },
                        resp := .value (p.setWidth 64) }) ∧
       exec .highz s = .next { s with jtag := { s.jtag with ir := 0x03, pinsHeld := false, pinsHighZ := true }, resp := .ok } ∧
       exec .clamp s = .next { s with jtag := { s.jtag with ir := 0x04, pinsHeld := true, pinsHighZ := false }, resp := .ok }) ∧
     (s.boot.testMode = false →
       (∀ p c, exec (.extest p c) s = .next (bypassed 0x00)) ∧ exec .highz s = .next (bypassed 0x03) ∧
       exec .clamp s = .next (bypassed 0x04)))

/-! ### Rings (05, 06) -/

/-- BRD_DB_TAIL of a live page: a tail within SIZE and not behind FETCH is taken, and serviced unless the stall keeps it;
any other sets TAIL_ERR and raises the stall's error event; a disabled ring, and one of a stall under reset, ignores
it; a page that is not live counts a stray. BRD_DB_STATUS clears FETCH_ERR (R121, R155, R222). The clauses rest on the
model's choice of assumption log 24. -/
def Obligations.DoorbellsAct : Prop :=
  ∀ (s : State) (f : Fn) (r : RingId) (n : StallId) (v : BitVec 32), Quiet s → PageLive s f r n →
    let x := s.rings[r]
    let tail : BitVec 16 := field v 0 16
    let kept := setRing s r fun y => { y with tail := tail, kept := true }
    (x.enable = true → s.stalls[n].state ≠ .resetting →
      (tail.toNat < ringSize x → ringDist x x.head x.fetch ≤ ringDist x x.head tail →
        (keepsTail s n = true → exec (.brdDbTailWrite f r v) s = .next kept) ∧
        (keepsTail s n = false → Ends (.brdDbTailWrite f r v) s fun t => t.rings[r].tail = tail ∧ t.rings[r].kept = false ∧
          t.rings[r].debited = tail ∧ (∀ k : RingId, k ≠ r → t.rings[k] = s.rings[k]) ∧
          (x.cls ≠ 2 → t.stalls = s.stalls) ∧ t.dram = s.dram ∧ t.mgr = s.mgr ∧ t.reqs = s.reqs)) ∧
      ((ringSize x ≤ tail.toNat ∨ ringDist x x.head tail < ringDist x x.head x.fetch) →
        exec (.brdDbTailWrite f r v) s = .next (settle (raiseEv (setRing s r fun y => { y with tailErr := true }) (evError n))))) ∧
    ((x.enable = false ∨ s.stalls[n].state = .resetting) → exec (.brdDbTailWrite f r v) s = .next s) ∧
    exec (.fetchErrClear f r v) s = .next (setRing s r fun y => { y with fetchErr := y.fetchErr && !bit v 1 }) ∧
    (∀ g k, (fnState s g).d3hot = false → (fnState s g).flr = false → (∀ m, s.rings[k].owner = some m → worldFn s m ≠ g) →
      exec (.brdDbTailWrite g k v) s = .next (setFn s g fun y => { y with stray := satInc y.stray }))

/-- Ring registers: a drained ring of a stall not under reset, whose PASID entry is valid, is enabled with HEAD, FETCH and
TAIL 0 and lap 0, and any other gets CFG_ERR; an enabled ring is disabled, and what was fetched and not admitted is
discarded; configuration of a disabled ring is written, and a change of an enabled ring's refused with CFG_ERR
(R224-R226, R268, R269). The clauses rest on the model's choice of assumption log 25. -/
def Obligations.RingRegistersAct : Prop :=
  ∀ (s : State) (f : Fn) (r : RingId) (n : StallId), WritesServed s f → s.rings[r].owner = some n →
    (f = .pf1 ∨ s.stalls[n].secure = false) →
    let writes (reg : RingReg) (w : BitVec 64) (y : Ring) : Prop := Ends (.dspRingCfgWrite f r reg w) s fun t =>
      t = { s with rings := t.rings, fns := t.fns } ∧ t.rings[r] = y ∧ ∀ k : RingId, k ≠ r → t.rings[k] = s.rings[k]
    (s.rings[r].enable = false → ∀ v : BitVec 32,
      let y := ctlSet s.rings[r] (v.setWidth 64 ||| 1)
      (drained s r = true → s.stalls[n].state ≠ .resetting → s.stalls[n].pasidValid[y.pasidIdx] = true →
        Ends (.dspRingEnable f r v) s fun t => t.rings[r] = ringStart y ∧ t.rings[r].enable = true ∧ t.rings[r].head = 0 ∧
          t.rings[r].fetch = 0 ∧ t.rings[r].tail = 0 ∧ t.rings[r].lap = 0 ∧
          (∀ k : RingId, k ≠ r → t.rings[k] = s.rings[k]) ∧ t.stalls = s.stalls ∧ t.dram = s.dram) ∧
      ((drained s r = false ∨ s.stalls[n].state = .resetting ∨ s.stalls[n].pasidValid[y.pasidIdx] = false) →
        Ends (.dspRingEnable f r v) s fun t => t.rings[r] = { y with cfgErr := true }) ∧
      (∀ w : BitVec 64, writes .base w { s.rings[r] with base := field w 12 52 }) ∧
      (∀ w : BitVec 64, writes .cpl w { s.rings[r] with cpl := field w 12 52 }) ∧
      (∀ w : BitVec 64, writes .hwb w { s.rings[r] with hwb := field w 3 61 }) ∧
      (∀ w : BitVec 64, bit w 0 = false → writes .ctl w (ctlSet s.rings[r] w))) ∧
    (s.rings[r].enable = true → ∀ v : BitVec 32,
      (Ends (.dspRingDisable f r v) s fun t => t.rings[r].enable = false ∧ t.rings[r].buf = [] ∧ t.rings[r].budgets = [] ∧
        t.rings[r].head = s.rings[r].head ∧ t.rings[r].base = s.rings[r].base ∧ t.reqs = s.reqs ∧
        (∀ k : RingId, k ≠ r → t.rings[k] = s.rings[k]) ∧ t.stalls = s.stalls ∧ t.dram = s.dram) ∧
      (∀ w : BitVec 64, field w 12 52 ≠ s.rings[r].base → writes .base w { s.rings[r] with cfgErr := true }) ∧
      (∀ w : BitVec 64, field w 12 52 ≠ s.rings[r].cpl → writes .cpl w { s.rings[r] with cfgErr := true }) ∧
      (∀ w : BitVec 64, field w 3 61 ≠ s.rings[r].hwb → writes .hwb w { s.rings[r] with cfgErr := true }))

/-- Host reads: a fetch read names the slots from FETCH on and FETCH moves past them; data that arrives for a fetch
becomes descriptors, and for a request its AUX block or its source; a failure ends the request DMA_ERROR or
POISONED_DATA and logs the DMA, or stops the ring with FETCH_ERR at the failed slot and raises the stall's error
event; a read that timed out is kept, and its late answer is an Unexpected Completion, Advisory Non-Fatal unless its
severity is fatal (R124, R135, R138, R153-R155, R162, R227, R791). The clauses rest on the model's choices of
assumption log 5, 6, 8, 21, 70. -/
def Obligations.HostReadsAct : Prop :=
  ∀ s : State, Quiet s →
    (∀ (r : RingId) (n : StallId), s.rings[r].owner = some n → fetchMay s r n = true → fetchCount s r n ≠ 0 →
      let x := s.rings[r]
      let f := worldFn s n
      let rd : Rd :=
        { id := s.nextId, fn := f, ring := r, stall := n, what := .fetch r x.fetch (fetchCount s r n),
          spans := cutAll s f [(x.base.toNat * 4096 + 64 * x.fetch.toNat, 64 * fetchCount s r n)],
          pasid := prefixOf s f (ringPasid s n x), alarm := decide (x.cls = 2), timeoutUs := timeoutUs (fnState s f).cto }
      readRoom s rd = true →
      Ends (.descriptorFetchIssue r) s fun t => t.rings[r].fetch = ringNext x x.fetch (fetchCount s r n) ∧
        t.link.reads = s.link.reads ++ [rd] ∧ t.linkOut = s.linkOut ++ [.read rd] ∧
        (∀ k : RingId, k ≠ r → t.rings[k] = s.rings[k]) ∧ t.reqs = s.reqs ∧ t.dram = s.dram) ∧
    (∀ (i : Nat) (rd : Rd), i < s.nextId → findRead s i = some rd → (fnState s rd.fn).flr = false →
      let ended (t : State) : Prop := ∀ x ∈ t.link.reads, x.id = i → x ∈ s.link.readQ
      let logged (t : State) (kind : BitVec 3) : Prop := (fnState s rd.fn).errLog.valid = false →
        (fnState t rd.fn).errLog = { ring := BitVec.ofNat 8 rd.ring.val, kind := kind, fetch := rd.what.isFetch,
                                     pasid := rd.pasid.getD 0, lost := 0, valid := true }
      (∀ (r : RingId) (slot : BitVec 16) (m : Nat), rd.what = .fetch r slot m → m ≠ 0 →
        (RoutesGood s → ∀ bs, Ends (.hostReadCompletion i (.data bs)) s fun t => ended t ∧ (t.rings[r].buf.map fun b => (b.slot, b.desc)) =
          (s.rings[r].buf.map fun b => (b.slot, b.desc)) ++
            (List.range m).map fun k => (ringNext s.rings[r] slot k, descOf (slice bs (64 * k) 64))) ∧
        (RoutesGood s → ∀ n : StallId, s.rings[r].owner = some n →
          let stops (t : State) (kind : BitVec 3) : Prop := t.rings[r].fetchErr = true ∧ t.rings[r].fetch = slot ∧ logged t kind ∧
            ended t ∧ (evSrc t (worldFn s n) (evError n)).cause = true ∧ (∀ k : RingId, k ≠ r → t.rings[k] = s.rings[k]) ∧ t.reqs = s.reqs
          (Ends (.hostReadCompletion i .ur) s fun t => stops t 1) ∧ (Ends (.hostReadCompletion i .ca) s fun t => stops t 2) ∧
          (Ends (.hostReadCompletion i .poisoned) s fun t => stops t 4) ∧ (Ends (.completionTimeout i) s fun t => stops t 3))) ∧
      (∀ (j : Nat) (q : Req), findReq s j = some q → q.done = none →
        (rd.what = .aux j → ∀ bs, isFrag q.desc.opcode = false → Ends (.hostReadCompletion i (.data bs)) s fun t =>
          (findReq t j).bind (·.aux) = some (slice bs 0 q.desc.auxLen) ∧ ended t ∧ t.dram = s.dram) ∧
        (rd.what = .source j → ∀ bs, Ends (.hostReadCompletion i (.data bs)) s fun t =>
          (findReq t j).bind (·.src) = some (slice bs 0 q.desc.srcLen) ∧ ended t ∧ t.dram = s.dram) ∧
        ((rd.what = .aux j ∨ rd.what = .source j ∨ rd.what = .blob j ∨ rd.what = .segment j) →
          (Ends (.hostReadCompletion i .ur) s fun t => OutcomeIs t j 0x31 0 0 0 ∧ ended t ∧ logged t 1) ∧
          (Ends (.hostReadCompletion i .ca) s fun t => OutcomeIs t j 0x31 0 0 0 ∧ ended t ∧ logged t 2) ∧
          (Ends (.hostReadCompletion i .poisoned) s fun t => OutcomeIs t j 0x70 0 0 0 ∧ bit (fnState t rd.fn).aerUnc 1 = true ∧ logged t 4) ∧
          (Ends (.completionTimeout i) s fun t => OutcomeIs t j 0x31 0 0 0 ∧ bit (fnState t rd.fn).aerUnc 3 = true ∧
            t.link.timedOut = s.link.timedOut ++ [rd] ∧ ended t ∧ logged t 3)))) ∧
    (∀ (i : Nat) (rd : Rd), s.link.timedOut.find? (fun x => decide (x.id = i)) = some rd → (fnState s rd.fn).flr = false →
      Ends (.lateCompletion i) s fun t => (∀ x ∈ t.link.timedOut, x.id ≠ i) ∧ t.reqs = s.reqs ∧ t.rings = s.rings ∧ t.dram = s.dram ∧
        bit (fnState t rd.fn).aerUnc 5 = true ∧
        (fnState t rd.fn).aerCor = if bit (fnState s rd.fn).aerSev 5 then (fnState s rd.fn).aerCor else putBit (fnState s rd.fn).aerCor 5 true)

/-- Admission: the candidate that its pool serves first is taken from the descriptor buffer and started on the unit
chosen; one that needs no unit is admitted at once; a failed check ends every member with the ruling's status; a chain
of more than 8 members is rejected member by member, DETAIL 0x05 on the first (R249, R255, R259, R275-R277, R795). The
clauses rest on the model's choices of assumption log 22, 23, 62. -/
def Obligations.AdmissionTakesTheCandidate : Prop :=
  ∀ (s : State) (r : RingId) (n : StallId),
    (∀ (g : List BufD) (rv : Bool),
      let u := coopGrab (noteEligible s)
      eligible u r = some (n, g) → takeSlots u n (inBudget u.rings[r] g) g.length = some rv →
        (∀ p, (ruling u n g).1 = .ok → (g.head?.bind fun b => opPool b.desc.opcode) = some p → (firstOf u p).map (·.ring) = some r →
          intervalOk u p = true → memberWaits u p = false →
          (unitPoolKind p = false → exec (.candidateAdmission r) s = .next (settle (admitOn u r n g rv []))) ∧
          (unitPoolKind p = true → ∀ b x, g.head? = some b → unitsNeeded u b.desc ≤ 1 →
            chooseUnit u n (inBudget u.rings[r] g) p b.desc = some x →
            exec (.candidateAdmission r) s = .next (settle (admitOn u r n g rv [x])) ∧
            (u.hlt.inbox = [] → g = [b] → linesNeeded g = 0 → b.desc.keySrc = 0 →
              Ends (.candidateAdmission r) s fun t => t.rings[r].adm = ringNext u.rings[r] u.rings[r].adm 1 ∧
                t.units[x].run = some u.nextId ∧ t.reqs.length = u.reqs.length + 1 ∧
                ∃ q ∈ t.reqs, q.id = u.nextId ∧ q.started = true ∧ q.unit = some x ∧ q.desc = b.desc ∧ q.slot = b.slot ∧ q.ring = r))) ∧
        ((ruling u n g).1 = .ok → ∀ b, g = [b] → b.desc.opcode = 0xF1 → linesNeeded g = 0 → u.hlt.inbox = [] →
          Ends (.candidateAdmission r) s fun t => t.reqs = u.reqs ++ [mkReq u r n g 0 b rv] ∧
            t.rings[r].adm = ringNext u.rings[r] u.rings[r].adm 1 ∧ t.dram = s.dram) ∧
        ((ruling u n g).1 ≠ .ok →
          exec (.candidateAdmission r) s = .next (settle (reject u r n g (ruling u n g).1 (ruling u n g).2 rv)) ∧
          (reject u r n g (ruling u n g).1 (ruling u n g).2 rv).reqs =
            u.reqs ++ (mkReqs u r n g rv).map fun q => spentMark (ruling u n g).1 (rejected (ruling u n g).1 q))) ∧
    (∀ rv : Bool,
      let g := overlongRun s.rings[r]
      s.rings[r].owner = some n → g ≠ [] → overlongMay s r g = true → takeSlots s n (inBudget s.rings[r] g) g.length = some rv →
        Ends (.chainOverlengthReject r) s fun t => t.reqs.length = s.reqs.length + g.length ∧
          (∀ q ∈ t.reqs, q ∈ s.reqs ∨ (q.ring = r ∧ q.stall = n ∧ q.skipped = decide (q.pos ≠ 0) ∧
            ∃ e, q.done = some e ∧ e.status = 0x30 ∧ e.detail = if q.pos = 0 then 0x05 else 0)) ∧
          t.dram = s.dram ∧ t.stalls = s.stalls ∧ t.units = s.units)

/-! ### Requests on units (05, 06) -/

/-- An Alarm candidate preempts a lane: its request is suspended and its key register zeroised; the suspended request
resumes with its key and no bump; the next chain member starts on its unit, or begins to hold the units that it needs;
a cooperative candidate or member starts on its whole set, or its hold is given up until enough units can take it
(R255, R278, R281, R291-R293, R473). The clauses rest on the model's choice of assumption log 22. -/
def Obligations.PlacementsOnUnits : Prop :=
  ∀ s : State,
    (∀ (u : UnitId) (c : Cand) (n : StallId) (g : List BufD) (i : Nat) (rv : Bool),
      let x := noteEligible s
      x.disp.preemptEn = true → unitPool u ≠ .bignum → intervalOk x (unitPool u) = true → memberWaits x (unitPool u) = false →
      firstBlocked x (unitPool u) = some c → preemptLane x (unitPool u) c.stall = some u → eligible x c.ring = some (n, g) →
      x.units[u].run = some i → takeSlots x n true g.length = some rv →
        exec (.preemptSuspend u) s =
          .next (settle (admitOn (setUnit x u fun y => { y with run := none, suspended := some i, keyReg := none }) c.ring n g rv [u]))) ∧
    (∀ (u : UnitId) (i : Nat) (q : Req), s.units[u].suspended = some i → s.units[u].run = none → s.units[u].fenced = false →
      findReq s i = some q →
      Ends (.suspendedResume u) s fun t => t = { s with units := t.units } ∧ t.units[u].run = some i ∧
        t.units[u].suspended = none ∧ (t.units[u].keyReg.map (·.key)) = q.key ∧ ∀ v : UnitId, v ≠ u → t.units[v] = s.units[v]) ∧
    (∀ (i : Nat) (q : Req) (p : Pool), findReq s i = some q → q.pos ≠ 0 → q.started = false → q.done = none →
      memberNext s q = true → opPool q.desc.opcode = some p → noEngine s q.stall q.desc = false → intervalOk s p = true →
      memberAhead s q p = false →
      (unitPoolKind p = false → poolTakes s p q.desc = true → exec (.chainMemberStart i) s = .next (settle (placeMember s q p []))) ∧
      (unitPoolKind p = true → unitsNeeded s q.desc ≤ 1 → ∀ u, chooseUnit s q.stall q.alarm p q.desc = some u →
        exec (.chainMemberStart i) s = .next (settle (placeMember s q p [u])) ∧
        (s.hlt.inbox = [] → q.desc.keySrc = 0 → Ends (.chainMemberStart i) s fun t => t.units[u].run = some q.id ∧
          ((findReq t q.id).map fun y => (y.started, y.unit)) = some (true, some u) ∧ t.dram = s.dram)) ∧
      (unitPoolKind p = true → 1 < unitsNeeded s q.desc → s.disp.coop = none → s.disp.coopLate ≠ some (.member i) → q.id = i →
        exec (.chainMemberStart i) s = .next (coopHold (dropHeld s) (.member i)) ∧
        (coopHold (dropHeld s) (.member i)).disp.coop = some (.member i))) ∧
    (∀ (r : RingId) (n : StallId) (b : BufD) (g : List BufD) (rv : Bool),
      let x := coopGrab (noteEligible s)
      let us := heldUnits x
      x.disp.coop = some (.ring r) → eligible x r = some (n, b :: g) → unitsNeeded x b.desc ≤ us.length → (ruling x n (b :: g)).1 = .ok →
      takeSlots x n (inBudget x.rings[r] (b :: g)) (g.length + 1) = some rv → intervalOk x .bignum = true →
        exec .coopHoldComplete s = .next (settle (dropHeld (admitOn x r n (b :: g) rv us)))) ∧
    (∀ (i : Nat) (q : Req),
      let x := coopGrab (noteEligible s)
      x.disp.coop = some (.member i) → findReq x i = some q → unitsNeeded x q.desc ≤ (heldUnits x).length → intervalOk x .bignum = true →
        exec .coopHoldComplete s = .next (settle (dropHeld (placeMember x q .bignum (heldUnits x))))) ∧
    (Ends .coopHoldTimeout s fun t => t = { s with disp := t.disp, units := t.units } ∧ t.disp.coop = none ∧
      (∀ c, s.disp.coop = some c → t.disp.coopLate = some c) ∧
      ∀ u : UnitId, t.units[u] = { s.units[u] with held := false, testDue := t.units[u].testDue })

/-- Known-answer tests: at a due time the next unit of the pool is marked, and while another of the pool is under test the
start waits; a test starts, with the key register zeroised, once nothing runs on the unit; it rejoins its pool or is
fenced; a unit fenced loses its key, counts the fault, keeps the cause of one not yet cleared, and ends its request
SELF_TEST_FAIL (R295-R299, R303, R349, R405). The clauses rest on the model's choice of assumption log 12. -/
def Obligations.KnownAnswerTestsAct : Prop :=
  ∀ (s : State) (u : UnitId),
    (∀ (p : Pool) (i : Fin 3), rotIx p = some i → s.boot.phase = .ready →
      let x := coopGrab s
      (x.disp.rotUnit[i] = none → rotPick x i = some u →
        Ends (.katDue p) s fun t => t.units[u] = { x.units[u] with testDue := true } ∧ t.disp.rotUnit[i] = some u ∧
          (∀ v : UnitId, v ≠ u → t.units[v] = x.units[v]) ∧ t.reqs = s.reqs ∧ t.dram = s.dram) ∧
      (x.disp.rotUnit[i] ≠ none → Ends (.katDue p) s fun t => t.units = x.units ∧ t.disp.rotDue[i] = x.disp.rotDue[i] + 1 ∧
        t.reqs = s.reqs)) ∧
    (s.units[u].testDue = true → s.units[u].testing = false → s.units[u].fenced = false → s.units[u].run = none →
      s.units[u].suspended = none → s.units[u].held = false → pdOn s (unitPd u) = true → (u = dl15 → feedActive s = false) →
      exec (.katStart u) s = .next (setUnit s u fun x => { x with testDue := false, testing := true, keyReg := none })) ∧
    (s.units[u].testing = true →
      (Ends (.katEnd u true) s fun t => t.units[u].testing = false ∧ t.units[u].fenced = s.units[u].fenced ∧
        t.disp.passes = satInc s.disp.passes ∧ t.reqs = s.reqs ∧
        (s.units[u].testDue = false → s.disp.coop = none → (∀ i : Fin 3, s.disp.rotDue[i] = 0) →
          t.units[u] = { s.units[u] with testing := false } ∧ ∀ v : UnitId, v ≠ u → t.units[v] = s.units[v])) ∧
      (inSelfTest s = false → exec (.katEnd u false) s = .next (settle (feedFault (fenceUnit s u 6) u))) ∧
      (inSelfTest s = true → exec (.katEnd u false) s = .next (settle (bootFenceUnit (endTest s u) u)))) ∧
    (s.units[u].fenced = false → s.units[u].run.isSome = true → ∀ cause,
      exec (.unitFaultCheckFail u cause) s = .next (settle (feedFault (fenceUnit s u cause) u))) ∧
    (∀ cause, (fenceUnit s u cause).units[u].fenced = true ∧ (fenceUnit s u cause).units[u].keyReg = none ∧
      (fenceUnit s u cause).units[u].faultCount = satInc s.units[u].faultCount ∧
      (fenceUnit s u cause).units[u].faultCause = (if s.units[u].faultValid then s.units[u].faultCause else cause) ∧
      (∀ v : UnitId, v ≠ u → (fenceUnit s u cause).units[v] =
        { s.units[v] with testDue := (fenceUnit s u cause).units[v].testDue }) ∧
      (∀ (i : Nat) (q : Req), s.units[u].run = some i → findReq s i = some q → q.done = none → OutcomeIs (fenceUnit s u cause) i 0x41 0 0 0) ∧
      (s.units[u].run = none → s.units[u].suspended = none → (fenceUnit s u cause).reqs = s.reqs))

/-- A register that holds the key under the blob's TAG is used again; otherwise a blob's key is taken once its tag
verifies, a bad blob ends the request KEY_BAD_SLOT, and cores that disagree end it INTERNAL with HS79 (R315, R333,
R348). Stores to local memory and to intermediates are posted (R619), a VBR request whose tag matched frees its lane
(R392), the record enters the host posted-write buffer and the request leaves (R250, R613); the head record follows it
(R232, R613). The clauses rest on the model's choices of assumption log 2, 25, 69, 70. -/
def Obligations.RequestsPostAndComplete : Prop :=
  ∀ (s : State) (i : Nat) (q : Req), Quiet s → findReq s i = some q →
    (q.started = true → q.done = none → q.key = none → q.desc.keySrc = 2 → blobReady q = true →
      let takes (agree : Bool) (k : Key) : Prop :=
        attrErr s q.stall q.desc k.attr (decide (k.tallyAddr ≠ 0)) = none →
        ¬ (q.desc.opcode = 0x71 ∧ q.members = 1 ∧ 256 < klen k.attr) → k.tallyAddr = 0 →
        Ends (.blobUnwrapDone i agree) s fun t => (findReq t i).bind (·.key) = some k ∧
          (∀ u ∈ q.unit.toList ++ q.coop, (t.units[u].keyReg.map (·.key)) = some k) ∧ t.dram = s.dram ∧ t.mgr = s.mgr
      (∀ agree k, reusedKey s q = some k → takes agree k) ∧
      (reusedKey s q = none →
        (∀ k tag, unwrapBlob s q.stall (q.blob.getD []) = .key k tag → takes true k) ∧
        (∀ dt, unwrapBlob s q.stall (q.blob.getD []) = .bad dt → Fails (.blobUnwrapDone i true) s i 0x21 dt) ∧
        exec (.blobUnwrapDone i false) s = .next (settle (raiseHs (failReq s i 0x7F 0) 79 none)))) ∧
    (∀ (d : Done) (x : Store) (l : List Store), q.done = some d → q.stores = x :: l → vbrWaits q d = false →
      (∀ a, x.dest = .locl a → accessHeld s a = false →
        Ends (.sliceWrite i) s fun t => StoresOf t i = l ∧
          ((∀ o ∈ s.reqs, o.chain ≠ q.chain → o.wrote = []) →
            t.dram = (localPut s (byReq q) a x.bytes).dram ∧ t.mgr = (localPut s (byReq q) a x.bytes).mgr)) ∧
      (∀ j off, x.dest = .inter j off →
        exec (.sliceWrite i) s = .next (setReq (interPut s q.chain j off x.bytes) i fun y => { y with stores := l }))) ∧
    (∀ d, q.done = some d → vbrWaits q d = true →
      exec (.vbrRelease i) s = .next (freeUnits (setReq s i fun y => { y with released := true }) i)) ∧
    (∀ d, q.done = some d → RoutesGood s → q.stores = [] → memberNext s q = true → vbrWaits q d = false →
      let f := worldFn s q.stall
      let w := recordWrite s f q.stall q.ring q.slot (recordOf s q d) q.alarm (some i)
      pwbRoom s w = true →
      Ends (.requestComplete i) s fun t => t.link.pwb = pwInsert s.link.pwb w ∧ findReq t i = none ∧
        t.rings[q.ring].posted = s.rings[q.ring].posted + 1 ∧ (∀ k : RingId, k ≠ q.ring → t.rings[k] = s.rings[k]) ∧
        (q.desc.notify = true → s.rings[q.ring].hwbEn = false → (evSrc t f (evDone q.stall)).cause = true) ∧
        t.dram = s.dram ∧ t.stalls = s.stalls) ∧
    (∀ (r : RingId) (n : StallId), RoutesGood s → s.rings[r].owner = some n → s.rings[r].headDue = true → s.rings[r].hwbEn = true →
      let x := s.rings[r]
      let w := headWrite s (worldFn s n) n r (headBytes x.head (headPhase x) x.posted) (x.owed.any fun o => o.2.2)
      pwbRoom s w = true →
      Ends (.headRecordWrite r) s fun t => t.link.pwb = pwInsert s.link.pwb w ∧
        t.rings[r] = { x with dbHead := x.head, headDue := false, owed := [] } ∧
        (∀ k : RingId, k ≠ r → t.rings[k] = s.rings[k]) ∧ t.reqs = s.reqs ∧ t.dram = s.dram)

/-- After the last record of a chain its intermediates, blob quota and reserved lines go, and after a request's record the
lines that it reserved; FENCE ends once nothing earlier is left in its scope, and NOP at once (R245, R246, R257, R392,
R474). The clauses rest on the model's choice of assumption log 12. -/
def Obligations.ReservationsAndFences : Prop :=
  ∀ (s : State) (i : Nat),
    ((s.reqs.any fun q => decide (q.chain = i)) = false →
      Ends (.intermediateZeroise i) s fun t => (∀ x ∈ t.inters, x.chain ≠ i) ∧ (∀ x ∈ t.mgr.resv, x.who ≠ .chain i) ∧
        (∀ x ∈ s.inters, x.chain ≠ i → x ∈ t.inters) ∧ (∀ x ∈ s.mgr.resv, x.who ≠ .chain i → x ∈ t.mgr.resv) ∧
        t = { s with inters := t.inters, quotas := t.quotas, mgr := { s.mgr with resv := t.mgr.resv } }) ∧
    (findReq s i = none →
      exec (.vbrLinesZeroise i) s = .next { s with mgr := { s.mgr with resv := s.mgr.resv.filter fun x => !decide (x.who = .vbr i) } } ∧
      exec (.coopLinesZeroise i) s = .next { s with mgr := { s.mgr with resv := s.mgr.resv.filter fun x => !decide (x.who = .coop i) } }) ∧
    ∀ q, findReq s i = some q → q.done = none →
      (q.desc.opcode = 0xF0 →
        ((∀ o ∈ s.reqs, o.id < i → o.stall = q.stall → o.ring ≠ q.ring ∧ bit q.desc.imm 0 = false) → Fails (.fence i) s i 0 0) ∧
        (∀ o ∈ s.reqs, o.id < i → o.stall = q.stall → o.ring = q.ring → exec (.fence i) s = .next s)) ∧
      (q.desc.opcode = 0xF1 → Fails (.nop i) s i 0 0)

/-! ### Cipher lanes (08) -/

/-- The cipher modes without a tag, and AES_CMAC: a request whose AUX block R376 admits ends OK with its output. ECB, CBC,
CFB128 and OFB are chains of AES blocks over the IV, CTR and CHACHA20 a key stream from the counter given, whose next
value is RESULT, XTS a data unit of DU_LEN bytes under each tweak, CMAC its tag; where source and destination overlap
otherwise than in place, free bytes stand for the output (R374, R377-R380, R383, R388). The clauses rest on the
model's choices of assumption log 2, 3, 32. -/
def Obligations.CipherModesAnswer : Prop :=
  ∀ (s : State) (i : Nat) (q : Req) (src : List Byte), Quiet s → cipherAuxOk q.desc (auxOf q) = true →
    let d := q.desc
    let k := keyOf q
    let iv := ivOf (auxOf q)
    let imm := (field d.imm 0 32).toNat
    let answers (c : Instr) (op : Nat) (out : List Byte) (result : Nat) : Prop :=
      RunsOn s i op q src → tooLongOut d out.length = false →
        Answers c s i q (if cipherOverlaps q out.length then freeBytes s out.length else out) result
    answers (.aesEcbEnc i) 0x00 ((blocksOf 16 src).flatMap (aesEnc k)) 0 ∧
    answers (.aesEcbDec i) 0x01 ((blocksOf 16 src).flatMap (aesDec k)) 0 ∧
    answers (.aesCbcEnc i) 0x02 (chained (fun p b => (aesEnc k (xorBytes b p), aesEnc k (xorBytes b p))) iv src) 0 ∧
    answers (.aesCbcDec i) 0x03 (chained (fun p b => (xorBytes (aesDec k b) p, b)) iv src) 0 ∧
    answers (.aesCfbEnc i) 0x07 (chained (fun p b => (xorBytes b (aesEnc k p), xorBytes b (aesEnc k p))) iv src) 0 ∧
    answers (.aesCfbDec i) 0x08 (chained (fun p b => (xorBytes b (aesEnc k p), b)) iv src) 0 ∧
    answers (.aesOfb i) 0x09 (chained (fun p b => (xorBytes b (aesEnc k p), aesEnc k p)) iv src) 0 ∧
    (xtsHalvesEqual k = false →
      answers (.aesXtsEnc i) 0x05 (xtsMode 0x05 imm k iv src) 0 ∧ answers (.aesXtsDec i) 0x06 (xtsMode 0x06 imm k iv src) 0) ∧
    (let n := 2 ^ ctrBits d
     beNat iv % n + ceilDiv d.srcLen 16 ≤ n →
       answers (.aesCtr i) 0x04 (streamed 16 (fun j => aesEnc k (ctrBlock (ctrBits d) iv j)) src)
         (beNat (beBytes 16 (beNat iv / n * n + (beNat iv % n + ceilDiv d.srcLen 16) % n)) % 2 ^ 32)) ∧
    answers (.chacha20 i) 0x10 (streamed 64 (fun j => stdBytes (.cipher 0x10) [k, iv, leBytes 4 (imm + j)] 64) src)
      ((imm + ceilDiv d.srcLen 64) % 2 ^ 32) ∧
    answers (.aesCmac i) 0x0E (stdBytes (.cipherTag 0x0E) [k, src] d.tlen) 0

/-- AEAD encryption ends OK with the IV that it drew, the ciphertext and the tag; AEAD decryption ends OK with the
plaintext when the tag that it computes is the one given, and AUTH_FAIL otherwise, with nothing stored under VBR or by
a member of a chain. The data goes through the counter stream of its mode, the tag covers AUX AAD and the first
AAD_SRC bytes alike. An output that does not fit ends LENGTH_SHORT, and free bytes stand for one that overlaps its
source (R378, R381-R384, R386-R390, R392, R401). The clauses rest on the model's choices of assumption log 2, 3. -/
def Obligations.AeadModesAnswer : Prop :=
  ∀ (s : State) (i : Nat) (q : Req) (src : List Byte), Quiet s → cipherAuxOk q.desc (auxOf q) = true →
    let d := q.desc
    let k := keyOf q
    let iv := ivOf (auxOf q)
    let aad := slice (auxOf q) 0x28 (fieldAt (auxOf q) 2 2) ++ src.take d.aadSrc
    let text := src.drop d.aadSrc
    let gcm (v bs : List Byte) := streamed 16 (fun j => aesEnc k (ctrBlock 32 (ctrBlock 32 (gcmStart k v) 1) j)) bs
    let ccm (v bs : List Byte) := streamed 16 (fun j => aesEnc k (ccmBlock v (j + 1))) bs
    let chacha (v bs : List Byte) := streamed 64 (fun j => stdBytes (.cipher 0x10) [k, v, leBytes 4 (1 + j)] 64) bs
    let overCt (enc : Nat) (v _plain ct : List Byte) := stdBytes (.cipherTag enc) [k, v, aad, ct] d.tlen
    let overPlain (enc : Nat) (v plain _ct : List Byte) := stdBytes (.cipherTag enc) [k, v, aad, plain, leBytes 1 d.tlen] d.tlen
    let bytes (out : List Byte) := if cipherOverlaps q out.length then freeBytes s out.length else out
    let sealed (c : Instr) (op : Nat) (data : List Byte → List Byte → List Byte)
        (tag : Nat → List Byte → List Byte → List Byte → List Byte) : Prop :=
      RunsOn s i op q src →
        let v := if d.ivGen then randomBytes s q 12 else iv
        let out := (if d.ivGen then v else []) ++ data v text ++ tag op v text (data v text)
        (tooLongOut d out.length = false → Answers c s i q (bytes out) 0) ∧
        (tooLongOut d out.length = true → Fails c s i 0x32 (shortDetail d))
    let opened (c : Instr) (op : Nat) (data : List Byte → List Byte → List Byte)
        (tag : Nat → List Byte → List Byte → List Byte → List Byte) : Prop :=
      RunsOn s i op q src →
        let plain := data iv text
        let good := decide (tag (op - 1) iv plain text = slice (auxOf q) 0x18 d.tlen)
        (good = true → tooLongOut d plain.length = false → Answers c s i q (bytes plain) 0) ∧
        (good = true → tooLongOut d plain.length = true → Fails c s i 0x32 (shortDetail d)) ∧
        (good = false → Ends c s fun t => OutcomeIs t i 0x10 0 0 0 ∧
          StoresOf t i = if vbrLines d ≠ 0 ∨ 2 ≤ q.members then [] else storesOf s q (bytes plain))
    sealed (.aesGcmEnc i) 0x0A gcm overCt ∧ sealed (.aesCcmEnc i) 0x0C ccm overPlain ∧
    sealed (.chacha20Poly1305Enc i) 0x11 chacha overCt ∧ opened (.aesGcmDec i) 0x0B gcm overCt ∧
    opened (.aesCcmDec i) 0x0D ccm overPlain ∧ opened (.chacha20Poly1305Dec i) 0x12 chacha overCt

/-- A cipher request whose XTS halves are equal ends KEY_DENIED with DETAIL 0x01, one whose AUX block breaks a rule
BAD_DESCRIPTOR with DETAIL 0x09, a counter that would wrap the same, and an output that does not fit, of an opcode
without a tag to compare, LENGTH_SHORT; each without output (R374, R379, R387, R790). The clauses rest on the model's
choices of assumption log 2, 13, 32. -/
def Obligations.CipherRequestsRefuse : Prop :=
  ∀ (s : State) (i op : Nat) (q : Req) (src : List Byte), Quiet s → RunsOn s i op q src →
    ∀ c : Instr, (c, op) ∈ cipherRows i →
      let halves := (op = 0x05 ∨ op = 0x06) ∧ xtsHalvesEqual (keyOf q) = true
      (halves → Fails c s i 0x20 0x01) ∧
      (¬ halves → cipherAuxOk q.desc (auxOf q) = false → Fails c s i 0x30 0x09) ∧
      (cipherAuxOk q.desc (auxOf q) = true → op = 0x04 →
        2 ^ ctrBits q.desc < beNat (ivOf (auxOf q)) % 2 ^ ctrBits q.desc + ceilDiv q.desc.srcLen 16 → Fails c s i 0x30 0x09) ∧
      (¬ halves → cipherAuxOk q.desc (auxOf q) = true → aeadEnc op = false → aeadDec op = false →
        ctrWraps q.desc (auxOf q) = false → tooLongOut q.desc (modeOut q src).length = true → Fails c s i 0x32 (shortDetail q.desc))

/-! ### Digest lanes, the Measurement Bank and the DL15 feed (09) -/

/-- HASH, HASH_FRAG and XOF, HMAC and HMAC_FRAG, KMAC and KMAC_XOF end OK with the bytes of their function; a fragment
list longer than SRC_LEN ends OK_TRUNCATED with the bytes left over, an output that does not fit LENGTH_SHORT, and a
KMAC block that breaks a rule BAD_DESCRIPTOR (R411-R414, R416, R417, R419). The clauses rest on the model's choice of
assumption log 2. -/
def Obligations.DigestOpcodesAnswer : Prop :=
  ∀ (s : State) (i : Nat) (q : Req) (src : List Byte), Quiet s →
    let d := q.desc
    let key := keyedState s q []
    let out (c : Instr) (op : Nat) (f : StdFn) (ins : List (List Byte)) : Prop :=
      RunsOn s i op q src → let bs := stdBytes f ins ((outLenOf d).getD 0)
        (tooLongOut d bs.length = false → Answers c s i q bs 0) ∧ (tooLongOut d bs.length = true → Fails c s i 0x32 0x02)
    let frag (c : Instr) (op : Nat) (f : StdFn) (ins : List (List Byte)) : Prop :=
      RunsOn s i op q src →
        let bs := stdBytes f ins ((outLenOf d).getD 0)
        let extra := fragSum (auxOf q) - d.srcLen
        (tooLongOut d bs.length = true → Fails c s i 0x32 0x02) ∧
        (tooLongOut d bs.length = false → (extra = 0 → Answers c s i q bs 0) ∧
          (extra ≠ 0 → Ends c s fun t =>
            OutcomeIs t i 0x01 (BitVec.ofNat 8 (firstLeft (fragEntries (auxOf q)) d.srcLen 0)) bs.length (min extra 0xFFFFFFFF) ∧
            StoresOf t i = storesOf s q bs))
    let custom := if d.auxLen = 0 then [] else slice (auxOf q) 8 (fieldAt (auxOf q) 0 2)
    out (.hash i) 0x20 (.digest d.alg) [src] ∧ out (.xof i) 0x22 (.digest d.alg) [src] ∧ frag (.hashFrag i) 0x21 (.digest d.alg) [src] ∧
    out (.hmac i) 0x28 (.hmac d.alg) [key, src] ∧ frag (.hmacFrag i) 0x29 (.hmac d.alg) [key, src] ∧
    (kmacAuxOk d (auxOf q) = true →
      out (.kmac i) 0x2C (.kmac d.alg) [keyedState s q custom, src, beBytes 4 (8 * (field d.imm 0 32).toNat)] ∧
      out (.kmacXof i) 0x2D (.kmac d.alg) [keyedState s q custom, src, beBytes 4 0]) ∧
    (kmacAuxOk d (auxOf q) = false → (RunsOn s i 0x2C q src → Fails (.kmac i) s i 0x30 0x09) ∧
      (RunsOn s i 0x2D q src → Fails (.kmacXof i) s i 0x30 0x09))

/-- A measurement register is extended: its value becomes SHA-384 of its old value and the input, its count rises by one
and no other register changes. MR_EXTEND goes after the register path's waiting extends; READ changes no register, and
a fenced bank refuses it. On the register path six words by one function queue an extend, a word 5 without the others
sets SEQ_ERR, and a register that is not the function's DENIED; a mismatch of the two engines fences the bank
(R432-R435, R437, R438). The clauses rest on the model's choices of assumption log 2, 36. -/
def Obligations.MeasurementsExtend : Prop :=
  ∀ s : State, Quiet s →
    (∀ (i : Nat) (q : Req) (src : List Byte), RunsOn s i 0x30 q src →
      let k := mrOf q.desc
      let u := mrSettled s
      let answer (value : BitVec 384) (count : BitVec 32) (t : State) : Prop :=
        let out := if q.desc.dstLen = 0 then [] else leBytes 48 value.toNat
        tooLongOut q.desc out.length = false → OutcomeIs t i 0 0 out.length count.toNat ∧ StoresOf t i = storesOf s q out
      (s.mrb.fenced = true → Fails (.mrExtend i) s i 0x40 0) ∧
      (s.mrb.fenced = false → bit q.desc.mode 0 = true → Ends (.mrExtend i) s fun t =>
        t.mrb = u.mrb ∧ answer u.mrb.value[k] u.mrb.count[k] t) ∧
      (s.mrb.fenced = false → bit q.desc.mode 0 = false → Ends (.mrExtend i) s fun t =>
        t.mrb.value[k] = BitVec.ofNat 384 (leNat (sha384 (mrBytes u k ++ slice (if bit q.desc.mode 1 then sha384 src else src) 0 48))) ∧
        t.mrb.count[k] = satInc u.mrb.count[k] ∧ answer t.mrb.value[k] t.mrb.count[k] t ∧
        ∀ j : MrId, j ≠ k → t.mrb.value[j] = u.mrb.value[j] ∧ t.mrb.count[j] = u.mrb.count[j])) ∧
    (∀ (f : Fn) (k : MrId) (v : BitVec 64), WritesServed s f →
      let b := s.mrb
      let w := match b.buf[fnIx f] with
        | some x => if x.mr = k then x.words else Vector.replicate 6 none
        | none => Vector.replicate 6 none
      let other := (b.buf[fnIx f].map fun x => decide (x.mr ≠ k)).getD false
      let seq (on : Bool) := if on then b.seqErr.set (fnIx f) true else b.seqErr
      let writes (j : Fin 6) (m : Mrb) : Prop := Ends (.mrValueWrite f k j v) s fun t => t = { s with mrb := m, fns := t.fns }
      (mrMay s f k = false → ∀ j, writes j { b with denied := b.denied.set (fnIx f) true }) ∧
      (mrMay s f k = true →
        (∀ j : Fin 6, j.val < 5 →
          writes j { b with seqErr := seq other, buf := b.buf.set (fnIx f) (some { mr := k, words := w.set j (some v) }) }) ∧
        (∀ e, mrWords w v = some e →
          writes 5 { b with seqErr := seq other, buf := b.buf.set (fnIx f) none,
                            queue := if b.fenced then b.queue else b.queue ++ [{ fn := f, mr := k, input := e }] }) ∧
        (mrWords w v = none →
          writes 5 { b with seqErr := seq true,
                            buf := b.buf.set (fnIx f) (if w.toList.any Option.isSome then some { mr := k, words := w } else none) }))) ∧
    (∀ (x : MrExt) (l : List MrExt), s.mrb.queue = x :: l →
      (Ends .mrExtendApply s fun t => t = { s with mrb := t.mrb } ∧ t.mrb.queue = l ∧ t.mrb.count[x.mr] = satInc s.mrb.count[x.mr] ∧
        t.mrb.value[x.mr] = BitVec.ofNat 384 (leNat (sha384 (mrBytes s x.mr ++ slice (leBytes 48 x.input.toNat) 0 48))) ∧
        (∀ j : MrId, j ≠ x.mr → t.mrb.value[j] = s.mrb.value[j] ∧ t.mrb.count[j] = s.mrb.count[j])) ∧
      (s.mrb.fenced = false → exec .bankEngineMismatch s =
        .next (settle (raiseHs { s with mrb := { s.mrb with fenced := true, queue := [] }, hlt := { s.hlt with cause := 5 } } 95 none)))) ∧
    (∀ (q : Req) (l : List Req), s.mrb.queue = [] → s.mrb.fenced = false → running s .measurement = q :: l →
      exec .bankEngineMismatch s =
        .next (settle (raiseHs { failReq s q.id 0x7F 0 with mrb := { s.mrb with fenced := true }, hlt := { s.hlt with cause := 5 } } 95 none)))

/-- The DL15 feed: PF1 starts a session, or START ends in ERROR with its code; the session takes the lane with its key;
words of 8 bytes enter the buffer of 64, the oldest going on to the lane when it is full, and a last word ends the
input; the session ends DONE with the output over the first MSG_LEN bytes, in ERROR with LENGTH_SHORT where fewer were
given, or in ERROR by ABORT or a time-out with its cause, raising EV300. A word outside an open session sets SEQ_ERR,
and PF0's writes change nothing (R425-R430, R447). The clauses rest on the model's choices of assumption log 2, 34. -/
def Obligations.FeedSessionsRun : Prop :=
  ∀ s : State, Quiet s →
    let ends (c : Instr) (code : Byte) (cause : BitVec 3) : Prop := Ends c s fun t => t.feed.state = .error ∧ t.feed.code = code ∧
      t.feed.endCause = cause ∧ t.feed.key = none ∧ t.feed.out = 0 ∧ t.feed.msg = [] ∧ t.feed.buf = [] ∧
      (evSrc t .pf1 300).cause = true ∧ t.dram = s.dram ∧ t.reqs = s.reqs
    let taken (x : Feed) : List Byte := x.msg ++ x.buf.flatMap fun w => leBytes 8 w.toNat
    (∀ v : BitVec 64, WritesServed s .pf1 →
      let w := dropLow s .pf1 0x57900
      let x : Feed := { s.feed with alg := if algListed (field v 0 4) then field v 0 4 else s.feed.alg, keyed := bit v 8,
                                    handle := field v 16 11, stall := field v 32 6 }
      let y : Feed := { x with state := .waiting, code := 0, endCause := 0, count := 0, msg := [], buf := [], out := 0, key := none,
                               testFirst := s.units[dl15].testDue || s.units[dl15].testing }
      (feedActive s = false →
        (feedStartErr { w with feed := x } y = none → exec (.dlFeedStart .pf1 v) s = .next { w with feed := y }) ∧
        (∀ c, feedStartErr { w with feed := x } y = some c → ends (.dlFeedStart .pf1 v) c 0) ∧
        (bit v 63 = false → exec (.dlFeedAbort .pf1 v) s = .next { w with feed := x })) ∧
      (feedActive s = true →
        (bit v 62 = false → exec (.dlFeedStart .pf1 v) s = .next { w with feed := { s.feed with seqErr := true } }) ∧
        (bit v 62 = true → ends (.dlFeedStart .pf1 v) 0 1) ∧ ends (.dlFeedAbort .pf1 v) 0 1)) ∧
    (s.feed.state = .waiting → s.units[dl15].run = none → s.units[dl15].suspended = none → s.units[dl15].testing = false →
      (s.feed.testFirst = true → s.units[dl15].testDue = false) →
      (s.feed.keyed = false → exec .feedSessionClaim s = .next { zeroKeyReg s dl15 with feed := { s.feed with state := .opened } }) ∧
      (s.feed.keyed = true → ∀ (k : Key) (kind : Nat) (m : Byte),
        heldEntry s (bvFin s.feed.stall) (bvFin s.feed.handle) = .key k kind m →
        keyErr s (bvFin s.feed.stall) (feedDesc s.feed) (.key k kind m) = none → k.tallyAddr = 0 →
        exec .feedSessionClaim s = .next { zeroKeyReg s dl15 with feed := { s.feed with state := .opened, key := some { k with
          value := if 2 ≤ kind then k.value else prepared s.feed.alg.toNat k.value [] } } })) ∧
    (∀ v : BitVec 64, WritesServed s .pf1 →
      (s.feed.state = .opened →
        (Ends (.dlFeedData .pf1 v) s fun t => t = { s with feed := t.feed, units := t.units, fns := t.fns } ∧ t.feed.state = .opened ∧
          taken t.feed = taken s.feed ++ leBytes 8 v.toNat ∧ t.feed.count = satAdd s.feed.count 8 ∧
          t.feed.buf = (if 64 ≤ s.feed.buf.length then s.feed.buf.tail else s.feed.buf) ++ [v] ∧
          t.units[dl15].bytes = satAdd s.units[dl15].bytes 8 ∧ ∀ u : UnitId, u ≠ dl15 → t.units[u] = s.units[u]) ∧
        (Ends (.dlFeedLast .pf1 v) s fun t => t = { s with feed := t.feed, units := t.units, fns := t.fns } ∧ t.feed.state = .finishing ∧
          feedInput t.feed = taken s.feed ++ (leBytes 8 v.toNat).take s.feed.vb.toNat ∧
          t.feed.count = satAdd s.feed.count s.feed.vb.toNat ∧ ∀ u : UnitId, u ≠ dl15 → t.units[u] = s.units[u])) ∧
      (s.feed.state ≠ .opened →
        exec (.dlFeedData .pf1 v) s = .next { dropLow s .pf1 0x57910 with feed := { s.feed with seqErr := true } } ∧
        exec (.dlFeedLast .pf1 v) s = .next { dropLow s .pf1 0x57920 with feed := { s.feed with seqErr := true } })) ∧
    (s.feed.state = .finishing →
      let m := feedInput s.feed
      (s.feed.msgLen.toNat ≤ m.length → Ends .feedFinish s fun t => t.feed.state = .done ∧
        t.feed.code = (if m.length = s.feed.msgLen.toNat then 0 else 1) ∧
        t.feed.out = BitVec.ofNat 512 (leNat (feedOut s.feed (m.take s.feed.msgLen.toNat))) ∧ t.feed.key = none ∧
        t.units[dl15].reqs = satInc s.units[dl15].reqs ∧ (evSrc t .pf1 300).cause = true ∧ t.reqs = s.reqs) ∧
      (m.length < s.feed.msgLen.toNat → ends .feedFinish 0x32 0)) ∧
    (s.feed.state = .opened → ends .feedIdleTimeout 0 2) ∧ (s.feed.state ≠ .opened → exec .feedIdleTimeout s = .next s) ∧
    (feedActive s = true → ends .feedSessionTimeout 0 3) ∧ (feedActive s = false → exec .feedSessionTimeout s = .next s) ∧
    (WritesServed s .pf0 → ∀ v,
      exec (.dlFeedStart .pf0 v) s = .next (dropLow s .pf0 0x57900) ∧ exec (.dlFeedAbort .pf0 v) s = .next (dropLow s .pf0 0x57900) ∧
      exec (.dlFeedData .pf0 v) s = .next (dropLow s .pf0 0x57910) ∧ exec (.dlFeedLast .pf0 v) s = .next (dropLow s .pf0 0x57920))

/-! ### Big-number units (10) -/

/-- The exponentiation of the model is exact, and an inverse that it finds is one (R458, R459). -/
def Obligations.ModularArithmeticIsExact : Prop :=
  (∀ b e n : Nat, powMod b e n = b ^ e % n) ∧
  (∀ a n x : Nat, 1 < n → invMod a n = some x → a * x % n = 1 ∧ x < n) ∧
  (∀ (k : RsaKey) (b : Nat), 1 < k.p → 1 < k.q → k.q % k.p * k.qinv % k.p = 1 →
    rsaPrivate k b % k.p = b ^ k.dp % k.p ∧ rsaPrivate k b % k.q = b ^ k.dq % k.q)

/-- RSA with a key: an input below the modulus of a key that fits the opcode is raised to the private exponent by its two
halves, and the result is returned when it checks against E, or E is not given; a result that does not check fences
the lead unit (R458, R467, R796). RSA_PUB returns B^E mod N. MODEXP and COOP_MODEXP over an operand block return
A^(2^(8 ELEN)) B^E mod N, and MODOP the sum, difference, product, inverse or residue of its operands; a block that
breaks a rule, or whose prediction is too long, ends BAD_DESCRIPTOR with DETAIL 0x09 (R459, R477). The clauses rest on
the model's choices of assumption log 20, 37. -/
def Obligations.RsaAndModularOpcodesAnswer : Prop :=
  (∀ (s : State) (i : Nat) (q : Req) (src : List Byte), Quiet s →
     let d := q.desc
     let withKey (c : Instr) (op : Nat) : Prop :=
       RunsOn s i op q src → (op ≠ 0x41 → d.keySrc ≠ 0) →
         (rsaKey (keyOf q) = none → Fails c s i 0x20 0x01) ∧
         ∀ k, rsaKey (keyOf q) = some k →
         (rsaFits op k = false → Fails c s i 0x20 0x01) ∧
         (rsaFits op k = true → d.srcLen ≠ k.nbits / 8 → Fails c s i 0x30 0x09) ∧
         (rsaFits op k = true → d.srcLen = k.nbits / 8 → tooLongOut d (k.nbits / 8) = true → Fails c s i 0x32 0) ∧
         (rsaFits op k = true → d.srcLen = k.nbits / 8 → tooLongOut d (k.nbits / 8) = false →
           let m := rsaPrivate k (beNat src)
           (k.p * k.q ≤ beNat src → Fails c s i 0x30 0x09) ∧
           (beNat src < k.p * k.q → (k.e ≠ 0 → m ^ k.e % (k.p * k.q) = beNat src) → Answers c s i q (beBytes (k.nbits / 8) m) 0) ∧
           (beNat src < k.p * k.q → k.e ≠ 0 → m ^ k.e % (k.p * k.q) ≠ beNat src → ∀ u, q.unit = some u →
             exec c s = .next (settle (fenceUnit (countOps (cribUsed s q) q) u 2))))
     withKey (.rsaPrivCrt i) 0x41 ∧ withKey (.modexp i) 0x40 ∧ withKey (.coopModexp i) 0x5C ∧
     (RunsOn s i 0x42 q src →
       let aux := auxOf q
       let nlen := fieldAt aux 0 2
       let e := fieldAt aux 4 4
       let n := beNat (slice aux 8 nlen)
       let good := d.auxLen = 8 + nlen ∧ zeroAt aux 2 2 = true ∧ e % 2 = 1 ∧ 3 ≤ e ∧ modulusOk n nlen = true ∧ beNat src < n
       (good → tooLongOut d nlen = false → Answers (.rsaPub i) s i q (beBytes nlen (beNat src ^ e % n)) 0) ∧
       (¬ good → Fails (.rsaPub i) s i 0x30 0x09))) ∧
  (∀ (s : State) (i : Nat) (q : Req) (src : List Byte), Quiet s →
     let d := q.desc
     let nlen := fieldAt src 0 2
     let n := beNat (slice src 8 nlen)
     let modexp (c : Instr) (op : Nat) : Prop :=
       RunsOn s i op q src → d.keySrc = 0 →
         let elen := fieldAt src 2 2
         let e := beNat (slice src (8 + nlen) elen)
         let a := if d.var = 1 then beNat (slice src (8 + nlen + elen) nlen) else 1
         let b := beNat (slice src (8 + nlen + elen + (if d.var = 1 then nlen else 0)) nlen)
         let good := (if op = 0x5C then 257 ≤ nlen ∧ nlen ≤ 2048 else 32 ≤ nlen ∧ nlen ≤ 1024) ∧ 1 ≤ elen ∧ elen ≤ nlen ∧
           zeroAt src 4 4 = true ∧ d.srcLen = 8 + nlen + elen + nlen * (if d.var = 1 then 2 else 1) ∧ modulusOk n nlen = true ∧
           a < n ∧ b < n ∧ expTooLong s d nlen elen = false
         (good → tooLongOut d nlen = false → Answers c s i q (beBytes nlen (a ^ 2 ^ (8 * elen) * b ^ e % n)) 0) ∧
         (¬ good → Fails c s i 0x30 0x09)
     modexp (.modexp i) 0x40 ∧ modexp (.coopModexp i) 0x5C ∧
     (RunsOn s i 0x58 q src →
       let a := beNat (slice src (8 + nlen) nlen)
       let b := beNat (slice src (8 + nlen + nlen) nlen)
       let wide := beNat (slice src (8 + nlen) (2 * nlen))
       let good := nlen = descNlen d ∧ zeroAt src 2 6 = true ∧ modulusOk n nlen = true ∧
         (d.var ≤ 3 → a < n) ∧ (d.var ≤ 2 → b < n) ∧ (d.var = 4 → wide < n * 256 ^ nlen)
       let out (x : Nat) : Prop := Answers (.modop i) s i q (beBytes nlen x) 0
       (d.var ≤ 4 → ¬ good → Fails (.modop i) s i 0x30 0x09) ∧
       (good → tooLongOut d nlen = false →
         (d.var = 0 → out ((a + b) % n)) ∧
         (d.var = 1 → out ((a + n - b) % n)) ∧
         (d.var = 2 → out (a * b % n)) ∧
         (d.var = 3 → ∀ x, invMod a n = some x → out x) ∧
         (d.var = 3 → invMod a n = none → Fails (.modop i) s i 0x10 0x03) ∧
         (d.var = 4 → out (wide % n)))))

/-- Signatures: a signature is made with the named key and verified with the public key given; a P-curve scalar out of
range ends KEY_DENIED, a bad public key AUTH_FAIL with DETAIL 0x03, a bad signature with 0x01, an ML-DSA signature
whose attempts run out with 0x02 (R457, R458, R463). A fixed-base signature runs once its unit holds its curve's
table, or there is none, and loads what the crib lacks first (R471, R472). The clauses rest on the model's choices of
assumption log 2, 3, 74. -/
def Obligations.SignatureOpcodesAnswer : Prop :=
  ∀ (s : State) (i : Nat) (q : Req) (src : List Byte), Quiet s →
    let d := q.desc
    let aux := auxOf q
    let f := curveLen d.param
    let nonce := if d.var = 0 then randomBytes s q f else []
    let tables : Prop := ∀ u, q.unit = some u → noTables s d = true ∨ (tableNeeds s d).all (cribHolds s u) = true
    let loads (c : Instr) (run : State → State) : Prop := ∀ u, q.unit = some u → noTables s d = false →
      let x := tableLoad (cribUsed s q) u d
      exec c s = .next (settle (if (tableNeeds x d).all (cribHolds x u) then run x else x))
    let answers (c : Instr) (bs : List Byte) (result : Nat) : Prop :=
      (tooLongOut d bs.length = false → Answers c s i q bs result) ∧ (tooLongOut d bs.length = true → Fails c s i 0x32 (shortDetail d))
    let verify (c : Instr) (op : Nat) (key sig ctx msg : List Byte) : Prop :=
      RunsOn s i op q src →
        (pkOk q 2 [key] = false → Fails c s i 0x10 0x03) ∧
        (pkOk q 2 [key] = true → (pkOk q 3 [sig] = false ∨ pkOk q 4 [key, sig, ctx, msg] = false) → Fails c s i 0x10 0x01) ∧
        (pkOk q 2 [key] = true → pkOk q 3 [sig] = true → pkOk q 4 [key, sig, ctx, msg] = true → Fails c s i 0 0)
    (RunsOn s i 0x44 q src →
      (tables → (scalarOk q = true → answers (.ecdsaSign i) (pk q 0 [keyOf q, src, nonce] (2 * f)) 0) ∧
        (scalarOk q = false → Fails (.ecdsaSign i) s i 0x20 0x01)) ∧
      loads (.ecdsaSign i) fun x => ecdsaSignRun (countOps x q) q src) ∧
    verify (.ecdsaVerify i) 0x45 (slice aux 0 (1 + 2 * f)) (slice aux (1 + 2 * f) (2 * f)) [] src ∧
    (RunsOn s i 0x48 q src →
      (tables → answers (.eddsaSign i) (pk q 0 [keyOf q, aux, src] (edSig d.param)) 0) ∧
      loads (.eddsaSign i) fun x => eddsaSignRun (countOps x q) q src) ∧
    verify (.eddsaVerify i) 0x49 (slice aux 0 (ecPub d.param)) (slice src 0 (edSig d.param)) (aux.drop (ecPub d.param))
      (src.drop (edSig d.param)) ∧
    verify (.mldsaVerify i) 0x56 (slice aux 0 (dsaPk d.param)) (slice src 0 (dsaSig d.param)) (aux.drop (dsaPk d.param))
      (src.drop (dsaSig d.param)) ∧
    (RunsOn s i 0x55 q src →
      let start := (field d.imm 0 8).toNat
      let most := min (attMax s.boot.clkRate d.param) (256 - start)
      let rnd := if d.var = 0 then randomBytes s q 32 else []
      (∀ j, j < most → attemptOk q src rnd (start + j) = true → (∀ m, m < j → attemptOk q src rnd (start + m) = false) →
        answers (.mldsaSign i) (pk q 0 [keyOf q, aux, src, rnd, leBytes 2 (start + j)] (dsaSig d.param)) (j + 1)) ∧
      ((∀ m, m < most → attemptOk q src rnd (start + m) = false) →
        Ends (.mldsaSign i) s fun t => OutcomeIs t i 0x10 0x02 0 (start + most) ∧ StoresOf t i = []))

/-- Key agreement and key generation: a shared secret leaves as a blob under the stall's KEK or as a KEY intermediate, a
new key with its blob and its public key, or its value as a KEY intermediate alone, a named key with its public key
alone; a bad public key ends AUTH_FAIL with DETAIL 0x03 and an all-zero XDH result with 0x04, a bad scalar KEY_DENIED.
A blob on which the two cores disagree ends the request INTERNAL with HS79 (R315, R457, R460, R461, R479). The clauses
rest on the model's choices of assumption log 2, 3, 69, 74. -/
def Obligations.AgreementOpcodesAnswer : Prop :=
  ∀ (s : State) (i : Nat) (q : Req) (src : List Byte), Quiet s →
    let d := q.desc
    let aux := auxOf q
    let blob (k : Key) := wrapBlob s q.stall k (blobIv s q)
    let key (v : List Byte) (attr : BitVec 64) : Key := { value := v, attr := attr, tallyAddr := 0, tallyLimit := 0 }
    let asBlob (c : Bool → Instr) (out : List Byte) : Prop :=
      (tooLongOut d out.length = false → Answers (c true) s i q out 0 ∧
        Ends (c false) s fun t => ∃ u, t = settle (raiseHs u 79 none) ∧ OutcomeIs u i 0x7F 0 0 0 ∧ StoresOf u i = []) ∧
      (tooLongOut d out.length = true → ∀ agree, Fails (c agree) s i 0x32 (shortDetail d))
    let asInter (c : Bool → Instr) (k : Key) (outLen : Nat) (stores : List Store) : Prop :=
      Ends (c true) s fun t => OutcomeIs t i 0 0 outLen 0 ∧ StoresOf t i = stores ∧
        { chain := q.chain, i := toFin 8 (by decide) d.dst, isKey := true, bytes := k.value, attr := k.attr } ∈ t.inters
    let secret (c : Bool → Instr) (v : List Byte) : Prop :=
      let k := key v (secretAttr ((q.key.map (·.attr)).getD 0) v.length)
      (d.dstSel ≠ 3 → asBlob c (blob k)) ∧
      (d.dstSel = 3 → tooLongOut d v.length = false → asInter c k v.length [])
    let z := pk q 0 [keyOf q, aux] (secretLen d)
    let fails (c : Bool → Instr) (status detail : Byte) : Prop := ∀ agree, Fails (c agree) s i status detail
    let keygen (c : Bool → Instr) (op : Nat) : Prop :=
      RunsOn s i op q src →
        (op = 0x47 → ∀ u, q.unit = some u → noTables s d = true ∨ (tableNeeds s d).all (cribHolds s u) = true) →
        (d.keySrc ≠ 0 → scalarOk q = true → tooLongOut d (keygenPub d) = false →
          ∀ agree, Answers (c agree) s i q (pk q 0 [keyOf q] (keygenPub d)) 0) ∧
        (d.keySrc ≠ 0 → scalarOk q = false → fails c 0x20 0x01) ∧
        (d.keySrc = 0 → (keyAux q = none → fails c 0x30 0x09) ∧
          ∀ a, keyAux q = some a → (∀ e, newKeyErr d a = some e → fails c e.1 e.2) ∧
            (newKeyErr d a = none →
              let rnd := randomBytes s q (klen d.imm)
              let v := if op = 0x47 ∧ d.param ≤ 3 then pk q 5 [rnd] (klen d.imm) else rnd
              (d.dstSel ≠ 3 → asBlob c (blob (newKey d a v) ++ pk q 0 [v] (keygenPub d))) ∧
              (d.dstSel = 3 → tooLongOut d v.length = false → asInter c (newKey d a v) v.length [])))
    (RunsOn s i 0x46 q src →
      (scalarOk q = true → pkOk q 2 [aux] = true → secret (fun b => .ecdh ⟨i, b⟩) z) ∧
      (scalarOk q = true → pkOk q 2 [aux] = false → fails (fun b => .ecdh ⟨i, b⟩) 0x10 0x03) ∧ (scalarOk q = false → fails (fun b => .ecdh ⟨i, b⟩) 0x20 0x01)) ∧
    (RunsOn s i 0x4A q src →
      (pkOk q 2 [aux] = true → z.all (· = 0) = false → secret (fun b => .xdh ⟨i, b⟩) z) ∧
      (pkOk q 2 [aux] = true → z.all (· = 0) = true → fails (fun b => .xdh ⟨i, b⟩) 0x10 0x04) ∧
      (pkOk q 2 [aux] = false → fails (fun b => .xdh ⟨i, b⟩) 0x10 0x03)) ∧
    (RunsOn s i 0x52 q src → secret (fun b => .mlkemDecaps ⟨i, b⟩) (pk q 0 [keyOf q, src] 32)) ∧
    (RunsOn s i 0x51 q src →
      let m := randomBytes s q 32
      let ct := pk q 0 [aux, m] (kemCt d.param)
      let k := key (pk q 5 [aux, m] 32) (encapsAttr s q.stall)
      (pkOk q 2 [aux] = true → d.dstSel ≠ 3 → asBlob (fun b => .mlkemEncaps ⟨i, b⟩) (ct ++ blob k)) ∧
      (pkOk q 2 [aux] = true → d.dstSel = 3 →
        asInter (fun b => .mlkemEncaps ⟨i, b⟩) k (ct.length + 32) (hostStores s q [(d.imm.toNat, ct.length)] ct)) ∧
      (pkOk q 2 [aux] = false → fails (fun b => .mlkemEncaps ⟨i, b⟩) 0x10 0x03)) ∧
    keygen (fun b => .ecKeygen ⟨i, b⟩) 0x47 ∧ keygen (fun b => .mlkemKeygen ⟨i, b⟩) 0x50 ∧ keygen (fun b => .mldsaKeygen ⟨i, b⟩) 0x54 ∧
    (RunsOn s i 0x47 q src → ∀ u, q.unit = some u → noTables s d = false →
      let x := tableLoad (cribUsed s q) u d
      (tableNeeds x d).all (cribHolds x u) = false → ∀ agree, exec (.ecKeygen ⟨i, agree⟩) s = .next (settle x))

/-! ### The Entropy Block (11) -/

/-- Noise sources: every sample goes through both health tests. A failed test takes a running source to RETEST, or to
FAILED with its Halter source at FAIL_LIMIT; the last sample of a passed start-up test ends it in RUN, a failed one in
FAILED; a failure ages out; PF1 sets policy and cutoffs in range, and retests a FAILED source at most three times; a
tested block of the source whose turn it is becomes a seed (R488-R494, R510). The clauses rest on the model's choices
of assumption log 2, 73. -/
def Obligations.NoiseSourcesAct : Prop :=
  ∀ (s : State) (n : NsId), Quiet s → RoutesGood s →
    let others (t : State) : Prop := ∀ m : NsId, m ≠ n → t.ns[m] = s.ns[m]
    let failed (c : Instr) (y : Ns) : Prop := Ends c s fun t => ∃ u, t = settle (raiseHs u (nsHs n) none) ∧
      u.ns[n] = { y with state := .failed, part := [] } ∧ others u
    (∀ xs : List Bool,
      let r := healthBits s.ns[n] xs
      let x : Ns := { r.1 with part := r.1.part ++ xs }
      (s.ns[n].state = .run → xs.length < samplesDue s.ns[n] →
        (r.2 = none → exec (.noiseHealthFail n xs) s = .next (setNs s n fun _ => x)) ∧
        (∀ c, r.2 = some c → x.fails + 1 < x.test.limit →
          Ends (.noiseHealthFail n xs) s fun t => others t ∧ t.hlt = s.hlt ∧ t.reqs = s.reqs ∧ t.dram = s.dram ∧
            t.ns[n] = { noteFail x c false with state := .retest, part := [], test := freshTest x.test }) ∧
        (∀ c, r.2 = some c → x.test.limit ≤ x.fails + 1 → failed (.noiseHealthFail n xs) (noteFail x c false))) ∧
      ((s.ns[n].state = .startup ∨ s.ns[n].state = .retest) → xs.length = samplesDue s.ns[n] →
        (r.2 = none → Ends (.startupTestEnd n xs) s fun t => t.ns[n] = { x with state := .run, part := [] } ∧ t.hlt = s.hlt ∧
          others t ∧ (evSrc t .pf1 301).cause = true) ∧
        (∀ c, r.2 = some c → failed (.startupTestEnd n xs)
          { noteFail x c true with bootFailed := x.bootFailed || (decide (s.ns[n].state = .startup) && inSelfTest s) })) ∧
      ((s.ent.state = .init ∨ s.ent.state = .run ∨ s.ent.state = .degraded) → s.ns[n].state = .run → blockTurn s n = true →
        xs.length = samplesDue s.ns[n] → r.2 = none →
        Ends (.seedReady n xs) s fun t => t.ns[n] = { x with part := [] } ∧ others t ∧ t.ent.turn = (if n = 0 then 1 else 0) ∧
          t.ent.seeds = (if 2 ≤ s.ent.seeds.length then s.ent.seeds
            else s.ent.seeds ++ [BitVec.ofNat 384 (leNat (sha384 (packBits x.part)))]) ∧
          t.ent.queue = s.ent.queue ∧ t.ent.drbg = s.ent.drbg)) ∧
    (s.ns[n].state ≠ .off → ∀ samples edges : Nat,
      let y := setNs s n fun x => { x with rate := satOf 16 (10 * samples) }
      (100 ≤ samples → 16 * samples ≤ edges → exec (.freqMonitorWindow n samples edges) s = .next y) ∧
      ((samples < 100 ∨ edges < 16 * samples) → exec (.freqMonitorWindow n samples edges) s = .next (settle (healthFail y n .freq)))) ∧
    exec (.failureAgesOut n) s = .next (setNs s n fun x => { x with fails := x.fails - 1 }) ∧
    (WritesServed s .pf1 → ∀ v : BitVec 32,
      (bit v 1 = false → Ends (.entSrcPolicyWrite .pf1 n v) s fun t => others t ∧ t.hlt = s.hlt ∧ t.dram = s.dram ∧
        t.ns[n] = { s.ns[n] with policy := bit v 0, rct := t.ns[n].rct, apt := t.ns[n].apt, failLimit := t.ns[n].failLimit } ∧
        (t.ns[n].rct = if 32 ≤ (field v 8 8).toNat ∧ (field v 8 8).toNat ≤ 61 then field v 8 8 else s.ns[n].rct) ∧
        (t.ns[n].apt = if 700 ≤ (field v 16 10).toNat ∧ (field v 16 10).toNat ≤ 820 then field v 16 10 else s.ns[n].apt) ∧
        (t.ns[n].failLimit = if field v 26 2 = (0 : BitVec 2) then s.ns[n].failLimit else field v 26 2)) ∧
      (bit v 1 = true → exec (.entSrcPolicyWrite .pf1 n v) s = exec (.entSrcRetest .pf1 n v) s) ∧
      (s.ns[n].state = .failed → s.ns[n].retests.toNat < 3 → Ends (.entSrcRetest .pf1 n v) s fun t => t.ns[n].state = .startup ∧
        t.ns[n].retests = s.ns[n].retests + 1 ∧ t.ns[n].fails = 0 ∧ others t ∧ t.hlt = s.hlt) ∧
      ((s.ns[n].state ≠ .failed ∨ 3 ≤ s.ns[n].retests.toNat) → Ends (.entSrcRetest .pf1 n v) s fun t =>
        t.ns[n].state = s.ns[n].state ∧ t.ent.cmdErr = true ∧ others t)) ∧
    (WritesServed s .pf0 → ∀ v, exec (.entSrcPolicyWrite .pf0 n v) s = .next s ∧ exec (.entSrcRetest .pf0 n v) s = .next s)

/-- The DRBG: the first seed instantiates it and the block serves; an entry is generated while the queue has room and C is
below TARGET, or below its limit with no seed to take; a reseed at TARGET takes the first seed and C returns to 0; a
periodic test stops generation until it passes, and one that fails, or cores that disagree, fence the block with HS78;
a mask draw seeds its unit; PF1 sets TARGET and the limit, and a limit below TARGET is refused (R468, R495-R498, R504,
R510, R516). The clauses rest on the model's choices of assumption log 2, 38, 39. -/
def Obligations.DrbgServes : Prop :=
  ∀ s : State, Quiet s →
    (∀ x l, s.ent.state = .init → s.ent.seeds = x :: l →
      Ends .drbgInstantiate s fun t => t.ent.state = servingState s ∧ t.ent.seeds = l ∧ t.ent.c = 0 ∧
        t.ent.drbg = some (of48 (stdBytes .drbgState [to48 (x ^^^ personalization)] 48)) ∧ t.ent.counted = satInc s.ent.counted ∧
        (evSrc t .pf1 302).cause = true ∧ t.reqs = s.reqs ∧ t.dram = s.dram) ∧
    (∀ st, mayGenerate s = true → s.ent.drbg = some st → s.ent.queue.length < 64 →
      (s.ent.c.toNat < 2 ^ s.ent.targetLog2.toNat ∨ (s.ent.seeds = [] ∧ s.ent.c.toNat < 2 ^ s.ent.limitLog2.toNat)) →
      s.ent.waiters = [] →
      Ends .drbgGenerate s fun t => t.ent.queue = s.ent.queue ++ [(generate st).1] ∧ t.ent.drbg = some (generate st).2 ∧
        t.ent.c = s.ent.c + 1 ∧ t.ent.seeds = s.ent.seeds ∧ t.reqs = s.reqs ∧ t.dram = s.dram) ∧
    (∀ x l st, serving s = true → s.ent.seeds = x :: l → s.ent.drbg = some st → 2 ^ s.ent.targetLog2.toNat ≤ s.ent.c.toNat →
      seedWanted s = false →
      Ends .drbgReseed s fun t => t.ent.seeds = l ∧ t.ent.c = 0 ∧ t.ent.reseeds = s.ent.reseeds + 1 ∧
        t.ent.drbg = some (of48 (stdBytes .drbgState [to48 st, to48 x] 48)) ∧ t.ent.queue = s.ent.queue) ∧
    (s.ent.state ≠ .off → s.ent.state ≠ .fenced →
      (reseedDue s = false → exec (.entropyPeriodicKat none) s = .next { s with ent := { s.ent with testing := true } }) ∧
      (reseedDue s = true →
        exec (.entropyPeriodicKat none) s = .next { reseed s 0 with ent := { (reseed s 0).ent with testing := true } }) ∧
      (let u := { s with ent := { s.ent with testing := false } }
       exec (.entropyPeriodicKat (some true)) s = .next u ∧ exec (.entropyPeriodicKat (some false)) s = exec .entropyCoreMismatch u) ∧
      exec .entropyCoreMismatch s = .next (settle (s.ent.waiters.foldl (fun x w => starve x w.who) (raiseHs (entFence s) 78 none))) ∧
      (entFence s).ent.state = .fenced ∧ (entFence s).ent.drbg = none ∧ (entFence s).ent.queue = [] ∧ (entFence s).ent.seeds = []) ∧
    (∀ u e l, grantedTo s (.mask u) = e :: l → Ends (.maskReseed u) s fun t => t.units[u].seeded = true ∧ t.units[u].sinceSeed = 0 ∧
      t.units[u].mask = field e 0 256 ∧ grantedTo t (.mask u) = [] ∧ t.ent.queue = s.ent.queue ∧ t.reqs = s.reqs ∧
      (s.disp.coop = none → t.units[u] = { s.units[u] with seeded := true, sinceSeed := 0, mask := field e 0 256 } ∧
        ∀ v : UnitId, v ≠ u → t.units[v] = s.units[v])) ∧
    (WritesServed s .pf1 → ∀ v : BitVec 32, let tg : BitVec 5 := field v 0 5; let lm : BitVec 5 := field v 8 5
      (6 ≤ tg.toNat → tg.toNat ≤ 12 → 10 ≤ lm.toNat → lm.toNat ≤ 20 → tg.toNat ≤ lm.toNat →
        Ends (.entReseedCtlWrite .pf1 v) s fun t => t.ent.targetLog2 = tg ∧ t.ent.limitLog2 = lm ∧ t.ent.cmdErr = s.ent.cmdErr) ∧
      (6 ≤ tg.toNat → tg.toNat ≤ 12 → lm.toNat < tg.toNat →
        Ends (.entReseedCtlWrite .pf1 v) s fun t => t.ent.limitLog2 = s.ent.limitLog2 ∧ t.ent.cmdErr = true)) ∧
    (WritesServed s .pf0 → ∀ v, exec (.entReseedCtlWrite .pf0 v) s = .next s)

/-- Draws and the random-pool opcodes: a request's draw takes the oldest entry and leaves four of them to the urgent
consumers, which take the oldest that there is; a draw that finds none waits, its expiry ends a request
ENTROPY_UNAVAILABLE, and so does a fenced block. RNG_GET answers with the entries drawn, or with PR after a reseed of
its own; RNG_RESEED reseeds and zeroises the queue; both wait for a seed. RNG_RAW diverts a usable source until its
capture ends with the samples and the number of failures on them (R489, R498-R501, R505-R509). The clauses rest on the
model's choices of assumption log 2, 33, 63, 73. -/
def Obligations.DrawsAndRandomOpcodes : Prop :=
  ∀ s : State, Quiet s → RoutesGood s →
    let waits (c : Consumer) (t : State) : Prop :=
      t.ent.waiters = s.ent.waiters ++ [{ who := c, limit := s.ent.waitLimit, since := s.cycle }] ∧ t.reqs = s.reqs
    (∀ i q, findReq s i = some q → q.started = true → q.done = none → takesSeed q.desc = false →
      (grantedTo s (.request i)).length < totalDraws q.desc →
      (∀ e l, s.ent.fenced = false → s.ent.queue = e :: l → 4 ≤ l.length →
        Ends (.entropyDraw (.request i)) s fun t => t.ent.queue = l ∧ grantedTo t (.request i) = grantedTo s (.request i) ++ [e] ∧
          (∀ n : StallId, n ≠ q.stall → t.stalls[n] = s.stalls[n]) ∧
          ((grantedTo s (.request i)).length < chargedDraws q.desc → t.stalls[q.stall].draws = s.stalls[q.stall].draws + 1)) ∧
      (s.ent.fenced = false → s.ent.queue.length ≤ 4 → (s.ent.waiters.any fun w => decide (w.who = .request i)) = false →
        Ends (.entropyDraw (.request i)) s (waits (.request i))) ∧
      (s.ent.fenced = true → Ends (.entropyDraw (.request i)) s fun t => OutcomeIs t i 0x60 0 0 0)) ∧
    (∀ c e l, drawRank c < 2 → c ≠ .root → mayDraw s c = true → s.ent.fenced = false → s.ent.queue = e :: l →
      Ends (.entropyDraw c) s fun t => t.ent.queue = l ∧ grantedTo t c = [e] ∧ t.stalls = s.stalls ∧ t.reqs = s.reqs) ∧
    (∀ c, (s.ent.waiters.any fun w => decide (w.who = c)) = true → Ends (.entropyWaitExpiry c) s fun t =>
      (∀ w ∈ t.ent.waiters, w.who ≠ c) ∧
      ∀ i q, c = .request i → findReq s i = some q → q.done = none → OutcomeIs t i 0x60 0 0 0) ∧
    (∀ i q src, RunsOn s i 0x60 q src →
      let n := (field q.desc.imm 0 32).toNat
      (bit q.desc.mode 0 = false → tooLongOut q.desc (randomBytes s q n).length = false →
        Answers (.rngGet i) s i q (randomBytes s q n) (ceilDiv n 64)) ∧
      (bit q.desc.mode 0 = true → ∀ x l st, mayGenerate s = true → s.ent.seeds = x :: l → s.ent.drbg = some st →
        let own := ownEntries (ceilDiv n 64) (of48 (stdBytes .drbgState [to48 st, to48 x] 48))
        let bs := slice (entryBytes own.1) 0 n
        tooLongOut q.desc bs.length = false → Ends (.rngGet i) s fun t => OutcomeIs t i 0 0 bs.length (ceilDiv n 64) ∧
          StoresOf t i = storesOf s q bs ∧ t.ent.drbg = some own.2 ∧ t.ent.seeds = l ∧ t.ent.queue = s.ent.queue ∧
          t.stalls[q.stall].draws = s.stalls[q.stall].draws + ceilDiv n 64) ∧
      (bit q.desc.mode 0 = true → (mayGenerate s = false ∨ s.ent.seeds = []) → s.ent.fenced = false →
        (s.ent.waiters.any fun w => decide (w.who = .request q.id)) = false → Ends (.rngGet i) s (waits (.request q.id)))) ∧
    (∀ i q src, RunsOn s i 0x61 q src →
      (∀ x l st, serving s = true → s.ent.seeds = x :: l → s.ent.drbg = some st →
        let add := if q.desc.auxLen = 0 then 0 else of48 (auxOf q)
        Ends (.rngReseed i) s fun t => OutcomeIs t i 0 0 0 (s.ent.reseeds + 1).toNat ∧ t.ent.queue = [] ∧ t.ent.seeds = l ∧
          t.ent.c = 0 ∧ t.ent.drbg = some (of48 (stdBytes .drbgState [to48 st, to48 (x ^^^ add)] 48))) ∧
      ((serving s = false ∨ s.ent.seeds = []) → s.ent.fenced = false →
        (s.ent.waiters.any fun w => decide (w.who = .request q.id)) = false → Ends (.rngReseed i) s (waits (.request q.id)))) ∧
    (∀ i q src, RunsOn s i 0x68 q src →
      let n := rawSource q.desc
      let both := s.ns[n].state = .run ∧ s.ns[if n = 0 then (1 : NsId) else 0].state = .run
      s.ns[n].capture = none →
      ((both ∨ s.ns[n].state = .failed) →
        Ends (.rngRaw i) s fun t => t.ns[n] =
          { s.ns[n] with
            state := .diverted, capture := some q.id, part := [],
            wasRun := decide (s.ns[n].state = .run),
            test := if bit q.desc.mode 1 then freshTest s.ns[n].test else s.ns[n].test } ∧
          t.reqs = s.reqs ∧ t.hlt = s.hlt) ∧
      (¬ both → s.ns[n].state ≠ .failed → Fails (.rngRaw i) s i 0x40 0)) ∧
    (∀ n i q samples rest, s.ns[n].capture = some i → findReq s i = some q → q.done = none → s.ns[n].state = .diverted →
      (∀ m : NsId, m ≠ n → s.ns[m].capture ≠ some i) →
      let bs := slice samples 0 ((field q.desc.imm 0 32).toNat / 8)
      tooLongOut q.desc bs.length = false →
      Ends (.rawCaptureEnd n samples rest) s fun t =>
        OutcomeIs t i 0 0 bs.length (captureBits s.ns[n] (unpackBits bs)).2 ∧ StoresOf t i = storesOf s q bs ∧
        t.ns[n].capture = none ∧ t.ns[n].state = if s.ns[n].wasRun then .retest else .failed)

/-! ### The Tack Room (07) -/

/-- The key opcodes: BLOB_WRAP, KEY_IMPORT, KEY_DERIVE and KEY_GENERATE end with the key's blob, or, but for BLOB_WRAP,
with it as a KEY intermediate; the key is the one named or the intermediate, imported, derived by R328, or drawn; a
child broader than its parent ends KEY_DENIED with DETAIL 0x0C, a bad key block BAD_DESCRIPTOR, and a result on which
the two cores disagree INTERNAL with HS79 (R315, R326, R328, R332, R335-R341). The clauses rest on the model's choices
of assumption log 2, 27, 30, 35, 69. -/
def Obligations.KeyOpcodesAnswer : Prop :=
  ∀ (s : State) (i : Nat) (q : Req) (src : List Byte), Quiet s →
    let d := q.desc
    let blob (k : Key) := wrapBlob s q.stall k (blobIv s q)
    let fails (c : Bool → Instr) (status detail : Byte) : Prop := ∀ agree, Fails (c agree) s i status detail
    let mismatch (c : Bool → Instr) : Prop :=
      Ends (c false) s fun t => ∃ u, t = settle (raiseHs u 79 none) ∧ OutcomeIs u i 0x7F 0 0 0 ∧ StoresOf u i = []
    let asBlob (c : Bool → Instr) (k : Key) (result : Nat) : Prop :=
      (tooLongOut d (blob k).length = false → Answers (c true) s i q (blob k) result ∧ mismatch c) ∧
      (tooLongOut d (blob k).length = true → fails c 0x32 (shortDetail d))
    let makes (c : Bool → Instr) (value : KeyAux → List Byte) : Prop :=
      (keyAux q = none → fails c 0x30 0x09) ∧
      ∀ a, keyAux q = some a → (∀ e, newKeyErr d a = some e → fails c e.1 e.2) ∧
        (newKeyErr d a = none →
          let k : Key := { value := value a, attr := d.imm, tallyAddr := a.tallyAddr, tallyLimit := a.tallyLimit }
          (d.dstSel ≠ 3 → asBlob c k 0) ∧
          (d.dstSel = 3 → tooLongOut d k.value.length = false → mismatch c ∧
            Ends (c true) s fun t => OutcomeIs t i 0 0 k.value.length 0 ∧ StoresOf t i = [] ∧
              { chain := q.chain, i := toFin 8 (by decide) d.dst, isKey := true, bytes := k.value, attr := d.imm } ∈ t.inters))
    (RunsOn s i 0x70 q src →
      (∀ k, q.key = some k → asBlob (.blobWrap i) k (blob k).length) ∧
      (q.key = none → ∀ x, interAt s q.chain (toFin 8 (by decide) d.src) = some x → x.isKey = true →
        (∀ dt, attrErr s q.stall d x.attr false = some dt → fails (.blobWrap i) 0x20 dt) ∧
        (attrErr s q.stall d x.attr false = none →
          let k : Key := { value := x.bytes, attr := x.attr, tallyAddr := 0, tallyLimit := 0 }
          asBlob (.blobWrap i) k (blob k).length))) ∧
    (RunsOn s i 0x72 q src → ∀ k, q.key = some k →
      (narrower k.attr d.imm = true →
        makes (.keyDerive i) fun a => kdf (deriveKin k) a.label (a.context ++ leBytes 8 d.imm.toNat) (klen d.imm)) ∧
      (narrower k.attr d.imm = false → fails (.keyDerive i) 0x20 0x0C)) ∧
    (RunsOn s i 0x73 q src → makes (.keyGenerate i) fun _ => randomBytes s q (klen d.imm)) ∧
    (RunsOn s i 0x77 q src → makes (.keyImport i) fun _ => src)

/-- The keyed-state store: BLOB_UNWRAP and KSTATE_LOAD put an entry at the next free handle and return it, and BLOB_UNWRAP
of a chain makes a KEY intermediate; a load that finds none waits, and ends KEY_DENIED with DETAIL 0x08 when the wait
expires; KSTATE_DROP frees an entry, at once or after its last user; TALLY_BIND takes the first free binding
(R342-R346, R351, R352). The clauses rest on the model's choices of assumption log 2, 10, 30. -/
def Obligations.KeyedStateActs : Prop :=
  ∀ (s : State) (i : Nat) (q : Req) (src : List Byte), Quiet s →
    let loads (c : Instr) (kind : BitVec 2) (value : List Byte) (k : Key) : Prop :=
      (∀ h, nextFree s = some h → Ends c s fun t =>
        t.tkr.store[h] = { kind := kind, stall := q.stall, secure := s.stalls[q.stall].secure,
                           mode := if kind = 1 then 0 else q.desc.mode, key := { k with value := value },
                           source := entrySource q, dropped := false } ∧
        OutcomeIs t i 0 0 0 h.val ∧ (∀ j : Handle, j ≠ h → t.tkr.store[j] = s.tkr.store[j]) ∧ t.tkr.slots = s.tkr.slots) ∧
      (nextFree s = none → Ends c s fun t => t.reqs = s.reqs ∧ t.tkr = s.tkr)
    (RunsOn s i 0x71 q src → ∀ k, q.key = some k →
      (q.desc.dstSel ≠ 3 → loads (.blobUnwrap i) 1 k.value k) ∧
      (q.desc.dstSel = 3 → tooLongOut q.desc k.value.length = false → Ends (.blobUnwrap i) s fun t =>
        OutcomeIs t i 0 0 k.value.length 0 ∧ StoresOf t i = [] ∧ t.tkr = s.tkr ∧
        { chain := q.chain, i := toFin 8 (by decide) q.desc.dst, isKey := true, bytes := k.value, attr := k.attr } ∈ t.inters)) ∧
    (RunsOn s i 0x74 q src → ∀ k, q.key = some k →
      (keyAux q = none → Fails (.kstateLoad i) s i 0x30 0x09) ∧
      ∀ a, keyAux q = some a →
        (ktype k.attr = 8 → loads (.kstateLoad i) 2 (prepared q.desc.alg k.value []) k) ∧
        (ktype k.attr ≠ 8 → loads (.kstateLoad i) 3 (prepared q.desc.alg k.value a.label) k)) ∧
    ((RunsOn s i 0x71 q src ∨ RunsOn s i 0x74 q src) → nextFree s = none → Fails (.storeWaitExpiry i) s i 0x20 0x08) ∧
    (RunsOn s i 0x75 q src →
      let h : Handle := toFin 2048 (by decide) (field q.desc.imm 0 11).toNat
      let e := s.tkr.store[h]
      (e.kind ≠ 0 → e.stall = q.stall → e.dropped = false → Ends (.kstateDrop i) s fun t => OutcomeIs t i 0 0 0 0 ∧
        t.tkr.slots = s.tkr.slots ∧ t.tkr.store[h] = if entryUsers s h then { e with dropped := true } else Entry.reset) ∧
      ((e.kind = 0 ∨ e.stall ≠ q.stall ∨ e.dropped = true) → Fails (.kstateDrop i) s i 0x21 0x05)) ∧
    (RunsOn s i 0x76 q src →
      let k : SlotId := toFin 512 (by decide) q.desc.keyRef.toNat
      (keyAux q = none → Fails (.tallyBind i) s i 0x30 0x09) ∧
      ∀ a, keyAux q = some a →
        (a.tallyAddr = 0 → Fails (.tallyBind i) s i 0x30 0x09) ∧
        (a.tallyAddr ≠ 0 → slotBind s k ≠ none → Fails (.tallyBind i) s i 0x20 0x0F) ∧
        (a.tallyAddr ≠ 0 → slotBind s k = none → (∀ j : Fin 64, s.tkr.tbind[j].valid = true) → Fails (.tallyBind i) s i 0x20 0x0E) ∧
        (a.tallyAddr ≠ 0 → slotBind s k = none → ∀ j l, (vfind s.tkr.tbind fun b => !b.valid) = j :: l →
          Ends (.tallyBind i) s fun t => OutcomeIs t i 0 0 0 j.val ∧
            t.tkr.tbind[j] = { valid := true, slot := BitVec.ofNat 9 k.val, tallyAddr := a.tallyAddr, tallyLimit := a.tallyLimit } ∧
            ∀ m, m ≠ j → t.tkr.tbind[m] = s.tkr.tbind[m]))

/-- Slots and the life cycle: PF1's GO starts a programming sequence of a free slot with a drawn value or a blob's, or
sets ERR, and its end writes value, attribute and integrity code, a slot whose readback fails BAD with HS79, and
raises EV299; TAKE_OWNERSHIP and RETIRE start only as R354 lists them and end with their copy and byte programmed and
EV298; RETIRE waits for the requests admitted before it and zeroises every key first; TKR_DOMAIN is taken from a stall
that is FREE or QUIESCED; an idle key register is zeroised; PF0's writes change nothing (R316-R321, R349, R353-R355,
R358, R362, R363). Debug unlock: DBG_NONCE shifts out 32 drawn bytes and arms them, or zeros in OTP and after four
failures; a response that verifies clears every key, opens debug, extends MR1 and raises EV297; one that does not
counts a failure; DBG_STATE shows debug, life cycle and failures (R356, R357, R780). The clauses rest on the model's
choices of assumption log 2, 41, 42, 69. -/
def Obligations.SlotsLifeCycleAndDebugAct : Prop :=
  (∀ s : State, Quiet s → RoutesGood s →
     (WritesServed s .pf1 → ∀ v : BitVec 32,
       let k : SlotId := bvFin (field v 0 9)
       let u := { s with tkr := { s.tkr with
         progSlot := field v 0 9, progStall := field v 16 6,
         progSource := if 2 ≤ (field v 9 2 : BitVec 2).toNat then s.tkr.progSource else field v 9 2 } }
       let free := s.tkr.progBusy = none ∧ s.tkr.lcBusy = none
       let blank := k ≠ 0 ∧ s.tkr.slots[k].state = .unprogrammed
       let lc := (lcCode s = 1 ∨ lcCode s = 2) ∧ s.tkr.debugOpen = false
       let good := free ∧ blank ∧ lc ∧ slotAttrBad s.tkr.progAttr = false
       let ends (agree : Bool) (e : BitVec 4) : Prop :=
         exec (.tkrProgGo .pf1 ⟨v, agree⟩) s = .next { u with tkr := { u.tkr with progErr := e } }
       let starts (agree : Bool) (w : Option (BitVec 256)) : Prop := Ends (.tkrProgGo .pf1 ⟨v, agree⟩) s fun t =>
         t = { s with tkr := t.tkr } ∧ t.tkr.progBusy = some k ∧ t.tkr.progErr = 0 ∧ t.tkr.progValue = w ∧
         t.tkr.progWord = s.tkr.progAttr ∧ t.tkr.slots[k] = { s.tkr.slots[k] with state := .programming } ∧
         ∀ j : SlotId, j ≠ k → t.tkr.slots[j] = s.tkr.slots[j]
       (∀ agree, (¬ free → ends agree 6) ∧ (free → ¬ blank → ends agree 1) ∧ (free → blank → ¬ lc → ends agree 2) ∧
         (free → blank → lc → slotAttrBad s.tkr.progAttr = true → ends agree 3) ∧
         (good → u.tkr.progSource = 0 → starts agree none)) ∧
       (good → u.tkr.progSource ≠ 0 →
         (∀ w, progBlobValue u = some w → starts true (some (BitVec.ofNat 256 (leNat w)))) ∧
         (progBlobValue u = none → ends true 4) ∧
         exec (.tkrProgGo .pf1 ⟨v, false⟩) s = .next (settle (raiseHs { u with tkr := { u.tkr with progErr := 4 } } 79 none)))) ∧
     (∀ k v, s.tkr.progBusy = some k → progValueNow s = some v →
       let slot (st : SlotState) : Slot :=
         { value := v, attr := s.tkr.progWord, crc := crc32c (leBytes 32 v.toNat ++ leBytes 8 s.tkr.progWord.toNat), state := st }
       let done (t : State) (st : SlotState) (e : BitVec 4) : Prop := t.tkr.slots[k] = slot st ∧ t.tkr.progErr = e ∧
         (∀ j : SlotId, j ≠ k → t.tkr.slots[j] = s.tkr.slots[j]) ∧ t.tkr.progBusy = none ∧ t.tkr.progDone = true ∧
         (evSrc t .pf1 299).cause = true
       (Ends (.slotProgramDone true) s fun t => done t .valid 0 ∧ t.hlt = s.hlt) ∧
       (Ends (.slotProgramDone false) s fun t => ∃ w, t = settle w ∧ done w .bad 5 ∧ w.hlt = (raiseHs s 79 none).hlt)) ∧
     (WritesServed s .pf1 → ∀ v : BitVec 32, field v 16 16 = 0x7AC0 →
       let err : State := { s with tkr := { s.tkr with cmdErr := true } }
       let busy := s.tkr.lcBusy ≠ none ∨ s.tkr.progBusy ≠ none
       (busy → exec (.tkrLcTakeOwnership .pf1 v) s = .next err ∧ exec (.tkrLcRetire .pf1 v) s = .next err) ∧
       (¬ busy →
         (∀ m, lcStart s 1 = some m →
           exec (.tkrLcTakeOwnership .pf1 v) s = .next { s with tkr := { s.tkr with lcBusy := some m, lcFrom := s.nextId } }) ∧
         (lcStart s 1 = none → exec (.tkrLcTakeOwnership .pf1 v) s = .next err) ∧
         (lcCode s ≠ 3 → exec (.tkrLcRetire .pf1 v) s = .next { s with tkr := { s.tkr with lcBusy := some .retire, lcFrom := s.nextId } }) ∧
         (lcCode s = 3 → exec (.tkrLcRetire .pf1 v) s = .next err)) ∧
       ((field v 0 4).toNat ≠ 1 → (field v 0 4).toNat ≠ 2 → exec (.tkrLcCmdInvalid .pf1 v) s = .next err)) ∧
     (WritesServed s .pf1 → ∀ v : BitVec 32, field v 16 16 ≠ 0x7AC0 → exec (.tkrLcCmdInvalid .pf1 v) s = .next s ∧
       exec (.tkrLcTakeOwnership .pf1 v) s = .next s ∧ exec (.tkrLcRetire .pf1 v) s = .next s) ∧
     (WritesServed s .pf0 → ∀ v : BitVec 32, (∀ agree, exec (.tkrProgGo .pf0 ⟨v, agree⟩) s = .next s) ∧
       exec (.tkrLcTakeOwnership .pf0 v) s = .next s ∧ exec (.tkrLcRetire .pf0 v) s = .next s ∧
       exec (.tkrLcCmdInvalid .pf0 v) s = .next s ∧ exec (.tkrCtlWrite .pf0 v) s = .next s) ∧
     (s.tkr.lcBusy = some .retire → ∀ ok,
       ((∃ q ∈ s.reqs, q.id < s.tkr.lcFrom) → exec (.lcTransitionEnd ok) s = .next s) ∧
       ((∀ q ∈ s.reqs, s.tkr.lcFrom ≤ q.id) → Ends (.lcTransitionEnd ok) s fun t =>
         t.tkr.lcBusy = none ∧ t.tkr.lcWord[(2 : Fin 3)] = 0xFF ∧ (∀ u : UnitId, t.units[u].keyReg = none) ∧
         (∀ h : Handle, t.tkr.store[h].kind = 0) ∧ t.tkr.slots = s.tkr.slots ∧ (evSrc t .pf1 298).cause = true)) ∧
     (s.tkr.lcBusy = some .finishOwn → ∀ ok, Ends (.lcTransitionEnd ok) s fun t => t.tkr.lcBusy = none ∧
       t.tkr.lcWord[(1 : Fin 3)] = 0xFF ∧ t.tkr.ownerA = s.tkr.ownerA ∧ t.tkr.ownerB = s.tkr.ownerB ∧ (evSrc t .pf1 298).cause = true) ∧
     (∀ b : Bool, s.tkr.lcBusy = some (.own b) →
       (Ends (.lcTransitionEnd true) s fun t => t.tkr.lcBusy = none ∧ t.tkr.lcWord[(1 : Fin 3)] = 0xFF ∧
         (if b then t.tkr.ownerB else t.tkr.ownerA) = { hash := staged s, crc := crc32c (leBytes 48 (staged s).toNat) } ∧
         (evSrc t .pf1 298).cause = true) ∧
       (Ends (.lcTransitionEnd false) s fun t => ∃ w, t = settle (raiseHs w 79 none) ∧ w.tkr.lcBusy = none ∧
         w.tkr.lcWord = s.tkr.lcWord ∧ (evSrc w .pf1 298).cause = true)) ∧
     (WritesServed s .pf1 → ∀ (n : StallId) (v : BitVec 64),
       let w := dropLow s .pf1 (BitVec.ofNat 20 (0x0C800 + 8 * n.val))
       ((s.stalls[n].state = .free ∨ s.stalls[n].state = .quiesced) → exec (.tkrDomainWrite .pf1 n v) s =
         .next (setStall w n fun x => { x with domain := field v 0 32, kekGen := field v 32 24, importEn := bit v 56 })) ∧
       ((s.stalls[n].state ≠ .free ∧ s.stalls[n].state ≠ .quiesced) →
         exec (.tkrDomainWrite .pf1 n v) s = .next { w with tkr := { s.tkr with cmdErr := true } })) ∧
     (WritesServed s .pf1 → ∀ v : BitVec 32, Ends (.tkrCtlWrite .pf1 v) s fun t =>
       t = { s with tkr := { s.tkr with keyIdle := field v 0 16, storeWait := field v 16 16 }, units := t.units } ∧
       ∀ u : UnitId, t.units[u] =
         if field v 0 16 ≠ (0 : BitVec 16) ∧ keyIdleNow s.units[u] = true ∧ (s.units[u].keyReg.any fun k =>
           decide (1000 * (field v 0 16 : BitVec 16).toNat ≤ atRate s.boot.clkRate (s.cycle - k.lastUse))) = true
         then { s.units[u] with keyReg := none } else s.units[u]) ∧
     (∀ u : UnitId, s.tkr.keyIdle ≠ 0 → s.units[u].run = none → s.units[u].suspended = none →
       exec (.keyIdleExpiry u) s = .next (setUnit s u fun x => { x with keyReg := none }))) ∧
  (∀ s : State, Quiet s → RoutesGood s → dbgActs s = true →
     let j (code : Byte) : State := { s with jtag := { s.jtag with ir := code } }
     let nonce (e : BitVec 512) : List Byte := slice (leBytes 64 e.toNat) 0 32
     (s.tkr.fails.toNat < 4 → s.boot.phase ≠ .otp → ∀ up : Bool,
       let shifts (e : BitVec 512) (t : State) : Prop := t.resp = .bytes (nonce e) ∧ grantedTo t .debugNonce = [] ∧
         t.tkr = { s.tkr with nonce := if up then some (nonce e) else s.tkr.nonce }
       (∀ e l, grantedTo s .debugNonce = e :: l → Ends (.dbgNonce up) s fun t => shifts e t ∧ t.ent.queue = s.ent.queue) ∧
       (∀ e l, grantedTo s .debugNonce = [] → s.ent.queue = e :: l → Ends (.dbgNonce up) s fun t => shifts e t ∧ t.ent.queue = l) ∧
       (grantedTo s .debugNonce = [] → s.ent.queue = [] → exec (.dbgNonce up) s = .next (j 0x20))) ∧
     ((4 ≤ s.tkr.fails.toNat ∨ s.boot.phase = .otp) → ∀ up, exec (.dbgNonce up) s = .next (answer (j 0x20) (.bytes (zeros 32)))) ∧
     (∀ resp : BitVec 768, (s.tkr.nonce = none ∨ 4 ≤ s.tkr.fails.toNat) → exec (.dbgResponse resp) s = .next (j 0x21)) ∧
     (∀ n (resp : BitVec 768), s.tkr.nonce = some n → s.tkr.fails.toNat < 4 →
       (debugOk s n (leBytes 96 resp.toNat) = false → exec (.dbgResponse resp) s =
         .next { j 0x21 with tkr := { s.tkr with fails := s.tkr.fails + 1, nonce := none } }) ∧
       (debugOk s n (leBytes 96 resp.toNat) = true → feedActive s = false → Ends (.dbgResponse resp) s fun t =>
         t.tkr.debugOpen = true ∧ t.tkr.nonce = none ∧ (∀ u : UnitId, t.units[u].keyReg = none) ∧
         (∀ h : Handle, t.tkr.store[h].kind = 0) ∧ t.tkr.slots = s.tkr.slots ∧ (evSrc t .pf1 297).cause = true ∧
         (s.mrb.fenced = false → s.mrb.queue = [] →
           t.mrb.value[(1 : MrId)] = BitVec.ofNat 384 (leNat (sha384 (mrBytes s 1 ++
             slice (sha384 (summary16 { s with tkr := { s.tkr with debugOpen := true } })) 0 48)))))) ∧
     exec .dbgState s = .next (answer (j 0x22) (.bytes [dbgStateByte s])) ∧
     bit (dbgStateByte s) 0 = s.tkr.debugOpen ∧ field (dbgStateByte s) 1 2 = BitVec.ofNat 2 (lcCode s) ∧
     field (dbgStateByte s) 3 3 = s.tkr.fails)

/-! ### Memory opcodes, the Manger and the channels (12, 13) -/

/-- The memory opcodes: COPY returns its source, or free bytes where it overlaps, and FILL its pattern; TALLY64_READ
returns the value; TALLY64_ADD adds, adds with saturation, or sets, in one read-modify-write, and returns the old
value; LINEADD replaces a line by the 4096-bit sum and returns the carry; both first invalidate the crib copies of
their line; FLUSH writes back every line of its range and returns how many were dirty (R539, R540, R543, R545-R547).
The clauses rest on the model's choices of assumption log 43, 44. -/
def Obligations.MemoryOpcodesAnswer : Prop :=
  ∀ (s : State) (i : Nat) (q : Req) (src : List Byte), Quiet s →
    let d := q.desc
    let u := cribUsed s q
    (RunsOn s i 0x80 q src → tooLongOut d src.length = false →
      Answers (.copy i) s i q (if copyOverlaps d then freeBytes s src.length else src) 0) ∧
    (RunsOn s i 0x81 q src → tooLongOut d d.dstLen = false →
      Answers (.fill i) s i q ((List.range d.dstLen).map fun j => (leBytes 8 d.imm.toNat).getD (j % 8) 0) 0) ∧
    (RunsOn s i 0x85 q src →
      let out := if d.dstLen = 0 then [] else src
      tooLongOut d out.length = false → Answers (.tally64Read i) s i q out (leNat src % 2 ^ 32)) ∧
    (RunsOn s i 0x84 q src →
      let out := if d.dstLen = 0 then [] else src
      let v := BitVec.ofNat 64 (leNat src)
      let w := if bit d.mode 1 then d.imm
               else if bit d.mode 0 ∧ 2 ^ 64 ≤ v.toNat + d.imm.toNat then BitVec.allOnes 64 else v + d.imm
      let put := localPut u (tallyBy s q) d.src (leBytes 8 w.toNat)
      (redReady s d.src = true → tooLongOut d out.length = false → Ends (.tally64Add i) s fun t =>
        OutcomeIs t i 0 0 out.length (v.toNat % 2 ^ 32) ∧ (findReq t i).map (·.effect) = some true ∧ t.dram = put.dram ∧ t.mgr = put.mgr) ∧
      (redReady s d.src = false → exec (.tally64Add i) s = .next (settle (redInval u d.src)))) ∧
    (RunsOn s i 0x86 q src → accessHeld s d.dst = false →
      let sum := leNat (coRead s d.dst 512) + leNat src + if bit d.imm 0 then 1 else 0
      let put := localPut u (byReq q) d.dst (leBytes 512 (sum % 2 ^ 4096))
      (coPoisoned s d.dst 512 = true → Fails (.lineadd i) s i 0x70 0) ∧
      (coPoisoned s d.dst 512 = false → redReady s d.dst = false → exec (.lineadd i) s = .next (settle (redInval u d.dst))) ∧
      (coPoisoned s d.dst 512 = false → redReady s d.dst = true → Ends (.lineadd i) s fun t =>
        OutcomeIs t i 0 0 512 (sum / 2 ^ 4096) ∧ (findReq t i).map (·.effect) = some true ∧ t.dram = put.dram ∧ t.mgr = put.mgr)) ∧
    (RunsOn s i 0x88 q src → accessHeld s d.dst = false →
      let ls := s.mgr.lines.filter fun x => decide (d.dst ≤ lineAddr x.line) && decide (lineAddr x.line < d.dst + d.dstLen)
      ls.all (flushable (bit d.mode 0)) = true →
      Ends (.flush i) s fun t => OutcomeIs t i 0 0 0 (ls.filter fun x => decide (x.dirty ≠ 0)).length ∧
        let v := ls.foldl (flushLine (bit d.mode 0)) u
        t.dram = v.dram ∧ t.mgr = v.mgr)

/-- Lines of the Manger: a miss allocates a FILLING line, and does nothing where the line is there or its channel fenced;
a fill ends it with every sector valid, a write-back cleans a line or lets a replaced one go, a crib takes and gives
back copies with its presence bit, and the last answer of an invalidation settles the line (R536-R538, R549-R552,
R556, R597). Repartition and slice errors: a mode that differs starts CLEAN for its group, CLEAN ends in SWAP, SWAP
ends with the new mode in force; an error of a line's data poisons the sector, one of a reserved line fails its
request, a tag or directory error fences its slice, and each raises the slice's Halter source (R527, R534, R558,
R559). The clauses rest on the model's choices of assumption log 45, 46, 47, 74. -/
def Obligations.LinesAndSlicesAct : Prop :=
  (∀ (s : State) (l : LineNo),
     (∀ (who : Option StallId) (kind : AccKind),
       ((findLine s l).isSome = true ∨ s.mcs[lineChan l].state = .fenced → exec (.sliceMiss l who kind) s = .next s) ∧
       ∀ k : SliceId, findLine s l = none → s.mcs[lineChan l].state ≠ .fenced →
       accessHeld s (lineAddr l) = false → homeSlice s l = some k → atCapacity s who l = false → missFree s k kind = true →
       (setLines s l).length < 16 →
       exec (.sliceMiss l who kind) s = .next (putLine s (fillingLine s l who [])) ∧ (fillingLine s l who []).state = .filling) ∧
     ∀ x, findLine s l = some x →
       let settled (y : Line) : Line := { y with state := if y.dirty ≠ 0 then .dirty else .clean }
       (x.state = .filling → s.mgr.missWaiting = [] →
         (x.writes = [] → x.fills = [] → s.mcs[lineChan l].state ≠ .fenced → Ends (.lineFillComplete l) s fun t =>
           findLine t l = some (settled (filledLine s x)) ∧ (filledLine s x).valid = 0xFF ∧ t.dram = s.dram ∧ t.reqs = s.reqs) ∧
         (s.mcs[lineChan l].state = .fenced → Ends (.lineFillComplete l) s fun t => findLine t l = none ∧ t.dram = s.dram)) ∧
       (x.state = .writeback → s.mgr.missWaiting = [] →
         (x.evict = false → x.writes = [] → x.fills = [] →
           Ends (.writebackComplete l) s fun t => findLine t l = some { x with dirty := 0, state := .clean } ∧ t.dram = (writeBack s x).dram) ∧
         (x.evict = true → Ends (.writebackComplete l) s fun t => findLine t l = none ∧ t.dram = (lineOut s x).dram)) ∧
       (∀ u : UnitId, (s.units[u].crib.any fun c => decide (c.line = l)) = true →
         (x.state ≠ .invalidating →
           (Ends (.cribEvict u l) s fun t =>
             findLine t l = some { x with presence := putBit x.presence u.val false } ∧ (∀ c ∈ t.units[u].crib, c.line ≠ l) ∧
             t.mgr.crossings = s.mgr.crossings ∧ t.dram = s.dram) ∧ exec (.cribInval u l) s = .next s) ∧
         (x.state = .invalidating →
           (Ends (.cribEvict u l) s fun t => t.mgr.crossings = satInc s.mgr.crossings ∧ ∀ c ∈ t.units[u].crib, c.line ≠ l) ∧
           (Ends (.cribInval u l) s fun t => (∀ c ∈ t.units[u].crib, c.line ≠ l) ∧ t.mgr = s.mgr ∧ t.dram = s.dram))) ∧
       (∀ (u : UnitId) (p : Bool),
         ((x.state ≠ .invalidating ∨ x.acks = 0) → exec (.cribAck u l p) s = .next s) ∧
         (x.state = .invalidating → 2 ≤ x.acks → Ends (.cribAck u l p) s fun t =>
           findLine t l = some { x with acks := x.acks - 1 } ∧ (∀ c ∈ t.units[u].crib, c.line ≠ l) ∧ t.dram = s.dram) ∧
         (x.state = .invalidating → x.acks = 1 → x.writes = [] → x.fills = [] → x.evict = false → Ends (.cribAck u l p) s fun t =>
           findLine t l = some (settled { x with presence := 0, acks := 0 }) ∧ (∀ c ∈ t.units[u].crib, c.line ≠ l) ∧ t.dram = s.dram)) ∧
       (∀ u : UnitId, pdPowered s (unitPd u) = true → x.type = 2 →
         ((x.state = .clean ∨ x.state = .dirty) → s.units[u].crib = [] → Ends (.cribFill u l) s fun t =>
           (∃ y, findLine t l = some y ∧ y.presence = putBit x.presence u.val true ∧ y.valid = 0xFF) ∧
           (∃ c, t.units[u].crib = [c] ∧ c.line = l ∧ c.data = ofLineBytes (coRead s (lineAddr l) 512)) ∧ t.dram = s.dram) ∧
         (x.state ≠ .clean → x.state ≠ .dirty → Ends (.cribFill u l) s fun t =>
           findLine t l = some { x with fills := if x.fills.contains u then x.fills else x.fills ++ [u] } ∧ t.units = s.units))) ∧
  (∀ s : State, Quiet s →
     (∀ (k : SliceId) (v : BitVec 32),
       let m : Bool × StallId := (bit v 0, bvFin (field v 8 6))
       let w := sliceWill s.mgr.slices[k]
       (WritesServed s .pf0 → sliceMay s .pf0 k m.1 m.2 = false →
         exec (.mgrSliceCtlWrite .pf0 k v) s = .next { s with mgr := { s.mgr with cfgErr := true } }) ∧
       (WritesServed s .pf1 →
         (w = m → exec (.mgrSliceCtlWrite .pf1 k v) s = .next s) ∧
         (w ≠ m → m.1 = false → w.1 = false →
           exec (.mgrSliceCtlWrite .pf1 k v) s = .next (setSlice s k fun x => { x with stall := m.2 })) ∧
         (w ≠ m → (m.1 = true ∨ w.1 = true) → (∀ g : ChanId, s.mgr.repart[g] = .none) →
           Ends (.mgrSliceCtlWrite .pf1 k v) s fun t => t.mgr.slices[k].next = some m ∧ t.mgr.repart[sliceGroup k] = .clean ∧
             t.mgr.slices[k].dedicated = s.mgr.slices[k].dedicated ∧ (∀ j : SliceId, j ≠ k → t.mgr.slices[j] = s.mgr.slices[j]) ∧
             t.dram = s.dram ∧ t.mgr.lines = s.mgr.lines))) ∧
     (repartIn s .clean = none → exec .repartCleanEnd s = .next s) ∧ (repartIn s .swap = none → exec .repartSwapEnd s = .next s) ∧
     (∀ g : ChanId, repartIn s .clean = some g → (∀ x ∈ s.mgr.lines, lineChan x.line ≠ g) →
       exec .repartCleanEnd s = .next { s with mgr := { s.mgr with repart := s.mgr.repart.set g .swap } }) ∧
     (∀ g : ChanId, repartIn s .swap = some g → (∀ x ∈ s.mgr.lines, lineChan x.line ≠ g) → s.mgr.held = [] → s.mgr.missWaiting = [] →
       repartIn s .pending = none → (∀ k ∈ groupSlices g, s.mgr.slices[k].held = none) →
       Ends .repartSwapEnd s fun t => t.mgr.repart[g] = .none ∧ (∀ k ∈ groupSlices g, t.mgr.slices[k] = sliceSwap s.mgr.slices[k]) ∧
         (∀ k : SliceId, k ∉ groupSlices g → t.mgr.slices[k] = s.mgr.slices[k]) ∧ t.dram = s.dram ∧ t.mgr.lines = s.mgr.lines) ∧
     (∀ (k : SliceId) (st : Option StallId),
       let raises (err : SliceErr) (p : State → Prop) : Prop :=
         Ends (.sliceUncorrectable k err st) s fun t => ∃ u, t = settle (raiseHs u (sliceHs k) st) ∧ p u
       (∀ line way sector x, findLine s line = some x → homeSlice s line = some k → bit x.valid sector.val = true →
         raises (.data line way sector) fun u => u.reqs = s.reqs ∧
           findLine u line = some { x with poison := putBit x.poison sector.val true }) ∧
       (∀ i q, findReq s i = some q → needsLines q = true → raises (.reserved i) fun u => OutcomeIs u i 0x70 0 0 0) ∧
       (s.mgr.slices[k].fenced = false →
         (raises .tag fun u => u = fenceSlice (logMgr s k .tag st) k ∧ u.mgr.slices[k].fenced = true) ∧
         (raises .directory fun u => u = fenceSlice (logMgr s k .directory st) k ∧ u.mgr.slices[k].fenced = true))))

/-- Channels: training ends in FILLING with the density found, or fenced; the fill leaves every byte 0 and the channel
running; a correctable page is counted and queued, with EV305 past the threshold, its rewrite counted; an
uncorrectable page is poisoned as a whole and reported (R93, R570, R573, R579, R580, R595-R597). The Scrubber reads
page after page and word after word, counts what it finds, rewrites what was correctable, and reports what was not on
HS94; an uncorrectable word of an SRAM has its structure's outcome on that structure's source; a lap end clears its
place, an overdue lap raises EV304 once (R581, R590-R593, R611). The clauses rest on the model's choice of assumption
log 48. -/
def Obligations.ChannelsAndScrubberAct : Prop :=
  (∀ (s : State) (g : ChanId), Quiet s → RoutesGood s →
     (s.mcs[g].state = .training → ∀ (density : BitVec 3) (r2 : Bool),
       (density.toNat ≤ 6 → Ends (.channelTrainingEnd g true density r2) s fun t =>
         t.mcs[g] = { s.mcs[g] with state := .filling, density := density, ranks2 := r2, trained := true } ∧
         (∀ h : ChanId, h ≠ g → t.mcs[h] = s.mcs[h]) ∧ t.dram = s.dram ∧ t.hlt = s.hlt) ∧
       (density.toNat = 7 → exec (.channelTrainingEnd g true density r2) s = .next (settle (fenceChan s g))) ∧
       exec (.channelTrainingEnd g false density r2) s = .next (settle (fenceChan s g))) ∧
     (s.mcs[g].state = .filling → s.mgr.held = [] → Ends (.channelFillEnd g) s fun t => t.mcs[g] = { s.mcs[g] with state := .run } ∧
       (∀ a, chanOf a = g → a < 0x400000000 → cellGet t.dram.cells a = 0) ∧
       (∀ a, a < 0x400000000 → chanOf a ≠ g → cellGet t.dram.cells a = cellGet s.dram.cells a) ∧
       (∀ x ∈ t.dram.poison, chanOf (64 * x) ≠ g) ∧ t.hlt = s.hlt ∧ t.reqs = s.reqs) ∧
     (s.mcs[g].state = .run →
       exec (.mr4Poll g false) s = .next (setMc s g fun m => { m with hot := false }) ∧
       exec (.mr4Poll g true) s = .next (settle (raiseHs (setMc s g fun m => { m with hot := true }) (chanHs g) none)) ∧
       exec (.trackingFail g) s = .next (settle (fenceChan s g)) ∧ (fenceChan s g).mcs[g].state = .fenced ∧
       (fenceChan s g).mcs[g].repairQ = []) ∧
     (s.mcs[g].state ≠ .run → (∀ h, exec (.mr4Poll g h) s = .next s) ∧ exec (.trackingFail g) s = .next s) ∧
     (∀ page : BitVec 21,
       (pageOk s g page.toNat = false → (∀ n, exec (.dramCorrectableRead g page n) s = .next s) ∧
         ∀ st, exec (.dramUncorrectableRead g page st) s = .next s) ∧
       (pageOk s g page.toNat = true →
         (∀ n, Ends (.dramCorrectableRead g page n) s fun t =>
           t.mcs[g] = { s.mcs[g] with corrected := satInc s.mcs[g].corrected,
                                      repairQ := if s.mcs[g].repairQ.length < 8 then s.mcs[g].repairQ ++ [page] else s.mcs[g].repairQ } ∧
           (∀ h : ChanId, h ≠ g → t.mcs[h] = s.mcs[h]) ∧ t.dram = s.dram ∧
           (if s.mcs[g].ceThresh.toNat < n then (evSrc t .pf1 305).cause = true else t.evt = s.evt)) ∧
         (∀ st, exec (.dramUncorrectableRead g page st) s = .next (settle (raiseHs (poisonPage s g page 1) (chanHs g) st)) ∧
           (poisonPage s g page 1).mcs[g].uncorr = satInc s.mcs[g].uncorr ∧
           (∀ i, i < 32 → (g.val * 0x100000000 + page.toNat * 2048) / 64 + i ∈ (poisonPage s g page 1).dram.poison) ∧
           (poisonPage s g page 1).dram.cells = s.dram.cells))) ∧
     (∀ p l, s.mcs[g].repairQ = p :: l →
       exec (.repairRewrite g) s = .next (setMc s g fun m => { m with repairQ := l, repairs := satInc m.repairs })) ∧
     (s.mcs[g].repairQ = [] → exec (.repairRewrite g) s = .next s)) ∧
  (∀ s : State, Quiet s → RoutesGood s →
     (∀ g : ChanId,
       let x := s.scb.sweeps[chanSweep g]
       ((bit s.scb.dramEn g.val = false ∨ pageOk s g x.pos = false) → ∀ r, exec (.scrubDramRead g r) s = .next s) ∧
       (bit s.scb.dramEn g.val = true → pageOk s g x.pos = true →
         (∀ r, r ≠ .uncorrectable → Ends (.scrubDramRead g r) s fun t => t = { s with scb := t.scb } ∧
           t.scb.sweeps[chanSweep g] = { x with pos := x.pos + 1, rewrite := decide (r = .correctable) } ∧
           t.scb.foundCor = (if r = .correctable then satInc s.scb.foundCor else s.scb.foundCor) ∧ t.scb.foundUnc = s.scb.foundUnc) ∧
         exec (.scrubDramRead g .uncorrectable) s =
           .next (settle (raiseHs (poisonPage (countScrub s (chanSweep g) .uncorrectable) g (BitVec.ofNat 21 x.pos) 2) 94 none)))) ∧
     (∀ w,
       (s.scb.sramEn = false → ∀ r, exec (.scrubSramRead w r) s = .next s) ∧
       (s.scb.sramEn = true →
         exec (.scrubSramRead w .clean) s = .next (countScrub s 4 .clean) ∧
         exec (.scrubSramRead w .correctable) s = .next (sramCorrected (countScrub s 4 .correctable) w) ∧
         exec (.scrubSramRead w .uncorrectable) s = .next (settle (sramBad (countScrub s 4 .uncorrectable) w true)))) ∧
     (∀ u l, exec (.sramUncorrectable (.crib u l)) s =
       .next (settle (raiseHs (cribDrop s u l) (unitHs u) ((s.units[u].run.bind (findReq s)).map (·.stall))))) ∧
     (∀ k err st, exec (.sramUncorrectable (.manger k err st)) s = exec (.sliceUncorrectable k err st) s) ∧
     (∀ h, exec (.sramUncorrectable (.store h)) s =
       .next (settle (raiseHs { s with tkr := { s.tkr with store := s.tkr.store.set h Entry.reset } } 79 none))) ∧
     (∀ i, exec (.sramUncorrectable (.entropyQueue i)) s =
       .next (settle (raiseHs { s with ent := { s.ent with queue := s.ent.queue.eraseIdx i } } 78 none))) ∧
     (∀ i q, findReq s i = some q → q.done = none → Ends (.sramUncorrectable (.bridle (some i))) s fun t =>
       t = settle (raiseHs (failReq s i 0x7F 0) 81 (some q.stall))) ∧
     exec (.sramUncorrectable (.bridle none)) s = .next (settle (raiseHs s 81 none)) ∧
     (∀ i : Fin 5,
       let limit := if i.val < 4 then s.scb.dramMin else s.scb.sramMin
       exec (.scrubRewrite i) s = .next (setSweep s i fun x => { x with rewrite := false }) ∧
       (∀ ms, exec (.scrubLapEnd i ms) s =
         .next (setSweep s i fun x => { x with last := ms, laps := satInc x.laps, pos := 0, overdue := false })) ∧
       (limit ≠ 0 → s.scb.sweeps[i].overdue = false → Ends (.scrubLapOverdue i) s fun t =>
         t.scb.sweeps[i].overdue = true ∧ (evSrc t .pf1 304).cause = true ∧ (evSrc t .pf1 304).raises = satInc (evSrc s .pf1 304).raises) ∧
       ((limit = 0 ∨ s.scb.sweeps[i].overdue = true) → exec (.scrubLapOverdue i) s = .next s)))

/-! ### Power and the window BAR4 (17, 03) -/

/-- Power domains: an off request drains, holds secure-world state or powers down, is refused on a pinned or failed domain
and to PF0 below the pool's minimum; an on request wakes the domain or cancels the gate; a drain or hold that ends
goes on; OFF is reached with the unit's key register, mask seed and crib gone, and a domain wanted ON, or awaited,
wakes again; ON is reached with a known-answer test due, the channel running or trained first (R596, R705, R707, R711,
R720). A pin of PF1 cancels a gate under way, OFF_REQ keeping its value (assumption 68), and wakes a domain that is
OFF; an access held for a group that is OFF wakes it with EV314; a block reset ends the unit's request INTERNAL with
DETAIL 0x02 and power-cycles the domain; a transition that times out fails the domain, fences its unit, channel or
source and raises its Halter source (R624, R716, R721-R723). The clauses rest on the model's choices of assumption log
52, 68. -/
def Obligations.PowerDomainsAct : Prop :=
  (∀ (s : State) (f : Fn) (d : PdId), RoutesGood s → d.val ≠ 63 → WritesServed s f → s.boot.phase = .ready →
     let p := s.pds[d]
     let z := holdZero s d
     let others (t : State) : Prop := ∀ e : PdId, e ≠ d → t.pds[e] = s.pds[e]
     let gates (c : Instr) (x : Pd) : Prop :=
       (secureState z d ≠ 0 → Ends c s fun t => t.pds[d] = { x with state := .secureHold, result := .pending, hold := secureState z d } ∧
         others t ∧ t.units = z.units) ∧
       (secureState z d = 0 → drainLeft s d = true → Ends c s fun t =>
         t.pds[d] = { x with state := .draining, result := .inProgress, hold := 0 } ∧ others t ∧ t.units = z.units) ∧
       (secureState z d = 0 → drainLeft s d = false → Ends c s fun t =>
         t.pds[d] = { x with state := .poweringDown, result := .inProgress, hold := 0 } ∧ others t ∧ t.units = (letGo z d).units ∧
         t.dram = s.dram)
     (p.offReq = true → exec (.pwrOffReq f d) s = .next s) ∧ (p.offReq = false → exec (.pwrOnReq f d) s = .next s) ∧
     (p.fail = true →
       (p.offReq = false → exec (.pwrOffReq f d) s = .next (setPd s d fun x => { x with result := .denied })) ∧
       (p.offReq = true → exec (.pwrOnReq f d) s = .next (setPd s d fun x => { x with result := .denied }))) ∧
     (p.fail = false → p.offReq = false → bit s.pwr.pin d.val = true → Ends (.pwrOffReq f d) s fun t =>
       t.pds[d] = { p with result := .denied } ∧ (f = .pf1 → t.pwr.cfgErr = true) ∧ (f = .pf0 → (evSrc t .pf0 312).cause = true)) ∧
     (p.fail = false → p.offReq = false → bit s.pwr.pin d.val = false → f = .pf0 → breaksMin s d = true →
       Ends (.pwrOffReq f d) s fun t => t.pds[d] = { p with result := .denied } ∧ (evSrc t .pf0 312).cause = true) ∧
     (p.fail = false → p.offReq = false → bit s.pwr.pin d.val = false → (f = .pf0 → breaksMin s d = false) →
       let x : Pd := { p with offReq := true, cancelled := false }
       (p.state = .on → gates (.pwrOffReq f d) x) ∧
       (p.state = .off → Ends (.pwrOffReq f d) s fun t => t.pds[d] = { x with result := .done } ∧ others t ∧ (evSrc t .pf1 311).cause = true) ∧
       (p.state ≠ .on → p.state ≠ .off → exec (.pwrOffReq f d) s = .next (setPd s d fun _ => { x with result := .inProgress }))) ∧
     (p.fail = false → p.offReq = true →
       let x : Pd := { p with offReq := false, cancelled := false }
       (p.state = .off → exec (.pwrOnReq f d) s =
         .next (setPd s d fun _ => { x with state := .waking, result := .inProgress, demand := false, hold := 0 })) ∧
       ((p.state = .on ∨ p.state = .draining ∨ p.state = .secureHold) → Ends (.pwrOnReq f d) s fun t =>
         t.pds[d] = { x with state := .on, result := .done, hold := 0 } ∧ others t ∧ (evSrc t .pf1 311).cause = true) ∧
       ((p.state = .poweringDown ∨ p.state = .waking) →
         exec (.pwrOnReq f d) s = .next (setPd s d fun _ => { x with result := .inProgress }))) ∧
     (p.state = .draining → p.blockReset = false → gates (.domainDrainComplete d) p) ∧
     (p.state = .secureHold → gates (.secureHoldEnd d) p) ∧ (p.state ≠ .secureHold → exec (.secureHoldEnd d) s = .next s)) ∧
  (∀ (s : State) (d : PdId), Quiet s → RoutesGood s → d.val ≠ 63 →
     let p := s.pds[d]
     (p.state = .poweringDown →
       let x : Pd := { p with gates := satInc p.gates, hold := 0 }
       let awaited := ∃ g, pdGroup d = some g ∧ groupAwaited s g = true
       (∀ u, pdUnit d = some u → Ends (.powerDownComplete d) s fun t =>
         t.units[u].keyReg = none ∧ t.units[u].seeded = false ∧ t.units[u].crib = [] ∧ t.units[u].held = false) ∧
       (offWanted p = true → ¬ awaited → Ends (.powerDownComplete d) s fun t => t.pds[d] = { x with state := .off, result := .done } ∧
         (evSrc t .pf1 311).cause = true) ∧
       (offWanted p = true → awaited → Ends (.powerDownComplete d) s fun t => (evSrc t .pf1 314).cause = true ∧
         t.pds[d] = { x with state := .waking, demand := true, result := .inProgress, offReq := false, cancelled := false }) ∧
       (offWanted p = false → Ends (.powerDownComplete d) s fun t =>
         t.pds[d] = { x with state := .waking, demand := false, result := .inProgress })) ∧
     (p.state ≠ .poweringDown → exec (.powerDownComplete d) s = .next s) ∧
     (p.state = .waking → offWanted p = false → s.mgr.held = [] →
       let on (t : State) : Prop := t.pds[d] = { p with state := .on, hold := 0, result := .done } ∧ (evSrc t .pf1 311).cause = true ∧ t.hlt = s.hlt
       (∀ u, pdUnit d = some u → Ends (.domainPowerStable d) s fun t => on t ∧ t.units[u] = { s.units[u] with testDue := true }) ∧
       (∀ g, pdGroup d = some g → s.mcs[g].state = .selfRefresh → Ends (.domainPowerStable d) s fun t => on t ∧ t.mcs[g].state = .run) ∧
       (∀ g, pdGroup d = some g → s.mcs[g].state = .off → s.mcs[g].enable = true → Ends (.domainPowerStable d) s fun t =>
         t.pds = s.pds ∧ t.mcs[g].state = .training) ∧
       (∀ n, pdNs d = some n → Ends (.domainPowerStable d) s fun t => on t ∧ t.ns[n].state = .startup)) ∧
     (∀ u, pdUnit d = some u → p.state = .waking → offWanted p = true → s.mgr.held = [] → secureState (holdZero s d) d = 0 →
       drainLeft s d = false → Ends (.domainPowerStable d) s fun t =>
         t.pds[d] = { p with state := .poweringDown, result := .inProgress, hold := 0 }) ∧
     (p.state ≠ .waking → exec (.domainPowerStable d) s = .next s ∧
       (p.state ≠ .poweringDown → exec (.domainTransitionTimeout d) s = .next s)) ∧
     ((p.state = .waking ∨ p.state = .poweringDown) →
       let fails (k : HsId) (q : State → Prop) : Prop := Ends (.domainTransitionTimeout d) s fun t =>
         ∃ w, t = settle (raiseHs w k none) ∧ w.pds[d] = { p with fail := true } ∧ q w
       (∀ u, pdUnit d = some u → fails (unitHs u) fun w => w.units[u].fenced = true ∧ w.units[u].keyReg = none) ∧
       (∀ g, pdGroup d = some g → fails (chanHs g) fun w => w.mcs[g].state = .fenced) ∧
       (∀ n, pdNs d = some n → fails (nsHs n) fun w => w.ns[n].state = .failed) ∧
       (d.val = 62 → s.ent.state ≠ .fenced → fails 78 fun w => w.ent.state = .fenced)) ∧
     ((p.state = .off ∨ p.state = .waking ∨ p.fail = true) → exec (.blockReset d) s = .next s) ∧
     (p.state ≠ .off → p.state ≠ .waking → p.fail = false →
       let x : Pd := { p with hold := 0, state := if offWanted p then .off else .waking, gates := satInc p.gates, demand := false }
       (∀ u, pdUnit d = some u → feedActive s = false → Ends (.blockReset d) s fun t => t.pds[d] = x ∧ t.units[u].keyReg = none ∧
         (∀ e : PdId, e ≠ d → t.pds[e] = s.pds[e]) ∧
         (∀ i q, s.units[u].run = some i → findReq s i = some q → q.done = none → OutcomeIs t i 0x7F 0x02 0 0)) ∧
       (∀ g, pdGroup d = some g →
         (groupReserved s g ≠ 0 → exec (.blockReset d) s = .next (setPd s d fun y => { y with blockReset := true })) ∧
         (groupReserved s g = 0 → Ends (.blockReset d) s fun t => t.pds[d] = { x with blockReset := false })))) ∧
  (∀ s : State, RoutesGood s →
     (WritesServed s .pf0 → ∀ v, exec (.pwrPinWrite .pf0 v) s = .next (dropLow s .pf0 0x02400)) ∧
     (WritesServed s .pf1 → ∀ v : BitVec 64, Ends (.pwrPinWrite .pf1 v) s fun t =>
       t = { s with pwr := { s.pwr with pin := v.setWidth 63 }, pds := t.pds, disp := t.disp, fns := t.fns } ∧
       ∀ d : PdId, let p := s.pds[d]
         let x : Pd := { p with cancelled := p.offReq }
         t.pds[d] = if d.val = 63 ∨ bit v d.val = false ∨ bit s.pwr.pin d.val = true ∨ p.fail = true then p
           else if p.state = .draining ∨ p.state = .secureHold then { x with state := .on, result := .inProgress, hold := 0 }
           else if p.state = .off then { x with state := .waking, demand := false, result := .inProgress, hold := 0 } else x) ∧
     (∀ g : ChanId, let p := s.pds[groupPd g]
       ((p.state ≠ .off ∨ p.fail = true) → exec (.demandWake g) s = .next s) ∧
       (p.state = .off → p.fail = false → Ends (.demandWake g) s fun t => (evSrc t .pf1 314).cause = true ∧ t.mgr = s.mgr ∧
         t.dram = s.dram ∧ t.pds[groupPd g] =
           { p with offReq := false, cancelled := false, state := .waking, demand := true, result := .inProgress, hold := 0 })))

/-- BAR4: a read that the Paddock Table grants answers with the coherent bytes and their poison; a write that it grants
reaches the home slices line by line; one that waits for its channel's fill or for its group is held, and wakes a
group that is OFF; one that the table denies is not performed, a read answered Completer Abort, and is logged; a
poisoned write is discarded (R126-R129, R153, R584, R713, R716). The clauses rest on the model's choices of assumption
log 5, 6. -/
def Obligations.WindowAccessesAct : Prop :=
  ∀ (s : State) (off : BitVec 28), Quiet s → (fnState s .pf0).d3hot = false → (fnState s .pf0).flr = false → s.boot.phase ≠ .bootFailed →
    let a := s.link.winBase.toNat * 0x10000000 + off.toNat
    let may (n : Nat) (r : Need) : Prop := pkCheck s none [{ addr := a, len := n, need := r }] = .ok
    let denied (n : Nat) (r : Need) (p : Nat) : Prop := pkCheck s none [{ addr := a, len := n, need := r }] = .denied p
    let holds (acc : Bar4Acc) : Prop :=
      let t := answer { s with mgr := { s.mgr with held := s.mgr.held ++ [{ addr := a, acc := acc, epoch := s.pdk.epoch }] } } .deferred
      (notFilled s a = false → accessHeld s a = true → exec (.bar4Access off acc) s = .next (demandWake t (chanOf a))) ∧
      (notFilled s a = true → accessHeld s a = false → exec (.bar4Access off acc) s = .next t)
    let logged (t : State) (p : Nat) : Prop := bit (fnState t .pf0).aerUnc 4 = true ∧ t.dram = s.dram ∧ t.mgr = s.mgr ∧
      (s.pdk.denyLog.valid = false → t.pdk.denyLog.valid = true ∧ t.pdk.denyLog.bar4 = true ∧ t.pdk.denyLog.page = BitVec.ofNat 22 p)
    (∀ n, may n .rd →
      (notFilled s a = false → accessHeld s a = false →
        exec (.bar4Access off (.read n)) s = .next (answer s (.data (coRead s a n) (coPoisoned s a n)))) ∧ holds (.read n)) ∧
    (∀ bs, may bs.length .wr →
      (notFilled s a = false → accessHeld s a = false →
        Ends (.bar4Access off (.write bs false)) s fun t => t.resp = .ok ∧ t.dram = (putLines s (enabled a bs)).dram ∧
          t.mgr = (putLines s (enabled a bs)).mgr ∧ t.reqs = s.reqs) ∧ holds (.write bs false)) ∧
    (∀ n p, denied n .rd p → Ends (.bar4Access off (.read n)) s fun t => t.resp = .completerAbort ∧ logged t p) ∧
    (∀ bs p, denied bs.length .wr p → Ends (.bar4Access off (.write bs false)) s fun t => t.resp = .ok ∧ logged t p) ∧
    (∀ bs, Ends (.bar4Access off (.write bs true)) s fun t => t.resp = .ok ∧ bit (fnState t .pf0).aerUnc 1 = true ∧
      t.dram = s.dram ∧ t.mgr = s.mgr)

/-! ### Stalls and protection (04) -/

/-- Stall commands: each listed transition takes place, ENABLE and RESUME to ACTIVE, QUIESCE to QUIESCING and, with
nothing admitted, QUIESCED, RESET to RESETTING, with the stall's requests and keys gone, and its end to QUIESCED,
RELEASE to FREE; a command that is not listed for the state sets its error and changes no state, a RESET during
RESETTING nothing; PF0 reaches no Secure-world stall (R118, R176, R180, R201, R203). The clauses rest on the model's
choice of assumption log 4. -/
def Obligations.StallCommandsAct : Prop :=
  ∀ (s : State) (f : Fn) (n : StallId), Quiet s → RoutesGood s →
    let x := s.stalls[n]
    let only (t : State) : Prop := ∀ m : StallId, m ≠ n → t.stalls[m] = s.stalls[m]
    (WritesServed s f → (f = .pf1 ∨ x.secure = false) →
      let bad (c : Instr) : Prop := Ends c s fun t => t.stalls[n] = { x with badCmd := true, notice := 3 } ∧ only t ∧ t.reqs = s.reqs ∧
        (evSrc t (worldFn s n) (evNotice n)).cause = true
      let activates (c : Instr) : Prop := Ends c s fun t => t.stalls[n] = { x with state := .active, tokens := t.stalls[n].tokens } ∧
        only t ∧ t.dram = s.dram ∧ t.reqs = s.reqs
      (x.state = .free → activates (.stlCmdEnable f n)) ∧ (x.state ≠ .free → bad (.stlCmdEnable f n)) ∧
      (x.state = .active → exec (.stlCmdQuiesce f n) s = .next (setStall s n fun y => { y with state := .quiescing })) ∧
      (x.state ≠ .active → bad (.stlCmdQuiesce f n)) ∧
      (x.state = .quiesced → activates (.stlCmdResume f n)) ∧ (x.state ≠ .quiesced → bad (.stlCmdResume f n)) ∧
      ((x.state = .active ∨ x.state = .quiescing ∨ x.state = .quiesced) → Ends (.stlCmdReset f n) s fun t =>
        t.stalls[n].state = .resetting ∧ t.stalls[n].resetCause = 1 ∧ t.stalls[n].aborted = s.reqs.filter (fun q => decide (q.stall = n)) ∧
        only t ∧ (∀ q ∈ t.reqs, q.stall ≠ n) ∧ (∀ h : Handle, t.tkr.store[h].kind ≠ 0 → t.tkr.store[h].stall ≠ n) ∧
        (∀ (u : UnitId) (k : KeyReg), t.units[u].keyReg = some k → k.stall ≠ n)) ∧
      (x.state = .resetting → exec (.stlCmdReset f n) s = .next s) ∧ (x.state = .free → bad (.stlCmdReset f n)) ∧
      (x.state = .quiesced → stallRings s n = [] → Ends (.stlCmdRelease f n) s fun t => t = { s with stalls := t.stalls } ∧ only t ∧
        t.stalls[n].state = .free ∧ t.stalls[n].secure = x.secure ∧ t.stalls[n].domain = x.domain) ∧
      ((x.state ≠ .quiesced ∨ stallRings s n ≠ []) → bad (.stlCmdRelease f n)) ∧
      (∀ cmd : BitVec 4, (cmd = 0 ∨ 6 ≤ cmd.toNat) → bad (.stlCmdInvalid f n cmd))) ∧
    (x.state = .quiescing → (∀ q ∈ s.reqs, q.stall ≠ n) → Ends (.quiesceComplete n) s fun t =>
      t.stalls[n] = { x with state := .quiesced, notice := 1 } ∧ only t ∧ (evSrc t (worldFn s n) (evNotice n)).cause = true) ∧
    ((x.state ≠ .quiescing ∨ ∃ q ∈ s.reqs, q.stall = n) → exec (.quiesceComplete n) s = .next s) ∧
    (x.state = .resetting → Ends (.stallResetEnd n) s fun t => t.stalls[n].state = .quiesced ∧ t.stalls[n].notice = 2 ∧
      t.stalls[n].aborted = [] ∧ (∀ r : RingId, s.rings[r].owner ≠ some n → t.rings[r] = s.rings[r]) ∧
      (∀ r : RingId, s.rings[r].owner = some n → t.rings[r].head = 0 ∧ t.rings[r].enable = s.rings[r].enable) ∧ t.dram = s.dram) ∧
    (x.state ≠ .resetting → exec (.stallResetEnd n) s = .next s) ∧
    (WritesServed s .pf0 → x.secure = true →
      exec (.stlCmdEnable .pf0 n) s = .next s ∧ exec (.stlCmdQuiesce .pf0 n) s = .next s ∧ exec (.stlCmdResume .pf0 n) s = .next s ∧
      exec (.stlCmdReset .pf0 n) s = .next s ∧ exec (.stlCmdRelease .pf0 n) s = .next s ∧
      ∀ cmd, exec (.stlCmdInvalid .pf0 n cmd) s = .next s)

/-- A stall's resources. A ring of no stall is added to a stall that is not RESETTING and has fewer than 32, a drained
ring of the stall is removed, and otherwise the command is refused; a PASID entry is written, unless an enabled ring
uses it and the write changes it; PF1 changes the world of a FREE stall without rings and clears its routes; the line
quotas are written, CAP by PF1 alone; an eviction is made where the stall is above its capacity. A read of STL_STATUS
clears NOTICE. A DRBG window carries what exceeds its rate and takes the rate written. A BURST within the budgets is
written and one beyond them refused, and each period adds RATE tokens up to BURST. PF0 reaches no Secure-world stall
(R118, R168, R171-R173, R175, R204, R284, R285, R312, R500, R533). The clauses rest on the model's choice of
assumption log 53. -/
def Obligations.StallResourcesAct : Prop :=
  ∀ (s : State) (f : Fn) (n : StallId), Quiet s → RoutesGood s →
    let x := s.stalls[n]
    let only (t : State) : Prop := ∀ m : StallId, m ≠ n → t.stalls[m] = s.stalls[m]
    (WritesServed s f → (f = .pf1 ∨ x.secure = false) → ∀ v : BitVec 32,
      let r : RingId := bvFin (field v 0 8)
      let refused (c : Instr) : Prop := Ends c s fun t => t.stalls[n] = { x with ringRefused := true, notice := 3 } ∧ only t ∧
        t.rings = s.rings ∧ (evSrc t (worldFn s n) (evNotice n)).cause = true
      (s.rings[r].owner = none → x.state ≠ .resetting → (stallRings s n).length < 32 →
        exec (.stlRingAdd f n v) s = .next (setRing s r fun _ => { Ring.reset with owner := some n })) ∧
      (s.rings[r].owner ≠ none ∨ x.state = .resetting ∨ 32 ≤ (stallRings s n).length → refused (.stlRingAdd f n v)) ∧
      (s.rings[r].owner = some n → drained s r = true → (∀ q ∈ x.aborted, q.ring ≠ r) →
        exec (.stlRingRemove f n v) s = .next (setRing s r fun _ => Ring.reset)) ∧
      (s.rings[r].owner ≠ some n ∨ drained s r = false ∨ (∃ q ∈ x.aborted, q.ring = r) → refused (.stlRingRemove f n v)) ∧
      (∀ k, (pasidUsed s n k = false ∨ bit v 31 = true ∧ field v 0 20 = x.pasid[k]) → exec (.stlPasidWrite f n k v) s =
        .next (setStall s n fun y => { y with pasid := y.pasid.set k (field v 0 20), pasidValid := y.pasidValid.set k (bit v 31) })) ∧
      (∀ k, pasidUsed s n k = true → (bit v 31 = false ∨ field v 0 20 ≠ x.pasid[k]) → Ends (.stlPasidWrite f n k v) s fun t =>
        t.stalls[n] = { x with pasidInUse := true, notice := 3 } ∧ only t ∧ (evSrc t (worldFn s n) (evNotice n)).cause = true) ∧
      exec (.stlMgrLinesWrite f n v) s =
        .next (setStall s n fun y => { y with lines := field v 0 16, cap := if f = .pf1 then field v 16 16 else y.cap })) ∧
    (WritesServed s .pf1 → ∀ v : BitVec 32,
      (x.state = .free → stallRings s n = [] → Ends (.stlWorldWrite .pf1 n v) s fun t => t.stalls[n] = { x with secure := bit v 0 } ∧ only t ∧
        (∀ (g : Fn) (k : EvId), (k = evDone n ∨ k = evError n ∨ k = evNotice n) → (evSrc t g k).en = false ∧ (evSrc t g k).vector = 0) ∧
        t.dram = s.dram ∧ t.rings = s.rings) ∧
      ((x.state ≠ .free ∨ stallRings s n ≠ []) → Ends (.stlWorldWrite .pf1 n v) s fun t =>
        t.stalls[n] = { x with worldRefused := true, notice := 3 } ∧ only t ∧ (evSrc t (worldFn s n) (evNotice n)).cause = true)) ∧
    (WritesServed s .pf0 → ∀ v : BitVec 32, exec (.stlWorldWrite .pf0 n v) s = .next s) ∧
    (WritesServed s .pf0 → x.secure = true → ∀ v : BitVec 32, exec (.stlRingAdd .pf0 n v) s = .next s ∧
      exec (.stlRingRemove .pf0 n v) s = .next s ∧ (∀ k, exec (.stlPasidWrite .pf0 n k v) s = .next s) ∧
      exec (.stlMgrLinesWrite .pf0 n v) s = .next s) ∧
    (reserved s n + cachedLines s n ≤ effCap s n → exec (.capacityEviction n) s = .next s) ∧
    (effCap s n < reserved s n + cachedLines s n → exec (.capacityEviction n) s = .next (evictOne s n)) ∧
    ((fnState s f).d3hot = false → (fnState s f).flr = false →
      ((f = .pf1 ∨ x.secure = false) → Ends (.stlStatusRead f n) s fun t => t = { s with resp := .value (stlStatus s n), stalls := t.stalls } ∧
        t.stalls[n] = { x with notice := 0 } ∧ only t) ∧
      (f = .pf0 → x.secure = true → exec (.stlStatusRead f n) s = .next { s with resp := .value 0 })) ∧
    (WritesServed s f → ∀ v : BitVec 64,
      let w := dropLow s f (BitVec.ofNat 20 (0x08400 + 8 * n.val))
      let b : BitVec 6 := field v 0 6
      let fits : Prop := burstSum s n (fun _ => true) + b.toNat ≤ 32 ∧
        (x.secure = false → burstSum s n (fun k => !s.stalls[k].secure) + b.toNat ≤ s.disp.normalAlarmMax.toNat)
      ((f = .pf1 ∨ x.secure = false) →
        (b.toNat ≤ 32 → fits → Ends (.dspAlarmTbWrite f n v) s fun t => t = { w with stalls := t.stalls } ∧ only t ∧
          t.stalls[n] = { x with rate := field v 8 16, burst := b, tokens := t.stalls[n].tokens } ∧
          t.stalls[n].tokens.toNat = min b.toNat x.tokens.toNat) ∧
        (b.toNat ≤ 32 → ¬ fits → Ends (.dspAlarmTbWrite f n v) s fun t => only t ∧ t.stalls[n] = { x with rate := field v 8 16 } ∧
          t = { w with stalls := t.stalls, disp := { s.disp with budgetRefused := true } }) ∧
        (32 < b.toNat → Ends (.dspAlarmTbWrite f n v) s fun t => only t ∧ t.stalls[n] = { x with rate := field v 8 16 } ∧
          t = { w with stalls := t.stalls })) ∧
      (f = .pf0 → x.secure = true → exec (.dspAlarmTbWrite f n v) s = .next w)) ∧
    (Ends .alarmTokenRefill s fun t => t = { s with stalls := t.stalls } ∧ ∀ m : StallId,
      t.stalls[m] = { s.stalls[m] with tokens := t.stalls[m].tokens } ∧
      t.stalls[m].tokens.toNat = min s.stalls[m].burst.toNat (s.stalls[m].tokens.toNat + s.stalls[m].rate.toNat)) ∧
    (Ends .drbgRateWindow s fun t => t = { s with stalls := t.stalls } ∧ ∀ m : StallId, t.stalls[m] = { s.stalls[m] with
      drbgNow := s.stalls[m].drbgRate, draws := if s.stalls[m].drbgNow = 0 then 0 else s.stalls[m].draws - s.stalls[m].drbgNow.toNat })

/-- Protection epochs. PF1 writes a word of a staged entry, the live bank as before; a commit makes the staged bank the live
one with the epoch advanced by 1, at once, or where four epochs are undrained when the oldest has drained; a discard copies
the live bank back; while PENDING all three leave both banks as they were and set STAGE_ERR; the refill ends PENDING. A
fence of a target that is not later than the epoch in force is taken, and is done when no earlier epoch is undrained,
raising EV293 where IRQ was set. PF0 changes none of it (R193-R200). -/
def Obligations.ProtectionEpochsAct : Prop :=
  ∀ s : State, Quiet s → RoutesGood s →
    (WritesServed s .pf1 →
      let word (k : Fin 256) (w : PkWord) : State := dropLow s .pf1 (BitVec.ofNat 20 (pkOff k w))
      (s.pdk.pending = false → (undrained s).length < 4 → Ends (.pdkEpochCommit .pf1) s fun t => t = { s with pdk := t.pdk } ∧
        t.pdk.live = s.pdk.staged ∧ t.pdk.epoch = s.pdk.epoch + 1 ∧ t.pdk.pending = true ∧ t.pdk.staged = s.pdk.staged) ∧
      (s.pdk.pending = false → 4 ≤ (undrained s).length → exec (.pdkEpochCommit .pf1) s =
        .next { s with pdk := { s.pdk with pending := true, heldCommit := some (oldestUndrained s) } }) ∧
      (s.pdk.pending = false → exec (.pdkEpochDiscard .pf1) s = .next { s with pdk := { s.pdk with staged := s.pdk.live } }) ∧
      (s.pdk.pending = true →
        exec (.pdkEpochCommit .pf1) s = .next { s with pdk := { s.pdk with stageErr := true } } ∧
        exec (.pdkEpochDiscard .pf1) s = .next { s with pdk := { s.pdk with stageErr := true } } ∧
        ∀ k w v, exec (.pkEntryWrite .pf1 k w v) s = .next { word k w with pdk := { s.pdk with stageErr := true } }) ∧
      (s.pdk.pending = false → ∀ (k : Fin 256) (v : BitVec 64),
        let e := s.pdk.staged[k]
        let writes (w : PkWord) (e' : PkEntry) : Prop := Ends (.pkEntryWrite .pf1 k w v) s fun t =>
          t = { word k w with pdk := { s.pdk with staged := t.pdk.staged } } ∧ t.pdk.staged[k] = e' ∧
          ∀ j : Fin 256, j ≠ k → t.pdk.staged[j] = s.pdk.staged[j]
        writes .base { e with valid := bit v 0, base := field v 12 22 } ∧ writes .limit { e with limit := field v 12 22 } ∧
        writes .mask { e with mask := v } ∧
        writes .rights { e with rd := bit v 0, wr := bit v 1, red := bit v 2, win := bit v 3, prio := field v 8 2,
                                type := if field v 4 2 = 3 then e.type else field v 4 2 }) ∧
      (∀ v : BitVec 32, earlier (field v 0 16) s.pdk.epoch = false → exec (.pdkProtFenceWrite .pf1 v) s =
        .next { s with pdk := { s.pdk with target := field v 0 16, irq := bit v 17, fenceDone := false, evaluating := true } }) ∧
      (∀ v : BitVec 32, earlier (field v 0 16) s.pdk.epoch = true → exec (.pdkProtFenceWrite .pf1 v) s = .next s)) ∧
    (WritesServed s .pf0 → exec (.pdkEpochCommit .pf0) s = .next s ∧ exec (.pdkEpochDiscard .pf0) s = .next s ∧
      (∀ v, exec (.pdkProtFenceWrite .pf0 v) s = .next s) ∧
      ∀ k w v, exec (.pkEntryWrite .pf0 k w v) s = .next (dropLow s .pf0 (BitVec.ofNat 20 (pkOff k w)))) ∧
    (∀ e, s.pdk.heldCommit = some e → (e ∉ undrained s → Ends .heldCommitApply s fun t => t = { s with pdk := t.pdk } ∧
      t.pdk.live = s.pdk.staged ∧ t.pdk.epoch = s.pdk.epoch + 1 ∧ t.pdk.heldCommit = none) ∧
      (e ∈ undrained s → exec .heldCommitApply s = .next s)) ∧
    (s.pdk.heldCommit = none → exec .heldCommitApply s = .next s) ∧
    (s.pdk.pending = true → s.pdk.heldCommit = none → exec .stagedRefillEnd s = .next { s with pdk := { s.pdk with pending := false } }) ∧
    ((s.pdk.pending = false ∨ s.pdk.heldCommit ≠ none) → exec .stagedRefillEnd s = .next s) ∧
    (s.pdk.evaluating = true →
      ((∀ e ∈ undrained s, earlier s.pdk.target e = false) →
        (s.pdk.irq = false → exec .protFenceDone s = .next { s with pdk := { s.pdk with fenceDone := true, evaluating := false } }) ∧
        (s.pdk.irq = true → Ends .protFenceDone s fun t => t.pdk = { s.pdk with fenceDone := true, evaluating := false } ∧
          (evSrc t .pf1 293).cause = true ∧ t.dram = s.dram ∧ t.reqs = s.reqs)) ∧
      (∀ e ∈ undrained s, earlier s.pdk.target e = true → exec .protFenceDone s = .next s)) ∧
    (s.pdk.evaluating = false → exec .protFenceDone s = .next s)

/-! ### The Tamper Monitor (16) -/

/-- Tamper inputs. A registered transition is counted, and moves IDLE and PENDING_A, ASSERTED and PENDING_D as R681
states; a disabled or a chattering input only counts it, and one beyond the count of the window enters CHATTER with
EV309, as a tamper where R684 makes it one. The filter qualifies an assertion: its source is raised, and where
KEY_CLEAR is in effect the input is latched, every key zeroised and KEYS_LOCKED set; or it ends a tamper with EV310.
CHATTER ends in IDLE with EV310 or in ASSERTED, which acts where nothing had been raised. A tamper that has lasted
STUCK_S raises EV308 once. While the supplies are out of their limits inputs 4 to 8 register nothing (R680-R685, R688,
R781). The clauses rest on the model's choices of assumption log 12, 28, 75. -/
def Obligations.TamperInputsAct : Prop :=
  ∀ (s : State) (n : InputId), Quiet s → RoutesGood s →
    let x := s.tmp.inp[n]
    let goes (t : State) (y : TmpIn) : Prop := t.tmp.inp[n] = y ∧ (∀ m : InputId, m ≠ n → t.tmp.inp[m] = s.tmp.inp[m]) ∧
      t.hlt = s.hlt ∧ t.units = s.units ∧ t.dram = s.dram
    let tampers (c : Instr) (z : TmpIn) : Prop := Ends c s fun t => ∃ u, t = settle u ∧ u.tmp.inp[n] = { z with raised := true } ∧
      (∃ a ∈ u.hlt.inbox, a.src = inHs n) ∧ u.dram = s.dram ∧
      (effResp s n = true → u.boot.keysLocked = true ∧ (n.val < 8 → bit u.tmp.latch n.val = true) ∧ (n.val = 8 → u.tmp.extLock = true) ∧
        (∀ k : UnitId, u.units[k].keyReg = none) ∧ (∀ h : Handle, u.tkr.store[h].kind = 0) ∧ ∀ q ∈ u.reqs, q.done = none → q.key = none) ∧
      (effResp s n = false → u.boot = s.boot ∧ u.units = s.units ∧ u.tkr = s.tkr ∧ u.tmp.latch = s.tmp.latch)
    ((s.boot.powered = true ∨ n.val < 4) → ∀ lv : Bool,
      let limit := if x.windowCount = 0 then x.chatterCount else x.windowLimit
      let y : TmpIn := { x with level := lv, rawEdges := x.rawEdges + 1, windowCount := x.windowCount + 1, windowLimit := limit }
      (x.windowCount + 1 ≤ limit.toNat →
        (x.state = .idle → Ends (.tamperTransition n lv) s fun t =>
          goes t { y with state := if lv = x.active then .pendingA else .idle, raised := false }) ∧
        (x.state = .pendingA → Ends (.tamperTransition n lv) s fun t => goes t { y with state := if lv = x.active then .pendingA else .idle }) ∧
        (x.state = .asserted → Ends (.tamperTransition n lv) s fun t => goes t { y with state := if lv = x.active then .asserted else .pendingD }) ∧
        (x.state = .pendingD → Ends (.tamperTransition n lv) s fun t => goes t { y with state := if lv = x.active then .asserted else .pendingD })) ∧
      (limit.toNat < x.windowCount + 1 →
        ((x.state = .asserted ∨ x.state = .pendingD) → Ends (.tamperTransition n lv) s fun t => goes t { y with state := .chatter } ∧
          (evSrc t .pf1 309).cause = true) ∧
        (x.state = .idle → x.chatTamper = false → Ends (.tamperTransition n lv) s fun t => goes t { y with state := .chatter, raised := false } ∧
          (evSrc t .pf1 309).cause = true) ∧
        (x.state = .pendingA → x.chatTamper = false → Ends (.tamperTransition n lv) s fun t => goes t { y with state := .chatter } ∧
          (evSrc t .pf1 309).cause = true) ∧
        ((x.state = .idle ∨ x.state = .pendingA) → x.chatTamper = true → tampers (.tamperTransition n lv) { y with state := .chatter })) ∧
      (x.state = .chatter → exec (.tamperTransition n lv) s =
        .next (setIn s n fun z => { z with level := lv, rawEdges := z.rawEdges + 1, chatterEdges := satInc z.chatterEdges })) ∧
      (x.state = .disabled → exec (.tamperTransition n lv) s = .next (setIn s n fun z => { z with level := lv, rawEdges := z.rawEdges + 1 }))) ∧
    (s.boot.powered = false → 4 ≤ n.val → ∀ lv, exec (.tamperTransition n lv) s = .next s) ∧
    exec (.chatterWindowExpiry n) s = .next (setIn s n fun z => { z with windowCount := 0 }) ∧
    (x.state = .pendingA → tampers (.tamperFilterExpiry n) { x with state := .asserted }) ∧
    (x.state = .pendingD → Ends (.tamperFilterExpiry n) s fun t => goes t { x with state := .idle, stuck := false, raised := false } ∧
      (evSrc t .pf1 310).cause = true) ∧
    (x.state ≠ .pendingA → x.state ≠ .pendingD → exec (.tamperFilterExpiry n) s = .next s) ∧
    (x.state = .chatter →
      (x.level ≠ x.active → Ends (.chatterExit n) s fun t => goes t { x with state := .idle, stuck := false, raised := false, windowCount := 0 } ∧
        (evSrc t .pf1 310).cause = true) ∧
      (x.level = x.active → x.raised = true → exec (.chatterExit n) s = .next (setIn s n fun z => { z with state := .asserted, windowCount := 0 })) ∧
      (x.level = x.active → x.raised = false → tampers (.chatterExit n) { x with state := .asserted, windowCount := 0 })) ∧
    (x.state ≠ .chatter → exec (.chatterExit n) s = .next s) ∧
    ((x.state = .asserted ∨ x.state = .pendingD ∨ x.state = .chatter) → x.stuck = false → x.raised = true →
      Ends (.stuckTimeout n) s fun t => goes t { x with stuck := true } ∧ (evSrc t .pf1 308).cause = true) ∧
    ((x.stuck = true ∨ x.raised = false) → exec (.stuckTimeout n) s = .next s)

/-- Tamper control. A write of TMP_INn_CTL by PF1 takes the values in range of an unlocked input; it enables an input 4 to
8 into PENDING_A or IDLE by its level, disables one, and takes a change of polarity as a transition, while EN and
ACTIVE of inputs 0 to 3 stay; LOCK is taken at its first write; PF0 changes nothing. A write of TMP_ACK with its key
clears the latches it names of quiet inputs and records the others, and with nothing left sets the canary and unlocks
keys. A write that arrives at the battery section gives inputs 0 to 3 their enables. The section counts consecutive
active samples of enabled inputs while it samples, and latches at VB_FILTER; without VBAT it loses its contents while
main power is off (R681, R687, R689, R697, R698, R774, R786, R793). The clauses rest on the model's choice of
assumption log 12. -/
def Obligations.TamperControlActs : Prop :=
  ∀ s : State,
    (∀ (n : InputId) (v : BitVec 64),
      let x := s.tmp.inp[n]
      let off : BitVec 20 := BitVec.ofNat 20 (0x04100 + 0x20 * n.val)
      let y : TmpIn := { x with resp := if 2 ≤ (field v 2 2 : BitVec 2).toNat then x.resp else field v 2 2, chatTamper := bit v 4,
                                filterUs := if (field v 16 16 : BitVec 16) = 0 then x.filterUs else field v 16 16,
                                stuckS := if (field v 32 8 : BitVec 8) = 0 then x.stuckS else field v 32 8,
                                chatterCount := if (field v 40 12 : BitVec 12).toNat < 4 then x.chatterCount else field v 40 12,
                                chatterWin := if (field v 52 8 : BitVec 8) = 0 then x.chatterWin else field v 52 8 }
      let lockd (z : TmpIn) : TmpIn := if x.lockWritten then z else { z with lock := bit v 63, lockWritten := true }
      let sets (z : TmpIn) : Prop :=
        Ends (.tmpInEnWrite .pf1 n v) s (fun t => t = { dropLow s .pf1 off with tmp := { s.tmp with inp := t.tmp.inp } } ∧
          t.tmp.inp[n] = lockd z ∧ ∀ m : InputId, m ≠ n → t.tmp.inp[m] = s.tmp.inp[m]) ∧
        Ends (.tmpInActiveWrite .pf1 n v) s (fun t => t = { dropLow s .pf1 off with tmp := { s.tmp with inp := t.tmp.inp } } ∧
          t.tmp.inp[n] = lockd z ∧ ∀ m : InputId, m ≠ n → t.tmp.inp[m] = s.tmp.inp[m])
      (WritesServed s .pf1 →
        (x.lock = true → sets x) ∧
        (x.lock = false → n.val < 4 → sets y) ∧
        (x.lock = false → 4 ≤ n.val →
          (bit v 0 = false → sets { y with en := false, active := bit v 1, state := .disabled, stuck := false, raised := false, windowCount := 0 }) ∧
          (bit v 0 = true → x.en = false → sets { y with
            en := true, active := bit v 1, state := if x.level = bit v 1 then .pendingA else .idle, raised := false, windowCount := 0 }) ∧
          (bit v 0 = true → x.en = true → x.active = bit v 1 → sets y) ∧
          (bit v 0 = true → x.en = true → x.active ≠ bit v 1 →
            sets { y with active := bit v 1, state := afterLevel x.state (decide (x.level = bit v 1)) }))) ∧
      (WritesServed s .pf0 → exec (.tmpInEnWrite .pf0 n v) s = .next (dropLow s .pf0 off) ∧
        exec (.tmpInActiveWrite .pf0 n v) s = .next (dropLow s .pf0 off))) ∧
    (WritesServed s .pf1 → ∀ v : BitVec 32,
      let quiet (n : InputId) : Bool := decide (s.tmp.inp[n].state = .disabled) || decide (s.tmp.inp[n].state = .idle)
      (field v 16 16 ≠ 0x7AC1 → exec (.tmpAck .pf1 v) s = .next s) ∧
      (field v 16 16 = 0x7AC1 → Ends (.tmpAck .pf1 v) s fun t =>
        t = { s with boot := t.boot, tmp := { s.tmp with latch := t.tmp.latch, lost := t.tmp.lost, extLock := t.tmp.extLock, ackErr := t.tmp.ackErr, canary := t.tmp.canary } } ∧
        (∀ n : InputId, n.val < 8 → bit t.tmp.latch n.val = (bit s.tmp.latch n.val && !(bit v n.val && quiet n))) ∧
        t.tmp.lost = (s.tmp.lost && !bit v 8) ∧ t.tmp.extLock = (s.tmp.extLock && !(bit v 9 && quiet 8)) ∧
        (t.tmp.ackErr = true ↔ s.tmp.ackErr = true ∨ (s.tmp.extLock = true ∧ bit v 9 = true ∧ quiet 8 = false) ∨
          ∃ n : InputId, n.val < 8 ∧ bit v n.val = true ∧ bit s.tmp.latch n.val = true ∧ quiet n = false) ∧
        (t.tmp.latch = 0 → t.tmp.lost = false → t.tmp.extLock = false → t.boot = { s.boot with keysLocked := false } ∧ t.tmp.canary = 0x5A3C96E1) ∧
        ((t.tmp.latch ≠ 0 ∨ t.tmp.lost = true ∨ t.tmp.extLock = true) → t.boot = s.boot ∧ t.tmp.canary = s.tmp.canary))) ∧
    (WritesServed s .pf0 → ∀ v, exec (.tmpAck .pf0 v) s = .next s) ∧
    (∀ v l, s.tmp.vbWrites = v :: l → Ends .tmpVbatCtlArrival s fun t => t = { s with tmp := { s.tmp with
        vbWrites := l, vbEn := field v 0 4, vbActive := field v 4 4, inp := t.tmp.inp,
        vbFilter := if (field v 8 4 : BitVec 4) = 0 then s.tmp.vbFilter else field v 8 4 } } ∧
      (∀ n : InputId, n.val < 4 → t.tmp.inp[n].en = bit (field v 0 4 : BitVec 4) n.val ∧ t.tmp.inp[n].active = bit (field v 4 4 : BitVec 4) n.val) ∧
      ∀ n : InputId, 4 ≤ n.val → t.tmp.inp[n] = s.tmp.inp[n]) ∧
    (s.tmp.vbWrites = [] → exec .tmpVbatCtlArrival s = .next s) ∧
    (s.tmp.vbSampling = true → ∀ (levels : BitVec 4),
      Ends (.vbatSample levels) s fun t => t = { s with tmp := { s.tmp with latch := t.tmp.latch, vbCount := t.tmp.vbCount } } ∧ ∀ n : Fin 4,
        (bit s.tmp.vbEn n.val = true → bit levels n.val = bit s.tmp.vbActive n.val → t.tmp.vbCount[n] = s.tmp.vbCount[n] + 1) ∧
        ((bit s.tmp.vbEn n.val = false ∨ bit levels n.val ≠ bit s.tmp.vbActive n.val) → t.tmp.vbCount[n] = 0) ∧
        bit t.tmp.latch n.val = (bit s.tmp.latch n.val || decide (s.tmp.vbFilter.toNat ≤ t.tmp.vbCount[n]))) ∧
    (s.tmp.vbSampling = false → ∀ levels, exec (.vbatSample levels) s = .next s) ∧
    (∀ latch canary,
      (s.boot.powered = false → exec (.vbatRemoved latch canary) s = .next { s with tmp := { s.tmp with latch := latch, canary := canary } }) ∧
      (s.boot.powered = true → exec (.vbatRemoved latch canary) s = .next s))

/-- Monitor conditions are recorded and raised on HS83 to HS85, that of CORE_CLK once its monitor is armed, with CLK_REF
set; a core, SRAM or always-on supply below its limit and a thermal trip reset the chip with cause HALTER and leave no
key in a unit, the trip with its hold. A temperature sample is recorded and a hold kept above 115 degrees; the
throttle level goes up at the entry temperature of a level, counted with EV313, and down one level at the second
sample in a row below the exit temperature of its own (R38, R643, R690, R691, R701, R718). The clauses rest on the
model's choices of assumption log 12, 55. -/
def Obligations.MonitorsAct : Prop :=
  ∀ s : State,
    (∀ c, c ∈ [MonCond.hi, .io, .tempHi, .tempLo, .refclk, .aonOsc] → Ends (.monitorCondition c) s fun t => ∃ u, t = settle u ∧
      u = { s with tmp := u.tmp, hlt := u.hlt } ∧ bit u.tmp.mon (monBit c) = true ∧ ∃ a ∈ u.hlt.inbox, a.src = monHs c) ∧
    (s.boot.clkMon = false → exec (.monitorCondition .coreClk) s = .next s) ∧
    (s.boot.clkMon = true → Ends (.monitorCondition .coreClk) s fun t => t.hlt.clkRef = true ∧ ∃ u v, v = settle u ∧
      t = { v with hlt := { v.hlt with clkRef := true } } ∧ u = { s with tmp := u.tmp, hlt := u.hlt } ∧ bit u.tmp.mon 17 = true ∧
      ∃ a ∈ u.hlt.inbox, a.src = 83) ∧
    (∀ c, c ∈ [MonCond.coreLo, .sramLo, .aonLo] → Ends (.monitorCondition c) s fun t =>
      t.boot.phase ≠ .ready ∧ t.reqs = [] ∧ t.boot.causeHalter = true ∧ ∀ u : UnitId, t.units[u].keyReg = none) ∧
    (Ends (.monitorCondition .trip) s fun t => t.tmp.tripHold = true ∧ t.boot.phase ≠ .ready ∧ t.reqs = [] ∧ t.boot.causeHalter = true ∧
      ∀ u : UnitId, t.units[u].keyReg = none) ∧
    (∀ v : BitVec 16,
      let base : Int := 16 * s.pwr.thrBase.toNat
      let sampled (t : State) (l : Nat) : Prop := t.tmp = { s.tmp with temp := v, tripHold := s.tmp.tripHold && decide (1840 < v.toInt) } ∧
        t.pwr.level.toNat = l ∧ t.dram = s.dram ∧ t.hlt = s.hlt
      let moves (l : Nat) : Prop := Ends (.tempSample v) s fun t => sampled t l ∧ t.pwr.changes = satInc s.pwr.changes ∧ t.pwr.below = false ∧
        (RoutesGood s → (evSrc t .pf1 313).cause = true)
      (s.pwr.level.toNat < 3 → base + 80 ≤ v.toInt → moves 3) ∧
      (s.pwr.level.toNat < 2 → base + 48 ≤ v.toInt → v.toInt < base + 80 → moves 2) ∧
      (s.pwr.level.toNat = 0 → base ≤ v.toInt → v.toInt < base + 48 → moves 1) ∧
      (s.pwr.level.toNat = 0 → v.toInt < base → Ends (.tempSample v) s fun t => sampled t 0 ∧ t.pwr.changes = s.pwr.changes ∧ t.evt = s.evt) ∧
      (∀ (l : Nat) (exit : Int), (l, exit) ∈ [(1, base - 48), (2, base), (3, base + 32)] → s.pwr.level.toNat = l →
        (v.toInt < exit → s.pwr.below = false → Ends (.tempSample v) s fun t => sampled t l ∧ t.pwr.below = true ∧ t.evt = s.evt) ∧
        (v.toInt < exit → s.pwr.below = true → moves (l - 1)) ∧
        (exit ≤ v.toInt → (l = 1 → v.toInt < base + 48) → (l = 2 → v.toInt < base + 80) →
          Ends (.tempSample v) s fun t => sampled t l ∧ t.pwr.below = false ∧ t.evt = s.evt)))

/-! ### Events (18) and the Halter (15) -/

/-- Events. A raise sets the cause and counts it on each function that takes the source, and with the entry enabled leaves a
message pending; on a function that does not take it nothing changes, and an entry with bad parity sends nothing and is
recorded with HS81. A selection enters the MSI-X write of the message chosen in the host posted-write buffer, with every
other eligible message of its vector delivered; with none eligible, or no room, nothing is sent. A function writes its own
route entries, and PF1 those of Normal-world stalls by the alias; PF1 writes the mirror mask, and what it no longer permits
is discarded; unmasking clears the mask, and a holdoff ends (R132, R133, R736-R744, R746, R747, R749). -/
def Obligations.EventsAct : Prop :=
  ∀ (s : State) (f : Fn) (k : EvId), Quiet s → RoutesGood s →
    let routing (t : State) : Prop := t = { s with evt := t.evt, fns := t.fns }
    let others (t : State) (g : Fn) : Prop := ∀ j : EvId, j ≠ k → evSrc t g j = evSrc s g j
    (evAllowed s f k = true → Ends (.eventRaise k none) s fun t => routing t ∧ others t f ∧ (evSrc t f k).cause = true ∧
      (evSrc t f k).raises = satInc (evSrc s f k).raises ∧
      (evSrc t f k).pending = ((evSrc s f k).pending || (evSrc s f k).en)) ∧
    (evAllowed s f k = false → Ends (.eventRaise k none) s fun t => evSrc t f k = evSrc s f k) ∧
    (evAllowed s f k = true → Ends (.eventRaise k (some f)) s fun t => ∃ u, t = settle u ∧ (evSrc u f k).bad = true ∧
      (evSrc u f k).cause = true ∧ (evSrc u f k).pending = (evSrc s f k).pending ∧ (u.evt.fns[fnIx f]).parity = true ∧
      ∃ a ∈ u.hlt.inbox, a.src = 81) ∧
    (Ends (.holdoffExpiry f k) s fun t => routing t ∧ others t f ∧
      evSrc t f k = { evSrc s f k with holding := false, since := (evSrc t f k).since }) ∧
    (let u := noteAllEv s
     let w := msixWrite u f (evSrc u f k).vector
     (evPick u f = some k → evEligible u f k = true → pwbRoom u w = true → Ends (.eventSelection f none) s fun t =>
        t = { s with evt := t.evt, fns := t.fns, link := { s.link with pwb := pwInsert s.link.pwb w } } ∧ ∀ j : EvId,
          evSrc t f j = if evEligible u f j = true ∧ (evSrc u f j).vector = (evSrc u f k).vector then evDelivered (evSrc u f j) else evSrc u f j) ∧
     (evPick u f = some k → pwbRoom u w = false → exec (.eventSelection f none) s = .next u) ∧
     (evPick u f = none → exec (.eventSelection f none) s = .next u)) ∧
    (Ends (.eventSelection f (some k)) s fun t => ∃ u, t = settle u ∧ (evSrc u f k).bad = true ∧ (evSrc u f k).pending = false ∧
      (u.evt.fns[fnIx f]).parity = true ∧ ∃ a ∈ u.hlt.inbox, a.src = 81) ∧
    (WritesServed s f → ∀ (al : Bool) (v : BitVec 64),
      let off : BitVec 20 := BitVec.ofNat 20 ((if al then 0x64000 else 0x60000) + 8 * k.val)
      (∀ g, routeTarget s f k al = some g → Ends (.evtRouteWrite f k al v) s fun t => routing t ∧ others t g ∧
        (evSrc t g k).vector = (if g = .pf1 ∧ 255 < (field v 0 10 : BitVec 10).toNat then (evSrc s g k).vector else field v 0 10) ∧
        (evSrc t g k).en = bit v 12 ∧ (evSrc t g k).prio = field v 13 2 ∧ (evSrc t g k).holdoff = field v 16 8 ∧
        (evSrc t g k).count = field v 24 8 ∧ (evSrc t g k).pending = ((evSrc s g k).pending && bit v 12)) ∧
      (routeTarget s f k al = none → exec (.evtRouteWrite f k al v) s = .next (dropLow s f off))) ∧
    (WritesServed s .pf1 → ∀ v : BitVec 64,
      let dropped (t : State) : Prop := ∀ j : HsId, bit t.evt.nmMirror j.val = false → (evSrc t .pf0 (evMirror j)).pending = false
      (Ends (.evtNmMirrorWrite .pf1 0 v) s fun t => routing t ∧ t.evt.nmMirror.setWidth 64 = v ∧
        t.evt.nmMirror >>> 64 = s.evt.nmMirror >>> 64 ∧ dropped t) ∧
      (Ends (.evtNmMirrorWrite .pf1 1 v) s fun t => routing t ∧ t.evt.nmMirror.setWidth 64 = s.evt.nmMirror.setWidth 64 ∧
        (t.evt.nmMirror >>> 64).setWidth 32 = v.setWidth 32 ∧ dropped t)) ∧
    (WritesServed s .pf0 → ∀ (i : Fin 2) v, exec (.evtNmMirrorWrite .pf0 i v) s = .next (dropLow s .pf0 (BitVec.ofNat 20 (0x61100 + 8 * i.val)))) ∧
    (Ends (.msixUnmask f none) s fun t => routing t ∧ (fnState t f).functionMask = false ∧ (fnState t f).msix = (fnState s f).msix ∧
      ∀ j : EvId, (evSrc t f j).pending = (evSrc s f j).pending) ∧
    (WritesServed s f → ∀ v : BitVec 10,
      ((f = .pf1 → v.toNat ≤ 255) → Ends (.msixUnmask f (some v)) s fun t => routing t ∧ bit (fnState t f).msix[bvFin v].ctl 0 = false ∧
        (fnState t f).functionMask = (fnState s f).functionMask ∧
        (∀ j : Fin 1024, j ≠ bvFin v → (fnState t f).msix[j] = (fnState s f).msix[j]) ∧
        ∀ j : EvId, (evSrc t f j).pending = (evSrc s f j).pending) ∧
      (f = .pf1 → 255 < v.toNat → exec (.msixUnmask f (some v)) s = .next (noteAllEv s)))

/-- Halter sources. An assertion latches and counts its source, logs it as first where none was latched, raises its mirror
event and takes the source's reactions: here an interrupt, ERR_FATAL with the alert, the alert and the safe state; of
a source already latched it is counted alone. A rail disagreement of a dual-rail source acts as an assertion, and of
another does nothing. A deassertion leaves the latch; a promotion window that expires clears its count. PF1 clears the
latches it names with their counts towards promotion, and one whose line still stands latches again, uncounted. A
self-check without a finding is counted and goes on to the next pair; one with a finding records its cause and raises
HS95, as a pad mismatch does (R641-R646, R649, R650, R655, R664, R665, R667, R669, R671). The clauses rest on the
model's choices of assumption log 11, 50. -/
def Obligations.HalterSourcesLatch : Prop :=
  ∀ (s : State) (k : HsId), Quiet s → RoutesGood s →
    let x := s.hlt.src[k]
    let plain : Prop := x.react &&& 0x1C = 0 ∧ x.parityBad = false ∧ s.hlt.sevReact = 0 ∧ s.hlt.sevParityBad = false ∧ k.val ≠ 95 ∧ x.promoN = 0
    let reacts (t : State) : Prop := (∀ j : HsId, j ≠ k → t.hlt.src[j] = s.hlt.src[j]) ∧ (evSrc t .pf1 (evMirror k)).cause = true ∧
      (anyLatched s = false → t.hlt.first = BitVec.ofNat 7 k.val) ∧ (bit x.react 0 = true → (evSrc t .pf1 307).cause = true) ∧
      t.hlt.alert = (s.hlt.alert || bit x.react 1 || bit x.react 5) ∧ t.hlt.safe = (s.hlt.safe || bit x.react 6) ∧ t.reqs = s.reqs ∧
      t.units = s.units ∧ t.stalls = s.stalls ∧ t.dram = s.dram
    (∀ st, plain →
      (x.latch = false → Ends (.halterSourceAssert k st) s fun t => reacts t ∧
        t.hlt.src[k] = { x with asserted := true, latch := true, count := satInc x.count, infoLatch := false }) ∧
      (x.latch = true → Ends (.halterSourceAssert k st) s fun t => t.hlt.src[k] = { x with asserted := true, count := satInc x.count } ∧
        (∀ j : HsId, j ≠ k → t.hlt.src[j] = s.hlt.src[j]) ∧ t.hlt.alert = s.hlt.alert ∧ t.hlt.safe = s.hlt.safe ∧ t.evt = s.evt)) ∧
    exec (.halterSourceDeassert k) s = .next (setHs s k fun x => { x with asserted := false, railBad := false }) ∧
    (dualRail k = true → plain → x.latch = false → Ends (.railDisagreement k) s fun t => reacts t ∧
      t.hlt.src[k] = { x with railBad := true, rail := true, latch := true, count := satInc x.count, infoLatch := false }) ∧
    (dualRail k = false → exec (.railDisagreement k) s = .next s) ∧
    exec (.promoWindowExpiry k) s = .next (setHs s k fun x => { x with c := 0 }) ∧
    (WritesServed s .pf1 → (∀ j : HsId, j ≠ k → s.hlt.src[j].asserted = false ∧ s.hlt.src[j].railBad = false) → ∀ (i : Fin 3) (v : BitVec 32),
      let named : Prop := k.val / 32 = i.val ∧ bit v (k.val % 32) = true ∧ x.latch = true
      (x.asserted = false → x.railBad = false → Ends (.hltStatusClear .pf1 i v) s fun t => t.hlt.alert = s.hlt.alert ∧ t.hlt.safe = s.hlt.safe ∧
        (named → t.hlt.src[k] = { x with latch := false, promoted := false, c := 0, infoLatch := false }) ∧
        (¬ named → t.hlt.src[k] = x)) ∧
      (named → plain → x.asserted = true → x.railBad = false → Ends (.hltStatusClear .pf1 i v) s fun t =>
        t.hlt.src[k] = { x with promoted := false, c := 0, infoLatch := false })) ∧
    (WritesServed s .pf0 → ∀ i v, exec (.hltStatusClear .pf0 i v) s = .next s) ∧
    (exec (.halterSelfCheck true true none) s =
      .next { s with hlt := { s.hlt with nextPair := (s.hlt.nextPair + 1) % 32, passes := satInc s.hlt.passes } }) ∧
    (∀ (inj cop : Bool) (part : Option HltPart), (inj = false ∨ cop = false ∨ part ≠ none) →
      Ends (.halterSelfCheck inj cop part) s fun t => ∃ u, t = settle u ∧ u = { s with hlt := u.hlt } ∧
        u.hlt.nextPair = (s.hlt.nextPair + 1) % 32 ∧ u.hlt.passes = s.hlt.passes ∧
        u.hlt.cause = (if part = none then (if cop then 1 else 2) else 3) ∧ (∃ a ∈ u.hlt.inbox, a.src = 95) ∧
        (inj = false → ∃ a ∈ u.hlt.inbox, a.src = pairs.getD s.hlt.nextPair 95 ∧ a.rail = true) ∧
        (∀ j, part = some (.source j) → u.hlt.src[j].parityBad = true ∧ u.hlt.source = BitVec.ofNat 7 j.val) ∧
        (part = some .sevReact → u.hlt.sevParityBad = true)) ∧
    (Ends .padReadbackMismatch s fun t => ∃ u, t = settle u ∧ u = { s with hlt := u.hlt } ∧ u.hlt.cause = 4 ∧ ∃ a ∈ u.hlt.inbox, a.src = 95)

/-- Halter control. FORCE drives the safe state, every GUARD output at its level once APPLY has ended, and wins over
RELEASE, which ends it only where no source with SAFE_STATE stands; FORCE drives the alert pair, and CLEAR releases it
only where no condition holds it; a release or clear that is not made is recorded. PF1 writes the GUARD outputs, the
levels of GUARD outputs whose encoding is not reserved, unless they are locked or the safe state stands, and a
source's entry, unless it is locked; a refused change sets CFG_ERR, and LOCK is taken at its first write. PF0 changes
none of it (R659, R661, R663, R666, R667, R673-R676). The clauses rest on the model's choice of assumption log 16. -/
def Obligations.HalterControlActs : Prop :=
  ∀ s : State,
    (WritesServed s .pf1 → ∀ v : BitVec 32,
      let held : Prop := s.boot.pllUnlocked = true ∨
        ∃ k : HsId, s.hlt.src[k].latch = true ∧ (bit (effReact s k) 1 = true ∨ bit (effReact s k) 5 = true)
      let relErr := s.hlt.relErr && !bit v 9
      let clrErr := s.hlt.clrErr && !bit v 9
      (Ends (.hltSafeCtlForce .pf1 v) s fun t => t = { s with hlt := { s.hlt with safe := true, relErr := relErr } } ∧
        (s.boot.applied = true → ∀ i : Fin 8, guardPin t i =
          if (field s.hlt.safeLevel (2 * i.val) 2 : BitVec 2) = 0 then .low
          else if (field s.hlt.safeLevel (2 * i.val) 2 : BitVec 2) = 1 then .high else .highZ)) ∧
      (bit v 0 = true → exec (.hltSafeCtlRelease .pf1 v) s = .next { s with hlt := { s.hlt with safe := true, relErr := relErr } }) ∧
      (bit v 0 = false →
        (safeWanted s = false → exec (.hltSafeCtlRelease .pf1 v) s = .next { s with hlt := { s.hlt with safe := false, relErr := relErr } }) ∧
        (safeWanted s = true → exec (.hltSafeCtlRelease .pf1 v) s = .next { s with hlt := { s.hlt with relErr := true } })) ∧
      (bit v 1 = false → Ends (.hltAlertCtlForce .pf1 v) s fun t => alertPins t = (.low, .high) ∧
        t = { s with hlt := { s.hlt with alertForce := true, alert := true, clrErr := clrErr } }) ∧
      (bit v 1 = true → Ends (.hltAlertCtlForce .pf1 v) s fun t => alertPins t = (.low, .high) ∧
        t = { s with hlt := { s.hlt with alertForce := true, alert := true, clrErr := true } }) ∧
      (bit v 0 = false → ¬ held → exec (.hltAlertCtlClear .pf1 v) s =
        .next { s with hlt := { s.hlt with alertForce := false, alert := false, clrErr := clrErr } }) ∧
      (bit v 0 = false → held → exec (.hltAlertCtlClear .pf1 v) s = .next { s with hlt := { s.hlt with alertForce := false, clrErr := true } }) ∧
      (bit v 0 = true → exec (.hltAlertCtlClear .pf1 v) s =
        .next { s with hlt := { s.hlt with alertForce := true, alert := true, clrErr := true } }) ∧
      exec (.hltGuardOutWrite .pf1 v) s = .next { s with hlt := { s.hlt with guardValue := field v 0 8, guardDrive := field v 8 8 } } ∧
      (let lock := if s.hlt.guardLockWritten then s.hlt.guardLock else bit v 31
       let same : Prop := ∀ i : Fin 8, (field v (2 * i.val) 2 : BitVec 2) = 3 ∨ (field v (2 * i.val) 2 : BitVec 2) = field s.hlt.safeLevel (2 * i.val) 2
       (s.hlt.safe = false → s.hlt.guardLock = false → Ends (.hltGuardCtlWrite .pf1 v) s fun t =>
         t = { s with hlt := { s.hlt with safeLevel := t.hlt.safeLevel, guardLock := lock, guardLockWritten := true } } ∧
         ∀ i : Fin 8, (field t.hlt.safeLevel (2 * i.val) 2 : BitVec 2) =
           if (field v (2 * i.val) 2 : BitVec 2) = 3 then field s.hlt.safeLevel (2 * i.val) 2 else field v (2 * i.val) 2) ∧
       (same → exec (.hltGuardCtlWrite .pf1 v) s = .next { s with hlt := { s.hlt with guardLock := lock, guardLockWritten := true } }) ∧
       ((s.hlt.safe = true ∨ s.hlt.guardLock = true) → ¬ same → exec (.hltGuardCtlWrite .pf1 v) s =
         .next { s with hlt := { s.hlt with cfgErr := true, guardLock := lock, guardLockWritten := true } }))) ∧
    (WritesServed s .pf1 → ∀ (k : HsId) (v : BitVec 64),
      let x := s.hlt.src[k]
      let next : HSrc := { x with sev := field v 0 2, react := reactMask k (field v 2 7), promoWin := field v 12 4,
                                  promoN := field v 16 8, promoSev := field v 24 2, parityBad := false }
      let lockd (z : HSrc) : HSrc := if x.lockWritten then z else { z with lock := bit v 31, lockWritten := true }
      let change : Prop := srcCfgLow (setHs s k fun _ => next) k ≠ srcCfgLow s k
      Ends (.hltSrcCfgWrite .pf1 k v) s fun t => t = { dropLow s .pf1 (BitVec.ofNat 20 (0x03100 + 8 * k.val)) with hlt := t.hlt } ∧
        t.hlt = { s.hlt with src := t.hlt.src, cfgErr := t.hlt.cfgErr } ∧ (∀ j : HsId, j ≠ k → t.hlt.src[j] = s.hlt.src[j]) ∧
        (x.lock = false → t.hlt.src[k] = lockd next ∧ t.hlt.cfgErr = s.hlt.cfgErr) ∧
        (x.lock = true → t.hlt.src[k] = lockd x ∧ (change → t.hlt.cfgErr = true) ∧ (¬ change → t.hlt.cfgErr = s.hlt.cfgErr))) ∧
    (WritesServed s .pf0 → ∀ (v : BitVec 32) (w : BitVec 64) (k : HsId),
      exec (.hltSafeCtlForce .pf0 v) s = .next s ∧ exec (.hltSafeCtlRelease .pf0 v) s = .next s ∧
      exec (.hltAlertCtlForce .pf0 v) s = .next s ∧ exec (.hltAlertCtlClear .pf0 v) s = .next s ∧
      exec (.hltGuardCtlWrite .pf0 v) s = .next s ∧ exec (.hltGuardOutWrite .pf0 v) s = .next s ∧
      exec (.hltSrcCfgWrite .pf0 k w) s = .next (dropLow s .pf0 (BitVec.ofNat 20 (0x03100 + 8 * k.val))))

/-! ### Register accesses (00, 03, 19) -/

/-- Accesses of BAR0 while its writes are served, and of the doorbell pages. A 64-bit register is written whole by 8
bytes, or by its low half, which is held, and then its high half, which takes the half held, or else merges with the
register as it reads; a 32-bit register is written by 4 bytes. A low-half read answers the low half and keeps the high
half for the next read of it; an 8-byte read answers the whole register. A misaligned access, and one where no
register is, is ignored or reads 0. A write of a doorbell page is BRD_DB_TAIL_WRITE or FETCH_ERR_CLEAR by its offset,
and a read answers the page's word to the function that owns the ring and 0 to the other (R114-R116, R120, R121,
R756). The clauses rest on the model's choices of assumption log 5, 18. -/
def Obligations.RegisterAccessesAct : Prop :=
  ∀ (s : State) (f : Fn) (off : BitVec 20), Quiet s → WritesServed s f →
    let u := mrRead s f off
    let reads (wide : Bool) (v : BitVec 64) : Prop := Ends (.lowHalfRead f false off wide) s fun t => t = { u with resp := .value v }
    (∀ r, halfAt f off.toNat = .low r →
      (∀ v : BitVec 32, exec (.lowHalfWrite f off v) s = .next (holdLow s f off v)) ∧
      (∀ v : BitVec 64, off.toNat % 8 = 0 → exec (.registerWrite f false off true v) s =
        .next (settle (writeReg (dropLow s f off) f r v (BitVec.allOnes 64)))) ∧
      ((∀ i, r ≠ .scbLap i) →
        (Ends (.lowHalfRead f false off false) s fun t => t.resp = .value (readReg u f r &&& 0xFFFFFFFF) ∧
          (fnState t f).captured = some (off, field (readReg u f r) 32 32) ∧ t = { u with resp := t.resp, fns := t.fns }) ∧
        (off.toNat % 8 = 0 → halfAt f (off + 4).toNat = .high r → reads true (readReg u f r)))) ∧
    (∀ r (v : BitVec 32), halfAt f off.toNat = .high r →
      (∀ lo, heldLow s f (off - 4) = some lo → exec (.highHalfWrite f off v) s =
        .next (settle (writeReg (dropLow s f (off - 4)) f r (v.setWidth 64 <<< 32 ||| lo.setWidth 64) (BitVec.allOnes 64)))) ∧
      (heldLow s f (off - 4) = none → highReadOnly r = false → exec (.highHalfWrite f off v) s =
        .next (settle (writeReg s f r (v.setWidth 64 <<< 32 ||| (readReg s f r &&& 0xFFFFFFFF)) 0xFFFFFFFF00000000))) ∧
      (heldLow s f (off - 4) = none → highReadOnly r = true → exec (.highHalfWrite f off v) s = .next s) ∧
      (∀ w, (fnState s f).captured = some (off - 4, w) → Ends (.lowHalfRead f false off false) s fun t => t.resp = .value (w.setWidth 64) ∧
        (fnState t f).captured = none) ∧
      ((fnState s f).captured = none → (∀ i, r ≠ .scbLap i) → reads false (readReg u f r >>> 32))) ∧
    (∀ r (v : BitVec 64), halfAt f off.toNat = .whole r → exec (.registerWrite f false off false v) s =
      .next (settle (writeReg s f r ((v.setWidth 32).setWidth 64) 0xFFFFFFFF)) ∧
      ((∀ n, r ≠ .stlStatus n) → reads false (readReg u f r))) ∧
    (halfAt f off.toNat = .none → off.toNat % 4 = 0 → ∀ v : BitVec 64, exec (.registerWrite f false off false v) s = .next s ∧ reads false 0) ∧
    (∀ (wide : Bool) (v : BitVec 64), off.toNat % (if wide then 8 else 4) ≠ 0 →
      exec (.registerWrite f false off wide v) s = .next s ∧ exec (.registerWrite f true off wide v) s = .next s ∧
      exec (.lowHalfRead f false off wide) s = .next (answer s (.value 0)) ∧
      exec (.lowHalfRead f true off wide) s = .next (answer s (.value 0))) ∧
    (∀ (wide : Bool) (v : BitVec 64), off.toNat % (if wide then 8 else 4) = 0 →
      (off.toNat % 4096 = 0x000 → exec (.registerWrite f true off wide v) s = exec (.brdDbTailWrite f (pageRing off) (v.setWidth 32)) s) ∧
      (off.toNat % 4096 = 0x010 → exec (.registerWrite f true off wide v) s = exec (.fetchErrClear f (pageRing off) (v.setWidth 32)) s) ∧
      (∀ n, s.rings[pageRing off].owner = some n → worldFn s n = f →
        exec (.lowHalfRead f true off wide) s = .next (answer s (.value (pageWord s (pageRing off) n (field off 0 12))))) ∧
      ((∀ n, s.rings[pageRing off].owner = some n → worldFn s n ≠ f) → exec (.lowHalfRead f true off wide) s = .next (answer s (.value 0))))

/-! ### Layout, reset values, frames -/

/-- The record of a finished request has the layout of R230: each field at its offset, the reserved bytes 0. -/
def Obligations.CompletionRecordLayout : Prop :=
  ∀ (s : State) (q : Req) (d : Done),
    let b := recordOf s q d
    b.length = 32 ∧ fieldAt b 0x00 4 = q.desc.tag.toNat ∧ fieldAt b 0x04 1 = d.status.toNat ∧ fieldAt b 0x05 1 = d.detail.toNat ∧
    fieldAt b 0x06 1 = q.desc.opcode ∧
    fieldAt b 0x07 1 = (if 2 ≤ q.members then (if q.pos + 1 = q.members then 3 else 1) else 0) + (if q.skipped then 4 else 0) ∧
    fieldAt b 0x08 4 = (if d.status = 0 ∨ d.status = 1 then d.outLen.toNat else 0) ∧ fieldAt b 0x0C 4 = d.result.toNat ∧
    fieldAt b 0x10 2 = q.slot.toNat ∧ fieldAt b 0x12 2 = q.epoch.toNat ∧
    (q.skipped = false → q.started = true → ∀ u, q.unit = some u → fieldAt b 0x14 1 = u.val ∧
      fieldAt b 0x18 4 = min ((s.cycle - q.admitAt) / 16) 0xFFFFFFFF) ∧
    ((q.skipped = true ∨ q.started = false) → fieldAt b 0x14 1 = 59 ∧ fieldAt b 0x18 4 = 0) ∧
    fieldAt b 0x15 3 = 0 ∧ fieldAt b 0x1C 3 = 0 ∧
    fieldAt b 0x1F 1 = if phaseOf s.rings[q.ring] q.slot then 0x80 else 0

/-- Registers read the reset values of their tables after reset. -/
def Obligations.RegistersReadResetValues : Prop :=
  ∀ f : Fn,
    let rd (r : Reg) : BitVec 64 := readReg State.reset f r
    rd .ltrActive = 0x802 ∧ rd .ltrIdle = 0x1001 ∧ rd .resetCause = 1 ∧ rd .guardCtl = 0xAAAA ∧ rd .guardOut = 0 ∧
    rd .katCtl = 1000 ∧ rd .reseedCtl = 0x100A ∧ (∀ n : NsId, rd (.srcCtl n) = 0x0F343D00) ∧ rd .scbCtl = 0x1000641F ∧
    rd .scbOverdue = 0x003C05A0 ∧ rd .pwrCtl = 0x76010202 ∧ rd .tkrCtl = 0x03E80000 ∧ rd .mgrCtl = 4 ∧ rd .nmSlices = 0xFFFF ∧
    rd .evtCtl = 2000 ∧ rd (.mirror 0) = BitVec.allOnes 64 ∧ rd (.mirror 1) = 0xFFFFFFFF ∧
    (∀ (k : MrId) (j : Fin 6), rd (.mrValue k j) = 0) ∧ (∀ k : MrId, rd (.mrCount k) = 0)

/-- The Paddock Table's rule for a page that exists: without a matching entry it is denied; when every match of the
highest priority carries one grant that grant applies; when two of them differ it is denied as a conflict, and a window
read turned away by it raises HS82 (R187). The check of an access passes only if the verdict of each of its pages gives the
right that it needs, RD for a read, WR for a write, RED for a reduction, and a window access without it reads and writes
nothing (R188). -/
def Obligations.PaddockGrantsTheTopPriority : Prop :=
  (∀ (s : State) (page : Nat) (who : Option StallId),
    installed s (page * 4096) = true → inTable s (page * 4096) = false → s.mcs[chanOf (page * 4096)].state ≠ .fenced →
    let hit (k : Fin 256) : Prop := pkHits s.pdk.live[k] page who = true
    let top (k : Fin 256) : Prop := hit k ∧ ∀ j : Fin 256, hit j → s.pdk.live[j].prio ≤ s.pdk.live[k].prio
    let same (j k : Fin 256) : Prop :=
      s.pdk.live[j].rd = s.pdk.live[k].rd ∧ s.pdk.live[j].wr = s.pdk.live[k].wr ∧ s.pdk.live[j].red = s.pdk.live[k].red ∧
      s.pdk.live[j].type = s.pdk.live[k].type
    ((∀ k, ¬ hit k) → pkPage s page who = .denied) ∧
    (∀ k, top k → (∀ j, top j → same j k) →
      pkPage s page who = .grant s.pdk.live[k].rd s.pdk.live[k].wr s.pdk.live[k].red s.pdk.live[k].type ∧
      (pkPage s page who).gives .rd = s.pdk.live[k].rd ∧ (pkPage s page who).gives .wr = s.pdk.live[k].wr ∧
      (pkPage s page who).gives .red = s.pdk.live[k].red) ∧
    (∀ j k, top j → top k → ¬ same j k → ∃ e, pkPage s page who = .conflict e ∧ ∀ n, (pkPage s page who).gives n = false)) ∧
  (∀ (s : State) (who : Option StallId) (as : List Access),
    pkCheck s who as = .ok ↔ ∀ x ∈ as, ∀ p ∈ pagesOf x.addr x.len, (pkPage s p who).gives x.need = true) ∧
  (∀ (s : State) (off : BitVec 28), (fnState s .pf0).d3hot = false → (fnState s .pf0).flr = false → s.boot.phase ≠ .bootFailed →
    let a := s.link.winBase.toNat * 0x10000000 + off.toNat
    (∀ n p e, pkCheck s none [{ addr := a, len := n, need := .rd }] = .conflict p e →
      ∃ u, exec (.bar4Access off (.read n)) s = .next (settle (answer (raiseHs u 82 none) .completerAbort)) ∧
        u = { s with fns := u.fns, pdk := u.pdk }) ∧
    (∀ (n p : Nat), p ∈ pagesOf a n → (pkPage s p none).gives .rd = false →
      Ends (.bar4Access off (.read n)) s fun t => ∃ u, t = settle u ∧ u.resp = .completerAbort ∧ SameMemory s u) ∧
    (∀ (bs : List (Option Byte)) (p : Nat), p ∈ pagesOf a bs.length → (pkPage s p none).gives .wr = false →
      Ends (.bar4Access off (.write bs false)) s fun t => ∃ u, t = settle u ∧ SameMemory s u))

/-- A store to one line of local memory lands at its address and nowhere else: a request's local store, a permitted window
write, TALLY64_ADD and LINEADD. Of a request's store, the bytes that a request of another chain has written too are
free values (assumption 70). Memory is canonical, and the lines are as the Manger leaves them. The clauses rest on the
model's choice of assumption log 70. -/
def Obligations.StoresLandAtTheirAddressOnly : Prop :=
  ∀ s : State, Quiet s → LinesSettled s → MemoryCanonical s →
    (∀ (i : Nat) (q : Req) (d : Done) (x : Store) (l : List Store) (a : Nat), findReq s i = some q → q.done = some d →
      q.stores = x :: l → vbrWaits q d = false → x.dest = .locl a → accessHeld s a = false → InOneLine s a x.bytes.length →
        Ends (.sliceWrite i) s (fun t => Stored s t a (racedBytes s q a x.bytes)) ∧
        ((∀ o ∈ s.reqs, o.chain ≠ q.chain → o.wrote = []) → racedBytes s q a x.bytes = x.bytes)) ∧
    (∀ (off : BitVec 28) (bs : List Byte), (fnState s .pf0).d3hot = false → (fnState s .pf0).flr = false → s.boot.phase ≠ .bootFailed →
      let a := s.link.winBase.toNat * 0x10000000 + off.toNat
      notFilled s a = false → accessHeld s a = false → pkCheck s none [{ addr := a, len := bs.length, need := .wr }] = .ok →
      InOneLine s a bs.length →
        Ends (.bar4Access off (.write (bs.map some) false)) s fun t => Stored s t a bs) ∧
    (∀ (i : Nat) (q : Req) (src : List Byte), let d := q.desc
      RunsOn s i 0x84 q src → redReady s d.src = true → d.dstLen = 0 → d.src % 8 = 0 → InOneLine s d.src 8 →
        Ends (.tally64Add i) s fun t => ∃ w : BitVec 64, Stored s t d.src (leBytes 8 w.toNat) ∧
          (bit d.mode 1 = true → w = d.imm) ∧
          (bit d.mode 1 = false → bit d.mode 0 = false → w = BitVec.ofNat 64 (leNat src) + d.imm)) ∧
    (∀ (i : Nat) (q : Req) (src : List Byte), let d := q.desc
      RunsOn s i 0x86 q src → accessHeld s d.dst = false → coPoisoned s d.dst 512 = false → redReady s d.dst = true →
      d.dst % 512 = 0 → InOneLine s d.dst 512 →
        Ends (.lineadd i) s fun t => Stored s t d.dst
          (leBytes 512 ((leNat (coRead s d.dst 512) + leNat src + if bit d.imm 0 then 1 else 0) % 2 ^ 4096)))

/-- What a plain row leaves alone: every other request, every register, key, stall, ring, line and byte of memory; of the
units only their counts, their mask seeds, the round keys expanded and the order of use of their crib lines change,
and of the intermediates only those of its own chain. A fixed-base operation is a plain row where it runs on the curve
alone. The clauses rest on the model's choices of assumption log 2, 3, 74. -/
def Obligations.PlainRowsTouchOnlyTheirRequest : Prop :=
  ∀ (s : State) (i : Nat) (c : Instr), Quiet s →
    (c ∈ plainRows i ∨ (c ∈ baseRows i ∧ ∀ q, findReq s i = some q → noTables s q.desc = true)) →
    Ends c s fun t => t = { s with reqs := t.reqs, units := t.units, inters := t.inters, free := t.free } ∧ SameMemory s t ∧
      (∀ j, j ≠ i → findReq t j = findReq s j) ∧
      (∀ u : UnitId, (t.units[u].keyReg.map fun k => { k with decKeys := false }) = (s.units[u].keyReg.map fun k => { k with decKeys := false }) ∧
        t.units[u].run = s.units[u].run ∧ t.units[u].fenced = s.units[u].fenced ∧ ∀ x, x ∈ t.units[u].crib ↔ x ∈ s.units[u].crib) ∧
      (∀ x ∈ t.inters, x ∈ s.inters ∨ ∃ q, findReq s i = some q ∧ x.chain = q.chain)

/-- What the host side leaves alone: memory, channels, the Manger, keys, units, intermediates, the Entropy Block and the
measurement registers. -/
def Obligations.HostSideReachesNoMemoryOrKey : Prop :=
  ∀ (s : State) (c : Instr), Quiet s → RoutesGood s → hostSide c = true →
    Ends c s fun t => DevicesKept s t ∧ SameMemory s t
end

