-- ==== Sys2Proof/Laws/State.lean ====
section
/-! SUPPORT. What each update of State leaves in each field: true by definition, and a rewriting rule. -/

namespace Sys2Proof.Machine

variable (s : State)

/-! ### setFn -/

@[simp] theorem setFn_pending (f : Fn) (g : FnState → FnState) : (setFn s f g).pending = s.pending := rfl
@[simp] theorem setFn_cycle (f : Fn) (g : FnState → FnState) : (setFn s f g).cycle = s.cycle := rfl
@[simp] theorem setFn_free (f : Fn) (g : FnState → FnState) : (setFn s f g).free = s.free := rfl
@[simp] theorem setFn_nextId (f : Fn) (g : FnState → FnState) : (setFn s f g).nextId = s.nextId := rfl
@[simp] theorem setFn_resp (f : Fn) (g : FnState → FnState) : (setFn s f g).resp = s.resp := rfl
@[simp] theorem setFn_linkOut (f : Fn) (g : FnState → FnState) : (setFn s f g).linkOut = s.linkOut := rfl
@[simp] theorem setFn_boot (f : Fn) (g : FnState → FnState) : (setFn s f g).boot = s.boot := rfl
@[simp] theorem setFn_link (f : Fn) (g : FnState → FnState) : (setFn s f g).link = s.link := rfl
@[simp] theorem setFn_fns (f : Fn) (g : FnState → FnState) : (setFn s f g).fns = upd s.fns (fnIx f) g := rfl
@[simp] theorem setFn_stalls (f : Fn) (g : FnState → FnState) : (setFn s f g).stalls = s.stalls := rfl
@[simp] theorem setFn_pdk (f : Fn) (g : FnState → FnState) : (setFn s f g).pdk = s.pdk := rfl
@[simp] theorem setFn_rings (f : Fn) (g : FnState → FnState) : (setFn s f g).rings = s.rings := rfl
@[simp] theorem setFn_reqs (f : Fn) (g : FnState → FnState) : (setFn s f g).reqs = s.reqs := rfl
@[simp] theorem setFn_inters (f : Fn) (g : FnState → FnState) : (setFn s f g).inters = s.inters := rfl
@[simp] theorem setFn_quotas (f : Fn) (g : FnState → FnState) : (setFn s f g).quotas = s.quotas := rfl
@[simp] theorem setFn_disp (f : Fn) (g : FnState → FnState) : (setFn s f g).disp = s.disp := rfl
@[simp] theorem setFn_units (f : Fn) (g : FnState → FnState) : (setFn s f g).units = s.units := rfl
@[simp] theorem setFn_gcmShortTag (f : Fn) (g : FnState → FnState) : (setFn s f g).gcmShortTag = s.gcmShortTag := rfl
@[simp] theorem setFn_vbrRequired (f : Fn) (g : FnState → FnState) : (setFn s f g).vbrRequired = s.vbrRequired := rfl
@[simp] theorem setFn_tableOk (f : Fn) (g : FnState → FnState) : (setFn s f g).tableOk = s.tableOk := rfl
@[simp] theorem setFn_noTable (f : Fn) (g : FnState → FnState) : (setFn s f g).noTable = s.noTable := rfl
@[simp] theorem setFn_feed (f : Fn) (g : FnState → FnState) : (setFn s f g).feed = s.feed := rfl
@[simp] theorem setFn_mrb (f : Fn) (g : FnState → FnState) : (setFn s f g).mrb = s.mrb := rfl
@[simp] theorem setFn_tkr (f : Fn) (g : FnState → FnState) : (setFn s f g).tkr = s.tkr := rfl
@[simp] theorem setFn_ent (f : Fn) (g : FnState → FnState) : (setFn s f g).ent = s.ent := rfl
@[simp] theorem setFn_ns (f : Fn) (g : FnState → FnState) : (setFn s f g).ns = s.ns := rfl
@[simp] theorem setFn_mgr (f : Fn) (g : FnState → FnState) : (setFn s f g).mgr = s.mgr := rfl
@[simp] theorem setFn_mcs (f : Fn) (g : FnState → FnState) : (setFn s f g).mcs = s.mcs := rfl
@[simp] theorem setFn_dram (f : Fn) (g : FnState → FnState) : (setFn s f g).dram = s.dram := rfl
@[simp] theorem setFn_scb (f : Fn) (g : FnState → FnState) : (setFn s f g).scb = s.scb := rfl
@[simp] theorem setFn_hlt (f : Fn) (g : FnState → FnState) : (setFn s f g).hlt = s.hlt := rfl
@[simp] theorem setFn_tmp (f : Fn) (g : FnState → FnState) : (setFn s f g).tmp = s.tmp := rfl
@[simp] theorem setFn_pds (f : Fn) (g : FnState → FnState) : (setFn s f g).pds = s.pds := rfl
@[simp] theorem setFn_pwr (f : Fn) (g : FnState → FnState) : (setFn s f g).pwr = s.pwr := rfl
@[simp] theorem setFn_evt (f : Fn) (g : FnState → FnState) : (setFn s f g).evt = s.evt := rfl
@[simp] theorem setFn_jtag (f : Fn) (g : FnState → FnState) : (setFn s f g).jtag = s.jtag := rfl

/-! ### setStall -/

@[simp] theorem setStall_pending (n : StallId) (g : Stall → Stall) : (setStall s n g).pending = s.pending := rfl
@[simp] theorem setStall_cycle (n : StallId) (g : Stall → Stall) : (setStall s n g).cycle = s.cycle := rfl
@[simp] theorem setStall_free (n : StallId) (g : Stall → Stall) : (setStall s n g).free = s.free := rfl
@[simp] theorem setStall_nextId (n : StallId) (g : Stall → Stall) : (setStall s n g).nextId = s.nextId := rfl
@[simp] theorem setStall_resp (n : StallId) (g : Stall → Stall) : (setStall s n g).resp = s.resp := rfl
@[simp] theorem setStall_linkOut (n : StallId) (g : Stall → Stall) : (setStall s n g).linkOut = s.linkOut := rfl
@[simp] theorem setStall_boot (n : StallId) (g : Stall → Stall) : (setStall s n g).boot = s.boot := rfl
@[simp] theorem setStall_link (n : StallId) (g : Stall → Stall) : (setStall s n g).link = s.link := rfl
@[simp] theorem setStall_fns (n : StallId) (g : Stall → Stall) : (setStall s n g).fns = s.fns := rfl
@[simp] theorem setStall_stalls (n : StallId) (g : Stall → Stall) : (setStall s n g).stalls = upd s.stalls n g := rfl
@[simp] theorem setStall_pdk (n : StallId) (g : Stall → Stall) : (setStall s n g).pdk = s.pdk := rfl
@[simp] theorem setStall_rings (n : StallId) (g : Stall → Stall) : (setStall s n g).rings = s.rings := rfl
@[simp] theorem setStall_reqs (n : StallId) (g : Stall → Stall) : (setStall s n g).reqs = s.reqs := rfl
@[simp] theorem setStall_inters (n : StallId) (g : Stall → Stall) : (setStall s n g).inters = s.inters := rfl
@[simp] theorem setStall_quotas (n : StallId) (g : Stall → Stall) : (setStall s n g).quotas = s.quotas := rfl
@[simp] theorem setStall_disp (n : StallId) (g : Stall → Stall) : (setStall s n g).disp = s.disp := rfl
@[simp] theorem setStall_units (n : StallId) (g : Stall → Stall) : (setStall s n g).units = s.units := rfl
@[simp] theorem setStall_gcmShortTag (n : StallId) (g : Stall → Stall) : (setStall s n g).gcmShortTag = s.gcmShortTag := rfl
@[simp] theorem setStall_vbrRequired (n : StallId) (g : Stall → Stall) : (setStall s n g).vbrRequired = s.vbrRequired := rfl
@[simp] theorem setStall_tableOk (n : StallId) (g : Stall → Stall) : (setStall s n g).tableOk = s.tableOk := rfl
@[simp] theorem setStall_noTable (n : StallId) (g : Stall → Stall) : (setStall s n g).noTable = s.noTable := rfl
@[simp] theorem setStall_feed (n : StallId) (g : Stall → Stall) : (setStall s n g).feed = s.feed := rfl
@[simp] theorem setStall_mrb (n : StallId) (g : Stall → Stall) : (setStall s n g).mrb = s.mrb := rfl
@[simp] theorem setStall_tkr (n : StallId) (g : Stall → Stall) : (setStall s n g).tkr = s.tkr := rfl
@[simp] theorem setStall_ent (n : StallId) (g : Stall → Stall) : (setStall s n g).ent = s.ent := rfl
@[simp] theorem setStall_ns (n : StallId) (g : Stall → Stall) : (setStall s n g).ns = s.ns := rfl
@[simp] theorem setStall_mgr (n : StallId) (g : Stall → Stall) : (setStall s n g).mgr = s.mgr := rfl
@[simp] theorem setStall_mcs (n : StallId) (g : Stall → Stall) : (setStall s n g).mcs = s.mcs := rfl
@[simp] theorem setStall_dram (n : StallId) (g : Stall → Stall) : (setStall s n g).dram = s.dram := rfl
@[simp] theorem setStall_scb (n : StallId) (g : Stall → Stall) : (setStall s n g).scb = s.scb := rfl
@[simp] theorem setStall_hlt (n : StallId) (g : Stall → Stall) : (setStall s n g).hlt = s.hlt := rfl
@[simp] theorem setStall_tmp (n : StallId) (g : Stall → Stall) : (setStall s n g).tmp = s.tmp := rfl
@[simp] theorem setStall_pds (n : StallId) (g : Stall → Stall) : (setStall s n g).pds = s.pds := rfl
@[simp] theorem setStall_pwr (n : StallId) (g : Stall → Stall) : (setStall s n g).pwr = s.pwr := rfl
@[simp] theorem setStall_evt (n : StallId) (g : Stall → Stall) : (setStall s n g).evt = s.evt := rfl
@[simp] theorem setStall_jtag (n : StallId) (g : Stall → Stall) : (setStall s n g).jtag = s.jtag := rfl

/-! ### setRing -/

@[simp] theorem setRing_pending (r : RingId) (g : Ring → Ring) : (setRing s r g).pending = s.pending := rfl
@[simp] theorem setRing_cycle (r : RingId) (g : Ring → Ring) : (setRing s r g).cycle = s.cycle := rfl
@[simp] theorem setRing_free (r : RingId) (g : Ring → Ring) : (setRing s r g).free = s.free := rfl
@[simp] theorem setRing_nextId (r : RingId) (g : Ring → Ring) : (setRing s r g).nextId = s.nextId := rfl
@[simp] theorem setRing_resp (r : RingId) (g : Ring → Ring) : (setRing s r g).resp = s.resp := rfl
@[simp] theorem setRing_linkOut (r : RingId) (g : Ring → Ring) : (setRing s r g).linkOut = s.linkOut := rfl
@[simp] theorem setRing_boot (r : RingId) (g : Ring → Ring) : (setRing s r g).boot = s.boot := rfl
@[simp] theorem setRing_link (r : RingId) (g : Ring → Ring) : (setRing s r g).link = s.link := rfl
@[simp] theorem setRing_fns (r : RingId) (g : Ring → Ring) : (setRing s r g).fns = s.fns := rfl
@[simp] theorem setRing_stalls (r : RingId) (g : Ring → Ring) : (setRing s r g).stalls = s.stalls := rfl
@[simp] theorem setRing_pdk (r : RingId) (g : Ring → Ring) : (setRing s r g).pdk = s.pdk := rfl
@[simp] theorem setRing_rings (r : RingId) (g : Ring → Ring) : (setRing s r g).rings = upd s.rings r g := rfl
@[simp] theorem setRing_reqs (r : RingId) (g : Ring → Ring) : (setRing s r g).reqs = s.reqs := rfl
@[simp] theorem setRing_inters (r : RingId) (g : Ring → Ring) : (setRing s r g).inters = s.inters := rfl
@[simp] theorem setRing_quotas (r : RingId) (g : Ring → Ring) : (setRing s r g).quotas = s.quotas := rfl
@[simp] theorem setRing_disp (r : RingId) (g : Ring → Ring) : (setRing s r g).disp = s.disp := rfl
@[simp] theorem setRing_units (r : RingId) (g : Ring → Ring) : (setRing s r g).units = s.units := rfl
@[simp] theorem setRing_gcmShortTag (r : RingId) (g : Ring → Ring) : (setRing s r g).gcmShortTag = s.gcmShortTag := rfl
@[simp] theorem setRing_vbrRequired (r : RingId) (g : Ring → Ring) : (setRing s r g).vbrRequired = s.vbrRequired := rfl
@[simp] theorem setRing_tableOk (r : RingId) (g : Ring → Ring) : (setRing s r g).tableOk = s.tableOk := rfl
@[simp] theorem setRing_noTable (r : RingId) (g : Ring → Ring) : (setRing s r g).noTable = s.noTable := rfl
@[simp] theorem setRing_feed (r : RingId) (g : Ring → Ring) : (setRing s r g).feed = s.feed := rfl
@[simp] theorem setRing_mrb (r : RingId) (g : Ring → Ring) : (setRing s r g).mrb = s.mrb := rfl
@[simp] theorem setRing_tkr (r : RingId) (g : Ring → Ring) : (setRing s r g).tkr = s.tkr := rfl
@[simp] theorem setRing_ent (r : RingId) (g : Ring → Ring) : (setRing s r g).ent = s.ent := rfl
@[simp] theorem setRing_ns (r : RingId) (g : Ring → Ring) : (setRing s r g).ns = s.ns := rfl
@[simp] theorem setRing_mgr (r : RingId) (g : Ring → Ring) : (setRing s r g).mgr = s.mgr := rfl
@[simp] theorem setRing_mcs (r : RingId) (g : Ring → Ring) : (setRing s r g).mcs = s.mcs := rfl
@[simp] theorem setRing_dram (r : RingId) (g : Ring → Ring) : (setRing s r g).dram = s.dram := rfl
@[simp] theorem setRing_scb (r : RingId) (g : Ring → Ring) : (setRing s r g).scb = s.scb := rfl
@[simp] theorem setRing_hlt (r : RingId) (g : Ring → Ring) : (setRing s r g).hlt = s.hlt := rfl
@[simp] theorem setRing_tmp (r : RingId) (g : Ring → Ring) : (setRing s r g).tmp = s.tmp := rfl
@[simp] theorem setRing_pds (r : RingId) (g : Ring → Ring) : (setRing s r g).pds = s.pds := rfl
@[simp] theorem setRing_pwr (r : RingId) (g : Ring → Ring) : (setRing s r g).pwr = s.pwr := rfl
@[simp] theorem setRing_evt (r : RingId) (g : Ring → Ring) : (setRing s r g).evt = s.evt := rfl
@[simp] theorem setRing_jtag (r : RingId) (g : Ring → Ring) : (setRing s r g).jtag = s.jtag := rfl

/-! ### setUnit -/

@[simp] theorem setUnit_pending (u : UnitId) (g : UnitState → UnitState) : (setUnit s u g).pending = s.pending := rfl
@[simp] theorem setUnit_cycle (u : UnitId) (g : UnitState → UnitState) : (setUnit s u g).cycle = s.cycle := rfl
@[simp] theorem setUnit_free (u : UnitId) (g : UnitState → UnitState) : (setUnit s u g).free = s.free := rfl
@[simp] theorem setUnit_nextId (u : UnitId) (g : UnitState → UnitState) : (setUnit s u g).nextId = s.nextId := rfl
@[simp] theorem setUnit_resp (u : UnitId) (g : UnitState → UnitState) : (setUnit s u g).resp = s.resp := rfl
@[simp] theorem setUnit_linkOut (u : UnitId) (g : UnitState → UnitState) : (setUnit s u g).linkOut = s.linkOut := rfl
@[simp] theorem setUnit_boot (u : UnitId) (g : UnitState → UnitState) : (setUnit s u g).boot = s.boot := rfl
@[simp] theorem setUnit_link (u : UnitId) (g : UnitState → UnitState) : (setUnit s u g).link = s.link := rfl
@[simp] theorem setUnit_fns (u : UnitId) (g : UnitState → UnitState) : (setUnit s u g).fns = s.fns := rfl
@[simp] theorem setUnit_stalls (u : UnitId) (g : UnitState → UnitState) : (setUnit s u g).stalls = s.stalls := rfl
@[simp] theorem setUnit_pdk (u : UnitId) (g : UnitState → UnitState) : (setUnit s u g).pdk = s.pdk := rfl
@[simp] theorem setUnit_rings (u : UnitId) (g : UnitState → UnitState) : (setUnit s u g).rings = s.rings := rfl
@[simp] theorem setUnit_reqs (u : UnitId) (g : UnitState → UnitState) : (setUnit s u g).reqs = s.reqs := rfl
@[simp] theorem setUnit_inters (u : UnitId) (g : UnitState → UnitState) : (setUnit s u g).inters = s.inters := rfl
@[simp] theorem setUnit_quotas (u : UnitId) (g : UnitState → UnitState) : (setUnit s u g).quotas = s.quotas := rfl
@[simp] theorem setUnit_disp (u : UnitId) (g : UnitState → UnitState) : (setUnit s u g).disp = s.disp := rfl
@[simp] theorem setUnit_units (u : UnitId) (g : UnitState → UnitState) : (setUnit s u g).units = upd s.units u g := rfl
@[simp] theorem setUnit_gcmShortTag (u : UnitId) (g : UnitState → UnitState) : (setUnit s u g).gcmShortTag = s.gcmShortTag := rfl
@[simp] theorem setUnit_vbrRequired (u : UnitId) (g : UnitState → UnitState) : (setUnit s u g).vbrRequired = s.vbrRequired := rfl
@[simp] theorem setUnit_tableOk (u : UnitId) (g : UnitState → UnitState) : (setUnit s u g).tableOk = s.tableOk := rfl
@[simp] theorem setUnit_noTable (u : UnitId) (g : UnitState → UnitState) : (setUnit s u g).noTable = s.noTable := rfl
@[simp] theorem setUnit_feed (u : UnitId) (g : UnitState → UnitState) : (setUnit s u g).feed = s.feed := rfl
@[simp] theorem setUnit_mrb (u : UnitId) (g : UnitState → UnitState) : (setUnit s u g).mrb = s.mrb := rfl
@[simp] theorem setUnit_tkr (u : UnitId) (g : UnitState → UnitState) : (setUnit s u g).tkr = s.tkr := rfl
@[simp] theorem setUnit_ent (u : UnitId) (g : UnitState → UnitState) : (setUnit s u g).ent = s.ent := rfl
@[simp] theorem setUnit_ns (u : UnitId) (g : UnitState → UnitState) : (setUnit s u g).ns = s.ns := rfl
@[simp] theorem setUnit_mgr (u : UnitId) (g : UnitState → UnitState) : (setUnit s u g).mgr = s.mgr := rfl
@[simp] theorem setUnit_mcs (u : UnitId) (g : UnitState → UnitState) : (setUnit s u g).mcs = s.mcs := rfl
@[simp] theorem setUnit_dram (u : UnitId) (g : UnitState → UnitState) : (setUnit s u g).dram = s.dram := rfl
@[simp] theorem setUnit_scb (u : UnitId) (g : UnitState → UnitState) : (setUnit s u g).scb = s.scb := rfl
@[simp] theorem setUnit_hlt (u : UnitId) (g : UnitState → UnitState) : (setUnit s u g).hlt = s.hlt := rfl
@[simp] theorem setUnit_tmp (u : UnitId) (g : UnitState → UnitState) : (setUnit s u g).tmp = s.tmp := rfl
@[simp] theorem setUnit_pds (u : UnitId) (g : UnitState → UnitState) : (setUnit s u g).pds = s.pds := rfl
@[simp] theorem setUnit_pwr (u : UnitId) (g : UnitState → UnitState) : (setUnit s u g).pwr = s.pwr := rfl
@[simp] theorem setUnit_evt (u : UnitId) (g : UnitState → UnitState) : (setUnit s u g).evt = s.evt := rfl
@[simp] theorem setUnit_jtag (u : UnitId) (g : UnitState → UnitState) : (setUnit s u g).jtag = s.jtag := rfl

/-! ### setPd -/

@[simp] theorem setPd_pending (d : PdId) (g : Pd → Pd) : (setPd s d g).pending = s.pending := rfl
@[simp] theorem setPd_cycle (d : PdId) (g : Pd → Pd) : (setPd s d g).cycle = s.cycle := rfl
@[simp] theorem setPd_free (d : PdId) (g : Pd → Pd) : (setPd s d g).free = s.free := rfl
@[simp] theorem setPd_nextId (d : PdId) (g : Pd → Pd) : (setPd s d g).nextId = s.nextId := rfl
@[simp] theorem setPd_resp (d : PdId) (g : Pd → Pd) : (setPd s d g).resp = s.resp := rfl
@[simp] theorem setPd_linkOut (d : PdId) (g : Pd → Pd) : (setPd s d g).linkOut = s.linkOut := rfl
@[simp] theorem setPd_boot (d : PdId) (g : Pd → Pd) : (setPd s d g).boot = s.boot := rfl
@[simp] theorem setPd_link (d : PdId) (g : Pd → Pd) : (setPd s d g).link = s.link := rfl
@[simp] theorem setPd_fns (d : PdId) (g : Pd → Pd) : (setPd s d g).fns = s.fns := rfl
@[simp] theorem setPd_stalls (d : PdId) (g : Pd → Pd) : (setPd s d g).stalls = s.stalls := rfl
@[simp] theorem setPd_pdk (d : PdId) (g : Pd → Pd) : (setPd s d g).pdk = s.pdk := rfl
@[simp] theorem setPd_rings (d : PdId) (g : Pd → Pd) : (setPd s d g).rings = s.rings := rfl
@[simp] theorem setPd_reqs (d : PdId) (g : Pd → Pd) : (setPd s d g).reqs = s.reqs := rfl
@[simp] theorem setPd_inters (d : PdId) (g : Pd → Pd) : (setPd s d g).inters = s.inters := rfl
@[simp] theorem setPd_quotas (d : PdId) (g : Pd → Pd) : (setPd s d g).quotas = s.quotas := rfl
@[simp] theorem setPd_disp (d : PdId) (g : Pd → Pd) : (setPd s d g).disp = s.disp := rfl
@[simp] theorem setPd_units (d : PdId) (g : Pd → Pd) : (setPd s d g).units = s.units := rfl
@[simp] theorem setPd_gcmShortTag (d : PdId) (g : Pd → Pd) : (setPd s d g).gcmShortTag = s.gcmShortTag := rfl
@[simp] theorem setPd_vbrRequired (d : PdId) (g : Pd → Pd) : (setPd s d g).vbrRequired = s.vbrRequired := rfl
@[simp] theorem setPd_tableOk (d : PdId) (g : Pd → Pd) : (setPd s d g).tableOk = s.tableOk := rfl
@[simp] theorem setPd_noTable (d : PdId) (g : Pd → Pd) : (setPd s d g).noTable = s.noTable := rfl
@[simp] theorem setPd_feed (d : PdId) (g : Pd → Pd) : (setPd s d g).feed = s.feed := rfl
@[simp] theorem setPd_mrb (d : PdId) (g : Pd → Pd) : (setPd s d g).mrb = s.mrb := rfl
@[simp] theorem setPd_tkr (d : PdId) (g : Pd → Pd) : (setPd s d g).tkr = s.tkr := rfl
@[simp] theorem setPd_ent (d : PdId) (g : Pd → Pd) : (setPd s d g).ent = s.ent := rfl
@[simp] theorem setPd_ns (d : PdId) (g : Pd → Pd) : (setPd s d g).ns = s.ns := rfl
@[simp] theorem setPd_mgr (d : PdId) (g : Pd → Pd) : (setPd s d g).mgr = s.mgr := rfl
@[simp] theorem setPd_mcs (d : PdId) (g : Pd → Pd) : (setPd s d g).mcs = s.mcs := rfl
@[simp] theorem setPd_dram (d : PdId) (g : Pd → Pd) : (setPd s d g).dram = s.dram := rfl
@[simp] theorem setPd_scb (d : PdId) (g : Pd → Pd) : (setPd s d g).scb = s.scb := rfl
@[simp] theorem setPd_hlt (d : PdId) (g : Pd → Pd) : (setPd s d g).hlt = s.hlt := rfl
@[simp] theorem setPd_tmp (d : PdId) (g : Pd → Pd) : (setPd s d g).tmp = s.tmp := rfl
@[simp] theorem setPd_pds (d : PdId) (g : Pd → Pd) : (setPd s d g).pds = upd s.pds d g := rfl
@[simp] theorem setPd_pwr (d : PdId) (g : Pd → Pd) : (setPd s d g).pwr = s.pwr := rfl
@[simp] theorem setPd_evt (d : PdId) (g : Pd → Pd) : (setPd s d g).evt = s.evt := rfl
@[simp] theorem setPd_jtag (d : PdId) (g : Pd → Pd) : (setPd s d g).jtag = s.jtag := rfl

/-! ### setMc -/

@[simp] theorem setMc_pending (c : ChanId) (g : Mc → Mc) : (setMc s c g).pending = s.pending := rfl
@[simp] theorem setMc_cycle (c : ChanId) (g : Mc → Mc) : (setMc s c g).cycle = s.cycle := rfl
@[simp] theorem setMc_free (c : ChanId) (g : Mc → Mc) : (setMc s c g).free = s.free := rfl
@[simp] theorem setMc_nextId (c : ChanId) (g : Mc → Mc) : (setMc s c g).nextId = s.nextId := rfl
@[simp] theorem setMc_resp (c : ChanId) (g : Mc → Mc) : (setMc s c g).resp = s.resp := rfl
@[simp] theorem setMc_linkOut (c : ChanId) (g : Mc → Mc) : (setMc s c g).linkOut = s.linkOut := rfl
@[simp] theorem setMc_boot (c : ChanId) (g : Mc → Mc) : (setMc s c g).boot = s.boot := rfl
@[simp] theorem setMc_link (c : ChanId) (g : Mc → Mc) : (setMc s c g).link = s.link := rfl
@[simp] theorem setMc_fns (c : ChanId) (g : Mc → Mc) : (setMc s c g).fns = s.fns := rfl
@[simp] theorem setMc_stalls (c : ChanId) (g : Mc → Mc) : (setMc s c g).stalls = s.stalls := rfl
@[simp] theorem setMc_pdk (c : ChanId) (g : Mc → Mc) : (setMc s c g).pdk = s.pdk := rfl
@[simp] theorem setMc_rings (c : ChanId) (g : Mc → Mc) : (setMc s c g).rings = s.rings := rfl
@[simp] theorem setMc_reqs (c : ChanId) (g : Mc → Mc) : (setMc s c g).reqs = s.reqs := rfl
@[simp] theorem setMc_inters (c : ChanId) (g : Mc → Mc) : (setMc s c g).inters = s.inters := rfl
@[simp] theorem setMc_quotas (c : ChanId) (g : Mc → Mc) : (setMc s c g).quotas = s.quotas := rfl
@[simp] theorem setMc_disp (c : ChanId) (g : Mc → Mc) : (setMc s c g).disp = s.disp := rfl
@[simp] theorem setMc_units (c : ChanId) (g : Mc → Mc) : (setMc s c g).units = s.units := rfl
@[simp] theorem setMc_gcmShortTag (c : ChanId) (g : Mc → Mc) : (setMc s c g).gcmShortTag = s.gcmShortTag := rfl
@[simp] theorem setMc_vbrRequired (c : ChanId) (g : Mc → Mc) : (setMc s c g).vbrRequired = s.vbrRequired := rfl
@[simp] theorem setMc_tableOk (c : ChanId) (g : Mc → Mc) : (setMc s c g).tableOk = s.tableOk := rfl
@[simp] theorem setMc_noTable (c : ChanId) (g : Mc → Mc) : (setMc s c g).noTable = s.noTable := rfl
@[simp] theorem setMc_feed (c : ChanId) (g : Mc → Mc) : (setMc s c g).feed = s.feed := rfl
@[simp] theorem setMc_mrb (c : ChanId) (g : Mc → Mc) : (setMc s c g).mrb = s.mrb := rfl
@[simp] theorem setMc_tkr (c : ChanId) (g : Mc → Mc) : (setMc s c g).tkr = s.tkr := rfl
@[simp] theorem setMc_ent (c : ChanId) (g : Mc → Mc) : (setMc s c g).ent = s.ent := rfl
@[simp] theorem setMc_ns (c : ChanId) (g : Mc → Mc) : (setMc s c g).ns = s.ns := rfl
@[simp] theorem setMc_mgr (c : ChanId) (g : Mc → Mc) : (setMc s c g).mgr = s.mgr := rfl
@[simp] theorem setMc_mcs (c : ChanId) (g : Mc → Mc) : (setMc s c g).mcs = upd s.mcs c g := rfl
@[simp] theorem setMc_dram (c : ChanId) (g : Mc → Mc) : (setMc s c g).dram = s.dram := rfl
@[simp] theorem setMc_scb (c : ChanId) (g : Mc → Mc) : (setMc s c g).scb = s.scb := rfl
@[simp] theorem setMc_hlt (c : ChanId) (g : Mc → Mc) : (setMc s c g).hlt = s.hlt := rfl
@[simp] theorem setMc_tmp (c : ChanId) (g : Mc → Mc) : (setMc s c g).tmp = s.tmp := rfl
@[simp] theorem setMc_pds (c : ChanId) (g : Mc → Mc) : (setMc s c g).pds = s.pds := rfl
@[simp] theorem setMc_pwr (c : ChanId) (g : Mc → Mc) : (setMc s c g).pwr = s.pwr := rfl
@[simp] theorem setMc_evt (c : ChanId) (g : Mc → Mc) : (setMc s c g).evt = s.evt := rfl
@[simp] theorem setMc_jtag (c : ChanId) (g : Mc → Mc) : (setMc s c g).jtag = s.jtag := rfl

/-! ### setNs -/

@[simp] theorem setNs_pending (n : NsId) (g : Ns → Ns) : (setNs s n g).pending = s.pending := rfl
@[simp] theorem setNs_cycle (n : NsId) (g : Ns → Ns) : (setNs s n g).cycle = s.cycle := rfl
@[simp] theorem setNs_free (n : NsId) (g : Ns → Ns) : (setNs s n g).free = s.free := rfl
@[simp] theorem setNs_nextId (n : NsId) (g : Ns → Ns) : (setNs s n g).nextId = s.nextId := rfl
@[simp] theorem setNs_resp (n : NsId) (g : Ns → Ns) : (setNs s n g).resp = s.resp := rfl
@[simp] theorem setNs_linkOut (n : NsId) (g : Ns → Ns) : (setNs s n g).linkOut = s.linkOut := rfl
@[simp] theorem setNs_boot (n : NsId) (g : Ns → Ns) : (setNs s n g).boot = s.boot := rfl
@[simp] theorem setNs_link (n : NsId) (g : Ns → Ns) : (setNs s n g).link = s.link := rfl
@[simp] theorem setNs_fns (n : NsId) (g : Ns → Ns) : (setNs s n g).fns = s.fns := rfl
@[simp] theorem setNs_stalls (n : NsId) (g : Ns → Ns) : (setNs s n g).stalls = s.stalls := rfl
@[simp] theorem setNs_pdk (n : NsId) (g : Ns → Ns) : (setNs s n g).pdk = s.pdk := rfl
@[simp] theorem setNs_rings (n : NsId) (g : Ns → Ns) : (setNs s n g).rings = s.rings := rfl
@[simp] theorem setNs_reqs (n : NsId) (g : Ns → Ns) : (setNs s n g).reqs = s.reqs := rfl
@[simp] theorem setNs_inters (n : NsId) (g : Ns → Ns) : (setNs s n g).inters = s.inters := rfl
@[simp] theorem setNs_quotas (n : NsId) (g : Ns → Ns) : (setNs s n g).quotas = s.quotas := rfl
@[simp] theorem setNs_disp (n : NsId) (g : Ns → Ns) : (setNs s n g).disp = s.disp := rfl
@[simp] theorem setNs_units (n : NsId) (g : Ns → Ns) : (setNs s n g).units = s.units := rfl
@[simp] theorem setNs_gcmShortTag (n : NsId) (g : Ns → Ns) : (setNs s n g).gcmShortTag = s.gcmShortTag := rfl
@[simp] theorem setNs_vbrRequired (n : NsId) (g : Ns → Ns) : (setNs s n g).vbrRequired = s.vbrRequired := rfl
@[simp] theorem setNs_tableOk (n : NsId) (g : Ns → Ns) : (setNs s n g).tableOk = s.tableOk := rfl
@[simp] theorem setNs_noTable (n : NsId) (g : Ns → Ns) : (setNs s n g).noTable = s.noTable := rfl
@[simp] theorem setNs_feed (n : NsId) (g : Ns → Ns) : (setNs s n g).feed = s.feed := rfl
@[simp] theorem setNs_mrb (n : NsId) (g : Ns → Ns) : (setNs s n g).mrb = s.mrb := rfl
@[simp] theorem setNs_tkr (n : NsId) (g : Ns → Ns) : (setNs s n g).tkr = s.tkr := rfl
@[simp] theorem setNs_ent (n : NsId) (g : Ns → Ns) : (setNs s n g).ent = s.ent := rfl
@[simp] theorem setNs_ns (n : NsId) (g : Ns → Ns) : (setNs s n g).ns = upd s.ns n g := rfl
@[simp] theorem setNs_mgr (n : NsId) (g : Ns → Ns) : (setNs s n g).mgr = s.mgr := rfl
@[simp] theorem setNs_mcs (n : NsId) (g : Ns → Ns) : (setNs s n g).mcs = s.mcs := rfl
@[simp] theorem setNs_dram (n : NsId) (g : Ns → Ns) : (setNs s n g).dram = s.dram := rfl
@[simp] theorem setNs_scb (n : NsId) (g : Ns → Ns) : (setNs s n g).scb = s.scb := rfl
@[simp] theorem setNs_hlt (n : NsId) (g : Ns → Ns) : (setNs s n g).hlt = s.hlt := rfl
@[simp] theorem setNs_tmp (n : NsId) (g : Ns → Ns) : (setNs s n g).tmp = s.tmp := rfl
@[simp] theorem setNs_pds (n : NsId) (g : Ns → Ns) : (setNs s n g).pds = s.pds := rfl
@[simp] theorem setNs_pwr (n : NsId) (g : Ns → Ns) : (setNs s n g).pwr = s.pwr := rfl
@[simp] theorem setNs_evt (n : NsId) (g : Ns → Ns) : (setNs s n g).evt = s.evt := rfl
@[simp] theorem setNs_jtag (n : NsId) (g : Ns → Ns) : (setNs s n g).jtag = s.jtag := rfl

/-! ### setSlice -/

@[simp] theorem setSlice_pending (k : SliceId) (g : Slice → Slice) : (setSlice s k g).pending = s.pending := rfl
@[simp] theorem setSlice_cycle (k : SliceId) (g : Slice → Slice) : (setSlice s k g).cycle = s.cycle := rfl
@[simp] theorem setSlice_free (k : SliceId) (g : Slice → Slice) : (setSlice s k g).free = s.free := rfl
@[simp] theorem setSlice_nextId (k : SliceId) (g : Slice → Slice) : (setSlice s k g).nextId = s.nextId := rfl
@[simp] theorem setSlice_resp (k : SliceId) (g : Slice → Slice) : (setSlice s k g).resp = s.resp := rfl
@[simp] theorem setSlice_linkOut (k : SliceId) (g : Slice → Slice) : (setSlice s k g).linkOut = s.linkOut := rfl
@[simp] theorem setSlice_boot (k : SliceId) (g : Slice → Slice) : (setSlice s k g).boot = s.boot := rfl
@[simp] theorem setSlice_link (k : SliceId) (g : Slice → Slice) : (setSlice s k g).link = s.link := rfl
@[simp] theorem setSlice_fns (k : SliceId) (g : Slice → Slice) : (setSlice s k g).fns = s.fns := rfl
@[simp] theorem setSlice_stalls (k : SliceId) (g : Slice → Slice) : (setSlice s k g).stalls = s.stalls := rfl
@[simp] theorem setSlice_pdk (k : SliceId) (g : Slice → Slice) : (setSlice s k g).pdk = s.pdk := rfl
@[simp] theorem setSlice_rings (k : SliceId) (g : Slice → Slice) : (setSlice s k g).rings = s.rings := rfl
@[simp] theorem setSlice_reqs (k : SliceId) (g : Slice → Slice) : (setSlice s k g).reqs = s.reqs := rfl
@[simp] theorem setSlice_inters (k : SliceId) (g : Slice → Slice) : (setSlice s k g).inters = s.inters := rfl
@[simp] theorem setSlice_quotas (k : SliceId) (g : Slice → Slice) : (setSlice s k g).quotas = s.quotas := rfl
@[simp] theorem setSlice_disp (k : SliceId) (g : Slice → Slice) : (setSlice s k g).disp = s.disp := rfl
@[simp] theorem setSlice_units (k : SliceId) (g : Slice → Slice) : (setSlice s k g).units = s.units := rfl
@[simp] theorem setSlice_gcmShortTag (k : SliceId) (g : Slice → Slice) : (setSlice s k g).gcmShortTag = s.gcmShortTag := rfl
@[simp] theorem setSlice_vbrRequired (k : SliceId) (g : Slice → Slice) : (setSlice s k g).vbrRequired = s.vbrRequired := rfl
@[simp] theorem setSlice_tableOk (k : SliceId) (g : Slice → Slice) : (setSlice s k g).tableOk = s.tableOk := rfl
@[simp] theorem setSlice_noTable (k : SliceId) (g : Slice → Slice) : (setSlice s k g).noTable = s.noTable := rfl
@[simp] theorem setSlice_feed (k : SliceId) (g : Slice → Slice) : (setSlice s k g).feed = s.feed := rfl
@[simp] theorem setSlice_mrb (k : SliceId) (g : Slice → Slice) : (setSlice s k g).mrb = s.mrb := rfl
@[simp] theorem setSlice_tkr (k : SliceId) (g : Slice → Slice) : (setSlice s k g).tkr = s.tkr := rfl
@[simp] theorem setSlice_ent (k : SliceId) (g : Slice → Slice) : (setSlice s k g).ent = s.ent := rfl
@[simp] theorem setSlice_ns (k : SliceId) (g : Slice → Slice) : (setSlice s k g).ns = s.ns := rfl
@[simp] theorem setSlice_mgr (k : SliceId) (g : Slice → Slice) : (setSlice s k g).mgr = { s.mgr with slices := upd s.mgr.slices k g } := rfl
@[simp] theorem setSlice_mcs (k : SliceId) (g : Slice → Slice) : (setSlice s k g).mcs = s.mcs := rfl
@[simp] theorem setSlice_dram (k : SliceId) (g : Slice → Slice) : (setSlice s k g).dram = s.dram := rfl
@[simp] theorem setSlice_scb (k : SliceId) (g : Slice → Slice) : (setSlice s k g).scb = s.scb := rfl
@[simp] theorem setSlice_hlt (k : SliceId) (g : Slice → Slice) : (setSlice s k g).hlt = s.hlt := rfl
@[simp] theorem setSlice_tmp (k : SliceId) (g : Slice → Slice) : (setSlice s k g).tmp = s.tmp := rfl
@[simp] theorem setSlice_pds (k : SliceId) (g : Slice → Slice) : (setSlice s k g).pds = s.pds := rfl
@[simp] theorem setSlice_pwr (k : SliceId) (g : Slice → Slice) : (setSlice s k g).pwr = s.pwr := rfl
@[simp] theorem setSlice_evt (k : SliceId) (g : Slice → Slice) : (setSlice s k g).evt = s.evt := rfl
@[simp] theorem setSlice_jtag (k : SliceId) (g : Slice → Slice) : (setSlice s k g).jtag = s.jtag := rfl

/-! ### setHs -/

@[simp] theorem setHs_pending (k : HsId) (g : HSrc → HSrc) : (setHs s k g).pending = s.pending := rfl
@[simp] theorem setHs_cycle (k : HsId) (g : HSrc → HSrc) : (setHs s k g).cycle = s.cycle := rfl
@[simp] theorem setHs_free (k : HsId) (g : HSrc → HSrc) : (setHs s k g).free = s.free := rfl
@[simp] theorem setHs_nextId (k : HsId) (g : HSrc → HSrc) : (setHs s k g).nextId = s.nextId := rfl
@[simp] theorem setHs_resp (k : HsId) (g : HSrc → HSrc) : (setHs s k g).resp = s.resp := rfl
@[simp] theorem setHs_linkOut (k : HsId) (g : HSrc → HSrc) : (setHs s k g).linkOut = s.linkOut := rfl
@[simp] theorem setHs_boot (k : HsId) (g : HSrc → HSrc) : (setHs s k g).boot = s.boot := rfl
@[simp] theorem setHs_link (k : HsId) (g : HSrc → HSrc) : (setHs s k g).link = s.link := rfl
@[simp] theorem setHs_fns (k : HsId) (g : HSrc → HSrc) : (setHs s k g).fns = s.fns := rfl
@[simp] theorem setHs_stalls (k : HsId) (g : HSrc → HSrc) : (setHs s k g).stalls = s.stalls := rfl
@[simp] theorem setHs_pdk (k : HsId) (g : HSrc → HSrc) : (setHs s k g).pdk = s.pdk := rfl
@[simp] theorem setHs_rings (k : HsId) (g : HSrc → HSrc) : (setHs s k g).rings = s.rings := rfl
@[simp] theorem setHs_reqs (k : HsId) (g : HSrc → HSrc) : (setHs s k g).reqs = s.reqs := rfl
@[simp] theorem setHs_inters (k : HsId) (g : HSrc → HSrc) : (setHs s k g).inters = s.inters := rfl
@[simp] theorem setHs_quotas (k : HsId) (g : HSrc → HSrc) : (setHs s k g).quotas = s.quotas := rfl
@[simp] theorem setHs_disp (k : HsId) (g : HSrc → HSrc) : (setHs s k g).disp = s.disp := rfl
@[simp] theorem setHs_units (k : HsId) (g : HSrc → HSrc) : (setHs s k g).units = s.units := rfl
@[simp] theorem setHs_gcmShortTag (k : HsId) (g : HSrc → HSrc) : (setHs s k g).gcmShortTag = s.gcmShortTag := rfl
@[simp] theorem setHs_vbrRequired (k : HsId) (g : HSrc → HSrc) : (setHs s k g).vbrRequired = s.vbrRequired := rfl
@[simp] theorem setHs_tableOk (k : HsId) (g : HSrc → HSrc) : (setHs s k g).tableOk = s.tableOk := rfl
@[simp] theorem setHs_noTable (k : HsId) (g : HSrc → HSrc) : (setHs s k g).noTable = s.noTable := rfl
@[simp] theorem setHs_feed (k : HsId) (g : HSrc → HSrc) : (setHs s k g).feed = s.feed := rfl
@[simp] theorem setHs_mrb (k : HsId) (g : HSrc → HSrc) : (setHs s k g).mrb = s.mrb := rfl
@[simp] theorem setHs_tkr (k : HsId) (g : HSrc → HSrc) : (setHs s k g).tkr = s.tkr := rfl
@[simp] theorem setHs_ent (k : HsId) (g : HSrc → HSrc) : (setHs s k g).ent = s.ent := rfl
@[simp] theorem setHs_ns (k : HsId) (g : HSrc → HSrc) : (setHs s k g).ns = s.ns := rfl
@[simp] theorem setHs_mgr (k : HsId) (g : HSrc → HSrc) : (setHs s k g).mgr = s.mgr := rfl
@[simp] theorem setHs_mcs (k : HsId) (g : HSrc → HSrc) : (setHs s k g).mcs = s.mcs := rfl
@[simp] theorem setHs_dram (k : HsId) (g : HSrc → HSrc) : (setHs s k g).dram = s.dram := rfl
@[simp] theorem setHs_scb (k : HsId) (g : HSrc → HSrc) : (setHs s k g).scb = s.scb := rfl
@[simp] theorem setHs_hlt (k : HsId) (g : HSrc → HSrc) : (setHs s k g).hlt = { s.hlt with src := upd s.hlt.src k g } := rfl
@[simp] theorem setHs_tmp (k : HsId) (g : HSrc → HSrc) : (setHs s k g).tmp = s.tmp := rfl
@[simp] theorem setHs_pds (k : HsId) (g : HSrc → HSrc) : (setHs s k g).pds = s.pds := rfl
@[simp] theorem setHs_pwr (k : HsId) (g : HSrc → HSrc) : (setHs s k g).pwr = s.pwr := rfl
@[simp] theorem setHs_evt (k : HsId) (g : HSrc → HSrc) : (setHs s k g).evt = s.evt := rfl
@[simp] theorem setHs_jtag (k : HsId) (g : HSrc → HSrc) : (setHs s k g).jtag = s.jtag := rfl

/-! ### setIn -/

@[simp] theorem setIn_pending (n : InputId) (g : TmpIn → TmpIn) : (setIn s n g).pending = s.pending := rfl
@[simp] theorem setIn_cycle (n : InputId) (g : TmpIn → TmpIn) : (setIn s n g).cycle = s.cycle := rfl
@[simp] theorem setIn_free (n : InputId) (g : TmpIn → TmpIn) : (setIn s n g).free = s.free := rfl
@[simp] theorem setIn_nextId (n : InputId) (g : TmpIn → TmpIn) : (setIn s n g).nextId = s.nextId := rfl
@[simp] theorem setIn_resp (n : InputId) (g : TmpIn → TmpIn) : (setIn s n g).resp = s.resp := rfl
@[simp] theorem setIn_linkOut (n : InputId) (g : TmpIn → TmpIn) : (setIn s n g).linkOut = s.linkOut := rfl
@[simp] theorem setIn_boot (n : InputId) (g : TmpIn → TmpIn) : (setIn s n g).boot = s.boot := rfl
@[simp] theorem setIn_link (n : InputId) (g : TmpIn → TmpIn) : (setIn s n g).link = s.link := rfl
@[simp] theorem setIn_fns (n : InputId) (g : TmpIn → TmpIn) : (setIn s n g).fns = s.fns := rfl
@[simp] theorem setIn_stalls (n : InputId) (g : TmpIn → TmpIn) : (setIn s n g).stalls = s.stalls := rfl
@[simp] theorem setIn_pdk (n : InputId) (g : TmpIn → TmpIn) : (setIn s n g).pdk = s.pdk := rfl
@[simp] theorem setIn_rings (n : InputId) (g : TmpIn → TmpIn) : (setIn s n g).rings = s.rings := rfl
@[simp] theorem setIn_reqs (n : InputId) (g : TmpIn → TmpIn) : (setIn s n g).reqs = s.reqs := rfl
@[simp] theorem setIn_inters (n : InputId) (g : TmpIn → TmpIn) : (setIn s n g).inters = s.inters := rfl
@[simp] theorem setIn_quotas (n : InputId) (g : TmpIn → TmpIn) : (setIn s n g).quotas = s.quotas := rfl
@[simp] theorem setIn_disp (n : InputId) (g : TmpIn → TmpIn) : (setIn s n g).disp = s.disp := rfl
@[simp] theorem setIn_units (n : InputId) (g : TmpIn → TmpIn) : (setIn s n g).units = s.units := rfl
@[simp] theorem setIn_gcmShortTag (n : InputId) (g : TmpIn → TmpIn) : (setIn s n g).gcmShortTag = s.gcmShortTag := rfl
@[simp] theorem setIn_vbrRequired (n : InputId) (g : TmpIn → TmpIn) : (setIn s n g).vbrRequired = s.vbrRequired := rfl
@[simp] theorem setIn_tableOk (n : InputId) (g : TmpIn → TmpIn) : (setIn s n g).tableOk = s.tableOk := rfl
@[simp] theorem setIn_noTable (n : InputId) (g : TmpIn → TmpIn) : (setIn s n g).noTable = s.noTable := rfl
@[simp] theorem setIn_feed (n : InputId) (g : TmpIn → TmpIn) : (setIn s n g).feed = s.feed := rfl
@[simp] theorem setIn_mrb (n : InputId) (g : TmpIn → TmpIn) : (setIn s n g).mrb = s.mrb := rfl
@[simp] theorem setIn_tkr (n : InputId) (g : TmpIn → TmpIn) : (setIn s n g).tkr = s.tkr := rfl
@[simp] theorem setIn_ent (n : InputId) (g : TmpIn → TmpIn) : (setIn s n g).ent = s.ent := rfl
@[simp] theorem setIn_ns (n : InputId) (g : TmpIn → TmpIn) : (setIn s n g).ns = s.ns := rfl
@[simp] theorem setIn_mgr (n : InputId) (g : TmpIn → TmpIn) : (setIn s n g).mgr = s.mgr := rfl
@[simp] theorem setIn_mcs (n : InputId) (g : TmpIn → TmpIn) : (setIn s n g).mcs = s.mcs := rfl
@[simp] theorem setIn_dram (n : InputId) (g : TmpIn → TmpIn) : (setIn s n g).dram = s.dram := rfl
@[simp] theorem setIn_scb (n : InputId) (g : TmpIn → TmpIn) : (setIn s n g).scb = s.scb := rfl
@[simp] theorem setIn_hlt (n : InputId) (g : TmpIn → TmpIn) : (setIn s n g).hlt = s.hlt := rfl
@[simp] theorem setIn_tmp (n : InputId) (g : TmpIn → TmpIn) : (setIn s n g).tmp = { s.tmp with inp := upd s.tmp.inp n g } := rfl
@[simp] theorem setIn_pds (n : InputId) (g : TmpIn → TmpIn) : (setIn s n g).pds = s.pds := rfl
@[simp] theorem setIn_pwr (n : InputId) (g : TmpIn → TmpIn) : (setIn s n g).pwr = s.pwr := rfl
@[simp] theorem setIn_evt (n : InputId) (g : TmpIn → TmpIn) : (setIn s n g).evt = s.evt := rfl
@[simp] theorem setIn_jtag (n : InputId) (g : TmpIn → TmpIn) : (setIn s n g).jtag = s.jtag := rfl

/-! ### setReq -/

@[simp] theorem setReq_pending (i : Nat) (g : Req → Req) : (setReq s i g).pending = s.pending := rfl
@[simp] theorem setReq_cycle (i : Nat) (g : Req → Req) : (setReq s i g).cycle = s.cycle := rfl
@[simp] theorem setReq_free (i : Nat) (g : Req → Req) : (setReq s i g).free = s.free := rfl
@[simp] theorem setReq_nextId (i : Nat) (g : Req → Req) : (setReq s i g).nextId = s.nextId := rfl
@[simp] theorem setReq_resp (i : Nat) (g : Req → Req) : (setReq s i g).resp = s.resp := rfl
@[simp] theorem setReq_linkOut (i : Nat) (g : Req → Req) : (setReq s i g).linkOut = s.linkOut := rfl
@[simp] theorem setReq_boot (i : Nat) (g : Req → Req) : (setReq s i g).boot = s.boot := rfl
@[simp] theorem setReq_link (i : Nat) (g : Req → Req) : (setReq s i g).link = s.link := rfl
@[simp] theorem setReq_fns (i : Nat) (g : Req → Req) : (setReq s i g).fns = s.fns := rfl
@[simp] theorem setReq_stalls (i : Nat) (g : Req → Req) : (setReq s i g).stalls = s.stalls := rfl
@[simp] theorem setReq_pdk (i : Nat) (g : Req → Req) : (setReq s i g).pdk = s.pdk := rfl
@[simp] theorem setReq_rings (i : Nat) (g : Req → Req) : (setReq s i g).rings = s.rings := rfl
@[simp] theorem setReq_reqs (i : Nat) (g : Req → Req) : (setReq s i g).reqs = s.reqs.map fun q => if q.id = i then g q else q := rfl
@[simp] theorem setReq_inters (i : Nat) (g : Req → Req) : (setReq s i g).inters = s.inters := rfl
@[simp] theorem setReq_quotas (i : Nat) (g : Req → Req) : (setReq s i g).quotas = s.quotas := rfl
@[simp] theorem setReq_disp (i : Nat) (g : Req → Req) : (setReq s i g).disp = s.disp := rfl
@[simp] theorem setReq_units (i : Nat) (g : Req → Req) : (setReq s i g).units = s.units := rfl
@[simp] theorem setReq_gcmShortTag (i : Nat) (g : Req → Req) : (setReq s i g).gcmShortTag = s.gcmShortTag := rfl
@[simp] theorem setReq_vbrRequired (i : Nat) (g : Req → Req) : (setReq s i g).vbrRequired = s.vbrRequired := rfl
@[simp] theorem setReq_tableOk (i : Nat) (g : Req → Req) : (setReq s i g).tableOk = s.tableOk := rfl
@[simp] theorem setReq_noTable (i : Nat) (g : Req → Req) : (setReq s i g).noTable = s.noTable := rfl
@[simp] theorem setReq_feed (i : Nat) (g : Req → Req) : (setReq s i g).feed = s.feed := rfl
@[simp] theorem setReq_mrb (i : Nat) (g : Req → Req) : (setReq s i g).mrb = s.mrb := rfl
@[simp] theorem setReq_tkr (i : Nat) (g : Req → Req) : (setReq s i g).tkr = s.tkr := rfl
@[simp] theorem setReq_ent (i : Nat) (g : Req → Req) : (setReq s i g).ent = s.ent := rfl
@[simp] theorem setReq_ns (i : Nat) (g : Req → Req) : (setReq s i g).ns = s.ns := rfl
@[simp] theorem setReq_mgr (i : Nat) (g : Req → Req) : (setReq s i g).mgr = s.mgr := rfl
@[simp] theorem setReq_mcs (i : Nat) (g : Req → Req) : (setReq s i g).mcs = s.mcs := rfl
@[simp] theorem setReq_dram (i : Nat) (g : Req → Req) : (setReq s i g).dram = s.dram := rfl
@[simp] theorem setReq_scb (i : Nat) (g : Req → Req) : (setReq s i g).scb = s.scb := rfl
@[simp] theorem setReq_hlt (i : Nat) (g : Req → Req) : (setReq s i g).hlt = s.hlt := rfl
@[simp] theorem setReq_tmp (i : Nat) (g : Req → Req) : (setReq s i g).tmp = s.tmp := rfl
@[simp] theorem setReq_pds (i : Nat) (g : Req → Req) : (setReq s i g).pds = s.pds := rfl
@[simp] theorem setReq_pwr (i : Nat) (g : Req → Req) : (setReq s i g).pwr = s.pwr := rfl
@[simp] theorem setReq_evt (i : Nat) (g : Req → Req) : (setReq s i g).evt = s.evt := rfl
@[simp] theorem setReq_jtag (i : Nat) (g : Req → Req) : (setReq s i g).jtag = s.jtag := rfl

/-! ### answer -/

@[simp] theorem answer_pending (r : Resp) : (answer s r).pending = s.pending := rfl
@[simp] theorem answer_cycle (r : Resp) : (answer s r).cycle = s.cycle := rfl
@[simp] theorem answer_free (r : Resp) : (answer s r).free = s.free := rfl
@[simp] theorem answer_nextId (r : Resp) : (answer s r).nextId = s.nextId := rfl
@[simp] theorem answer_resp (r : Resp) : (answer s r).resp = r := rfl
@[simp] theorem answer_linkOut (r : Resp) : (answer s r).linkOut = s.linkOut := rfl
@[simp] theorem answer_boot (r : Resp) : (answer s r).boot = s.boot := rfl
@[simp] theorem answer_link (r : Resp) : (answer s r).link = s.link := rfl
@[simp] theorem answer_fns (r : Resp) : (answer s r).fns = s.fns := rfl
@[simp] theorem answer_stalls (r : Resp) : (answer s r).stalls = s.stalls := rfl
@[simp] theorem answer_pdk (r : Resp) : (answer s r).pdk = s.pdk := rfl
@[simp] theorem answer_rings (r : Resp) : (answer s r).rings = s.rings := rfl
@[simp] theorem answer_reqs (r : Resp) : (answer s r).reqs = s.reqs := rfl
@[simp] theorem answer_inters (r : Resp) : (answer s r).inters = s.inters := rfl
@[simp] theorem answer_quotas (r : Resp) : (answer s r).quotas = s.quotas := rfl
@[simp] theorem answer_disp (r : Resp) : (answer s r).disp = s.disp := rfl
@[simp] theorem answer_units (r : Resp) : (answer s r).units = s.units := rfl
@[simp] theorem answer_gcmShortTag (r : Resp) : (answer s r).gcmShortTag = s.gcmShortTag := rfl
@[simp] theorem answer_vbrRequired (r : Resp) : (answer s r).vbrRequired = s.vbrRequired := rfl
@[simp] theorem answer_tableOk (r : Resp) : (answer s r).tableOk = s.tableOk := rfl
@[simp] theorem answer_noTable (r : Resp) : (answer s r).noTable = s.noTable := rfl
@[simp] theorem answer_feed (r : Resp) : (answer s r).feed = s.feed := rfl
@[simp] theorem answer_mrb (r : Resp) : (answer s r).mrb = s.mrb := rfl
@[simp] theorem answer_tkr (r : Resp) : (answer s r).tkr = s.tkr := rfl
@[simp] theorem answer_ent (r : Resp) : (answer s r).ent = s.ent := rfl
@[simp] theorem answer_ns (r : Resp) : (answer s r).ns = s.ns := rfl
@[simp] theorem answer_mgr (r : Resp) : (answer s r).mgr = s.mgr := rfl
@[simp] theorem answer_mcs (r : Resp) : (answer s r).mcs = s.mcs := rfl
@[simp] theorem answer_dram (r : Resp) : (answer s r).dram = s.dram := rfl
@[simp] theorem answer_scb (r : Resp) : (answer s r).scb = s.scb := rfl
@[simp] theorem answer_hlt (r : Resp) : (answer s r).hlt = s.hlt := rfl
@[simp] theorem answer_tmp (r : Resp) : (answer s r).tmp = s.tmp := rfl
@[simp] theorem answer_pds (r : Resp) : (answer s r).pds = s.pds := rfl
@[simp] theorem answer_pwr (r : Resp) : (answer s r).pwr = s.pwr := rfl
@[simp] theorem answer_evt (r : Resp) : (answer s r).evt = s.evt := rfl
@[simp] theorem answer_jtag (r : Resp) : (answer s r).jtag = s.jtag := rfl

/-! ### emit -/

@[simp] theorem emit_pending (m : LinkMsg) : (emit s m).pending = s.pending := rfl
@[simp] theorem emit_cycle (m : LinkMsg) : (emit s m).cycle = s.cycle := rfl
@[simp] theorem emit_free (m : LinkMsg) : (emit s m).free = s.free := rfl
@[simp] theorem emit_nextId (m : LinkMsg) : (emit s m).nextId = s.nextId := rfl
@[simp] theorem emit_resp (m : LinkMsg) : (emit s m).resp = s.resp := rfl
@[simp] theorem emit_linkOut (m : LinkMsg) : (emit s m).linkOut = s.linkOut ++ [m] := rfl
@[simp] theorem emit_boot (m : LinkMsg) : (emit s m).boot = s.boot := rfl
@[simp] theorem emit_link (m : LinkMsg) : (emit s m).link = s.link := rfl
@[simp] theorem emit_fns (m : LinkMsg) : (emit s m).fns = s.fns := rfl
@[simp] theorem emit_stalls (m : LinkMsg) : (emit s m).stalls = s.stalls := rfl
@[simp] theorem emit_pdk (m : LinkMsg) : (emit s m).pdk = s.pdk := rfl
@[simp] theorem emit_rings (m : LinkMsg) : (emit s m).rings = s.rings := rfl
@[simp] theorem emit_reqs (m : LinkMsg) : (emit s m).reqs = s.reqs := rfl
@[simp] theorem emit_inters (m : LinkMsg) : (emit s m).inters = s.inters := rfl
@[simp] theorem emit_quotas (m : LinkMsg) : (emit s m).quotas = s.quotas := rfl
@[simp] theorem emit_disp (m : LinkMsg) : (emit s m).disp = s.disp := rfl
@[simp] theorem emit_units (m : LinkMsg) : (emit s m).units = s.units := rfl
@[simp] theorem emit_gcmShortTag (m : LinkMsg) : (emit s m).gcmShortTag = s.gcmShortTag := rfl
@[simp] theorem emit_vbrRequired (m : LinkMsg) : (emit s m).vbrRequired = s.vbrRequired := rfl
@[simp] theorem emit_tableOk (m : LinkMsg) : (emit s m).tableOk = s.tableOk := rfl
@[simp] theorem emit_noTable (m : LinkMsg) : (emit s m).noTable = s.noTable := rfl
@[simp] theorem emit_feed (m : LinkMsg) : (emit s m).feed = s.feed := rfl
@[simp] theorem emit_mrb (m : LinkMsg) : (emit s m).mrb = s.mrb := rfl
@[simp] theorem emit_tkr (m : LinkMsg) : (emit s m).tkr = s.tkr := rfl
@[simp] theorem emit_ent (m : LinkMsg) : (emit s m).ent = s.ent := rfl
@[simp] theorem emit_ns (m : LinkMsg) : (emit s m).ns = s.ns := rfl
@[simp] theorem emit_mgr (m : LinkMsg) : (emit s m).mgr = s.mgr := rfl
@[simp] theorem emit_mcs (m : LinkMsg) : (emit s m).mcs = s.mcs := rfl
@[simp] theorem emit_dram (m : LinkMsg) : (emit s m).dram = s.dram := rfl
@[simp] theorem emit_scb (m : LinkMsg) : (emit s m).scb = s.scb := rfl
@[simp] theorem emit_hlt (m : LinkMsg) : (emit s m).hlt = s.hlt := rfl
@[simp] theorem emit_tmp (m : LinkMsg) : (emit s m).tmp = s.tmp := rfl
@[simp] theorem emit_pds (m : LinkMsg) : (emit s m).pds = s.pds := rfl
@[simp] theorem emit_pwr (m : LinkMsg) : (emit s m).pwr = s.pwr := rfl
@[simp] theorem emit_evt (m : LinkMsg) : (emit s m).evt = s.evt := rfl
@[simp] theorem emit_jtag (m : LinkMsg) : (emit s m).jtag = s.jtag := rfl

/-! ### takeFree -/

@[simp] theorem takeFree_pending (n : Nat) : (takeFree s n).pending = s.pending := rfl
@[simp] theorem takeFree_cycle (n : Nat) : (takeFree s n).cycle = s.cycle := rfl
@[simp] theorem takeFree_free (n : Nat) : (takeFree s n).free = s.free + n := rfl
@[simp] theorem takeFree_nextId (n : Nat) : (takeFree s n).nextId = s.nextId := rfl
@[simp] theorem takeFree_resp (n : Nat) : (takeFree s n).resp = s.resp := rfl
@[simp] theorem takeFree_linkOut (n : Nat) : (takeFree s n).linkOut = s.linkOut := rfl
@[simp] theorem takeFree_boot (n : Nat) : (takeFree s n).boot = s.boot := rfl
@[simp] theorem takeFree_link (n : Nat) : (takeFree s n).link = s.link := rfl
@[simp] theorem takeFree_fns (n : Nat) : (takeFree s n).fns = s.fns := rfl
@[simp] theorem takeFree_stalls (n : Nat) : (takeFree s n).stalls = s.stalls := rfl
@[simp] theorem takeFree_pdk (n : Nat) : (takeFree s n).pdk = s.pdk := rfl
@[simp] theorem takeFree_rings (n : Nat) : (takeFree s n).rings = s.rings := rfl
@[simp] theorem takeFree_reqs (n : Nat) : (takeFree s n).reqs = s.reqs := rfl
@[simp] theorem takeFree_inters (n : Nat) : (takeFree s n).inters = s.inters := rfl
@[simp] theorem takeFree_quotas (n : Nat) : (takeFree s n).quotas = s.quotas := rfl
@[simp] theorem takeFree_disp (n : Nat) : (takeFree s n).disp = s.disp := rfl
@[simp] theorem takeFree_units (n : Nat) : (takeFree s n).units = s.units := rfl
@[simp] theorem takeFree_gcmShortTag (n : Nat) : (takeFree s n).gcmShortTag = s.gcmShortTag := rfl
@[simp] theorem takeFree_vbrRequired (n : Nat) : (takeFree s n).vbrRequired = s.vbrRequired := rfl
@[simp] theorem takeFree_tableOk (n : Nat) : (takeFree s n).tableOk = s.tableOk := rfl
@[simp] theorem takeFree_noTable (n : Nat) : (takeFree s n).noTable = s.noTable := rfl
@[simp] theorem takeFree_feed (n : Nat) : (takeFree s n).feed = s.feed := rfl
@[simp] theorem takeFree_mrb (n : Nat) : (takeFree s n).mrb = s.mrb := rfl
@[simp] theorem takeFree_tkr (n : Nat) : (takeFree s n).tkr = s.tkr := rfl
@[simp] theorem takeFree_ent (n : Nat) : (takeFree s n).ent = s.ent := rfl
@[simp] theorem takeFree_ns (n : Nat) : (takeFree s n).ns = s.ns := rfl
@[simp] theorem takeFree_mgr (n : Nat) : (takeFree s n).mgr = s.mgr := rfl
@[simp] theorem takeFree_mcs (n : Nat) : (takeFree s n).mcs = s.mcs := rfl
@[simp] theorem takeFree_dram (n : Nat) : (takeFree s n).dram = s.dram := rfl
@[simp] theorem takeFree_scb (n : Nat) : (takeFree s n).scb = s.scb := rfl
@[simp] theorem takeFree_hlt (n : Nat) : (takeFree s n).hlt = s.hlt := rfl
@[simp] theorem takeFree_tmp (n : Nat) : (takeFree s n).tmp = s.tmp := rfl
@[simp] theorem takeFree_pds (n : Nat) : (takeFree s n).pds = s.pds := rfl
@[simp] theorem takeFree_pwr (n : Nat) : (takeFree s n).pwr = s.pwr := rfl
@[simp] theorem takeFree_evt (n : Nat) : (takeFree s n).evt = s.evt := rfl
@[simp] theorem takeFree_jtag (n : Nat) : (takeFree s n).jtag = s.jtag := rfl

/-! ### raiseHs -/

@[simp] theorem raiseHs_pending (k : HsId) (st : Option StallId) : (raiseHs s k st).pending = s.pending := rfl
@[simp] theorem raiseHs_cycle (k : HsId) (st : Option StallId) : (raiseHs s k st).cycle = s.cycle := rfl
@[simp] theorem raiseHs_free (k : HsId) (st : Option StallId) : (raiseHs s k st).free = s.free := rfl
@[simp] theorem raiseHs_nextId (k : HsId) (st : Option StallId) : (raiseHs s k st).nextId = s.nextId := rfl
@[simp] theorem raiseHs_resp (k : HsId) (st : Option StallId) : (raiseHs s k st).resp = s.resp := rfl
@[simp] theorem raiseHs_linkOut (k : HsId) (st : Option StallId) : (raiseHs s k st).linkOut = s.linkOut := rfl
@[simp] theorem raiseHs_boot (k : HsId) (st : Option StallId) : (raiseHs s k st).boot = s.boot := rfl
@[simp] theorem raiseHs_link (k : HsId) (st : Option StallId) : (raiseHs s k st).link = s.link := rfl
@[simp] theorem raiseHs_fns (k : HsId) (st : Option StallId) : (raiseHs s k st).fns = s.fns := rfl
@[simp] theorem raiseHs_stalls (k : HsId) (st : Option StallId) : (raiseHs s k st).stalls = s.stalls := rfl
@[simp] theorem raiseHs_pdk (k : HsId) (st : Option StallId) : (raiseHs s k st).pdk = s.pdk := rfl
@[simp] theorem raiseHs_rings (k : HsId) (st : Option StallId) : (raiseHs s k st).rings = s.rings := rfl
@[simp] theorem raiseHs_reqs (k : HsId) (st : Option StallId) : (raiseHs s k st).reqs = s.reqs := rfl
@[simp] theorem raiseHs_inters (k : HsId) (st : Option StallId) : (raiseHs s k st).inters = s.inters := rfl
@[simp] theorem raiseHs_quotas (k : HsId) (st : Option StallId) : (raiseHs s k st).quotas = s.quotas := rfl
@[simp] theorem raiseHs_disp (k : HsId) (st : Option StallId) : (raiseHs s k st).disp = s.disp := rfl
@[simp] theorem raiseHs_units (k : HsId) (st : Option StallId) : (raiseHs s k st).units = s.units := rfl
@[simp] theorem raiseHs_gcmShortTag (k : HsId) (st : Option StallId) : (raiseHs s k st).gcmShortTag = s.gcmShortTag := rfl
@[simp] theorem raiseHs_vbrRequired (k : HsId) (st : Option StallId) : (raiseHs s k st).vbrRequired = s.vbrRequired := rfl
@[simp] theorem raiseHs_tableOk (k : HsId) (st : Option StallId) : (raiseHs s k st).tableOk = s.tableOk := rfl
@[simp] theorem raiseHs_noTable (k : HsId) (st : Option StallId) : (raiseHs s k st).noTable = s.noTable := rfl
@[simp] theorem raiseHs_feed (k : HsId) (st : Option StallId) : (raiseHs s k st).feed = s.feed := rfl
@[simp] theorem raiseHs_mrb (k : HsId) (st : Option StallId) : (raiseHs s k st).mrb = s.mrb := rfl
@[simp] theorem raiseHs_tkr (k : HsId) (st : Option StallId) : (raiseHs s k st).tkr = s.tkr := rfl
@[simp] theorem raiseHs_ent (k : HsId) (st : Option StallId) : (raiseHs s k st).ent = s.ent := rfl
@[simp] theorem raiseHs_ns (k : HsId) (st : Option StallId) : (raiseHs s k st).ns = s.ns := rfl
@[simp] theorem raiseHs_mgr (k : HsId) (st : Option StallId) : (raiseHs s k st).mgr = s.mgr := rfl
@[simp] theorem raiseHs_mcs (k : HsId) (st : Option StallId) : (raiseHs s k st).mcs = s.mcs := rfl
@[simp] theorem raiseHs_dram (k : HsId) (st : Option StallId) : (raiseHs s k st).dram = s.dram := rfl
@[simp] theorem raiseHs_scb (k : HsId) (st : Option StallId) : (raiseHs s k st).scb = s.scb := rfl
@[simp] theorem raiseHs_hlt (k : HsId) (st : Option StallId) : (raiseHs s k st).hlt = { s.hlt with inbox := s.hlt.inbox ++ [{ src := k, stall := st, rail := false, info := false, again := false }] } := rfl
@[simp] theorem raiseHs_tmp (k : HsId) (st : Option StallId) : (raiseHs s k st).tmp = s.tmp := rfl
@[simp] theorem raiseHs_pds (k : HsId) (st : Option StallId) : (raiseHs s k st).pds = s.pds := rfl
@[simp] theorem raiseHs_pwr (k : HsId) (st : Option StallId) : (raiseHs s k st).pwr = s.pwr := rfl
@[simp] theorem raiseHs_evt (k : HsId) (st : Option StallId) : (raiseHs s k st).evt = s.evt := rfl
@[simp] theorem raiseHs_jtag (k : HsId) (st : Option StallId) : (raiseHs s k st).jtag = s.jtag := rfl

/-! ### setEvFn -/

@[simp] theorem setEvFn_pending (f : Fn) (g : EvtFn → EvtFn) : (setEvFn s f g).pending = s.pending := rfl
@[simp] theorem setEvFn_cycle (f : Fn) (g : EvtFn → EvtFn) : (setEvFn s f g).cycle = s.cycle := rfl
@[simp] theorem setEvFn_free (f : Fn) (g : EvtFn → EvtFn) : (setEvFn s f g).free = s.free := rfl
@[simp] theorem setEvFn_nextId (f : Fn) (g : EvtFn → EvtFn) : (setEvFn s f g).nextId = s.nextId := rfl
@[simp] theorem setEvFn_resp (f : Fn) (g : EvtFn → EvtFn) : (setEvFn s f g).resp = s.resp := rfl
@[simp] theorem setEvFn_linkOut (f : Fn) (g : EvtFn → EvtFn) : (setEvFn s f g).linkOut = s.linkOut := rfl
@[simp] theorem setEvFn_boot (f : Fn) (g : EvtFn → EvtFn) : (setEvFn s f g).boot = s.boot := rfl
@[simp] theorem setEvFn_link (f : Fn) (g : EvtFn → EvtFn) : (setEvFn s f g).link = s.link := rfl
@[simp] theorem setEvFn_fns (f : Fn) (g : EvtFn → EvtFn) : (setEvFn s f g).fns = s.fns := rfl
@[simp] theorem setEvFn_stalls (f : Fn) (g : EvtFn → EvtFn) : (setEvFn s f g).stalls = s.stalls := rfl
@[simp] theorem setEvFn_pdk (f : Fn) (g : EvtFn → EvtFn) : (setEvFn s f g).pdk = s.pdk := rfl
@[simp] theorem setEvFn_rings (f : Fn) (g : EvtFn → EvtFn) : (setEvFn s f g).rings = s.rings := rfl
@[simp] theorem setEvFn_reqs (f : Fn) (g : EvtFn → EvtFn) : (setEvFn s f g).reqs = s.reqs := rfl
@[simp] theorem setEvFn_inters (f : Fn) (g : EvtFn → EvtFn) : (setEvFn s f g).inters = s.inters := rfl
@[simp] theorem setEvFn_quotas (f : Fn) (g : EvtFn → EvtFn) : (setEvFn s f g).quotas = s.quotas := rfl
@[simp] theorem setEvFn_disp (f : Fn) (g : EvtFn → EvtFn) : (setEvFn s f g).disp = s.disp := rfl
@[simp] theorem setEvFn_units (f : Fn) (g : EvtFn → EvtFn) : (setEvFn s f g).units = s.units := rfl
@[simp] theorem setEvFn_gcmShortTag (f : Fn) (g : EvtFn → EvtFn) : (setEvFn s f g).gcmShortTag = s.gcmShortTag := rfl
@[simp] theorem setEvFn_vbrRequired (f : Fn) (g : EvtFn → EvtFn) : (setEvFn s f g).vbrRequired = s.vbrRequired := rfl
@[simp] theorem setEvFn_tableOk (f : Fn) (g : EvtFn → EvtFn) : (setEvFn s f g).tableOk = s.tableOk := rfl
@[simp] theorem setEvFn_noTable (f : Fn) (g : EvtFn → EvtFn) : (setEvFn s f g).noTable = s.noTable := rfl
@[simp] theorem setEvFn_feed (f : Fn) (g : EvtFn → EvtFn) : (setEvFn s f g).feed = s.feed := rfl
@[simp] theorem setEvFn_mrb (f : Fn) (g : EvtFn → EvtFn) : (setEvFn s f g).mrb = s.mrb := rfl
@[simp] theorem setEvFn_tkr (f : Fn) (g : EvtFn → EvtFn) : (setEvFn s f g).tkr = s.tkr := rfl
@[simp] theorem setEvFn_ent (f : Fn) (g : EvtFn → EvtFn) : (setEvFn s f g).ent = s.ent := rfl
@[simp] theorem setEvFn_ns (f : Fn) (g : EvtFn → EvtFn) : (setEvFn s f g).ns = s.ns := rfl
@[simp] theorem setEvFn_mgr (f : Fn) (g : EvtFn → EvtFn) : (setEvFn s f g).mgr = s.mgr := rfl
@[simp] theorem setEvFn_mcs (f : Fn) (g : EvtFn → EvtFn) : (setEvFn s f g).mcs = s.mcs := rfl
@[simp] theorem setEvFn_dram (f : Fn) (g : EvtFn → EvtFn) : (setEvFn s f g).dram = s.dram := rfl
@[simp] theorem setEvFn_scb (f : Fn) (g : EvtFn → EvtFn) : (setEvFn s f g).scb = s.scb := rfl
@[simp] theorem setEvFn_hlt (f : Fn) (g : EvtFn → EvtFn) : (setEvFn s f g).hlt = s.hlt := rfl
@[simp] theorem setEvFn_tmp (f : Fn) (g : EvtFn → EvtFn) : (setEvFn s f g).tmp = s.tmp := rfl
@[simp] theorem setEvFn_pds (f : Fn) (g : EvtFn → EvtFn) : (setEvFn s f g).pds = s.pds := rfl
@[simp] theorem setEvFn_pwr (f : Fn) (g : EvtFn → EvtFn) : (setEvFn s f g).pwr = s.pwr := rfl
@[simp] theorem setEvFn_evt (f : Fn) (g : EvtFn → EvtFn) : (setEvFn s f g).evt = { s.evt with fns := upd s.evt.fns (fnIx f) g } := rfl
@[simp] theorem setEvFn_jtag (f : Fn) (g : EvtFn → EvtFn) : (setEvFn s f g).jtag = s.jtag := rfl

/-! ### post -/

@[simp] theorem post_pending (w : Pw) : (post s w).pending = s.pending := rfl
@[simp] theorem post_cycle (w : Pw) : (post s w).cycle = s.cycle := rfl
@[simp] theorem post_free (w : Pw) : (post s w).free = s.free := rfl
@[simp] theorem post_nextId (w : Pw) : (post s w).nextId = s.nextId := rfl
@[simp] theorem post_resp (w : Pw) : (post s w).resp = s.resp := rfl
@[simp] theorem post_linkOut (w : Pw) : (post s w).linkOut = s.linkOut := rfl
@[simp] theorem post_boot (w : Pw) : (post s w).boot = s.boot := rfl
@[simp] theorem post_link (w : Pw) : (post s w).link = { s.link with pwb := pwInsert s.link.pwb w } := rfl
@[simp] theorem post_fns (w : Pw) : (post s w).fns = s.fns := rfl
@[simp] theorem post_stalls (w : Pw) : (post s w).stalls = s.stalls := rfl
@[simp] theorem post_pdk (w : Pw) : (post s w).pdk = s.pdk := rfl
@[simp] theorem post_rings (w : Pw) : (post s w).rings = s.rings := rfl
@[simp] theorem post_reqs (w : Pw) : (post s w).reqs = s.reqs := rfl
@[simp] theorem post_inters (w : Pw) : (post s w).inters = s.inters := rfl
@[simp] theorem post_quotas (w : Pw) : (post s w).quotas = s.quotas := rfl
@[simp] theorem post_disp (w : Pw) : (post s w).disp = s.disp := rfl
@[simp] theorem post_units (w : Pw) : (post s w).units = s.units := rfl
@[simp] theorem post_gcmShortTag (w : Pw) : (post s w).gcmShortTag = s.gcmShortTag := rfl
@[simp] theorem post_vbrRequired (w : Pw) : (post s w).vbrRequired = s.vbrRequired := rfl
@[simp] theorem post_tableOk (w : Pw) : (post s w).tableOk = s.tableOk := rfl
@[simp] theorem post_noTable (w : Pw) : (post s w).noTable = s.noTable := rfl
@[simp] theorem post_feed (w : Pw) : (post s w).feed = s.feed := rfl
@[simp] theorem post_mrb (w : Pw) : (post s w).mrb = s.mrb := rfl
@[simp] theorem post_tkr (w : Pw) : (post s w).tkr = s.tkr := rfl
@[simp] theorem post_ent (w : Pw) : (post s w).ent = s.ent := rfl
@[simp] theorem post_ns (w : Pw) : (post s w).ns = s.ns := rfl
@[simp] theorem post_mgr (w : Pw) : (post s w).mgr = s.mgr := rfl
@[simp] theorem post_mcs (w : Pw) : (post s w).mcs = s.mcs := rfl
@[simp] theorem post_dram (w : Pw) : (post s w).dram = s.dram := rfl
@[simp] theorem post_scb (w : Pw) : (post s w).scb = s.scb := rfl
@[simp] theorem post_hlt (w : Pw) : (post s w).hlt = s.hlt := rfl
@[simp] theorem post_tmp (w : Pw) : (post s w).tmp = s.tmp := rfl
@[simp] theorem post_pds (w : Pw) : (post s w).pds = s.pds := rfl
@[simp] theorem post_pwr (w : Pw) : (post s w).pwr = s.pwr := rfl
@[simp] theorem post_evt (w : Pw) : (post s w).evt = s.evt := rfl
@[simp] theorem post_jtag (w : Pw) : (post s w).jtag = s.jtag := rfl

/-! ### putLine -/

@[simp] theorem putLine_pending (x : Line) : (putLine s x).pending = s.pending := rfl
@[simp] theorem putLine_cycle (x : Line) : (putLine s x).cycle = s.cycle := rfl
@[simp] theorem putLine_free (x : Line) : (putLine s x).free = s.free := rfl
@[simp] theorem putLine_nextId (x : Line) : (putLine s x).nextId = s.nextId := rfl
@[simp] theorem putLine_resp (x : Line) : (putLine s x).resp = s.resp := rfl
@[simp] theorem putLine_linkOut (x : Line) : (putLine s x).linkOut = s.linkOut := rfl
@[simp] theorem putLine_boot (x : Line) : (putLine s x).boot = s.boot := rfl
@[simp] theorem putLine_link (x : Line) : (putLine s x).link = s.link := rfl
@[simp] theorem putLine_fns (x : Line) : (putLine s x).fns = s.fns := rfl
@[simp] theorem putLine_stalls (x : Line) : (putLine s x).stalls = s.stalls := rfl
@[simp] theorem putLine_pdk (x : Line) : (putLine s x).pdk = s.pdk := rfl
@[simp] theorem putLine_rings (x : Line) : (putLine s x).rings = s.rings := rfl
@[simp] theorem putLine_reqs (x : Line) : (putLine s x).reqs = s.reqs := rfl
@[simp] theorem putLine_inters (x : Line) : (putLine s x).inters = s.inters := rfl
@[simp] theorem putLine_quotas (x : Line) : (putLine s x).quotas = s.quotas := rfl
@[simp] theorem putLine_disp (x : Line) : (putLine s x).disp = s.disp := rfl
@[simp] theorem putLine_units (x : Line) : (putLine s x).units = s.units := rfl
@[simp] theorem putLine_gcmShortTag (x : Line) : (putLine s x).gcmShortTag = s.gcmShortTag := rfl
@[simp] theorem putLine_vbrRequired (x : Line) : (putLine s x).vbrRequired = s.vbrRequired := rfl
@[simp] theorem putLine_tableOk (x : Line) : (putLine s x).tableOk = s.tableOk := rfl
@[simp] theorem putLine_noTable (x : Line) : (putLine s x).noTable = s.noTable := rfl
@[simp] theorem putLine_feed (x : Line) : (putLine s x).feed = s.feed := rfl
@[simp] theorem putLine_mrb (x : Line) : (putLine s x).mrb = s.mrb := rfl
@[simp] theorem putLine_tkr (x : Line) : (putLine s x).tkr = s.tkr := rfl
@[simp] theorem putLine_ent (x : Line) : (putLine s x).ent = s.ent := rfl
@[simp] theorem putLine_ns (x : Line) : (putLine s x).ns = s.ns := rfl
@[simp] theorem putLine_mgr (x : Line) : (putLine s x).mgr = { s.mgr with lines := setLine s.mgr.lines x } := rfl
@[simp] theorem putLine_mcs (x : Line) : (putLine s x).mcs = s.mcs := rfl
@[simp] theorem putLine_dram (x : Line) : (putLine s x).dram = s.dram := rfl
@[simp] theorem putLine_scb (x : Line) : (putLine s x).scb = s.scb := rfl
@[simp] theorem putLine_hlt (x : Line) : (putLine s x).hlt = s.hlt := rfl
@[simp] theorem putLine_tmp (x : Line) : (putLine s x).tmp = s.tmp := rfl
@[simp] theorem putLine_pds (x : Line) : (putLine s x).pds = s.pds := rfl
@[simp] theorem putLine_pwr (x : Line) : (putLine s x).pwr = s.pwr := rfl
@[simp] theorem putLine_evt (x : Line) : (putLine s x).evt = s.evt := rfl
@[simp] theorem putLine_jtag (x : Line) : (putLine s x).jtag = s.jtag := rfl

/-! ### dropLine -/

@[simp] theorem dropLine_pending (l : LineNo) : (dropLine s l).pending = s.pending := rfl
@[simp] theorem dropLine_cycle (l : LineNo) : (dropLine s l).cycle = s.cycle := rfl
@[simp] theorem dropLine_free (l : LineNo) : (dropLine s l).free = s.free := rfl
@[simp] theorem dropLine_nextId (l : LineNo) : (dropLine s l).nextId = s.nextId := rfl
@[simp] theorem dropLine_resp (l : LineNo) : (dropLine s l).resp = s.resp := rfl
@[simp] theorem dropLine_linkOut (l : LineNo) : (dropLine s l).linkOut = s.linkOut := rfl
@[simp] theorem dropLine_boot (l : LineNo) : (dropLine s l).boot = s.boot := rfl
@[simp] theorem dropLine_link (l : LineNo) : (dropLine s l).link = s.link := rfl
@[simp] theorem dropLine_fns (l : LineNo) : (dropLine s l).fns = s.fns := rfl
@[simp] theorem dropLine_stalls (l : LineNo) : (dropLine s l).stalls = s.stalls := rfl
@[simp] theorem dropLine_pdk (l : LineNo) : (dropLine s l).pdk = s.pdk := rfl
@[simp] theorem dropLine_rings (l : LineNo) : (dropLine s l).rings = s.rings := rfl
@[simp] theorem dropLine_reqs (l : LineNo) : (dropLine s l).reqs = s.reqs := rfl
@[simp] theorem dropLine_inters (l : LineNo) : (dropLine s l).inters = s.inters := rfl
@[simp] theorem dropLine_quotas (l : LineNo) : (dropLine s l).quotas = s.quotas := rfl
@[simp] theorem dropLine_disp (l : LineNo) : (dropLine s l).disp = s.disp := rfl
@[simp] theorem dropLine_units (l : LineNo) : (dropLine s l).units = s.units := rfl
@[simp] theorem dropLine_gcmShortTag (l : LineNo) : (dropLine s l).gcmShortTag = s.gcmShortTag := rfl
@[simp] theorem dropLine_vbrRequired (l : LineNo) : (dropLine s l).vbrRequired = s.vbrRequired := rfl
@[simp] theorem dropLine_tableOk (l : LineNo) : (dropLine s l).tableOk = s.tableOk := rfl
@[simp] theorem dropLine_noTable (l : LineNo) : (dropLine s l).noTable = s.noTable := rfl
@[simp] theorem dropLine_feed (l : LineNo) : (dropLine s l).feed = s.feed := rfl
@[simp] theorem dropLine_mrb (l : LineNo) : (dropLine s l).mrb = s.mrb := rfl
@[simp] theorem dropLine_tkr (l : LineNo) : (dropLine s l).tkr = s.tkr := rfl
@[simp] theorem dropLine_ent (l : LineNo) : (dropLine s l).ent = s.ent := rfl
@[simp] theorem dropLine_ns (l : LineNo) : (dropLine s l).ns = s.ns := rfl
@[simp] theorem dropLine_mgr (l : LineNo) : (dropLine s l).mgr = { s.mgr with lines := s.mgr.lines.filter fun y => decide (y.line ≠ l) } := rfl
@[simp] theorem dropLine_mcs (l : LineNo) : (dropLine s l).mcs = s.mcs := rfl
@[simp] theorem dropLine_dram (l : LineNo) : (dropLine s l).dram = s.dram := rfl
@[simp] theorem dropLine_scb (l : LineNo) : (dropLine s l).scb = s.scb := rfl
@[simp] theorem dropLine_hlt (l : LineNo) : (dropLine s l).hlt = s.hlt := rfl
@[simp] theorem dropLine_tmp (l : LineNo) : (dropLine s l).tmp = s.tmp := rfl
@[simp] theorem dropLine_pds (l : LineNo) : (dropLine s l).pds = s.pds := rfl
@[simp] theorem dropLine_pwr (l : LineNo) : (dropLine s l).pwr = s.pwr := rfl
@[simp] theorem dropLine_evt (l : LineNo) : (dropLine s l).evt = s.evt := rfl
@[simp] theorem dropLine_jtag (l : LineNo) : (dropLine s l).jtag = s.jtag := rfl

/-! ### toPhase -/

@[simp] theorem toPhase_pending (p : Phase) : (toPhase s p).pending = s.pending := rfl
@[simp] theorem toPhase_cycle (p : Phase) : (toPhase s p).cycle = s.cycle := rfl
@[simp] theorem toPhase_free (p : Phase) : (toPhase s p).free = s.free := rfl
@[simp] theorem toPhase_nextId (p : Phase) : (toPhase s p).nextId = s.nextId := rfl
@[simp] theorem toPhase_resp (p : Phase) : (toPhase s p).resp = s.resp := rfl
@[simp] theorem toPhase_linkOut (p : Phase) : (toPhase s p).linkOut = s.linkOut := rfl
@[simp] theorem toPhase_boot (p : Phase) : (toPhase s p).boot = { s.boot with phase := p } := rfl
@[simp] theorem toPhase_link (p : Phase) : (toPhase s p).link = s.link := rfl
@[simp] theorem toPhase_fns (p : Phase) : (toPhase s p).fns = s.fns := rfl
@[simp] theorem toPhase_stalls (p : Phase) : (toPhase s p).stalls = s.stalls := rfl
@[simp] theorem toPhase_pdk (p : Phase) : (toPhase s p).pdk = s.pdk := rfl
@[simp] theorem toPhase_rings (p : Phase) : (toPhase s p).rings = s.rings := rfl
@[simp] theorem toPhase_reqs (p : Phase) : (toPhase s p).reqs = s.reqs := rfl
@[simp] theorem toPhase_inters (p : Phase) : (toPhase s p).inters = s.inters := rfl
@[simp] theorem toPhase_quotas (p : Phase) : (toPhase s p).quotas = s.quotas := rfl
@[simp] theorem toPhase_disp (p : Phase) : (toPhase s p).disp = s.disp := rfl
@[simp] theorem toPhase_units (p : Phase) : (toPhase s p).units = s.units := rfl
@[simp] theorem toPhase_gcmShortTag (p : Phase) : (toPhase s p).gcmShortTag = s.gcmShortTag := rfl
@[simp] theorem toPhase_vbrRequired (p : Phase) : (toPhase s p).vbrRequired = s.vbrRequired := rfl
@[simp] theorem toPhase_tableOk (p : Phase) : (toPhase s p).tableOk = s.tableOk := rfl
@[simp] theorem toPhase_noTable (p : Phase) : (toPhase s p).noTable = s.noTable := rfl
@[simp] theorem toPhase_feed (p : Phase) : (toPhase s p).feed = s.feed := rfl
@[simp] theorem toPhase_mrb (p : Phase) : (toPhase s p).mrb = s.mrb := rfl
@[simp] theorem toPhase_tkr (p : Phase) : (toPhase s p).tkr = s.tkr := rfl
@[simp] theorem toPhase_ent (p : Phase) : (toPhase s p).ent = s.ent := rfl
@[simp] theorem toPhase_ns (p : Phase) : (toPhase s p).ns = s.ns := rfl
@[simp] theorem toPhase_mgr (p : Phase) : (toPhase s p).mgr = s.mgr := rfl
@[simp] theorem toPhase_mcs (p : Phase) : (toPhase s p).mcs = s.mcs := rfl
@[simp] theorem toPhase_dram (p : Phase) : (toPhase s p).dram = s.dram := rfl
@[simp] theorem toPhase_scb (p : Phase) : (toPhase s p).scb = s.scb := rfl
@[simp] theorem toPhase_hlt (p : Phase) : (toPhase s p).hlt = s.hlt := rfl
@[simp] theorem toPhase_tmp (p : Phase) : (toPhase s p).tmp = s.tmp := rfl
@[simp] theorem toPhase_pds (p : Phase) : (toPhase s p).pds = s.pds := rfl
@[simp] theorem toPhase_pwr (p : Phase) : (toPhase s p).pwr = s.pwr := rfl
@[simp] theorem toPhase_evt (p : Phase) : (toPhase s p).evt = s.evt := rfl
@[simp] theorem toPhase_jtag (p : Phase) : (toPhase s p).jtag = s.jtag := rfl

end Sys2Proof.Machine
end

