-- ==== Sys2Proof/Laws/React.lean ====
section
/-! SUPPORT. The Halter's cycle and the gates of register accesses, in the cases where they do nothing. -/

namespace Sys2Proof.Machine

open Sys2Proof.Safety

/-- With no assertion waiting the Halter's cycle changes nothing. -/
@[simp] theorem halterCycle_of_quiet {s : State} (h : s.hlt.inbox = []) : halterCycle s = s := by
  simp [halterCycle, h]

/-- With no assertion waiting nothing is settled. -/
@[simp] theorem settle_of_quiet {s : State} (h : s.hlt.inbox = []) : settle s = s := by
  simp [settle, h]

/-- A function in D0 that is not under FLR passes the gate of its BARs. -/
theorem gateBar_open {s : State} {f : Fn} (hd : (fnState s f).d3hot = false) (hf : (fnState s f).flr = false)
    (k : State → State) : gateBar s f k = k s := by simp [gateBar, hd, hf]

/-- A function whose writes are served passes the gate of register writes. -/
theorem gateW_served {s : State} {f : Fn} (h : WritesServed s f) (k : State → State) : gateW s f k = k s := by
  obtain ⟨hd, hf, hp⟩ := h
  simp [gateW, gateBar_open hd hf, hp]

end Sys2Proof.Machine
end

