-- ==== Sys2Proof/Laws/Frames.lean ====
section
/-! SUPPORT. What the shared operations of events, gates and stalls can change: the Event Router and the functions' link
state, and the part of the machine that the devices do not hold. -/

namespace Sys2Proof.Machine

open Sys2Proof.Safety

/-- A state differs from another in the Event Router and the functions' link state alone. -/
def EvOnly (s t : State) : Prop := t = { s with evt := t.evt, fns := t.fns }

/-- Nothing changed. -/
theorem EvOnly.refl (s : State) : EvOnly s s := rfl
/-- Two such changes one after the other. -/
theorem EvOnly.trans {s t u : State} (h : EvOnly s t) (g : EvOnly t u) : EvOnly s u := by
  unfold EvOnly at *; rw [g, h]

/-- Either of two such changes. -/
theorem EvOnly.ite {s t u : State} {c : Prop} [Decidable c] (h : EvOnly s t) (g : EvOnly s u) :
    EvOnly s (if c then t else u) := by split <;> assumption

/-- Such a change for each element of a list. -/
theorem EvOnly.foldl {α : Type} {f : State → α → State} (hf : ∀ s a, EvOnly s (f s a)) (l : List α) (s : State) :
    EvOnly s (l.foldl f s) := by
  induction l generalizing s with
  | nil => exact EvOnly.refl s
  | cons a l ih => exact (hf s a).trans (ih _)

/-- A change of a function is one. -/
theorem setFn_only (s : State) (f : Fn) (g : FnState → FnState) : EvOnly s (setFn s f g) := rfl
/-- A change of a route entry is one. -/
theorem setEv_only (s : State) (f : Fn) (k : EvId) (g : EvSrc → EvSrc) : EvOnly s (setEv s f k g) := rfl

/-- Noting eligibility touches nothing else. -/
theorem noteEv_only (s : State) (f : Fn) (k : EvId) : EvOnly s (noteEv s f k) := by
  unfold noteEv
  exact (EvOnly.ite (setFn_only _ _ _) (EvOnly.refl _)).trans (EvOnly.ite (EvOnly.refl _) (setEv_only _ _ _ _))

/-- Noting every message touches nothing else. -/
theorem noteAllEv_only (s : State) : EvOnly s (noteAllEv s) :=
  EvOnly.foldl (fun s k => (EvOnly.ite (noteEv_only s .pf0 k) (EvOnly.refl s)).trans
    (EvOnly.ite (noteEv_only _ .pf1 k) (EvOnly.refl _))) _ _

/-- Dropping a pending bit touches nothing else. -/
theorem dropPend_only (s : State) (f : Fn) (v : BitVec 10) : EvOnly s (dropPend s f v) :=
  EvOnly.ite (setFn_only _ _ _) (EvOnly.refl _)
/-- Discarding a message touches nothing else. -/
theorem evDiscard_only (s : State) (f : Fn) (k : EvId) : EvOnly s (evDiscard s f k) :=
  EvOnly.ite ((setEv_only _ _ _ _).trans (dropPend_only _ _ _)) (EvOnly.refl _)

/-- The two functions have two indices. -/
theorem fnIx_inj : ∀ {f g : Fn}, fnIx f = fnIx g → f = g
  | .pf0, .pf0, _ => rfl
  | .pf1, .pf1, _ => rfl
  | .pf0, .pf1, h => by cases h
  | .pf1, .pf0, h => by cases h

/-- A route entry after a change of one. -/
theorem evSrc_setEv (s : State) (f g : Fn) (k j : EvId) (h : EvSrc → EvSrc) :
    evSrc (setEv s f k h) g j = if f = g ∧ k = j then h (evSrc s g j) else evSrc s g j := by
  have e : evSrc (setEv s f k h) g j = ((upd s.evt.fns (fnIx f) fun e => { e with src := upd e.src k h })[fnIx g]).src[j] := rfl
  rw [e, upd_get]
  by_cases hf : f = g
  · subst hf
    simp only [if_true, true_and]
    exact upd_get _ _ _ _
  · rw [if_neg (fun c => hf (fnIx_inj c)), if_neg (fun c => hf c.1)]; rfl

/-- A route entry after a change of a function. -/
theorem evSrc_setFn (s : State) (f g : Fn) (j : EvId) (h : FnState → FnState) : evSrc (setFn s f h) g j = evSrc s g j := rfl

/-- Noting eligibility finds no parity error. -/
theorem noteEv_bad (s : State) (f g : Fn) (k j : EvId) : (evSrc (noteEv s f k) g j).bad = (evSrc s g j).bad := by
  have h (s' : State) (v : Option Nat) : (evSrc (setEv s' f k fun x => { x with since := v }) g j).bad = (evSrc s' g j).bad := by
    rw [evSrc_setEv]; split <;> rfl
  have h2 (s' s'' : State) (v : Option Nat) (c : Prop) [Decidable c] (e : evSrc s' g j = evSrc s'' g j) :
      (evSrc (if c then s' else setEv s' f k fun x => { x with since := v }) g j).bad = (evSrc s'' g j).bad := by
    split
    · rw [e]
    · rw [h, e]
  unfold noteEv
  refine h2 _ _ _ _ ?_
  split <;> rfl

/-- Good routes stay good. -/
theorem noteEv_routes {s : State} (h : RoutesGood s) (f : Fn) (k : EvId) : RoutesGood (noteEv s f k) :=
  fun g j => (noteEv_bad s f g k j).trans (h g j)

/-- A change that keeps the parity keeps the routes good. -/
theorem setEv_routes {s : State} (h : RoutesGood s) (f : Fn) (k : EvId) {u : EvSrc → EvSrc} (hu : ∀ e, (u e).bad = e.bad) :
    RoutesGood (setEv s f k u) := by
  intro g j
  rw [evSrc_setEv]; split
  · rw [hu]; exact h g j
  · exact h g j

/-- A raise on one function, all routes good: nothing else changes, and no route goes bad. -/
theorem raiseOn_spec {s : State} (h : RoutesGood s) (f : Fn) (k : EvId) (al : Bool) :
    EvOnly s (raiseOn s f k al) ∧ RoutesGood (raiseOn s f k al) := by
  have hb (s' : State) (g : RoutesGood s') : (evSrc s' f k).bad = false := g f k
  have h1 : RoutesGood (setEv s f k fun e => { e with cause := true, raises := satInc e.raises }) := setEv_routes h f k fun _ => rfl
  unfold raiseOn
  split
  · exact ⟨rfl, h⟩
  · dsimp only
    rw [h1 f k, if_neg Bool.false_ne_true]
    split
    · refine ⟨EvOnly.trans ?_ (noteEv_only _ _ _), noteEv_routes ?_ f k⟩
      · exact EvOnly.trans (setEv_only s f k _) (setEv_only _ f k _)
      · exact setEv_routes h1 f k (fun _ => rfl)
    · exact ⟨setEv_only s f k _, h1⟩

/-- A raise, all routes good: nothing else changes, and no route goes bad. -/
theorem raiseEv_spec {s : State} (h : RoutesGood s) (k : EvId) (al : Bool) :
    EvOnly s (raiseEv s k al) ∧ RoutesGood (raiseEv s k al) := by
  obtain ⟨a, b⟩ := raiseOn_spec h .pf0 k al
  obtain ⟨c, d⟩ := raiseOn_spec b .pf1 k al
  exact ⟨a.trans c, d⟩

/-! ### The devices -/

/-- The devices kept, and nothing new at the Halter's input. -/
def Kept (s t : State) : Prop := DevicesKept s t ∧ t.hlt.inbox = s.hlt.inbox

/-- Nothing changed. -/
theorem Kept.refl (s : State) : Kept s s := ⟨⟨rfl, rfl, rfl, rfl, rfl, rfl, rfl, rfl⟩, rfl⟩

/-- Two such changes one after the other. -/
theorem Kept.trans {s t u : State} (h : Kept s t) (g : Kept t u) : Kept s u := by
  obtain ⟨⟨a1, a2, a3, a4, a5, a6, a7, a8⟩, a9⟩ := h
  obtain ⟨⟨b1, b2, b3, b4, b5, b6, b7, b8⟩, b9⟩ := g
  exact ⟨⟨b1.trans a1, b2.trans a2, b3.trans a3, b4.trans a4, b5.trans a5, b6.trans a6, b7.trans a7, b8.trans a8⟩, b9.trans a9⟩

/-- Either of two such changes. -/
theorem Kept.ite {s t u : State} {c : Prop} [Decidable c] (h : Kept s t) (g : Kept s u) : Kept s (if c then t else u) := by
  split <;> assumption

/-- Such a change for each element of a list. -/
theorem Kept.foldl {α : Type} {f : State → α → State} (hf : ∀ s a, Kept s (f s a)) (l : List α) (s : State) :
    Kept s (l.foldl f s) := by
  induction l generalizing s with
  | nil => exact Kept.refl s
  | cons a l ih => exact (hf s a).trans (ih _)

/-- The Event Router is no device of these. -/
theorem EvOnly.kept {s t : State} (h : EvOnly s t) : Kept s t := by
  rw [h]; exact ⟨⟨rfl, rfl, rfl, rfl, rfl, rfl, rfl, rfl⟩, rfl⟩

/-- Stalls, rings, the link and an answer are none either. -/
theorem Kept.setStall {s t : State} (h : Kept s t) (n : StallId) (g : Stall → Stall) : Kept s (setStall t n g) := h
/-- See above. -/
theorem Kept.setRing {s t : State} (h : Kept s t) (r : RingId) (g : Ring → Ring) : Kept s (setRing t r g) := h
/-- See above. -/
theorem Kept.answer {s t : State} (h : Kept s t) (r : Resp) : Kept s (answer t r) := h
/-- See above. -/
theorem Kept.post {s t : State} (h : Kept s t) (w : Pw) : Kept s (post t w) := h

/-- A notice with good routes. -/
theorem notice_kept {s : State} (h : RoutesGood s) (n : StallId) (c : BitVec 4) : Kept s (notice s n c) :=
  Kept.trans (Kept.setStall (Kept.refl s) n _) (raiseEv_spec (s := Machine.setStall s n _) h _ _).1.kept

/-- The gate of the BARs. -/
theorem gateBar_kept {s : State} {f : Fn} {k : State → State} (h : Kept s (k s)) : Kept s (gateBar s f k) :=
  Kept.ite (t := answer (setAer s f 8) .unsupported) (Kept.refl s) (Kept.ite (t := answer s (.value 0)) (Kept.refl s) h)

/-- The gate of register writes. -/
theorem gateW_kept {s : State} {f : Fn} {k : State → State} (h : Kept s (k s)) : Kept s (gateW s f k) :=
  gateBar_kept (Kept.ite h (Kept.refl s))

/-- Where nothing came in at the Halter, its cycle does nothing. -/
theorem settle_kept {s t : State} (q : Quiet s) (h : Kept s t) : Kept s (settle t) := by
  rw [settle_of_quiet (h.2.trans q)]; exact h

/-- A tail accepted. -/
theorem acceptTail_kept (s : State) (r : RingId) : Kept s (acceptTail s r) := by
  unfold acceptTail
  dsimp only
  split
  · exact Kept.refl s
  · exact Kept.ite (Kept.refl s) (Kept.ite (Kept.refl s) (Kept.refl s))

/-- Kept tails accepted. -/
theorem acceptKept_kept (s : State) (p : RingId → Bool) : Kept s (acceptKept s p) :=
  Kept.foldl (fun s r => Kept.ite (acceptTail_kept s r) (Kept.refl s)) _ _

/-- A stall's routes cleared. -/
theorem resetRoutes_kept (s : State) (n : StallId) : Kept s (resetRoutes s n) :=
  Kept.foldl (fun s k => (((evDiscard_only s .pf0 k).trans (evDiscard_only _ .pf1 k)).trans
    ((setEv_only _ .pf0 k _).trans (setEv_only _ .pf1 k _))).kept) _ _

end Sys2Proof.Machine
end

