-- ==== Sys2Proof/Laws/Memory.lean ====
section
/-! SUPPORT. Local memory: every operation keeps its canonical form, a read after a write, and equal memories are equal
lists. -/

namespace Sys2Proof.Machine

/-- Every address of a list lies above one. -/
def cellsAbove (k : Nat) (c : List Host.Cell) : Prop := ∀ x ∈ c, k < x.1

/-- A list above an address, cell by cell. -/
theorem cellsAbove_cons {k j : Nat} {v : Byte} {t : List Host.Cell} :
    cellsAbove k ((j, v) :: t) ↔ k < j ∧ cellsAbove k t := by
  constructor
  · exact fun h => ⟨h (j, v) List.mem_cons_self, fun x hx => h x (List.mem_cons_of_mem _ hx)⟩
  · rintro ⟨hj, ht⟩ x hx
    rcases List.mem_cons.1 hx with rfl | hx
    · exact hj
    · exact ht x hx

/-- The canonical form of a list with a first cell. -/
theorem wf_cons {k : Nat} {v : Byte} {t : List Host.Cell} :
    Memory.wf ((k, v) :: t) = true ↔ v ≠ 0 ∧ cellsAbove k t ∧ Memory.wf t = true := by
  simp [Memory.wf, cellsAbove, and_assoc]

/-- Below every listed address memory reads 0. -/
theorem cellGet_below {k : Nat} : ∀ {c : List Host.Cell}, cellsAbove k c → ∀ a, a ≤ k → cellGet c a = 0
  | [], _, _, _ => rfl
  | (j, v) :: t, h, a, ha => by
    have hj : k < j := h (j, v) (by simp)
    have ht : cellsAbove k t := fun x hx => h x (by simp [hx])
    simp [cellGet, show j ≠ a by omega, cellGet_below ht a ha]

/-- A write above an address leaves every listed address above it. -/
theorem cellsAbove_cellSet {k : Nat} : ∀ {c : List Host.Cell} {a : Nat} {b : Byte}, cellsAbove k c → k < a →
    cellsAbove k (cellSet c a b)
  | [], a, b, _, ha => by unfold cellSet; split <;> simp [cellsAbove, ha]
  | (j, v) :: t, a, b, h, ha => by
    obtain ⟨hj, ht⟩ := cellsAbove_cons.1 h
    unfold cellSet
    split
    · split
      · exact h
      · exact cellsAbove_cons.2 ⟨ha, h⟩
    · split
      · split
        · exact ht
        · exact cellsAbove_cons.2 ⟨ha, ht⟩
      · exact cellsAbove_cons.2 ⟨hj, cellsAbove_cellSet ht ha⟩

/-- A write of one byte keeps the canonical form. -/
theorem cellSet_wf : ∀ {c : List Host.Cell} (a : Nat) (b : Byte), Memory.wf c = true → Memory.wf (cellSet c a b) = true
  | [], a, b, _ => by unfold cellSet; split <;> simp_all [Memory.wf]
  | (j, v) :: t, a, b, h => by
    obtain ⟨hv, ht, hw⟩ := wf_cons.1 h
    unfold cellSet
    split
    · rename_i hlt
      split
      · exact h
      · rename_i hb
        refine wf_cons.2 ⟨hb, ?_, h⟩
        intro x hx
        rcases List.mem_cons.1 hx with rfl | hx
        · exact hlt
        · have := ht x hx; omega
    · split
      · split
        · exact hw
        · rename_i hb
          subst_vars
          exact wf_cons.2 ⟨hb, ht, hw⟩
      · exact wf_cons.2 ⟨hv, cellsAbove_cellSet ht (by omega), cellSet_wf a b hw⟩

/-- A byte reads as it was written, and every other byte as before. -/
theorem cellGet_cellSet : ∀ {c : List Host.Cell} (a : Nat) (b : Byte) (x : Nat), Memory.wf c = true →
    cellGet (cellSet c a b) x = if x = a then b else cellGet c x
  | [], a, b, x, _ => by
    unfold cellSet
    split
    · rename_i hb
      split <;> simp [cellGet, hb]
    · by_cases hx : x = a
      · simp [cellGet, hx]
      · simp [cellGet, hx, Ne.symm hx]
  | (j, v) :: t, a, b, x, h => by
    obtain ⟨-, ht, hw⟩ := wf_cons.1 h
    have ih := cellGet_cellSet a b x hw
    unfold cellSet
    split
    · split
      · by_cases hx : x = a
        · subst_vars
          simp [cellGet, show j ≠ x by omega, cellGet_below ht x (by omega)]
        · simp [hx]
      · by_cases hx : x = a
        · simp [cellGet, hx]
        · simp [cellGet, hx, Ne.symm hx]
    · split
      · by_cases hx : x = a
        · subst_vars
          split
          · simp_all [cellGet_below ht x (by omega)]
          · simp [cellGet]
        · split
          · simp [cellGet, show j ≠ x by omega]
          · simp [cellGet, Ne.symm hx, show j ≠ x by omega]
      · by_cases hx : j = x
        · simp [cellGet, hx, show x ≠ a by omega]
        · simp [cellGet, hx, ih]

/-- A write of bytes keeps the canonical form. -/
theorem cellPut_wf : ∀ {c : List Host.Cell} (a : Nat) (bs : List Byte), Memory.wf c = true → Memory.wf (cellPut c a bs) = true
  | _, _, [], h => h
  | _, a, b :: t, h => cellPut_wf (a + 1) t (cellSet_wf a b h)

/-- Bytes read as they were written, and every other byte as before. -/
theorem cellGet_cellPut : ∀ {c : List Host.Cell} (a : Nat) (bs : List Byte) (x : Nat), Memory.wf c = true →
    cellGet (cellPut c a bs) x = if a ≤ x ∧ x < a + bs.length then bs.getD (x - a) 0 else cellGet c x
  | _, _, [], x, _ => by simp [cellPut]
  | c, a, b :: t, x, h => by
    have ih := cellGet_cellPut (a + 1) t x (cellSet_wf a b h)
    rw [cellPut, ih, cellGet_cellSet a b x h]
    by_cases hx : x = a
    · subst_vars
      simp
    · by_cases hr : a + 1 ≤ x ∧ x < a + 1 + t.length
      · have : x - a = (x - (a + 1)) + 1 := by omega
        rw [if_pos hr, if_pos (by simp; omega), this]
        rfl
      · rw [if_neg hr, if_neg hx, if_neg (by simp; omega)]

/-- Writing a list of bytes with addresses, where each is written or not, keeps the canonical form. -/
theorem cellFold_wf (p : Nat × Byte → Bool) : ∀ (ws : List (Nat × Byte)) {c : List Host.Cell}, Memory.wf c = true →
    Memory.wf (ws.foldl (fun c w => if p w then c else cellSet c w.1 w.2) c) = true
  | [], _, h => h
  | w :: t, c, h => by
    refine cellFold_wf p t ?_
    show Memory.wf (if p w then c else cellSet c w.1 w.2) = true
    split
    · exact h
    · exact cellSet_wf _ _ h

/-- Zero fill keeps the canonical form. -/
theorem cellClear_wf (lo hi : Nat) : ∀ {c : List Host.Cell}, Memory.wf c = true → Memory.wf (cellClear c lo hi) = true
  | [], _ => rfl
  | (k, v) :: t, h => by
    obtain ⟨hv, ht, hw⟩ := wf_cons.1 h
    have ih : Memory.wf (cellClear t lo hi) = true := cellClear_wf lo hi hw
    unfold cellClear at *
    rw [List.filter_cons]
    split
    · exact wf_cons.2 ⟨hv, fun x hx => ht x (List.mem_filter.1 hx).1, ih⟩
    · exact ih

/-- Zero fill: the range reads 0, and every other byte as before. -/
theorem cellGet_cellClear (lo hi x : Nat) : ∀ {c : List Host.Cell},
    cellGet (cellClear c lo hi) x = if lo ≤ x ∧ x < hi then 0 else cellGet c x
  | [] => by simp [cellClear, cellGet]
  | (k, v) :: t => by
    have ih : cellGet (cellClear t lo hi) x = _ := cellGet_cellClear lo hi x
    unfold cellClear at *
    rw [List.filter_cons]
    split
    · rename_i hk
      by_cases hx : k = x
      · subst hx
        have : ¬ (lo ≤ k ∧ k < hi) := by simp at hk; omega
        simp [cellGet, this]
      · simp [cellGet, hx, ih]
    · rename_i hk
      by_cases hx : k = x
      · subst hx
        have : lo ≤ k ∧ k < hi := by simp at hk; omega
        rw [ih, if_pos this, if_pos this]
      · simp [cellGet, hx, ih]

/-- Two canonical memories that read alike at every address are equal data. -/
theorem wf_ext : ∀ {c d : List Host.Cell}, Memory.wf c = true → Memory.wf d = true → (∀ a, cellGet c a = cellGet d a) → c = d
  | [], [], _, _, _ => rfl
  | [], (k, v) :: t, _, hd, h => by
    have := h k
    simp [cellGet] at this
    exact absurd this.symm (wf_cons.1 hd).1
  | (k, v) :: t, [], hc, _, h => by
    have := h k
    simp [cellGet] at this
    exact absurd this (wf_cons.1 hc).1
  | (k, v) :: t, (j, w) :: u, hc, hd, h => by
    obtain ⟨hv, ht, hwt⟩ := wf_cons.1 hc
    obtain ⟨hw, hu, hwu⟩ := wf_cons.1 hd
    have hkj : k = j := by
      rcases Nat.lt_trichotomy k j with hlt | he | hlt
      · have := h k
        simp [cellGet, show j ≠ k by omega, cellGet_below hu k (by omega)] at this
        exact absurd this hv
      · exact he
      · have := h j
        simp [cellGet, show k ≠ j by omega, cellGet_below ht j (by omega)] at this
        exact absurd this.symm hw
    subst hkj
    have hvw : v = w := by simpa [cellGet] using h k
    subst hvw
    have : t = u := wf_ext hwt hwu fun a => by
      rcases Nat.lt_or_ge k a with hlt | hge
      · simpa [cellGet, show k ≠ a by omega] using h a
      · rw [cellGet_below ht a hge, cellGet_below hu a hge]
    rw [this]

/-! ### Every operation that writes local memory keeps its canonical form -/

/-- Dropping a line from the cribs writes nothing to the channel. -/
@[simp] theorem cribsDrop_dram (s : State) (l : LineNo) : (cribsDrop s l).dram = s.dram := by
  unfold cribsDrop
  rfl

/-- Whichever of two states, both canonical. -/
theorem ite_wf {p : Prop} [Decidable p] {a b : State} (ha : Memory.wf a.dram.cells = true) (hb : Memory.wf b.dram.cells = true) :
    Memory.wf (if p then a else b).dram.cells = true := by
  split
  · exact ha
  · exact hb

/-- A write straight to the channel. -/
theorem channelPut_wf {s : State} (ws : List (Nat × Byte)) (h : Memory.wf s.dram.cells = true) :
    Memory.wf (channelPut s ws).dram.cells = true := by
  have put : Memory.wf (ws.foldl (fun c w => cellSet c w.1 w.2) s.dram.cells) = true := by
    simpa using cellFold_wf (fun _ => false) ws h
  exact ite_wf h put

/-- Bytes that merge in the channel. -/
theorem mergeRest_wf {s : State} (x : Line) (ws : List (Nat × Byte)) (h : Memory.wf s.dram.cells = true) :
    Memory.wf (mergeRest s x ws).dram.cells = true := cellFold_wf _ ws h

/-- A sector written back. -/
theorem writeBackSector_wf {s : State} (x : Line) (k : Nat) (h : Memory.wf s.dram.cells = true) :
    Memory.wf (writeBackSector s x k).dram.cells = true := by
  unfold writeBackSector
  dsimp only
  refine ite_wf h ?_
  dsimp only
  exact cellPut_wf _ _ h

/-- A fold of steps that keep the canonical form. -/
theorem foldl_wf {α : Type} {f : State → α → State} (hf : ∀ s x, Memory.wf s.dram.cells = true → Memory.wf (f s x).dram.cells = true) :
    ∀ (l : List α) {s : State}, Memory.wf s.dram.cells = true → Memory.wf (l.foldl f s).dram.cells = true
  | [], _, h => h
  | x :: t, _, h => foldl_wf hf t (hf _ x h)

/-- A line written back. -/
theorem writeBack_wf {s : State} (x : Line) (h : Memory.wf s.dram.cells = true) : Memory.wf (writeBack s x).dram.cells = true :=
  foldl_wf (fun _ k => writeBackSector_wf x k) _ h

/-- A line's data all in the channel. -/
theorem lineOut_wf {s : State} (x : Line) (h : Memory.wf s.dram.cells = true) : Memory.wf (lineOut s x).dram.cells = true :=
  channelPut_wf _ (writeBack_wf x h)

/-- A channel's zero fill. -/
theorem zeroFill_wf {s : State} (g : ChanId) (h : Memory.wf s.dram.cells = true) : Memory.wf (zeroFill s g).dram.cells = true :=
  cellClear_wf _ _ h

/-- Writes accepted by a home slice. -/
theorem slicePut_wf {s : State} (b : By) (l : LineNo) (ws : List (Nat × Byte)) (h : Memory.wf s.dram.cells = true) :
    Memory.wf (slicePut s b l ws).dram.cells = true := by
  have bypass : Memory.wf (channelPut (if mayAllocate s b l then s else countBypass s b.who) ws).dram.cells = true := by
    refine channelPut_wf ws ?_
    split
    · exact h
    · cases b.who <;> exact h
  unfold slicePut
  split
  · exact h
  · split
    · rename_i x _
      have stored := mergeRest_wf x ws h
      split
      · exact h
      · exact h
      · exact h
      · split
        · exact h
        · simp only []
          split
          · exact writeBack_wf _ stored
          · exact stored
    · simp only []
      split
      · exact bypass
      · exact mergeRest_wf _ ws h

/-- A run of bytes written to local memory, line by line. -/
theorem localPut_wf {s : State} (b : By) (a : Nat) (bs : List Byte) (h : Memory.wf s.dram.cells = true) :
    Memory.wf (localPut s b a bs).dram.cells = true := foldl_wf (fun _ _ h => slicePut_wf b _ _ h) _ h

/-- A window write, line by line. -/
theorem putLines_wf {s : State} (ws : List (Nat × Byte)) (h : Memory.wf s.dram.cells = true) :
    Memory.wf (putLines s ws).dram.cells = true := foldl_wf (fun _ _ h => slicePut_wf _ _ _ h) _ h

/-- A cached line of a stall evicted. -/
theorem evictOne_wf {s : State} (n : StallId) (h : Memory.wf s.dram.cells = true) : Memory.wf (evictOne s n).dram.cells = true := by
  unfold evictOne
  split
  · exact h
  · rw [dropLine_dram, cribsDrop_dram]
    exact lineOut_wf _ h

/-- Cached lines of a stall evicted until they fit. -/
theorem evictFit_wf (n : StallId) : ∀ (m : Nat) {s : State}, Memory.wf s.dram.cells = true →
    Memory.wf (evictFit s n m).dram.cells = true
  | 0, _, h => h
  | m + 1, s, h => by
    unfold evictFit
    split
    · exact h
    · exact evictFit_wf n m (evictOne_wf n h)

/-- A group's lines written back and dropped. -/
theorem flushGroup_wf {s : State} (g : ChanId) (h : Memory.wf s.dram.cells = true) :
    Memory.wf (flushGroup s g).dram.cells = true := by
  refine foldl_wf (fun s x h => ?_) _ h
  split
  · rw [dropLine_dram, cribsDrop_dram]
    exact lineOut_wf x h
  · exact h

/-- The lines of a stall that ends. -/
theorem dropStallLines_wf {s : State} (n : StallId) (h : Memory.wf s.dram.cells = true) :
    Memory.wf (dropStallLines s n).dram.cells = true := by
  refine foldl_wf (fun s x h => ?_) _ h
  split
  · rw [putLine_dram]
    exact writeBack_wf x h
  · split
    · split
      · exact ite_wf (writeBack_wf _ h) h
      · rw [putLine_dram]
        exact writeBack_wf x h
    · exact h

end Sys2Proof.Machine
end

