-- ==== Sys2Proof/WellFormed.lean ====
section
/-! DEFINITION. Which operands a row can carry: the alignment and range rules that the specification gives for the
access or the source a command names. The meanings are total, so this judgement limits no meaning. -/

namespace Sys2Proof

/-- A BAR4 access is not empty and stays in the 256 MiB window (R126). -/
def Bar4Acc.wf (offset : BitVec 28) : Bar4Acc → Bool
  | .read n => decide (0 < n) && decide (offset.toNat + n ≤ 0x10000000)
  | .write bs _ => decide (0 < bs.length) && decide (offset.toNat + bs.length ≤ 0x10000000)

/-- Max_Payload_Size up to 512 bytes, Max_Read_Request_Size up to 4 KiB (R108). -/
def CfgOp.wf : CfgOp → Bool
  | .setMaxPayload v => decide (v.toNat ≤ 2)
  | .setMaxRead v => decide (v.toNat ≤ 5)
  | _ => true

/-- Is a Halter source dual-rail (R641)? -/
def HsId.dualRail (k : HsId) : Bool := decide (48 ≤ k.val ∧ k.val < 56) || decide (72 ≤ k.val)

/-- Can a command occur with these operands? -/
def Instr.wf : Instr → Bool
  | .configRequest _ op => op.wf
  | .bar4Access off acc => acc.wf off
  | .lowHalfWrite _ off _ => decide (off.toNat % 8 = 0)
  | .highHalfWrite _ off _ => decide (off.toNat % 8 = 4)
  | .lowHalfRead _ _ off wide => decide (off.toNat % (if wide then 8 else 4) = 0)
  | .registerWrite _ _ off wide _ => decide (off.toNat % (if wide then 8 else 4) = 0)
  | .railDisagreement k => k.dualRail
  | .blockReset d => decide (d.val ≠ 63)
  | .evtRouteWrite _ k aliased _ => !aliased || decide (k.val < 192)
  | .msixUnmask .pf1 (some v) => decide (v.toNat < 256)
  | .hostReadCompletion _ (.data bs) => decide (0 < bs.length)
  | .scrubLapEnd _ ms => decide (0 < ms.toNat)
  | _ => true

end Sys2Proof
end

