-- ==== Sys2Proof/Laws/PerInstr.lean ====
section
/-! SUPPORT. Statements made for each command. Family Shape: the judgement of operands says the rule of the specification, as
a proposition. -/

namespace Sys2Proof.Laws.Shape

/-- The operand rule of a command. -/
def Rule : Instr → Prop
  | .configRequest _ (.setMaxPayload v) => v.toNat ≤ 2
  | .configRequest _ (.setMaxRead v) => v.toNat ≤ 5
  | .bar4Access off (.read n) => 0 < n ∧ off.toNat + n ≤ 0x10000000
  | .bar4Access off (.write bs _) => 0 < bs.length ∧ off.toNat + bs.length ≤ 0x10000000
  | .lowHalfWrite _ off _ => off.toNat % 8 = 0
  | .highHalfWrite _ off _ => off.toNat % 8 = 4
  | .lowHalfRead _ _ off wide => off.toNat % (if wide then 8 else 4) = 0
  | .registerWrite _ _ off wide _ => off.toNat % (if wide then 8 else 4) = 0
  | .railDisagreement k => (48 ≤ k.val ∧ k.val < 56) ∨ 72 ≤ k.val
  | .blockReset d => d.val ≠ 63
  | .evtRouteWrite _ k aliased _ => aliased = true → k.val < 192
  | .msixUnmask .pf1 (some v) => v.toNat < 256
  | .hostReadCompletion _ (.data bs) => 0 < bs.length
  | .scrubLapEnd _ ms => 0 < ms.toNat
  | _ => True

/-- A command is well formed exactly when its operands keep their rule. -/
def Statement (i : Instr) : Prop := i.wf = true ↔ Rule i


theorem powerOnReset (i2cAddr : BitVec 3) (refclkSel : Bool) (testMode : Bool) (imgSel : BitVec 2) : Statement (.powerOnReset i2cAddr refclkSel testMode imgSel) := ⟨fun _ => trivial, fun _ => rfl⟩
theorem perstNAssert : Statement .perstNAssert := ⟨fun _ => trivial, fun _ => rfl⟩
theorem perstNDeassert (imgSel : BitVec 2) : Statement (.perstNDeassert imgSel) := ⟨fun _ => trivial, fun _ => rfl⟩
theorem cfgSwReset (fn : Fn) (value : BitVec 32) : Statement (.cfgSwReset fn value) := ⟨fun _ => trivial, fun _ => rfl⟩
theorem chipReset (perst : Bool) (halter : Bool) (software : Bool) (imgSel : BitVec 2) : Statement (.chipReset perst halter software imgSel) := ⟨fun _ => trivial, fun _ => rfl⟩
theorem resetPhaseEnd : Statement .resetPhaseEnd := ⟨fun _ => trivial, fun _ => rfl⟩
theorem otpPhaseEnd : Statement .otpPhaseEnd := ⟨fun _ => trivial, fun _ => rfl⟩
theorem pllLock : Statement .pllLock := ⟨fun _ => trivial, fun _ => rfl⟩
theorem pllLockTimeout : Statement .pllLockTimeout := ⟨fun _ => trivial, fun _ => rfl⟩
theorem preloadTestEnd (halterOk : Bool) (mrbOk : Bool) (ms0Ok : Bool) (sfdp : Option Sfdp) : Statement (.preloadTestEnd halterOk mrbOk ms0Ok sfdp) := ⟨fun _ => trivial, fun _ => rfl⟩
theorem loadPhaseEnd (copyA : List Byte) (copyB : List Byte) (bnuPass : BitVec 8) : Statement (.loadPhaseEnd copyA copyB bnuPass) := ⟨fun _ => trivial, fun _ => rfl⟩
theorem applyPhaseEnd : Statement .applyPhaseEnd := ⟨fun _ => trivial, fun _ => rfl⟩
theorem memoryPhaseEnd (tablesOk : Bool) (badSram : List SramPart) : Statement (.memoryPhaseEnd tablesOk badSram) := ⟨fun _ => trivial, fun _ => rfl⟩
theorem selfTestPhaseEnd (failed : BitVec 64) : Statement (.selfTestPhaseEnd failed) := ⟨fun _ => trivial, fun _ => rfl⟩
theorem rootGen (readbackOk : Bool) : Statement (.rootGen readbackOk) := ⟨fun _ => trivial, fun _ => rfl⟩
theorem heldEntry : Statement .heldEntry := ⟨fun _ => trivial, fun _ => rfl⟩
theorem readyEntry : Statement .readyEntry := ⟨fun _ => trivial, fun _ => rfl⟩
theorem cfgBootCtlRelease (fn : Fn) (value : BitVec 32) : Statement (.cfgBootCtlRelease fn value) := ⟨fun _ => trivial, fun _ => rfl⟩
theorem configRequest (fn : Fn) (op : CfgOp) : Statement (.configRequest fn op) := by
  cases op <;> simp [Statement, Rule, Instr.wf, CfgOp.wf]
theorem flr (fn : Fn) : Statement (.flr fn) := ⟨fun _ => trivial, fun _ => rfl⟩
theorem flrComplete (fn : Fn) : Statement (.flrComplete fn) := ⟨fun _ => trivial, fun _ => rfl⟩
theorem hotReset : Statement .hotReset := ⟨fun _ => trivial, fun _ => rfl⟩
theorem linkRetrain (rate : BitVec 4) (width : BitVec 4) : Statement (.linkRetrain rate width) := ⟨fun _ => trivial, fun _ => rfl⟩
theorem d3hotEntry (fn : Fn) : Statement (.d3hotEntry fn) := ⟨fun _ => trivial, fun _ => rfl⟩
theorem d0Return (fn : Fn) : Statement (.d0Return fn) := ⟨fun _ => trivial, fun _ => rfl⟩
theorem barAccessMalformed (fn : Fn) (isWrite : Bool) : Statement (.barAccessMalformed fn isWrite) := ⟨fun _ => trivial, fun _ => rfl⟩
theorem unsupportedRequest (fn : Fn) : Statement (.unsupportedRequest fn) := ⟨fun _ => trivial, fun _ => rfl⟩
theorem brdDbTailWrite (fn : Fn) (ring : RingId) (value : BitVec 32) : Statement (.brdDbTailWrite fn ring value) := ⟨fun _ => trivial, fun _ => rfl⟩
theorem alarmTokenRefill : Statement .alarmTokenRefill := ⟨fun _ => trivial, fun _ => rfl⟩
theorem descriptorFetchIssue (ring : RingId) : Statement (.descriptorFetchIssue ring) := ⟨fun _ => trivial, fun _ => rfl⟩
theorem hostReadCompletion (rd : Nat) (ans : HostAnswer) : Statement (.hostReadCompletion rd ans) := by
  cases ans <;> simp [Statement, Rule, Instr.wf]
theorem completionTimeout (rd : Nat) : Statement (.completionTimeout rd) := ⟨fun _ => trivial, fun _ => rfl⟩
theorem lateCompletion (rd : Nat) : Statement (.lateCompletion rd) := ⟨fun _ => trivial, fun _ => rfl⟩
theorem fetchErrClear (fn : Fn) (ring : RingId) (value : BitVec 32) : Statement (.fetchErrClear fn ring value) := ⟨fun _ => trivial, fun _ => rfl⟩
theorem chainOverlengthReject (ring : RingId) : Statement (.chainOverlengthReject ring) := ⟨fun _ => trivial, fun _ => rfl⟩
theorem candidateAdmission (ring : RingId) : Statement (.candidateAdmission ring) := ⟨fun _ => trivial, fun _ => rfl⟩
theorem blobUnwrapDone (req : Nat) (coresAgree : Bool) : Statement (.blobUnwrapDone req coresAgree) := ⟨fun _ => trivial, fun _ => rfl⟩
theorem preemptSuspend (unit : UnitId) : Statement (.preemptSuspend unit) := ⟨fun _ => trivial, fun _ => rfl⟩
theorem suspendedResume (unit : UnitId) : Statement (.suspendedResume unit) := ⟨fun _ => trivial, fun _ => rfl⟩
theorem chainMemberStart (req : Nat) : Statement (.chainMemberStart req) := ⟨fun _ => trivial, fun _ => rfl⟩
theorem coopHoldComplete : Statement .coopHoldComplete := ⟨fun _ => trivial, fun _ => rfl⟩
theorem coopHoldTimeout : Statement .coopHoldTimeout := ⟨fun _ => trivial, fun _ => rfl⟩
theorem katDue (pool : Pool) : Statement (.katDue pool) := ⟨fun _ => trivial, fun _ => rfl⟩
theorem katStart (unit : UnitId) : Statement (.katStart unit) := ⟨fun _ => trivial, fun _ => rfl⟩
theorem katEnd (unit : UnitId) (pass : Bool) : Statement (.katEnd unit pass) := ⟨fun _ => trivial, fun _ => rfl⟩
theorem unitFaultCheckFail (unit : UnitId) (cause : BitVec 4) : Statement (.unitFaultCheckFail unit cause) := ⟨fun _ => trivial, fun _ => rfl⟩
theorem requestComplete (req : Nat) : Statement (.requestComplete req) := ⟨fun _ => trivial, fun _ => rfl⟩
theorem headRecordWrite (ring : RingId) : Statement (.headRecordWrite ring) := ⟨fun _ => trivial, fun _ => rfl⟩
theorem intermediateZeroise (chain : Nat) : Statement (.intermediateZeroise chain) := ⟨fun _ => trivial, fun _ => rfl⟩
theorem vbrRelease (req : Nat) : Statement (.vbrRelease req) := ⟨fun _ => trivial, fun _ => rfl⟩
theorem vbrLinesZeroise (req : Nat) : Statement (.vbrLinesZeroise req) := ⟨fun _ => trivial, fun _ => rfl⟩
theorem coopLinesZeroise (req : Nat) : Statement (.coopLinesZeroise req) := ⟨fun _ => trivial, fun _ => rfl⟩
theorem protFenceDone : Statement .protFenceDone := ⟨fun _ => trivial, fun _ => rfl⟩
theorem aesEcbEnc (req : Nat) : Statement (.aesEcbEnc req) := ⟨fun _ => trivial, fun _ => rfl⟩
theorem aesEcbDec (req : Nat) : Statement (.aesEcbDec req) := ⟨fun _ => trivial, fun _ => rfl⟩
theorem aesCbcEnc (req : Nat) : Statement (.aesCbcEnc req) := ⟨fun _ => trivial, fun _ => rfl⟩
theorem aesCbcDec (req : Nat) : Statement (.aesCbcDec req) := ⟨fun _ => trivial, fun _ => rfl⟩
theorem aesCtr (req : Nat) : Statement (.aesCtr req) := ⟨fun _ => trivial, fun _ => rfl⟩
theorem aesXtsEnc (req : Nat) : Statement (.aesXtsEnc req) := ⟨fun _ => trivial, fun _ => rfl⟩
theorem aesXtsDec (req : Nat) : Statement (.aesXtsDec req) := ⟨fun _ => trivial, fun _ => rfl⟩
theorem aesCfbEnc (req : Nat) : Statement (.aesCfbEnc req) := ⟨fun _ => trivial, fun _ => rfl⟩
theorem aesCfbDec (req : Nat) : Statement (.aesCfbDec req) := ⟨fun _ => trivial, fun _ => rfl⟩
theorem aesOfb (req : Nat) : Statement (.aesOfb req) := ⟨fun _ => trivial, fun _ => rfl⟩
theorem aesGcmEnc (req : Nat) : Statement (.aesGcmEnc req) := ⟨fun _ => trivial, fun _ => rfl⟩
theorem aesGcmDec (req : Nat) : Statement (.aesGcmDec req) := ⟨fun _ => trivial, fun _ => rfl⟩
theorem aesCcmEnc (req : Nat) : Statement (.aesCcmEnc req) := ⟨fun _ => trivial, fun _ => rfl⟩
theorem aesCcmDec (req : Nat) : Statement (.aesCcmDec req) := ⟨fun _ => trivial, fun _ => rfl⟩
theorem aesCmac (req : Nat) : Statement (.aesCmac req) := ⟨fun _ => trivial, fun _ => rfl⟩
theorem chacha20 (req : Nat) : Statement (.chacha20 req) := ⟨fun _ => trivial, fun _ => rfl⟩
theorem chacha20Poly1305Enc (req : Nat) : Statement (.chacha20Poly1305Enc req) := ⟨fun _ => trivial, fun _ => rfl⟩
theorem chacha20Poly1305Dec (req : Nat) : Statement (.chacha20Poly1305Dec req) := ⟨fun _ => trivial, fun _ => rfl⟩
theorem hash (req : Nat) : Statement (.hash req) := ⟨fun _ => trivial, fun _ => rfl⟩
theorem hashFrag (req : Nat) : Statement (.hashFrag req) := ⟨fun _ => trivial, fun _ => rfl⟩
theorem xof (req : Nat) : Statement (.xof req) := ⟨fun _ => trivial, fun _ => rfl⟩
theorem hmac (req : Nat) : Statement (.hmac req) := ⟨fun _ => trivial, fun _ => rfl⟩
theorem hmacFrag (req : Nat) : Statement (.hmacFrag req) := ⟨fun _ => trivial, fun _ => rfl⟩
theorem kmac (req : Nat) : Statement (.kmac req) := ⟨fun _ => trivial, fun _ => rfl⟩
theorem kmacXof (req : Nat) : Statement (.kmacXof req) := ⟨fun _ => trivial, fun _ => rfl⟩
theorem mrExtend (req : Nat) : Statement (.mrExtend req) := ⟨fun _ => trivial, fun _ => rfl⟩
theorem modexp (req : Nat) : Statement (.modexp req) := ⟨fun _ => trivial, fun _ => rfl⟩
theorem rsaPrivCrt (req : Nat) : Statement (.rsaPrivCrt req) := ⟨fun _ => trivial, fun _ => rfl⟩
theorem rsaPub (req : Nat) : Statement (.rsaPub req) := ⟨fun _ => trivial, fun _ => rfl⟩
theorem ecdsaSign (req : Nat) : Statement (.ecdsaSign req) := ⟨fun _ => trivial, fun _ => rfl⟩
theorem ecdsaVerify (req : Nat) : Statement (.ecdsaVerify req) := ⟨fun _ => trivial, fun _ => rfl⟩
theorem ecdh (run : CoreRun) : Statement (.ecdh run) := ⟨fun _ => trivial, fun _ => rfl⟩
theorem ecKeygen (run : CoreRun) : Statement (.ecKeygen run) := ⟨fun _ => trivial, fun _ => rfl⟩
theorem eddsaSign (req : Nat) : Statement (.eddsaSign req) := ⟨fun _ => trivial, fun _ => rfl⟩
theorem eddsaVerify (req : Nat) : Statement (.eddsaVerify req) := ⟨fun _ => trivial, fun _ => rfl⟩
theorem xdh (run : CoreRun) : Statement (.xdh run) := ⟨fun _ => trivial, fun _ => rfl⟩
theorem mlkemKeygen (run : CoreRun) : Statement (.mlkemKeygen run) := ⟨fun _ => trivial, fun _ => rfl⟩
theorem mlkemEncaps (run : CoreRun) : Statement (.mlkemEncaps run) := ⟨fun _ => trivial, fun _ => rfl⟩
theorem mlkemDecaps (run : CoreRun) : Statement (.mlkemDecaps run) := ⟨fun _ => trivial, fun _ => rfl⟩
theorem mldsaKeygen (run : CoreRun) : Statement (.mldsaKeygen run) := ⟨fun _ => trivial, fun _ => rfl⟩
theorem mldsaSign (req : Nat) : Statement (.mldsaSign req) := ⟨fun _ => trivial, fun _ => rfl⟩
theorem mldsaVerify (req : Nat) : Statement (.mldsaVerify req) := ⟨fun _ => trivial, fun _ => rfl⟩
theorem modop (req : Nat) : Statement (.modop req) := ⟨fun _ => trivial, fun _ => rfl⟩
theorem coopModexp (req : Nat) : Statement (.coopModexp req) := ⟨fun _ => trivial, fun _ => rfl⟩
theorem rngGet (req : Nat) : Statement (.rngGet req) := ⟨fun _ => trivial, fun _ => rfl⟩
theorem rngReseed (req : Nat) : Statement (.rngReseed req) := ⟨fun _ => trivial, fun _ => rfl⟩
theorem rngRaw (req : Nat) : Statement (.rngRaw req) := ⟨fun _ => trivial, fun _ => rfl⟩
theorem blobWrap (req : Nat) (coresAgree : Bool) : Statement (.blobWrap req coresAgree) := ⟨fun _ => trivial, fun _ => rfl⟩
theorem blobUnwrap (req : Nat) : Statement (.blobUnwrap req) := ⟨fun _ => trivial, fun _ => rfl⟩
theorem keyDerive (req : Nat) (coresAgree : Bool) : Statement (.keyDerive req coresAgree) := ⟨fun _ => trivial, fun _ => rfl⟩
theorem keyGenerate (req : Nat) (coresAgree : Bool) : Statement (.keyGenerate req coresAgree) := ⟨fun _ => trivial, fun _ => rfl⟩
theorem kstateLoad (req : Nat) : Statement (.kstateLoad req) := ⟨fun _ => trivial, fun _ => rfl⟩
theorem kstateDrop (req : Nat) : Statement (.kstateDrop req) := ⟨fun _ => trivial, fun _ => rfl⟩
theorem tallyBind (req : Nat) : Statement (.tallyBind req) := ⟨fun _ => trivial, fun _ => rfl⟩
theorem keyImport (req : Nat) (coresAgree : Bool) : Statement (.keyImport req coresAgree) := ⟨fun _ => trivial, fun _ => rfl⟩
theorem copy (req : Nat) : Statement (.copy req) := ⟨fun _ => trivial, fun _ => rfl⟩
theorem fill (req : Nat) : Statement (.fill req) := ⟨fun _ => trivial, fun _ => rfl⟩
theorem flush (req : Nat) : Statement (.flush req) := ⟨fun _ => trivial, fun _ => rfl⟩
theorem tally64Add (req : Nat) : Statement (.tally64Add req) := ⟨fun _ => trivial, fun _ => rfl⟩
theorem tally64Read (req : Nat) : Statement (.tally64Read req) := ⟨fun _ => trivial, fun _ => rfl⟩
theorem lineadd (req : Nat) : Statement (.lineadd req) := ⟨fun _ => trivial, fun _ => rfl⟩
theorem fence (req : Nat) : Statement (.fence req) := ⟨fun _ => trivial, fun _ => rfl⟩
theorem nop (req : Nat) : Statement (.nop req) := ⟨fun _ => trivial, fun _ => rfl⟩
theorem bar4Access (offset : BitVec 28) (acc : Bar4Acc) : Statement (.bar4Access offset acc) := by
  cases acc <;> simp [Statement, Rule, Instr.wf, Bar4Acc.wf]
theorem stlCmdEnable (fn : Fn) (stall : StallId) : Statement (.stlCmdEnable fn stall) := ⟨fun _ => trivial, fun _ => rfl⟩
theorem stlCmdQuiesce (fn : Fn) (stall : StallId) : Statement (.stlCmdQuiesce fn stall) := ⟨fun _ => trivial, fun _ => rfl⟩
theorem quiesceComplete (stall : StallId) : Statement (.quiesceComplete stall) := ⟨fun _ => trivial, fun _ => rfl⟩
theorem stlCmdResume (fn : Fn) (stall : StallId) : Statement (.stlCmdResume fn stall) := ⟨fun _ => trivial, fun _ => rfl⟩
theorem stlCmdReset (fn : Fn) (stall : StallId) : Statement (.stlCmdReset fn stall) := ⟨fun _ => trivial, fun _ => rfl⟩
theorem stlCmdRelease (fn : Fn) (stall : StallId) : Statement (.stlCmdRelease fn stall) := ⟨fun _ => trivial, fun _ => rfl⟩
theorem stlCmdInvalid (fn : Fn) (stall : StallId) (cmd : BitVec 4) : Statement (.stlCmdInvalid fn stall cmd) := ⟨fun _ => trivial, fun _ => rfl⟩
theorem stallResetEnd (stall : StallId) : Statement (.stallResetEnd stall) := ⟨fun _ => trivial, fun _ => rfl⟩
theorem stlRingAdd (fn : Fn) (stall : StallId) (value : BitVec 32) : Statement (.stlRingAdd fn stall value) := ⟨fun _ => trivial, fun _ => rfl⟩
theorem stlRingRemove (fn : Fn) (stall : StallId) (value : BitVec 32) : Statement (.stlRingRemove fn stall value) := ⟨fun _ => trivial, fun _ => rfl⟩
theorem stlPasidWrite (fn : Fn) (stall : StallId) (k : Fin 8) (value : BitVec 32) : Statement (.stlPasidWrite fn stall k value) := ⟨fun _ => trivial, fun _ => rfl⟩
theorem stlWorldWrite (fn : Fn) (stall : StallId) (value : BitVec 32) : Statement (.stlWorldWrite fn stall value) := ⟨fun _ => trivial, fun _ => rfl⟩
theorem stlMgrLinesWrite (fn : Fn) (stall : StallId) (value : BitVec 32) : Statement (.stlMgrLinesWrite fn stall value) := ⟨fun _ => trivial, fun _ => rfl⟩
theorem capacityEviction (stall : StallId) : Statement (.capacityEviction stall) := ⟨fun _ => trivial, fun _ => rfl⟩
theorem stlStatusRead (fn : Fn) (stall : StallId) : Statement (.stlStatusRead fn stall) := ⟨fun _ => trivial, fun _ => rfl⟩
theorem drbgRateWindow : Statement .drbgRateWindow := ⟨fun _ => trivial, fun _ => rfl⟩
theorem dspRingEnable (fn : Fn) (ring : RingId) (value : BitVec 32) : Statement (.dspRingEnable fn ring value) := ⟨fun _ => trivial, fun _ => rfl⟩
theorem dspRingDisable (fn : Fn) (ring : RingId) (value : BitVec 32) : Statement (.dspRingDisable fn ring value) := ⟨fun _ => trivial, fun _ => rfl⟩
theorem dspRingCfgWrite (fn : Fn) (ring : RingId) (reg : RingReg) (value : BitVec 64) : Statement (.dspRingCfgWrite fn ring reg value) := ⟨fun _ => trivial, fun _ => rfl⟩
theorem dspAlarmTbWrite (fn : Fn) (stall : StallId) (value : BitVec 64) : Statement (.dspAlarmTbWrite fn stall value) := ⟨fun _ => trivial, fun _ => rfl⟩
theorem pdkEpochCommit (fn : Fn) : Statement (.pdkEpochCommit fn) := ⟨fun _ => trivial, fun _ => rfl⟩
theorem heldCommitApply : Statement .heldCommitApply := ⟨fun _ => trivial, fun _ => rfl⟩
theorem stagedRefillEnd : Statement .stagedRefillEnd := ⟨fun _ => trivial, fun _ => rfl⟩
theorem pdkEpochDiscard (fn : Fn) : Statement (.pdkEpochDiscard fn) := ⟨fun _ => trivial, fun _ => rfl⟩
theorem pkEntryWrite (fn : Fn) (k : Fin 256) (word : PkWord) (value : BitVec 64) : Statement (.pkEntryWrite fn k word value) := ⟨fun _ => trivial, fun _ => rfl⟩
theorem pdkProtFenceWrite (fn : Fn) (value : BitVec 32) : Statement (.pdkProtFenceWrite fn value) := ⟨fun _ => trivial, fun _ => rfl⟩
theorem i2cId (x : I2cRead) : Statement (.i2cId x) := ⟨fun _ => trivial, fun _ => rfl⟩
theorem i2cState (x : I2cRead) : Statement (.i2cState x) := ⟨fun _ => trivial, fun _ => rfl⟩
theorem i2cHalter (x : I2cRead) : Statement (.i2cHalter x) := ⟨fun _ => trivial, fun _ => rfl⟩
theorem i2cTelemetry (x : I2cRead) : Statement (.i2cTelemetry x) := ⟨fun _ => trivial, fun _ => rfl⟩
theorem i2cStop (data : List Byte) : Statement (.i2cStop data) := ⟨fun _ => trivial, fun _ => rfl⟩
theorem i2cStopState (x : I2cRead) : Statement (.i2cStopState x) := ⟨fun _ => trivial, fun _ => rfl⟩
theorem i2cUnknownCommand (code : Byte) : Statement (.i2cUnknownCommand code) := ⟨fun _ => trivial, fun _ => rfl⟩
theorem telemetryRefresh (vddMv : BitVec 16) (powerMw : BitVec 16) : Statement (.telemetryRefresh vddMv powerMw) := ⟨fun _ => trivial, fun _ => rfl⟩
theorem gracefulStopStopped : Statement .gracefulStopStopped := ⟨fun _ => trivial, fun _ => rfl⟩
theorem brdStopCtlResume (fn : Fn) (value : BitVec 32) : Statement (.brdStopCtlResume fn value) := ⟨fun _ => trivial, fun _ => rfl⟩
theorem ltrSend : Statement .ltrSend := ⟨fun _ => trivial, fun _ => rfl⟩
theorem msixUnmask (fn : Fn) (vector : Option (BitVec 10)) : Statement (.msixUnmask fn vector) := by
  cases fn <;> cases vector <;> simp [Statement, Rule, Instr.wf]
theorem lowHalfWrite (fn : Fn) (offset : BitVec 20) (value : BitVec 32) : Statement (.lowHalfWrite fn offset value) := by
  simp [Statement, Rule, Instr.wf]
theorem highHalfWrite (fn : Fn) (offset : BitVec 20) (value : BitVec 32) : Statement (.highHalfWrite fn offset value) := by
  simp [Statement, Rule, Instr.wf]
theorem lowHalfRead (fn : Fn) (page : Bool) (offset : BitVec 20) (wide : Bool) : Statement (.lowHalfRead fn page offset wide) := by
  simp [Statement, Rule, Instr.wf]
theorem registerWrite (fn : Fn) (page : Bool) (offset : BitVec 20) (wide : Bool) (value : BitVec 64) : Statement (.registerWrite fn page offset wide value) := by
  simp [Statement, Rule, Instr.wf]
theorem tkrProgGo (fn : Fn) (w : GoWrite) : Statement (.tkrProgGo fn w) := ⟨fun _ => trivial, fun _ => rfl⟩
theorem slotProgramDone (readbackOk : Bool) : Statement (.slotProgramDone readbackOk) := ⟨fun _ => trivial, fun _ => rfl⟩
theorem tkrLcTakeOwnership (fn : Fn) (value : BitVec 32) : Statement (.tkrLcTakeOwnership fn value) := ⟨fun _ => trivial, fun _ => rfl⟩
theorem tkrLcRetire (fn : Fn) (value : BitVec 32) : Statement (.tkrLcRetire fn value) := ⟨fun _ => trivial, fun _ => rfl⟩
theorem lcTransitionEnd (readbackOk : Bool) : Statement (.lcTransitionEnd readbackOk) := ⟨fun _ => trivial, fun _ => rfl⟩
theorem tkrLcCmdInvalid (fn : Fn) (value : BitVec 32) : Statement (.tkrLcCmdInvalid fn value) := ⟨fun _ => trivial, fun _ => rfl⟩
theorem tkrDomainWrite (fn : Fn) (stall : StallId) (value : BitVec 64) : Statement (.tkrDomainWrite fn stall value) := ⟨fun _ => trivial, fun _ => rfl⟩
theorem tkrCtlWrite (fn : Fn) (value : BitVec 32) : Statement (.tkrCtlWrite fn value) := ⟨fun _ => trivial, fun _ => rfl⟩
theorem keyIdleExpiry (unit : UnitId) : Statement (.keyIdleExpiry unit) := ⟨fun _ => trivial, fun _ => rfl⟩
theorem storeWaitExpiry (req : Nat) : Statement (.storeWaitExpiry req) := ⟨fun _ => trivial, fun _ => rfl⟩
theorem dbgNonce (updateDr : Bool) : Statement (.dbgNonce updateDr) := ⟨fun _ => trivial, fun _ => rfl⟩
theorem dbgResponse (response : BitVec 768) : Statement (.dbgResponse response) := ⟨fun _ => trivial, fun _ => rfl⟩
theorem dbgState : Statement .dbgState := ⟨fun _ => trivial, fun _ => rfl⟩
theorem idcode : Statement .idcode := ⟨fun _ => trivial, fun _ => rfl⟩
theorem extest (pins : BitVec 58) (scan : BitVec 58) : Statement (.extest pins scan) := ⟨fun _ => trivial, fun _ => rfl⟩
theorem samplePreload (pins : BitVec 58) (scan : BitVec 58) : Statement (.samplePreload pins scan) := ⟨fun _ => trivial, fun _ => rfl⟩
theorem highz : Statement .highz := ⟨fun _ => trivial, fun _ => rfl⟩
theorem clamp : Statement .clamp := ⟨fun _ => trivial, fun _ => rfl⟩
theorem bypass (code : Byte) : Statement (.bypass code) := ⟨fun _ => trivial, fun _ => rfl⟩
theorem tapReset : Statement .tapReset := ⟨fun _ => trivial, fun _ => rfl⟩
theorem noiseHealthFail (src : NsId) (samples : List Bool) : Statement (.noiseHealthFail src samples) := ⟨fun _ => trivial, fun _ => rfl⟩
theorem freqMonitorWindow (src : NsId) (samples : Nat) (edges : Nat) : Statement (.freqMonitorWindow src samples edges) := ⟨fun _ => trivial, fun _ => rfl⟩
theorem startupTestEnd (src : NsId) (samples : List Bool) : Statement (.startupTestEnd src samples) := ⟨fun _ => trivial, fun _ => rfl⟩
theorem entSrcRetest (fn : Fn) (src : NsId) (value : BitVec 32) : Statement (.entSrcRetest fn src value) := ⟨fun _ => trivial, fun _ => rfl⟩
theorem entSrcPolicyWrite (fn : Fn) (src : NsId) (value : BitVec 32) : Statement (.entSrcPolicyWrite fn src value) := ⟨fun _ => trivial, fun _ => rfl⟩
theorem seedReady (src : NsId) (samples : List Bool) : Statement (.seedReady src samples) := ⟨fun _ => trivial, fun _ => rfl⟩
theorem drbgInstantiate : Statement .drbgInstantiate := ⟨fun _ => trivial, fun _ => rfl⟩
theorem drbgGenerate : Statement .drbgGenerate := ⟨fun _ => trivial, fun _ => rfl⟩
theorem drbgReseed : Statement .drbgReseed := ⟨fun _ => trivial, fun _ => rfl⟩
theorem entropyPeriodicKat (pass : Option Bool) : Statement (.entropyPeriodicKat pass) := ⟨fun _ => trivial, fun _ => rfl⟩
theorem entropyCoreMismatch : Statement .entropyCoreMismatch := ⟨fun _ => trivial, fun _ => rfl⟩
theorem entropyDraw (consumer : Consumer) : Statement (.entropyDraw consumer) := ⟨fun _ => trivial, fun _ => rfl⟩
theorem entropyWaitExpiry (consumer : Consumer) : Statement (.entropyWaitExpiry consumer) := ⟨fun _ => trivial, fun _ => rfl⟩
theorem rawCaptureEnd (src : NsId) (samples : List Byte) (rest : List Bool) : Statement (.rawCaptureEnd src samples rest) := ⟨fun _ => trivial, fun _ => rfl⟩
theorem entReseedCtlWrite (fn : Fn) (value : BitVec 32) : Statement (.entReseedCtlWrite fn value) := ⟨fun _ => trivial, fun _ => rfl⟩
theorem maskReseed (unit : UnitId) : Statement (.maskReseed unit) := ⟨fun _ => trivial, fun _ => rfl⟩
theorem sliceMiss (line : LineNo) (stall : Option StallId) (kind : AccKind) : Statement (.sliceMiss line stall kind) := ⟨fun _ => trivial, fun _ => rfl⟩
theorem lineFillComplete (line : LineNo) : Statement (.lineFillComplete line) := ⟨fun _ => trivial, fun _ => rfl⟩
theorem writebackComplete (line : LineNo) : Statement (.writebackComplete line) := ⟨fun _ => trivial, fun _ => rfl⟩
theorem sliceWrite (req : Nat) : Statement (.sliceWrite req) := ⟨fun _ => trivial, fun _ => rfl⟩
theorem cribAck (crib : UnitId) (line : LineNo) (present : Bool) : Statement (.cribAck crib line present) := ⟨fun _ => trivial, fun _ => rfl⟩
theorem cribEvict (crib : UnitId) (line : LineNo) : Statement (.cribEvict crib line) := ⟨fun _ => trivial, fun _ => rfl⟩
theorem cribInval (crib : UnitId) (line : LineNo) : Statement (.cribInval crib line) := ⟨fun _ => trivial, fun _ => rfl⟩
theorem cribFill (crib : UnitId) (line : LineNo) : Statement (.cribFill crib line) := ⟨fun _ => trivial, fun _ => rfl⟩
theorem mgrSliceCtlWrite (fn : Fn) (slice : SliceId) (value : BitVec 32) : Statement (.mgrSliceCtlWrite fn slice value) := ⟨fun _ => trivial, fun _ => rfl⟩
theorem repartCleanEnd : Statement .repartCleanEnd := ⟨fun _ => trivial, fun _ => rfl⟩
theorem repartSwapEnd : Statement .repartSwapEnd := ⟨fun _ => trivial, fun _ => rfl⟩
theorem sliceUncorrectable (slice : SliceId) (err : SliceErr) (stall : Option StallId) : Statement (.sliceUncorrectable slice err stall) := ⟨fun _ => trivial, fun _ => rfl⟩
theorem channelTrainingEnd (ch : ChanId) (ok : Bool) (density : BitVec 3) (ranks2 : Bool) : Statement (.channelTrainingEnd ch ok density ranks2) := ⟨fun _ => trivial, fun _ => rfl⟩
theorem channelFillEnd (ch : ChanId) : Statement (.channelFillEnd ch) := ⟨fun _ => trivial, fun _ => rfl⟩
theorem mr4Poll (ch : ChanId) (hot : Bool) : Statement (.mr4Poll ch hot) := ⟨fun _ => trivial, fun _ => rfl⟩
theorem trackingFail (ch : ChanId) : Statement (.trackingFail ch) := ⟨fun _ => trivial, fun _ => rfl⟩
theorem dramCorrectableRead (ch : ChanId) (page : BitVec 21) (lastSecond : Nat) : Statement (.dramCorrectableRead ch page lastSecond) := ⟨fun _ => trivial, fun _ => rfl⟩
theorem dramUncorrectableRead (ch : ChanId) (page : BitVec 21) (stall : Option StallId) : Statement (.dramUncorrectableRead ch page stall) := ⟨fun _ => trivial, fun _ => rfl⟩
theorem repairRewrite (ch : ChanId) : Statement (.repairRewrite ch) := ⟨fun _ => trivial, fun _ => rfl⟩
theorem scrubDramRead (ch : ChanId) (result : EccResult) : Statement (.scrubDramRead ch result) := ⟨fun _ => trivial, fun _ => rfl⟩
theorem scrubSramRead (word : SramWord) (result : EccResult) : Statement (.scrubSramRead word result) := ⟨fun _ => trivial, fun _ => rfl⟩
theorem scrubRewrite (sweep : Fin 5) : Statement (.scrubRewrite sweep) := ⟨fun _ => trivial, fun _ => rfl⟩
theorem scrubLapEnd (sweep : Fin 5) (ms : BitVec 32) : Statement (.scrubLapEnd sweep ms) := by
  simp [Statement, Rule, Instr.wf]
theorem scrubLapOverdue (sweep : Fin 5) : Statement (.scrubLapOverdue sweep) := ⟨fun _ => trivial, fun _ => rfl⟩
theorem sramUncorrectable (word : SramWord) : Statement (.sramUncorrectable word) := ⟨fun _ => trivial, fun _ => rfl⟩
theorem pwbStallTimeout : Statement .pwbStallTimeout := ⟨fun _ => trivial, fun _ => rfl⟩
theorem halterSourceAssert (src : HsId) (stall : Option StallId) : Statement (.halterSourceAssert src stall) := ⟨fun _ => trivial, fun _ => rfl⟩
theorem railDisagreement (src : HsId) : Statement (.railDisagreement src) := by
  simp [Statement, Rule, Instr.wf, HsId.dualRail]
theorem promoWindowExpiry (src : HsId) : Statement (.promoWindowExpiry src) := ⟨fun _ => trivial, fun _ => rfl⟩
theorem hltStatusClear (fn : Fn) (ix : Fin 3) (value : BitVec 32) : Statement (.hltStatusClear fn ix value) := ⟨fun _ => trivial, fun _ => rfl⟩
theorem hltSafeCtlForce (fn : Fn) (value : BitVec 32) : Statement (.hltSafeCtlForce fn value) := ⟨fun _ => trivial, fun _ => rfl⟩
theorem hltSafeCtlRelease (fn : Fn) (value : BitVec 32) : Statement (.hltSafeCtlRelease fn value) := ⟨fun _ => trivial, fun _ => rfl⟩
theorem hltAlertCtlClear (fn : Fn) (value : BitVec 32) : Statement (.hltAlertCtlClear fn value) := ⟨fun _ => trivial, fun _ => rfl⟩
theorem hltAlertCtlForce (fn : Fn) (value : BitVec 32) : Statement (.hltAlertCtlForce fn value) := ⟨fun _ => trivial, fun _ => rfl⟩
theorem hltSrcCfgWrite (fn : Fn) (src : HsId) (value : BitVec 64) : Statement (.hltSrcCfgWrite fn src value) := ⟨fun _ => trivial, fun _ => rfl⟩
theorem hltGuardCtlWrite (fn : Fn) (value : BitVec 32) : Statement (.hltGuardCtlWrite fn value) := ⟨fun _ => trivial, fun _ => rfl⟩
theorem hltGuardOutWrite (fn : Fn) (value : BitVec 32) : Statement (.hltGuardOutWrite fn value) := ⟨fun _ => trivial, fun _ => rfl⟩
theorem halterSelfCheck (injectOk : Bool) (copiesOk : Bool) (badParity : Option HltPart) : Statement (.halterSelfCheck injectOk copiesOk badParity) := ⟨fun _ => trivial, fun _ => rfl⟩
theorem padReadbackMismatch : Statement .padReadbackMismatch := ⟨fun _ => trivial, fun _ => rfl⟩
theorem tamperTransition (input : InputId) (level : Bool) : Statement (.tamperTransition input level) := ⟨fun _ => trivial, fun _ => rfl⟩
theorem chatterWindowExpiry (input : InputId) : Statement (.chatterWindowExpiry input) := ⟨fun _ => trivial, fun _ => rfl⟩
theorem tamperFilterExpiry (input : InputId) : Statement (.tamperFilterExpiry input) := ⟨fun _ => trivial, fun _ => rfl⟩
theorem chatterExit (input : InputId) : Statement (.chatterExit input) := ⟨fun _ => trivial, fun _ => rfl⟩
theorem stuckTimeout (input : InputId) : Statement (.stuckTimeout input) := ⟨fun _ => trivial, fun _ => rfl⟩
theorem tmpInEnWrite (fn : Fn) (input : InputId) (value : BitVec 64) : Statement (.tmpInEnWrite fn input value) := ⟨fun _ => trivial, fun _ => rfl⟩
theorem tmpInActiveWrite (fn : Fn) (input : InputId) (value : BitVec 64) : Statement (.tmpInActiveWrite fn input value) := ⟨fun _ => trivial, fun _ => rfl⟩
theorem tmpAck (fn : Fn) (value : BitVec 32) : Statement (.tmpAck fn value) := ⟨fun _ => trivial, fun _ => rfl⟩
theorem tmpVbatCtlArrival : Statement .tmpVbatCtlArrival := ⟨fun _ => trivial, fun _ => rfl⟩
theorem vbatSample (levels : BitVec 4) : Statement (.vbatSample levels) := ⟨fun _ => trivial, fun _ => rfl⟩
theorem monitorCondition (cond : MonCond) : Statement (.monitorCondition cond) := ⟨fun _ => trivial, fun _ => rfl⟩
theorem tempSample (temp : BitVec 16) : Statement (.tempSample temp) := ⟨fun _ => trivial, fun _ => rfl⟩
theorem pwrOffReq (fn : Fn) (pd : PdId) : Statement (.pwrOffReq fn pd) := ⟨fun _ => trivial, fun _ => rfl⟩
theorem pwrOnReq (fn : Fn) (pd : PdId) : Statement (.pwrOnReq fn pd) := ⟨fun _ => trivial, fun _ => rfl⟩
theorem domainPowerStable (pd : PdId) : Statement (.domainPowerStable pd) := ⟨fun _ => trivial, fun _ => rfl⟩
theorem domainDrainComplete (pd : PdId) : Statement (.domainDrainComplete pd) := ⟨fun _ => trivial, fun _ => rfl⟩
theorem secureHoldEnd (pd : PdId) : Statement (.secureHoldEnd pd) := ⟨fun _ => trivial, fun _ => rfl⟩
theorem powerDownComplete (pd : PdId) : Statement (.powerDownComplete pd) := ⟨fun _ => trivial, fun _ => rfl⟩
theorem demandWake (group : ChanId) : Statement (.demandWake group) := ⟨fun _ => trivial, fun _ => rfl⟩
theorem pwrPinWrite (fn : Fn) (value : BitVec 64) : Statement (.pwrPinWrite fn value) := ⟨fun _ => trivial, fun _ => rfl⟩
theorem domainTransitionTimeout (pd : PdId) : Statement (.domainTransitionTimeout pd) := ⟨fun _ => trivial, fun _ => rfl⟩
theorem blockReset (pd : PdId) : Statement (.blockReset pd) := by
  simp [Statement, Rule, Instr.wf]
theorem eventRaise (src : EvId) (parityBad : Option Fn) : Statement (.eventRaise src parityBad) := ⟨fun _ => trivial, fun _ => rfl⟩
theorem holdoffExpiry (fn : Fn) (src : EvId) : Statement (.holdoffExpiry fn src) := ⟨fun _ => trivial, fun _ => rfl⟩
theorem eventSelection (fn : Fn) (parityBad : Option EvId) : Statement (.eventSelection fn parityBad) := ⟨fun _ => trivial, fun _ => rfl⟩
theorem evtRouteWrite (fn : Fn) (src : EvId) (nmAlias : Bool) (value : BitVec 64) : Statement (.evtRouteWrite fn src nmAlias value) := by
  cases nmAlias <;> simp [Statement, Rule, Instr.wf]
theorem evtNmMirrorWrite (fn : Fn) (ix : Fin 2) (value : BitVec 64) : Statement (.evtNmMirrorWrite fn ix value) := ⟨fun _ => trivial, fun _ => rfl⟩
theorem mrValueWrite (fn : Fn) (mr : MrId) (j : Fin 6) (value : BitVec 64) : Statement (.mrValueWrite fn mr j value) := ⟨fun _ => trivial, fun _ => rfl⟩
theorem mrExtendApply : Statement .mrExtendApply := ⟨fun _ => trivial, fun _ => rfl⟩
theorem bankEngineMismatch : Statement .bankEngineMismatch := ⟨fun _ => trivial, fun _ => rfl⟩
theorem dlFeedStart (fn : Fn) (value : BitVec 64) : Statement (.dlFeedStart fn value) := ⟨fun _ => trivial, fun _ => rfl⟩
theorem feedSessionClaim : Statement .feedSessionClaim := ⟨fun _ => trivial, fun _ => rfl⟩
theorem dlFeedData (fn : Fn) (value : BitVec 64) : Statement (.dlFeedData fn value) := ⟨fun _ => trivial, fun _ => rfl⟩
theorem dlFeedLast (fn : Fn) (value : BitVec 64) : Statement (.dlFeedLast fn value) := ⟨fun _ => trivial, fun _ => rfl⟩
theorem feedFinish : Statement .feedFinish := ⟨fun _ => trivial, fun _ => rfl⟩
theorem dlFeedAbort (fn : Fn) (value : BitVec 64) : Statement (.dlFeedAbort fn value) := ⟨fun _ => trivial, fun _ => rfl⟩
theorem feedIdleTimeout : Statement .feedIdleTimeout := ⟨fun _ => trivial, fun _ => rfl⟩
theorem feedSessionTimeout : Statement .feedSessionTimeout := ⟨fun _ => trivial, fun _ => rfl⟩
theorem powerLoss : Statement .powerLoss := ⟨fun _ => trivial, fun _ => rfl⟩
theorem vbatRemoved (latch : BitVec 8) (canary : BitVec 32) : Statement (.vbatRemoved latch canary) := ⟨fun _ => trivial, fun _ => rfl⟩
theorem linkUp (rate : BitVec 4) (width : BitVec 4) : Statement (.linkUp rate width) := ⟨fun _ => trivial, fun _ => rfl⟩
theorem linkProtocolError (err : LinkErr) : Statement (.linkProtocolError err) := ⟨fun _ => trivial, fun _ => rfl⟩
theorem postedWriteSend (fn : Fn) : Statement (.postedWriteSend fn) := ⟨fun _ => trivial, fun _ => rfl⟩
theorem failureAgesOut (src : NsId) : Statement (.failureAgesOut src) := ⟨fun _ => trivial, fun _ => rfl⟩
theorem halterSourceDeassert (src : HsId) : Statement (.halterSourceDeassert src) := ⟨fun _ => trivial, fun _ => rfl⟩

end Sys2Proof.Laws.Shape
end

