-- ==== Sys2Proof/Laws/Reset.lean ====
section
/-! SUPPORT. What a reset keeps: OTP, but for what was being programmed, the queue, and what the Halter and the Tamper
Monitor keep (R91). -/

namespace Sys2Proof.Machine

open Sys2Proof.Safety

/-- An abandoned slot programming touches the Tack Room's slots and the free values only. -/
theorem abandonSlot_eq (s : State) :
    abandonSlot s = { s with free := (abandonSlot s).free, tkr := { s.tkr with slots := (abandonSlot s).tkr.slots } } := by
  unfold abandonSlot
  split
  · cases bit (Config.freeBits s.free) 0 <;> rfl
  · rfl

/-- A slot that was not being programmed stands. -/
theorem abandonSlot_slots (s : State) (k : SlotId) (h : s.tkr.progBusy ≠ some k) :
    (abandonSlot s).tkr.slots[k] = s.tkr.slots[k] := by
  unfold abandonSlot
  split
  · rename_i j _ hj _
    have hk : j ≠ k := fun e => h (by rw [hj, e])
    dsimp only
    split
    · exact upd_other _ _ hk
    · rfl
  · rfl

/-- An abandoned life-cycle transition touches the life-cycle word, the owner copies and the free values only. -/
theorem abandonLc_eq (s : State) :
    abandonLc s =
      { s with free := (abandonLc s).free,
               tkr := { s.tkr with lcWord := (abandonLc s).tkr.lcWord, ownerA := (abandonLc s).tkr.ownerA,
                                   ownerB := (abandonLc s).tkr.ownerB } } := by
  rcases h : s.tkr.lcBusy with _ | m
  · have e : abandonLc s = s := by simp [abandonLc, h]
    rw [e]
  · rcases m with b | _ | _
    · cases b <;> simp [abandonLc, h, abandonOwn]
    · simp [abandonLc, h]
    · simp [abandonLc, h]

/-- With no transition in progress nothing is abandoned. -/
theorem abandonLc_idle (s : State) (h : s.tkr.lcBusy = none) : abandonLc s = s := by simp [abandonLc, h]

/-- An abandoned root touches the slots, the life-cycle word and the free values only. -/
theorem abandonRoot_eq (s : State) :
    abandonRoot s =
      { s with free := (abandonRoot s).free,
               tkr := { s.tkr with slots := (abandonRoot s).tkr.slots, lcWord := (abandonRoot s).tkr.lcWord } } := by
  unfold abandonRoot
  split <;> rfl

/-- With no root being programmed nothing is abandoned. -/
theorem abandonRoot_idle (s : State) (h : rootBusy s = false) : abandonRoot s = s := by simp [abandonRoot, h]

/-- Of the slots an abandoned root touches TS0 alone. -/
theorem abandonRoot_slots (s : State) (k : SlotId) (h : k ≠ 0) : (abandonRoot s).tkr.slots[k] = s.tkr.slots[k] := by
  unfold abandonRoot
  split
  · dsimp only
    split
    · have hk : (0 : SlotId).val ≠ k.val := fun e => h (Fin.ext e.symm)
      exact Vector.getElem_set_ne _ _ hk
    · rfl
  · rfl

/-- What came before leaves the root's draw and the phase as they are. -/
theorem rootBusy_before (s : State) : rootBusy (abandonLc (abandonSlot s)) = rootBusy s := by
  rw [abandonLc_eq, abandonSlot_eq]; rfl

/-- OTP stands through what a reset abandons. -/
theorem otpStands_of (s t : State) (h : t.tkr = keepOtp (abandonOtp s).tkr) : OtpStands s t := by
  refine ⟨fun k hk hr => ?_, fun hl => ?_⟩
  · have before : (abandonLc (abandonSlot s)).tkr.slots[k] = s.tkr.slots[k] := by
      rw [abandonLc_eq]; exact abandonSlot_slots s k hk
    rw [h]
    by_cases h0 : k = 0
    · have e : abandonOtp s = abandonLc (abandonSlot s) := abandonRoot_idle _ (by rw [rootBusy_before]; exact hr h0)
      rw [e]; exact before
    · exact (abandonRoot_slots _ k h0).trans before
  · have hl' : (abandonSlot s).tkr.lcBusy = none := by rw [abandonSlot_eq]; exact hl
    have e : abandonLc (abandonSlot s) = abandonSlot s := abandonLc_idle _ hl'
    rw [h]
    refine ⟨fun hr => ?_, ?_, ?_⟩
    · have e2 : abandonOtp s = abandonSlot s := by
        unfold abandonOtp
        rw [abandonRoot_idle _ (by rw [rootBusy_before]; exact hr), e]
      rw [e2, abandonSlot_eq]; rfl
    all_goals
      unfold abandonOtp
      rw [abandonRoot_eq, e, abandonSlot_eq]; rfl

end Sys2Proof.Machine
end

