-- ==== Sys2Proof/Tests/Slice0.lean ====
section
/-! SUPPORT. Tests on small states: ill-formed operands, words written from the specification's tables, and for each
statement with hypotheses a state that meets them. -/

namespace Sys2Proof.Tests

open Sys2Proof.Machine Sys2Proof.Safety

set_option maxRecDepth 20000
set_option Elab.async false

/-! ### Operands: one ill-formed term for each check -/

theorem test_wf_bar4_empty_read : (Instr.bar4Access 0 (.read 0)).wf = false := by decide
theorem test_wf_bar4_past_window : (Instr.bar4Access 0xFFFFFFF (.read 2)).wf = false ∧
    (Instr.bar4Access 0xFFFFFFF (.read 1)).wf = true := by decide
theorem test_wf_bar4_empty_write : (Instr.bar4Access 0 (.write [] false)).wf = false := by decide
theorem test_wf_bar4_write_past_window : (Instr.bar4Access 0xFFFFFFF (.write [some 0, some 0] false)).wf = false := by decide
theorem test_wf_payload : (Instr.configRequest .pf0 (.setMaxPayload 3)).wf = false ∧
    (Instr.configRequest .pf0 (.setMaxPayload 2)).wf = true := by decide
theorem test_wf_max_read : (Instr.configRequest .pf0 (.setMaxRead 6)).wf = false ∧
    (Instr.configRequest .pf0 (.setMaxRead 5)).wf = true := by decide
theorem test_wf_low_half : (Instr.lowHalfWrite .pf0 4 0).wf = false := by decide
theorem test_wf_high_half : (Instr.highHalfWrite .pf0 0 0).wf = false := by decide
theorem test_wf_read : (Instr.lowHalfRead .pf0 false 2 false).wf = false ∧ (Instr.lowHalfRead .pf0 false 4 true).wf = false := by
  decide
theorem test_wf_write : (Instr.registerWrite .pf0 false 2 false 0).wf = false ∧
    (Instr.registerWrite .pf0 false 4 true 0).wf = false := by decide
theorem test_wf_rail : (Instr.railDisagreement 47).wf = false ∧ (Instr.railDisagreement 48).wf = true ∧
    (Instr.railDisagreement 56).wf = false ∧ (Instr.railDisagreement 72).wf = true := by decide
theorem test_wf_block_reset : (Instr.blockReset 63).wf = false := by decide
theorem test_wf_route_alias : (Instr.evtRouteWrite .pf1 192 true 0).wf = false ∧ (Instr.evtRouteWrite .pf1 191 true 0).wf = true := by
  decide
theorem test_wf_unmask : (Instr.msixUnmask .pf1 (some 256)).wf = false ∧ (Instr.msixUnmask .pf1 (some 255)).wf = true := by decide
theorem test_wf_completion : (Instr.hostReadCompletion 0 (.data [])).wf = false := by decide
theorem test_wf_lap : (Instr.scrubLapEnd 0 0).wf = false := by decide

/-- No row of the table has bits, so no word spells a command. -/
theorem test_no_words : decodeTableWord 32 0 = none ∧ (State.reset.withFetchWord 32 0).pending = [] := by decide

/-! ### Small states -/

/-- A chip in a boot phase, out of PERST_N, with configuration space open. -/
def at_ (p : Phase) : State := { State.reset with boot := { Boot.reset with phase := p, perst := false, cfgOpen := true } }

/-- A descriptor: opcode, MODE, SRC_SEL, DST_SEL, KEY_SRC, KEY_REF, SRC, DST, SRC_LEN, DST_LEN, AUX_LEN, INTER_LINES, IMM. -/
def desc (op mode srcSel dstSel keySrc keyRef src dst srcLen dstLen auxLen lines imm : Nat) : Desc :=
  { w := #v[BitVec.ofNat 64 (op + mode * 2 ^ 8 + srcSel * 2 ^ 20 + dstSel * 2 ^ 22 + keySrc * 2 ^ 24), BitVec.ofNat 64 keyRef,
            BitVec.ofNat 64 src, BitVec.ofNat 64 dst, BitVec.ofNat 64 (srcLen + dstLen * 2 ^ 32), 0,
            BitVec.ofNat 64 (auxLen + lines * 2 ^ 16), BitVec.ofNat 64 imm] }

/-- Request 0 of stall 0 on ring 0, admitted and started, with its source, AUX block and key. -/
def req (d : Desc) (src aux : List Byte) (key : Option Key) : Req :=
  { id := 0, chain := 0, pos := 0, members := 1, fn := .pf0, ring := 0, stall := 0, slot := 0, desc := d, epoch := 0, pasid := 0,
    alarm := false, reserve := false, admitAt := 0, deadline := 0, started := true, unit := none, coop := [], walks := [],
    srcSpans := none, dstSpans := none, aux := some aux, src := some src, blob := none, key := key, keyTag := [], handle := none,
    tally := 0, granted := false, done := none, skipped := false, stores := [], released := false, effect := false, readFail := false,
    wrote := [] }

/-- A key of a value and an attribute word. -/
def key (v : List Byte) (attr : BitVec 64) : Key := { value := v, attr := attr, tallyAddr := 0, tallyLimit := 0 }

/-- READY with one request, to which enough draws were granted. -/
def work (q : Req) : State :=
  { at_ .ready with reqs := [q], nextId := 1,
                    ent := { Ent.reset with granted := [(.request 0, List.replicate 8 0)] } }

/-- READY with one stall, enabled, that owns ring 0. -/
def ringed (st : StallState) (g : Ring → Ring) : State :=
  setRing (setStall (at_ .ready) 0 fun x => { x with state := st, pasidValid := x.pasidValid.set 0 true }) 0
    fun x => g { x with owner := some 0 }
/-- The rings of `ringed`. -/
theorem ringed_ring (st : StallState) (g : Ring → Ring) (r : RingId) :
    (ringed st g).rings[r] = if r = 0 then g { Ring.reset with owner := some 0 } else Ring.reset := by
  have h : (ringed st g).rings = upd (Vector.replicate 256 Ring.reset) 0 fun x => g { x with owner := some 0 } := rfl
  rw [h]
  by_cases e : r = 0
  · subst e; simp [upd]
  · have : (0 : RingId).val ≠ r.val := fun c => e (Fin.ext c.symm)
    simp only [upd, Fin.getElem_fin, if_neg e]
    rw [Vector.getElem_set_ne _ _ this]
    simp
/-- The one ring of `ringed` is its stall's. -/
theorem ringed_stallRings (st : StallState) (g : Ring → Ring) (h : (g { Ring.reset with owner := some 0 }).owner = some 0) :
    stallRings (ringed st g) 0 = [0] ∧ ∀ n : StallId, n ≠ 0 → stallRings (ringed st g) n = [] := by
  refine ⟨?_, fun n hn => ?_⟩
  · have : (fun r => decide ((ringed st g).rings[r].owner = some (0 : StallId))) = fun r : RingId => decide (r = 0) := by
      funext r
      rw [ringed_ring]
      by_cases e : r = 0
      · rw [if_pos e, h]; simp [e]
      · rw [if_neg e]; simp [e, Ring.reset]
    unfold stallRings
    rw [this]
    decide
  · unfold stallRings
    rw [List.filter_eq_nil_iff]
    intro r _
    rw [ringed_ring]
    by_cases e : r = 0
    · rw [if_pos e, h]; simp [hn.symm]
    · rw [if_neg e]; simp [Ring.reset]
/-- `ringed` with ring 0 enabled. -/
def ringedOn : State := ringed .active fun x => { x with enable := true }

/-- Route entries after reset have no parity error. -/
theorem routesGood_of_reset {s : State} (h : s.evt = Evt.reset) : RoutesGood s := by
  intro f k
  unfold evSrc
  rw [h]
  cases f <;> simp [Evt.reset, EvtFn.reset, EvSrc.reset, fnIx]

theorem test_at_served : ∀ f, WritesServed (at_ .ready) f ∧ WritesServed (at_ .held) f := by
  unfold WritesServed; intro f; cases f <;> decide
theorem test_at_routes (p : Phase) : RoutesGood (at_ p) := routesGood_of_reset rfl

/-! ### The block as a whole -/

/-- Witness: a step with a command in front (StepRunsFrontCommand, StepConsumesOneCommand, StepKeepsMemoryCanonical). -/
theorem witness_step : let s := { at_ .ready with pending := [Instr.telemetryRefresh 5 7, .idcode] }
    MemoryCanonical s ∧ (∃ t, step s = .next t ∧ t.pending = [.idcode] ∧ t.link.telVdd = 5) :=
  ⟨rfl, _, rfl, rfl, rfl⟩
/-- An empty queue idles. -/
theorem test_idle : step State.reset = .next State.reset := rfl

/-! ### Resets and start-up -/

/-- Witness: PowerOnResetRestoresPowerOnColumn, the strap clause, and ChipResetAppliesChipColumn, every clause. -/
theorem witness_reset : (at_ .ready).boot.perst = false ∧ (at_ .ready).boot.powered = true ∧
    (fnState (at_ .ready) .pf1).d3hot = false ∧ (fnState (at_ .ready) .pf1).flr = false ∧
    (fnState (at_ .ready) .pf0).d3hot = false ∧ (fnState (at_ .ready) .pf0).flr = false ∧
    (at_ .ready).boot.phase ≠ .bootFailed ∧ (0xC41F0000 : BitVec 32) ≠ 0xC41F0001 := by decide
/-- Witness: the third early Halter reset (R96), third attempt. -/
theorem witness_early_reset : let s := { at_ .otp with boot := { (at_ .otp).boot with attempts := 2 } }
    s.boot.powered = true ∧ s.boot.phase ≠ .ready ∧ (s.boot.attempts + 1).toNat = 3 := by decide
/-- Witness: ChipResetAppliesChipColumn, a device without power. -/
theorem witness_unpowered : let s := { at_ .ready with boot := { Boot.reset with powered := false, perst := false } }
    s.boot.powered = false ∧ s.boot.perst = false := by decide

/-- Witness: StartupPhasesEndAsStated, RESET to PRELOAD_TEST. -/
theorem witness_startup : Quiet (at_ .reset) ∧ (at_ .reset).boot.powered = true ∧ (at_ .reset).boot.perst = false ∧
    (at_ .reset).boot.testMode = false ∧ (at_ .reset).tmp.tripHold = false ∧ (at_ .clock).boot.pllUnlocked = false ∧
    copyBad (at_ .otp).tkr.ownerA = false ∧ copyBad (at_ .otp).tkr.ownerB = false ∧ lcPartial (at_ .otp) = false := by
  unfold Quiet; decide
theorem witness_otp_slots : ∀ k : SlotId, (evalSlot (at_ .otp).tkr.slots[k]).state ≠ .bad := by
  intro k
  have : (at_ .otp).tkr.slots[k] = Slot.reset := by simp [at_, State.reset, Tkr.reset]
  rw [this]
  decide

/-- An unsigned image with no record but its end, by the layout of R58 and R60: a header of 64 bytes, an end record. -/
def smallImage : List Byte :=
  [87, 72, 65, 49, 1, 0, 64, 0, 1, 0, 0, 0, 72, 0, 0, 0, 64, 0, 0, 0, 8, 0, 0, 0, 0, 0, 0, 0, 0, 0, 0, 0, 0, 0, 0, 0, 0, 0, 0, 0,
   0, 0, 0, 0, 0, 0, 0, 0, 0, 0, 0, 0, 0, 0, 0, 0, 0, 0, 0, 0, 144, 220, 136, 180, 255, 255, 0, 0, 45, 136, 97, 241]

/-- Witness: StartupPhasesEndAsStated, LOAD with a valid copy, and with none. -/
theorem witness_load : (chooseImage (at_ .load) 0xFF smallImage []).image ≠ none ∧
    (chooseImage (at_ .load) 0xFF smallImage []).fallback = false ∧ (chooseImage (at_ .load) 0xFF smallImage []).src = 1 ∧
    (chooseImage (at_ .load) 0xFF [] []).image = none := by decide
/-- Witness: StartupPhasesEndAsStated, LOAD where copy A's record fails and copy B is valid. -/
theorem witness_fallback : (chooseImage (at_ .load) 0xFF (smallImage.set 71 0) smallImage).image ≠ none ∧
    (chooseImage (at_ .load) 0xFF (smallImage.set 71 0) smallImage).fallback = true := by decide
theorem witness_apply : (at_ .apply).boot.image = none ∧ (at_ .apply).mrb.fenced = false := by decide
/-- R103: a header with a wrong CRC is code 0x03, a wrong magic 0x02, a short copy 0x01. -/
theorem test_header_codes : headerErr 0x1000000 0 (smallImage.set 8 2) = 0x03 ∧ headerErr 0x1000000 0 (smallImage.set 0 0) = 0x02 ∧
    headerErr 0x1000000 0 [] = 0x01 ∧ headerErr 0x1000000 0 smallImage = 0 := by decide

/-- Witness: MemorySelfTestAndRootGenEnd; the last ready channel is 3. -/
theorem witness_memory : let s := { at_ .memory with mcs := Vector.replicate 4 { Mc.reset with state := .run } }
    s.mcs.toList.any channelBusy = false ∧ (vfind s.mcs fun m => decide (m.state = .run)).getLast? = some 3 := by decide
theorem witness_selftest : let s := { at_ .selfTest with ent := { Ent.reset with state := .run } }
    s.boot.selfTested = false ∧ (∀ n : NsId, s.ns[n].state ≠ .startup) ∧ s.ent.state ≠ .init ∧ rootDue s = true := by decide
theorem witness_root : let s := { at_ .rootGen with ent := { Ent.reset with granted := [(.root, [5])] } }
    RoutesGood s ∧ grantedTo s .root = 5 :: [] := ⟨routesGood_of_reset rfl, by decide⟩

/-- Witness: BootEndsInHeldOrReady. -/
theorem witness_boot_end : let s (h : Bool) : State :=
      { at_ .selfTest with boot := { (at_ .selfTest).boot with selfTested := true, readyHold := h } }
    (bootDone (s true) = true ∧ (s true).boot.readyHold = true) ∧ (bootDone (s false) = true ∧ (s false).boot.readyHold = false) := by
  decide
/-- Witness: BootEndsInHeldOrReady: nothing waits for READY. -/
theorem witness_nothing_waits : NothingWaits (at_ .held) := by
  refine ⟨fun r => ?_, fun d => ?_, by decide⟩
  · simp [at_, State.reset, Ring.reset]
  · simp [at_, State.reset, Pd.reset]

/-! ### Configuration space, the link, sideband -/

/-- Witness: ConfigurationRequestsAct, both clauses. -/
theorem witness_config : (∀ f, cfgRetry State.reset f = true) ∧ (∀ f, cfgRetry (at_ .held) f = false) ∧
    (at_ .held).boot.cfgOpen = true ∧ ∀ f, (fnState (at_ .held) f).flr = false := by
  refine ⟨?_, ?_, ?_, ?_⟩
  · intro f; cases f <;> decide
  · intro f; cases f <;> decide
  · decide
  · intro f; cases f <;> decide

/-- A write of a function in the buffer. -/
def pw (f : Fn) (a : Nat) : Pw :=
  { fn := f, kind := .data, addr := a, bytes := [1], pasid := none, relaxed := true, alarm := false, req := none, stall := none }

/-- A host read of a request's AUX block. -/
def rd (w : ReadFor) : Rd := { id := 0, fn := .pf0, ring := 0, stall := 0, what := w, spans := [], pasid := none, alarm := false, timeoutUs := 50000 }

/-- Witness: LinkEventsAct, PostedWritesLeaveInOrder. -/
theorem witness_link : let s := { at_ .ready with link := { Link.reset with up := true, pwb := [pw .pf1 0, pw .pf0 8] } }
    (at_ .ready).link.up = false ∧ (at_ .ready).boot.phase ≠ .reset ∧ s.link.up = true ∧ linkCor .malformedTlp = none ∧ linkCor .badTlp = some 1 ∧ linkMode 1 1 = true ∧ linkMode 5 8 = true ∧ linkMode 6 8 = false ∧
    takeOldest .pf0 s.link.pwb = some (pw .pf0 8, [pw .pf1 0]) ∧ s.link.pwb ≠ [] ∧ ringsWork (ringed .active fun x => { x with enable := true, tail := 1 }) = true ∧
    ringsWork (at_ .ready) = false ∧ (at_ .ready).link.reads = [] ∧ (at_ .ready).link.pwb = [] ∧
    s.link.pwb = [pw .pf1 0] ++ pw .pf0 8 :: [] ∧ (∀ x ∈ [pw .pf1 0], x.fn ≠ .pf0) := by decide
theorem witness_stop : let s (k : BitVec 2) : State := { at_ .ready with link := { Link.reset with stopState := k } }
    (WritesServed (s 2) .pf1 ∧ (s 2).link.stopState = 2) ∧ ((s 1).link.stopState = 1 ∧ (s 1).reqs = []) := by
  unfold WritesServed; decide

/-- Witness: FunctionResetStaysInItsWorld: stall 1 of the Secure world beside stall 0, each with a ring. -/
theorem witness_flr : let s := setRing (setStall (ringed .active id) 1 fun x => { x with secure := true }) 1 fun x => { x with owner := some 1 }
    s.boot.cfgOpen = true ∧ (fnState s .pf0).flr = false ∧ worldFn s 0 = .pf0 ∧ worldFn s 1 = .pf1 ∧ s.rings[(1 : RingId)].owner = some 1 ∧
    (fnState (setFn s .pf0 fun x => { x with flr := true }) .pf0).flr = true := by decide

/-- Witness: SidebandPortsAnswer; 0x53 0x54 is the one accepted stop, 0x7F no command code. -/
theorem witness_sideband : (at_ .ready).boot.powered = true ∧ (at_ .ready).boot.phase ≠ .reset ∧
    ({ at_ .ready with tkr := { Tkr.reset with sensed := true } } : State).tkr.sensed = true ∧ ([0x53] : List Byte) ≠ [0x53, 0x54] ∧
    (0x7F : Byte) ∉ i2cCodes ∧ tapActs (at_ .ready) = true ∧ (0x55 : Byte) ∉ tapCodes ∧ (at_ .ready).boot.testMode = false ∧
    tapActs { at_ .reset with boot := { (at_ .reset).boot with testMode := true } } = true := by decide

/-! ### Rings -/

/-- Witness: DoorbellsAct: tail 15 of 16 is taken, 16 is not; a disabled ring; a ring of the other world. -/
theorem witness_doorbell : let s := ringed .active fun x => { x with enable := true }
    PageLive s .pf0 0 0 ∧ s.rings[(0 : RingId)].enable = true ∧ s.stalls[(0 : StallId)].state ≠ .resetting ∧
    (15 < ringSize s.rings[(0 : RingId)] ∧ ringDist s.rings[(0 : RingId)] 0 0 ≤ ringDist s.rings[(0 : RingId)] 0 15) ∧
    keepsTail s 0 = false ∧ ringSize s.rings[(0 : RingId)] ≤ 16 ∧ (ringed .active id).rings[(0 : RingId)].enable = false ∧
    (∀ m : StallId, s.rings[(1 : RingId)].owner ≠ some m) ∧ keepsTail (ringed .quiescing fun x => { x with enable := true }) 0 = true := by
  unfold PageLive; decide
theorem witness_doorbell_behind : let x := (ringed .active fun x => { x with enable := true, fetch := 5 }).rings[(0 : RingId)]
    4 < ringSize x ∧ ringDist x x.head 4 < ringDist x x.head x.fetch := by decide

/-- Witness: RingRegistersAct: a drained disabled ring, a stall under reset, an enabled ring whose BASE would change. -/
theorem witness_ring : let s := ringed .active id
    let e := ringed .active fun x => { x with enable := true }
    WritesServed s .pf0 ∧ s.rings[(0 : RingId)].owner = some 0 ∧ s.stalls[(0 : StallId)].secure = false ∧
    s.rings[(0 : RingId)].enable = false ∧ drained s 0 = true ∧ s.stalls[(0 : StallId)].state ≠ .resetting ∧
    s.stalls[(0 : StallId)].pasidValid[(ctlSet s.rings[(0 : RingId)] 1).pasidIdx] = true ∧
    (ringed .resetting id).stalls[(0 : StallId)].state = .resetting ∧ e.rings[(0 : RingId)].enable = true ∧
    (field (0x1000 : BitVec 64) 12 52 : BitVec 52) ≠ e.rings[(0 : RingId)].base := by
  unfold WritesServed; decide

/-- Witness: HostReadsAct, a fetch to issue. -/
theorem witness_fetch : let s := ringed .active fun x => { x with enable := true, tail := 3 }
    s.rings[(0 : RingId)].owner = some 0 ∧ fetchMay s 0 0 = true ∧ fetchCount s 0 0 = 3 ∧
    readRoom s { rd (.fetch 0 0 3) with spans := cutAll s .pf0 [(0, 192)] } = true := by decide
/-- Witness: HostReadsAct, data for a fetch, an AUX block of a request, a read that timed out. -/
theorem witness_completion : let q := req (desc 0x20 0 0 0 0 0 0 0 8 64 16 0 0) [] [] none
    let s (w : ReadFor) : State := { work q with link := { Link.reset with reads := [rd w], timedOut := [rd w] } }
    findRead (s (.fetch 0 0 1)) 0 = some (rd (.fetch 0 0 1)) ∧ findRead (s (.aux 0)) 0 = some (rd (.aux 0)) ∧
    0 < (s (.aux 0)).nextId ∧ (fnState (s (.aux 0)) .pf0).flr = false ∧ findReq (s (.aux 0)) 0 = some q ∧ q.done = none ∧
    isFrag q.desc.opcode = false ∧ (fnState (s (.aux 0)) .pf0).errLog.valid = false ∧ (s (.aux 0)).link.timedOut.find? (fun x => decide (x.id = 0)) = some (rd (.aux 0)) := by decide

/-! ### Admission and placement -/

/-- Every domain on. -/
def powered (s : State) : State := { s with pds := Vector.replicate 64 { Pd.reset with state := .on } }

/-- A fetched descriptor in a slot. -/
def bufd (k : Nat) (d : Desc) : BufD := { slot := BitVec.ofNat 16 k, desc := d, budget := none }

/-- HASH with SHA-256 of 64 bytes of the host. -/
def hashDesc : Desc := desc 0x20 1 0 0 0 0 0x1000 0x2000 64 32 0 0 0
/-- NOP. -/
def nopDesc : Desc := desc 0xF1 0 0 0 0 0 0 0 0 0 0 0 0
/-- RNG_GET of 64 bytes. -/
def rngDesc : Desc := desc 0x60 0 0 0 0 0 0 0x2000 0 64 0 0 64

/-- Ring 0 enabled with fetched descriptors, every domain on. -/
def loaded (ds : List Desc) : State :=
  powered (ringed .active fun x => { x with enable := true, sizeLog2 := 5, tail := BitVec.ofNat 16 ds.length, fetch := BitVec.ofNat 16 ds.length,
                                            buf := ds.mapIdx bufd })

/-- A state with its candidates noted. -/
def noted (s : State) : State := coopGrab (noteEligible s)

/-- Witness: AdmissionTakesTheCandidate: HASH on the lowest free lane, RNG_GET on a pool without units, NOP. -/
theorem witness_admit_unit : let u := noted (loaded [hashDesc])
    eligible u 0 = some (0, [bufd 0 hashDesc]) ∧ takeSlots u 0 (inBudget u.rings[(0 : RingId)] [bufd 0 hashDesc]) 1 = some false ∧
    (ruling u 0 [bufd 0 hashDesc]).1 = .ok ∧ opPool hashDesc.opcode = some .digest ∧ (firstOf u .digest).map (·.ring) = some 0 ∧
    intervalOk u .digest = true ∧ memberWaits u .digest = false ∧ unitPoolKind .digest = true ∧ unitsNeeded u hashDesc ≤ 1 ∧
    chooseUnit u 0 false .digest hashDesc = some 32 := by decide +kernel
theorem witness_admit_pool : let u := noted (loaded [rngDesc])
    eligible u 0 = some (0, [bufd 0 rngDesc]) ∧ (ruling u 0 [bufd 0 rngDesc]).1 = .ok ∧ opPool rngDesc.opcode = some .random ∧
    (firstOf u .random).map (·.ring) = some 0 ∧ unitPoolKind .random = false := by decide +kernel
theorem witness_admit_nop : let u := noted (loaded [nopDesc])
    eligible u 0 = some (0, [bufd 0 nopDesc]) ∧ (ruling u 0 [bufd 0 nopDesc]).1 = .ok ∧ nopDesc.opcode = 0xF1 ∧
    linesNeeded [bufd 0 nopDesc] = 0 ∧ u.hlt.inbox = [] := by decide +kernel
/-- R301, R302: every digest lane OFF and a HASH waiting: STARVED_DL and EV296, until a lane is ON again. -/
theorem test_starved : let s := loaded [hashDesc]
    let u := noteEligible { s with pds := vmapIdx (fun d x => if 32 ≤ d.val ∧ d.val < 48 then { x with state := .off } else x) s.pds }
    u.disp.starvedDl = true ∧ u.disp.starvedCl = false ∧ (evSrc u .pf1 296).cause = true ∧ (evSrc u .pf1 296).raises = 1 ∧
    (evSrc (noteEligible u) .pf1 296).raises = 1 ∧ (noteEligible (setPd u 40 fun x => { x with state := .on })).disp.starvedDl = false := by
  decide +kernel
/-- Witness: a descriptor with a reserved opcode is rejected with BAD_DESCRIPTOR. -/
theorem witness_reject : let d := desc 0xFF 0 0 0 0 0 0 0 0 0 0 0 0
    let u := noted (loaded [d])
    eligible u 0 = some (0, [bufd 0 d]) ∧ (ruling u 0 [bufd 0 d]).1 = .member 0 0x30 0x01 := by decide +kernel
/-- Witness: nine members with HARNESS 1 are one too many. -/
theorem witness_overlength : let s := loaded (List.replicate 9 { w := nopDesc.w.set 0 0x100F1 })
    overlongRun s.rings[(0 : RingId)] ≠ [] ∧ overlongMay s 0 (overlongRun s.rings[(0 : RingId)]) = true ∧ (overlongRun s.rings[(0 : RingId)]).length = 9 ∧
    takeSlots s 0 (inBudget s.rings[(0 : RingId)] (overlongRun s.rings[(0 : RingId)])) 9 = some false := by decide

/-- Every cipher lane but lane 0 fenced; lane 0 runs request 0. -/
def laneBusy (s : State) : State :=
  { s with units := vmapIdx (fun u x => if u.val = 0 then { x with run := some 0 } else { x with fenced := decide (u.val < 32) }) s.units }

/-- AES_ECB_ENC of 16 bytes under slot 0. -/
def ecbDesc : Desc := desc 0x00 0 0 0 1 0 0x1000 0x2000 16 16 0 0 0

/-- Witness: PlacementsOnUnits, an Alarm candidate in budget with every lane busy. -/
def alarmState : State :=
  let d := desc 0x10 2 0 0 0 0 0x1000 0x2000 16 16 0 0 0
  let b : BufD := { slot := 0, desc := hashDesc, budget := some 0 }
  let s := powered (ringed .active fun x => { x with enable := true, cls := 2, tail := 1, fetch := 1, buf := [b] })
  { s with reqs := [{ req d [] [] none with deadline := 9 }],
           units := vmapIdx (fun u x => if u.val = 32 then { x with run := some 0 } else { x with fenced := decide (32 < u.val ∧ u.val < 48) }) s.units }
theorem witness_preempt : let x := noteEligible alarmState
    x.disp.preemptEn = true ∧ unitPool 32 ≠ .bignum ∧ intervalOk x (unitPool 32) = true ∧ memberWaits x (unitPool 32) = false ∧
    (firstBlocked x (unitPool 32)).map (·.ring) = some 0 ∧ preemptLane x (unitPool 32) 0 = some 32 ∧
    (eligible x 0).map (·.1) = some 0 ∧ x.units[(32 : UnitId)].run = some 0 ∧ takeSlots x 0 true 1 = some true := by decide +kernel
theorem witness_resume : let s := setUnit (work (req hashDesc [] [] none)) 32 fun x => { x with suspended := some 0 }
    s.units[(32 : UnitId)].suspended = some 0 ∧ s.units[(32 : UnitId)].run = none ∧ s.units[(32 : UnitId)].fenced = false ∧
    findReq s 0 = some (req hashDesc [] [] none) := by decide
/-- Witness: the next member of a chain, on a digest lane, and on the random pool. -/
theorem witness_member : let q (d : Desc) : Req := { req d [] [] none with pos := 1, members := 2, started := false }
    let s (d : Desc) : State := powered (work (q d))
    (findReq (s hashDesc) 0 = some (q hashDesc) ∧ memberNext (s hashDesc) (q hashDesc) = true ∧ memberAhead (s hashDesc) (q hashDesc) .digest = false ∧
      opPool hashDesc.opcode = some .digest ∧ noEngine (s hashDesc) 0 hashDesc = false ∧
      unitsNeeded (s hashDesc) hashDesc ≤ 1 ∧ chooseUnit (s hashDesc) 0 false .digest hashDesc = some 32) ∧
    (findReq (s rngDesc) 0 = some (q rngDesc) ∧ memberNext (s rngDesc) (q rngDesc) = true ∧ noEngine (s rngDesc) 0 rngDesc = false ∧
      poolTakes (s rngDesc) .random rngDesc = true) := by decide
/-- COOP_MODEXP of 257 bytes on two units. -/
def coopDesc : Desc := desc 0x5C 0 0 0 0 0 0x1000 0x2000 (8 + 257 + 1 + 257) 257 0 0 0
/-- Every mask generator seeded. -/
def seeded (s : State) : State := { s with units := vmap (fun x => { x with seeded := true }) s.units }
theorem witness_coop : let s := seeded (setStall (loaded [coopDesc]) 0 fun x => { x with lines := 4 })
    let x := noted { s with disp := { s.disp with coop := some (.ring 0) } }
    x.disp.coop = some (.ring 0) ∧ eligible x 0 = some (0, [bufd 0 coopDesc]) ∧
    unitsNeeded x coopDesc ≤ (heldUnits x).length ∧ (ruling x 0 [bufd 0 coopDesc]).1 = .ok ∧
    takeSlots x 0 false 1 = some false ∧ intervalOk x .bignum = true := by decide +kernel
/-- Witness: PlacementsOnUnits: a member that begins to hold, and one whose set is held. -/
theorem witness_coop_member : let q : Req := { req coopDesc [] [] none with pos := 1, members := 2, started := false }
    let s := seeded (powered (work q))
    let h := noted { s with disp := { s.disp with coop := some (.member 0) } }
    (opPool coopDesc.opcode = some .bignum ∧ 1 < unitsNeeded s coopDesc ∧ noEngine s 0 coopDesc = false ∧ intervalOk s .bignum = true ∧
      memberAhead s q .bignum = false ∧ memberNext s q = true ∧ s.disp.coop = none ∧ s.disp.coopLate = none) ∧
    (h.disp.coop = some (.member 0) ∧ findReq h 0 = some q ∧ unitsNeeded h coopDesc ≤ (heldUnits h).length ∧ intervalOk h .bignum = true) := by
  decide +kernel

/-- Witness: KnownAnswerTestsAct. -/
theorem witness_kat : let s := powered (at_ .ready)
    let d := setUnit s 0 fun x => { x with testDue := true }
    let t := setUnit s 0 fun x => { x with testing := true }
    let r := setUnit (powered (work (req hashDesc [] [] none))) 32 fun x => { x with run := some 0 }
    (rotIx .cipher = some 0 ∧ s.boot.phase = .ready ∧ s.disp.rotUnit[(0 : Fin 3)] = none ∧ rotPick (coopGrab s) 0 = some 0 ∧
      (coopGrab { s with disp := { s.disp with rotUnit := Vector.replicate 3 (some 0) } }).disp.rotUnit[(0 : Fin 3)] ≠ none ∧ inSelfTest s = false ∧
      inSelfTest (at_ .selfTest) = true ∧ s.disp.coop = none ∧ ∀ i : Fin 3, s.disp.rotDue[i] = 0) ∧
    (d.units[(0 : UnitId)].testDue = true ∧ d.units[(0 : UnitId)].fenced = false ∧ d.units[(0 : UnitId)].run = none ∧
      d.units[(0 : UnitId)].suspended = none ∧ d.units[(0 : UnitId)].held = false ∧ pdOn d (unitPd 0) = true ∧ feedActive d = false) ∧
    t.units[(0 : UnitId)].testing = true ∧ r.units[(32 : UnitId)].fenced = false ∧ r.units[(32 : UnitId)].run.isSome = true ∧
    r.units[(32 : UnitId)].faultValid = false ∧ findReq r 0 = some (req hashDesc [] [] none) := by decide

/-! ### Blobs, stores, records -/

/-- An INITIALISED part: the life-cycle byte of ROOT_GEN programmed. -/
def initialised (s : State) : State := { s with tkr := { s.tkr with lcWord := s.tkr.lcWord.set 0 0xFF } }

/-- AES-128, 16 bytes, for encryption and decryption, on an INITIALISED or OWNED part, of either world. -/
def aesAttr : BitVec 64 := 0x60003001001
/-- The clear part of a blob of stall 0 with that attribute word. -/
def blobHead : List Byte := ascii "BLB1" ++ [1, 0, 0, 0] ++ leBytes 8 aesAttr.toNat ++ zeros 48
/-- A blob of stall 0 whose tag verifies. -/
def goodBlob (s : State) : List Byte :=
  blobHead ++ (zeros 16 ++ stdBytes .blobTag [stallKek s 0, zeros 12, blobHead, zeros 16] 16)

/-- The last bytes of a list as a field. -/
theorem slice_append (a b : List Byte) (n : Nat) (h : b.length = n) : slice (a ++ b) a.length n = b := by
  subst h
  apply List.ext_getElem
  · simp [slice]
  · intro i h1 h2
    simp [slice, List.getD_eq_getElem?_getD, List.getElem?_append_right, List.getElem?_eq_getElem h2]

/-- Witness: RequestsPostAndComplete, a blob that unwraps. -/
theorem witness_blob : let d := desc 0x00 0 0 0 2 0 0x1000 0x2000 16 16 0 0 0
    let s := initialised (at_ .ready)
    let q : Req := { req d [] [] none with blob := some (goodBlob s) }
    ∃ k tag, unwrapBlob s 0 (goodBlob s) = .key k tag ∧ attrErr s 0 d k.attr (decide (k.tallyAddr ≠ 0)) = none ∧ k.tallyAddr = 0 ∧
      d.keySrc = 2 ∧ d.opcode ≠ 0x71 ∧ blobReady q = true := by
  intro d s q
  have ha : BitVec.ofNat 64 (fieldAt (goodBlob s) 8 8) = aesAttr := by decide
  have htag : slice (goodBlob s) (0x40 + 16) 16 = stdBytes .blobTag [stallKek s 0, zeros 12, blobHead, zeros 16] 16 := by
    have := slice_append (blobHead ++ zeros 16) (stdBytes .blobTag [stallKek s 0, zeros 12, blobHead, zeros 16] 16) 16
      (by simp [stdBytes])
    rwa [List.append_assoc] at this
  have hhead : slice (goodBlob s) 0 0x40 = blobHead := by rfl
  have hct : slice (goodBlob s) 0x40 16 = zeros 16 := by rfl
  have hiv : slice (goodBlob s) 0x28 12 = zeros 12 := by rfl
  have hlen : klen aesAttr = 16 := by decide
  have hta : fieldAt (goodBlob s) 0x18 8 = 0 := by decide
  have htl : fieldAt (goodBlob s) 0x20 8 = 0 := by decide
  refine ⟨{ value := (stdBytes .blobOpen [stallKek s 0, zeros 12, zeros 16] 16).take 16, attr := aesAttr, tallyAddr := 0,
            tallyLimit := 0 }, stdBytes .blobTag [stallKek s 0, zeros 12, blobHead, zeros 16] 16, ?_, ?_, rfl, by decide, by decide, ?_⟩
  · unfold unwrapBlob
    simp only [ha, hlen, show roundUp 16 16 = 16 from rfl, htag, hhead, hct, hiv, hta, htl]
    rw [if_neg (by decide), if_neg (by decide), if_neg (by simp), if_neg (by simp [zeroAt, slice]), if_neg (by decide)]
    rfl
  · decide
  · decide
/-- A request that has ended OK with stores. -/
def ended (d : Desc) (xs : List Store) : Req :=
  { req d [] [] none with done := some { status := 0, detail := 0, outLen := 0, result := 0 }, stores := xs }

/-- Witness: RequestsPostAndComplete, stores to local memory and to an intermediate; a VBR request; records. -/
theorem witness_stores : let x : Store := { dest := .locl 0x1000, bytes := [1] }
    let y : Store := { dest := .inter 7 0, bytes := [1] }
    let q := ended hashDesc [x, y]
    (findReq (powered (work q)) 0 = some q ∧ q.done.isSome ∧ q.stores = x :: [y] ∧ vbrWaits q { status := 0, detail := 0, outLen := 0, result := 0 } = false ∧
      accessHeld (powered (work q)) 0x1000 = false) ∧
    vbrWaits (ended { w := hashDesc.w.set 0 0x8010B } []) { status := 0, detail := 0, outLen := 0, result := 0 } = true := by decide
theorem witness_record : let q := ended hashDesc []
    let s := { work q with rings := (ringed .active fun x => { x with enable := true }).rings }
    let h := ringed .active fun x => { x with enable := true, headDue := true }
    (findReq s 0 = some q ∧ q.stores = [] ∧ memberNext s q = true ∧ vbrWaits q { status := 0, detail := 0, outLen := 0, result := 0 } = false ∧
      pwbRoom s (recordWrite s (worldFn s q.stall) q.stall q.ring q.slot (recordOf s q { status := 0, detail := 0, outLen := 0, result := 0 })
        q.alarm (some 0)) = true) ∧
    (h.rings[(0 : RingId)].owner = some 0 ∧ h.rings[(0 : RingId)].headDue = true ∧ h.rings[(0 : RingId)].hwbEn = true ∧
      pwbRoom h (headWrite h (worldFn h 0) 0 0 (headBytes 0 (headPhase h.rings[(0 : RingId)]) 0) false) = true) := by decide
theorem witness_record_routes (q : Req) : RoutesGood (work q) := routesGood_of_reset rfl

/-- Witness: ReservationsAndFences: nothing left of chain 7; a FENCE alone, a FENCE after an earlier request, a NOP. -/
theorem witness_fence : let f : Req := { req (desc 0xF0 0 0 0 0 0 0 0 0 0 0 0 0) [] [] none with id := 1, started := false }
    let s := { work f with reqs := [f], nextId := 2 }
    let e := { work f with reqs := [req hashDesc [] [] none, f], nextId := 2 }
    (s.reqs.any fun q => decide (q.chain = 7)) = false ∧ findReq s 7 = none ∧ findReq s 1 = some f ∧ f.done = none ∧ f.desc.opcode = 0xF0 ∧
    (∀ o ∈ s.reqs, o.id < 1 → o.stall = f.stall → o.ring ≠ f.ring ∧ bit f.desc.imm 0 = false) ∧
    (∃ o ∈ e.reqs, o.id < 1 ∧ o.stall = f.stall ∧ o.ring = f.ring) ∧ nopDesc.opcode = 0xF1 := by decide

/-! ### Ciphers and digests: requests that run -/

/-- Sixteen bytes of source. -/
def src16 : List Byte := List.replicate 16 1
/-- A request that runs on sixteen bytes with a key of 32 bytes and an AUX block. -/
def keyed (op mode : Nat) (aux : List Byte) : Req :=
  req (desc op mode 0 0 1 0 0x1000 0x2000 16 4096 aux.length 0 0) src16 aux (some (key (zeros 16 ++ src16) aesAttr))

/-- A cipher AUX block: IV_LEN, the IV, no further additional data. -/
def ivAux (n : Nat) (tag : List Byte) : List Byte := [BitVec.ofNat 8 n] ++ zeros 7 ++ List.replicate n 9 ++ zeros (16 - n) ++ tag ++ zeros (16 - tag.length)

/-- Witness: CipherModesAnswer, CipherRequestsRefuse (the AUX clause aside): every mode with an admitted block. -/
theorem witness_cipher : ∀ x ∈ [(0x00, 0), (0x01, 0), (0x02, 16), (0x03, 16), (0x04, 16), (0x05, 16), (0x06, 16), (0x07, 16), (0x08, 16), (0x09, 16),
      (0x0E, 0), (0x10, 12)],
    let q := keyed x.1 2 (if x.2 = 0 then [] else ivAux x.2 [])
    RunsOn (work q) 0 x.1 q src16 ∧ cipherAuxOk q.desc (auxOf q) = true ∧ tooLongOut q.desc 16 = false ∧ xtsHalvesEqual (keyOf q) = false := by
  unfold RunsOn; decide
/-- Witness: RequestsPostAndComplete: the register of unit 0 holds the key under the blob's TAG; a blob that is too short. -/
theorem witness_blob_reused : let d := desc 0x00 0 0 0 2 0 0x1000 0x2000 16 16 0 0 0
    let q : Req := { req d [] [] none with blob := some (blobHead ++ zeros 32), unit := some 0 }
    let r : KeyReg := { stall := 0, keySrc := d.keySrc, keyRef := d.keyRef, keyLocal := d.keyLocal, tag := blobTagOf q, key := key src16 aesAttr, lastUse := 0, encKeys := true, decKeys := false }
    let s := work q
    reusedKey s q = none ∧ blobReady q = true ∧ (reusedKey (setUnit s 0 fun x => { x with keyReg := some r }) q).isSome = true ∧
    (match unwrapBlob s 0 (zeros 96) with | .bad _ => true | _ => false) = true := by decide
/-- Witness: CipherRequestsRefuse: equal halves, a reserved byte of the block not 0, an output that does not fit. -/
theorem witness_cipher_refused : xtsHalvesEqual (zeros 64) = true ∧
    cipherAuxOk (keyed 0x02 2 (ivAux 16 [])).desc ((ivAux 16 []).set 1 1) = false ∧
    tooLongOut (desc 0x00 2 0 0 1 0 0 0 16 15 0 0 0) 16 = true ∧ (Instr.aesEcbEnc 0, 0x00) ∈ cipherRows 0 := by decide
/-- Witness: AeadModesAnswer: encryption and, with any tag, decryption run; IV lengths 12, 13 and 12. -/
theorem witness_aead : ∀ x ∈ [(0x0A, 12), (0x0B, 12), (0x0C, 13), (0x0D, 13), (0x11, 12), (0x12, 12)],
    let q := keyed x.1 2 (ivAux x.2 [])
    RunsOn (work q) 0 x.1 q src16 ∧ cipherAuxOk q.desc (auxOf q) = true ∧ tooLongOut q.desc 32 = false := by
  unfold RunsOn; decide
/-- Witness: AeadModesAnswer, decryption with the tag that is computed. -/
theorem witness_aead_tag (k : List Byte) (text : List Byte) :
    let tag := stdBytes (.cipherTag 0x0A) [k, List.replicate 12 9, zeros 4, [], text, leBytes 1 16] 16
    let aux := ivAux 12 tag
    slice aux 8 (fieldAt aux 0 1) = List.replicate 12 9 ∧ tag = slice aux 0x18 16 := by
  intro tag aux
  have h : tag.length = 16 := by simp [tag, stdBytes]
  refine ⟨rfl, ?_⟩
  have := slice_append ([BitVec.ofNat 8 12] ++ zeros 7 ++ List.replicate 12 9 ++ zeros (16 - 12)) tag 16 h
  simpa [aux, ivAux, h, zeros] using this.symm
/-- Witness: RequestsPostAndComplete, no other chain's write to local memory; a cipher whose output overlaps; both counters. -/
theorem witness_overlap : cipherOverlaps (keyed 0x02 2 (ivAux 16 [])) 16 = false ∧
    cipherOverlaps (req (desc 0x02 2 0 0 1 0 0x1000 0x1008 16 4096 40 0 0) src16 (ivAux 16 []) none) 16 = true ∧
    (let d := (keyed 0x04 2 (ivAux 16 [])).desc
     beNat (List.replicate 16 9) % 2 ^ ctrBits d + ceilDiv d.srcLen 16 ≤ 2 ^ ctrBits d ∧
       2 ^ ctrBits d < beNat (List.replicate 16 0xFF) % 2 ^ ctrBits d + ceilDiv 32 16) ∧
    (∀ o ∈ (work (keyed 0x02 2 (ivAux 16 []))).reqs, o.wrote = []) ∧
    tooLongOut (desc 0x0A 2 0 0 1 0 0 0 16 31 0 0 0) 32 = true := by decide

/-- Witness: DigestOpcodesAnswer: hashes, MACs and their fragment forms; an empty list of fragments beyond SRC_LEN. -/
theorem witness_digest : ∀ x ∈ [(0x20, 1), (0x22, 6), (0x28, 1), (0x2C, 10), (0x2D, 10)],
    let q := keyed x.1 x.2 []
    RunsOn (work q) 0 x.1 q src16 ∧ tooLongOut q.desc ((outLenOf q.desc).getD 0) = false ∧ kmacAuxOk q.desc (auxOf q) = true := by
  unfold RunsOn; decide
theorem witness_kmac_aux : kmacAuxOk (keyed 0x2C 10 (zeros 9)).desc (zeros 9) = false := by decide
theorem witness_frag : ∀ x ∈ [0x21, 0x29], ∀ n ∈ [16, 17],
    let q := keyed x 1 (zeros 8 ++ leBytes 4 n ++ zeros 4)
    RunsOn (work q) 0 x q src16 ∧ tooLongOut q.desc ((outLenOf q.desc).getD 0) = false ∧ fragSum (auxOf q) - q.desc.srcLen = n - 16 := by
  unfold RunsOn; decide

/-! ### Measurements and the feed -/

/-- Witness: MeasurementsExtend: register 47 is read, and extended; a word and the last word of a buffer; an extend in the queue. -/
theorem witness_measure : ∀ m ∈ [0, 1], let q := req (desc 0x30 m 0 0 0 0 0x1000 0x2000 48 48 0 0 47) (zeros 48) [] none
    RunsOn (work q) 0 0x30 q (zeros 48) ∧ (work q).mrb.fenced = false ∧ (work q).mrb.queue = [] ∧ tooLongOut q.desc 48 = false ∧
    q.desc.dstLen ≠ 0 ∧ bit q.desc.mode 0 = decide (m = 1) ∧ mrOf q.desc = 47 := by unfold RunsOn; decide
/-- Witness: MeasurementsExtend: register 2 is PF1's, 0 and 1 no function's; five words and fewer; a mismatch while an extend
waits, and while a request's runs. -/
theorem witness_measure_words : let w : Vector (Option (BitVec 64)) 6 := Vector.replicate 6 (some 0)
    let s := { at_ .ready with mrb := { Mrb.reset with buf := Vector.replicate 2 (some { mr := 2, words := w }), queue := [{ fn := .pf1, mr := 2, input := 0 }] } }
    let q := req (desc 0x30 0 0 0 0 0 0x1000 0x2000 48 48 0 0 47) (zeros 48) [] none
    (WritesServed s .pf1 ∧ mrMay s .pf1 2 = true ∧ mrMay s .pf1 1 = false ∧ mrMay s .pf0 2 = false ∧ s.mrb.fenced = false ∧
      s.mrb.buf[fnIx .pf1] = some { mr := 2, words := w }) ∧
    ((mrWords w 1).isSome = true ∧ mrWords (w.set 4 none) 1 = none) ∧ s.mrb.queue = { fn := .pf1, mr := 2, input := 0 } :: [] ∧
    (running (work q) .measurement = q :: [] ∧ (work q).mrb.queue = [] ∧ (work q).mrb.fenced = false) := by unfold WritesServed; decide

/-- Witness: FeedSessionsRun: START accepted and refused, a session in each state, a full buffer, both ends of the input, a due
test, and a keyed session. -/
theorem witness_feed : let s (st : FeedState) (msg : List Byte) : State :=
      { powered (at_ .ready) with feed := { Feed.reset with state := st, msg := msg, msgLen := 1, alg := 1, outBytes := 0 } }
    let x (a : BitVec 4) : Feed := { (s .idle []).feed with alg := a, keyed := false, handle := 0, stall := 0 }
    let y (a : BitVec 4) : Feed := { x a with state := .waiting, code := 0, endCause := 0, count := 0, msg := [], buf := [], out := 0, key := none, testFirst := false }
    (WritesServed (s .idle []) .pf1 ∧ feedActive (s .idle []) = false ∧ algListed 13 = true ∧ algListed 14 = false ∧
      feedStartErr { s .idle [] with feed := x 1 } (y 1) = none ∧ feedStartErr { s .idle [] with feed := x 12 } (y 12) = some 0x30 ∧ WritesServed (s .idle []) .pf0) ∧
    (feedActive (s .waiting []) = true ∧ (s .waiting []).units[dl15].run = none ∧ (s .waiting []).units[dl15].suspended = none ∧
      (s .waiting []).units[dl15].testing = false ∧ (s .waiting []).feed.testFirst = false ∧ (s .waiting []).feed.keyed = false) ∧
    (s .opened []).feed.state = .opened ∧ 64 ≤ (List.replicate 64 (0 : BitVec 64)).length ∧
    ((s .finishing [5]).feed.msgLen.toNat ≤ (feedInput (s .finishing [5]).feed).length) ∧
    ((feedInput (s .finishing []).feed).length < (s .finishing []).feed.msgLen.toNat) := by unfold WritesServed; decide
theorem witness_feed_key : let k : Key := key src16 0x84001008
    let s := { initialised (ringed .active id) with feed := { Feed.reset with state := .waiting, keyed := true, alg := 1, handle := 5 } }
    let t := { s with tkr := { s.tkr with store := s.tkr.store.set 5 { Entry.reset with kind := 1, key := k } } }
    t.feed.keyed = true ∧ (match heldEntry t (bvFin t.feed.stall) (bvFin t.feed.handle) with | .key a b _ => decide (a = k) && decide (b < 2) | _ => false) = true := by
  decide +kernel

/-! ### Big numbers -/

/-- Witness: ModularArithmeticIsExact: an inverse, and a key's coefficients. -/
theorem witness_modular : (1 < 7 ∧ invMod 3 7 = some 5) ∧ 5 * 1 % 2 = 1 := by decide

/-- The bytes of an RSA key of 1024 bits (R456): primes all ones, a coefficient, E. -/
def rsaBytes (nbits e : Nat) : List Byte :=
  leBytes 2 nbits ++ zeros 2 ++ leBytes 4 e ++ List.replicate (nbits / 16 * 2) 0xFF ++ List.replicate (nbits / 16 * 3) 1
/-- A request for a keyed exponentiation of a modulus of so many bits. -/
def rsaReq (op nbits e : Nat) (src : List Byte) : Req :=
  req (desc op 0 0 0 1 0 0x1000 0x2000 src.length 1024 0 0 0) src [] (some (key (rsaBytes nbits e) 0))

/-- The key that those bytes spell. -/
def rsaOf (nbits e : Nat) : RsaKey :=
  let h := nbits / 16
  let c := (256 ^ h - 1) / 255
  { nbits := nbits, e := e, p := 256 ^ h - 1, q := 256 ^ h - 1, dp := c, dq := c, qinv := c }
/-- Witness: RsaAndModularOpcodesAnswer: keys of 1024 bits with and without E, and the shortest of COOP_MODEXP. -/
theorem witness_rsa_keys : rsaKey (rsaBytes 1024 65537) = some (rsaOf 1024 65537) ∧ rsaKey (rsaBytes 1024 0) = some (rsaOf 1024 0) := by
  decide +kernel
theorem witness_rsa_coop : (rsaKey (rsaBytes 4160 3)).any (fun k => rsaFits 0x5C k && decide (k.nbits / 8 = 520)) = true := by decide +kernel
/-- Witness: RsaAndModularOpcodesAnswer, a key that fits, one that does not, a base of the wrong length, a base not below N. -/
theorem witness_rsa : let q := rsaReq 0x41 1024 65537 (zeros 128)
    RunsOn (work q) 0 0x41 q (zeros 128) ∧ rsaFits 0x41 (rsaOf 1024 65537) = true ∧ rsaFits 0x40 (rsaOf 1024 65537) = false ∧
    rsaFits 0x40 (rsaOf 1024 0) = true ∧ (rsaOf 1024 65537).nbits / 8 = 128 ∧
    (rsaOf 1024 65537).p * (rsaOf 1024 65537).q ≤ 256 ^ 128 - 1 ∧ beNat (zeros 128) < (rsaOf 1024 65537).p * (rsaOf 1024 65537).q := by
  unfold RunsOn; decide +kernel

/-- An operand block of MODEXP: a modulus of so many bytes with its first and last 1, an exponent of one byte, a base (R459). -/
def modBlock (nlen : Nat) : List Byte :=
  leBytes 2 nlen ++ leBytes 2 1 ++ zeros 4 ++ ([1] ++ zeros (nlen - 2) ++ [1]) ++ [3] ++ (zeros (nlen - 1) ++ [2])
/-- A request on a block of operands. -/
def modReq (op mode : Nat) (src : List Byte) : Req := req (desc op mode 0 0 0 0 0x1000 0x2000 src.length 2048 0 0 0) src [] none

/-- Witness: RsaAndModularOpcodesAnswer, unkeyed modular exponentiation at the shortest moduli. -/
theorem witness_modexp : ∀ x ∈ [(0x40, 32), (0x5C, 257)], let q := modReq x.1 0 (modBlock x.2)
    let src := modBlock x.2
    RunsOn (work q) 0 x.1 q src ∧ q.desc.keySrc = 0 ∧ fieldAt src 0 2 = x.2 ∧ fieldAt src 2 2 = 1 ∧ zeroAt src 4 4 = true ∧
    q.desc.srcLen = 8 + x.2 + 1 + x.2 ∧ modulusOk (beNat (slice src 8 x.2)) x.2 = true ∧ beNat (slice src (8 + x.2 + 1) x.2) < beNat (slice src 8 x.2) ∧
    expTooLong (work q) q.desc x.2 1 = false ∧ tooLongOut q.desc x.2 = false := by unfold RunsOn; decide +kernel
/-- Witness: RsaAndModularOpcodesAnswer: MODEXP with an operand A of its own. -/
theorem witness_modexp_a : let src := leBytes 2 32 ++ leBytes 2 1 ++ zeros 4 ++ ([1] ++ zeros 30 ++ [1]) ++ [3] ++ (zeros 31 ++ [4]) ++ (zeros 31 ++ [2])
    let q := modReq 0x40 0x10 src
    RunsOn (work q) 0 0x40 q src ∧ q.desc.var = 1 ∧ q.desc.srcLen = 8 + 32 + 1 + 32 * 2 ∧ expTooLong (work q) q.desc 32 1 = false := by
  unfold RunsOn; decide +kernel
/-- Witness: RSA_PUB with E 3, and MODOP with its five operations, on a modulus of one byte, 3, and operands 1 and 2. -/
theorem witness_rsa_pub : let aux := leBytes 2 1 ++ zeros 2 ++ leBytes 4 3 ++ [3]
    let q := req (desc 0x42 0 0 0 0 0 0x1000 0x2000 1 1 9 0 0) [2] aux none
    RunsOn (work q) 0 0x42 q [2] ∧ q.desc.auxLen = 8 + fieldAt aux 0 2 ∧ zeroAt aux 2 2 = true ∧ fieldAt aux 4 4 = 3 ∧
    modulusOk (beNat (slice aux 8 1)) 1 = true ∧ beNat [2] < beNat (slice aux 8 1) ∧ tooLongOut q.desc 1 = false := by unfold RunsOn; decide
theorem witness_long_rsa : tooLongOut (desc 0x41 0 0 0 1 0 0 0 128 127 0 0 0) 128 = true := by decide
theorem witness_modop : ∀ v ∈ [0, 1, 2, 3, 4], let src : List Byte := leBytes 2 1 ++ zeros 6 ++ if v = 3 then [3, 2] else [3, 1, 2]
    let q := modReq 0x58 (v * 16) src
    RunsOn (work q) 0 0x58 q src ∧ q.desc.var = v ∧ fieldAt src 0 2 = descNlen q.desc ∧ zeroAt src 2 6 = true ∧
    modulusOk (beNat (slice src 8 1)) 1 = true ∧ beNat (slice src 9 1) < 3 ∧ (v = 3 → invMod 2 3 = some 2) ∧
    (v = 4 → beNat (slice src 9 2) < 3 * 256) := by unfold RunsOn; decide
theorem witness_no_inverse : invMod 0 3 = none := by decide

/-- Witness: SignatureOpcodesAnswer and AgreementOpcodesAnswer: every opcode runs. The verdicts on keys and signatures are
uninterpreted: each clause takes one of their two values. -/
theorem witness_pk : ∀ x ∈ [(0x44, 1, 65), (0x45, 1, 129), (0x46, 1, 65), (0x48, 4, 0), (0x49, 4, 32), (0x4A, 6, 32), (0x51, 1, 800), (0x52, 1, 0),
      (0x55, 1, 0), (0x56, 1, 1312)],
    let q := req (desc x.1 x.2.1 0 0 1 0 0x1000 0x2000 16 4096 x.2.2 0 0) src16 (zeros x.2.2) (some (key src16 0))
    RunsOn (work q) 0 x.1 q (if x.1 = 0x46 ∨ x.1 = 0x4A ∨ x.1 = 0x51 then [] else src16) ∧ tooLongOut q.desc 2420 = false := by
  unfold RunsOn; decide
theorem witness_scalar : scalarOk (req (desc 0x46 4 0 0 1 0 0 0 0 0 0 0 0) [] [] none) = true := by decide
theorem witness_keygen : ∀ x ∈ [0x47, 0x50, 0x54], let q := req (desc x 1 0 0 0 0 0 0x2000 0 4096 0 0 0x2010) [] [] none
    RunsOn (work q) 0 x q [] ∧ (∃ a, keyAux q = some a ∧ newKeyErr q.desc a = none) := by
  intro x hx
  simp only [List.mem_cons, List.not_mem_nil, or_false] at hx
  rcases hx with rfl | rfl | rfl <;> exact ⟨by unfold RunsOn; decide, ⟨_, rfl, rfl⟩⟩

/-! ### The Entropy Block -/

/-- READY with a state of both noise sources and of the Entropy Block. -/
def noisy (x : NsState) (e : Ent) : State := { at_ .ready with ns := Vector.replicate 2 { Ns.reset with state := x }, ent := e }
/-- Witness: NoiseSourcesAct: RUN with a run of 60 equal samples, the sample that makes it 61 and one that ends it, below
FAIL_LIMIT and at it; the last sample of a start-up test that passes and of one that fails; a block whose turn it is. -/
theorem witness_noise : let e : Ent := { Ent.reset with state := .run, seeds := [0] }
    let x (k : Nat) : Ns := { Ns.reset with state := .run, fails := k, test := { Ns.reset.test with last := true, runLen := 60, pos := 5 } }
    let s (y : Ns) : State := { noisy .run e with ns := Vector.replicate 2 y }
    let st : Ns := { Ns.reset with state := .startup, part := List.replicate 1023 true,
                                   test := { Ns.reset.test with last := true, first := true, runLen := 3, count := 819, pos := 1023 } }
    let blk : Ns := { Ns.reset with state := .run, part := List.replicate 1535 true }
    let f (k : BitVec 2) : State := s { Ns.reset with state := .failed, retests := k }
    ((s (x 1)).ns[(1 : NsId)].state = .run ∧ 1 < samplesDue (x 1) ∧ (healthBits (x 1) [false]).2 = none ∧ (healthBits (x 1) [true]).2 = some .rct ∧
      (healthBits (x 1) [true]).1.fails + 1 < (healthBits (x 1) [true]).1.test.limit ∧
      (healthBits (x 2) [true]).1.test.limit ≤ (healthBits (x 2) [true]).1.fails + 1) ∧
    (samplesDue st = 1 ∧ (healthBits st [false]).2 = none ∧ (healthBits st [true]).2 = some .apt) ∧
    (samplesDue blk = 1 ∧ (healthBits blk [true]).2 = none ∧ blockTurn (s blk) 0 = true ∧ (s blk).ent.state = .run ∧ (s blk).ent.seeds.length < 2) ∧
    (WritesServed (s blk) .pf1 ∧ bit (0x3D00 : BitVec 32) 1 = false ∧ (field (0x3D00 : BitVec 32) 8 8 : BitVec 8).toNat = 61) ∧
    ((f 2).ns[(1 : NsId)].retests.toNat < 3 ∧ 3 ≤ (f 3).ns[(1 : NsId)].retests.toNat) := by unfold WritesServed; decide +kernel
theorem witness_noise_good : Quiet (noisy .run Ent.reset) ∧ RoutesGood (noisy .run Ent.reset) := ⟨rfl, routesGood_of_reset rfl⟩

/-- Witness: DrbgServes: the first seed, an entry below TARGET, a reseed at it, a mask, limits equal and below. -/
theorem witness_drbg : let i := noisy .run { Ent.reset with state := .init, seeds := [1] }
    let g (c : BitVec 32) : State := noisy .run { Ent.reset with state := .run, seeds := [1], drbg := some 2, c := c }
    let m := noisy .run { Ent.reset with granted := [(.mask 48, [3])] }
    (i.ent.state = .init ∧ i.ent.seeds = 1 :: []) ∧
    (serving (g 1023) = true ∧ (g 1023).ent.drbg = some 2 ∧ (g 1023).ent.queue.length < 64 ∧ (g 1023).ent.c.toNat < 2 ^ (g 1023).ent.targetLog2.toNat ∧
      (g 1023).ent.waiters = []) ∧
    (2 ^ (g 1024).ent.targetLog2.toNat ≤ (g 1024).ent.c.toNat ∧ seedWanted (g 1024) = false) ∧
    ((g 0).ent.state ≠ .off ∧ (g 0).ent.state ≠ .fenced) ∧ grantedTo m (.mask 48) ≠ [] ∧
    ((field (0xC0C : BitVec 32) 0 5 : BitVec 5).toNat = 12 ∧ (field (0xC0C : BitVec 32) 8 5 : BitVec 5).toNat = 12) ∧
    ((field (0xB0C : BitVec 32) 0 5 : BitVec 5).toNat = 12 ∧ (field (0xB0C : BitVec 32) 8 5 : BitVec 5).toNat = 11) := by decide

/-- Witness: DrawsAndRandomOpcodes: a draw that leaves four entries, one that waits, an expiry, and the three opcodes. -/
theorem witness_draw : let q := req rngDesc [] [] none
    let s (n : Nat) (w : List Waiter) : State := { work q with ent := { Ent.reset with state := .run, queue := List.replicate n 1, waiters := w } }
    let w : Waiter := { who := .request 0, limit := 1, since := 0 }
    (findReq (s 5 []) 0 = some q ∧ q.started = true ∧ q.done = none ∧ (s 5 []).ent.fenced = false ∧ takesSeed q.desc = false ∧
      (grantedTo (s 5 []) (.request 0)).length < totalDraws q.desc ∧ (s 5 []).ent.queue = 1 :: List.replicate 4 1 ∧
      (grantedTo (s 5 []) (.request 0)).length < chargedDraws q.desc) ∧
    ((s 4 []).ent.queue.length ≤ 4 ∧ ((s 4 []).ent.waiters.any fun w => decide (w.who = .request 0)) = false) ∧
    ((s 4 [w]).ent.waiters.any fun w => decide (w.who = .request 0)) = true := by decide
theorem witness_random : let g := req rngDesc [] [] none
    let r := req (desc 0x61 0 0 0 0 0 0 0 0 0 0 0 0) [] [] none
    let w := req (desc 0x68 1 0 0 0 0 0 0x2000 0 64 0 0 512) [] [] none
    let sr : State := { work r with ent := { Ent.reset with state := .run, seeds := [1], drbg := some 2 } }
    let sw (x : NsState) (c : Option Nat) : State := { work w with ns := (Vector.replicate 2 Ns.reset).set 1 { Ns.reset with state := x, capture := c } }
    (RunsOn (work g) 0 0x60 g [] ∧ bit g.desc.mode 0 = false ∧ tooLongOut g.desc 64 = false) ∧
    (RunsOn sr 0 0x61 r [] ∧ serving sr = true ∧ sr.ent.seeds = 1 :: [] ∧ sr.ent.drbg = some 2) ∧
    (RunsOn (sw .failed none) 0 0x68 w [] ∧ rawSource w.desc = 1 ∧ (sw .failed none).ns[(1 : NsId)].capture = none) ∧
    ((sw .diverted (some 0)).ns[(1 : NsId)].capture = some 0 ∧ (sw .diverted (some 0)).ns[(1 : NsId)].state = .diverted ∧
      (∀ m : NsId, m ≠ 1 → (sw .diverted (some 0)).ns[m].capture ≠ some 0) ∧ tooLongOut w.desc 64 = false) := by unfold RunsOn; decide
/-- Witness: DrbgServes and DrawsAndRandomOpcodes: a reseed that is due and one that is not, a mask granted, an urgent draw, a
reseed of a request's own, a source and its diversion. -/
theorem witness_drbg_more : let g (c : BitVec 32) : State := noisy .run { Ent.reset with state := .run, seeds := [1], drbg := some 2, c := c, queue := [7] }
    let m := noisy .run { Ent.reset with granted := [(.mask 48, [3])] }
    let k := powered (g 0)
    let q := req (desc 0x60 1 0 0 0 0 0 0x2000 0 64 0 0 64) [] [] none
    let p := { work q with ent := (g 0).ent }
    let w := req (desc 0x68 1 0 0 0 0 0 0x2000 0 64 0 0 512) [] [] none
    (reseedDue (g 1023) = false ∧ reseedDue (g 1024) = true ∧ mayGenerate (g 0) = true ∧ (g 0).disp.coop = none) ∧ grantedTo m (.mask 48) = 3 :: [] ∧
    (drawRank (.mask 48) < 2 ∧ mayDraw k (.mask 48) = true ∧ k.ent.fenced = false ∧ k.ent.queue = 7 :: []) ∧
    (RunsOn p 0 0x60 q [] ∧ bit q.desc.mode 0 = true ∧ mayGenerate p = true ∧ p.ent.seeds = 1 :: [] ∧ p.ent.drbg = some 2 ∧
      RunsOn (work q) 0 0x60 q [] ∧ mayGenerate (work q) = false ∧ (work q).ent.fenced = false) ∧
    (let s := { work w with ns := Vector.replicate 2 { Ns.reset with state := .run } }
     RunsOn s 0 0x68 w [] ∧ s.ns[rawSource w.desc].state = .run ∧ s.ns[(0 : NsId)].state = .run ∧ s.ns[rawSource w.desc].capture = none ∧
      (work w).ns[rawSource w.desc].state ≠ .failed) := by unfold RunsOn; decide

/-! ### The Tack Room -/

/-- A key for derivation, of type 0x0A, on an INITIALISED or OWNED part. -/
def rootAttr : BitVec 64 := 0x6002000200A
/-- Witness: KeyOpcodesAnswer: each opcode runs; a child no broader than its parent, and one that is. -/
theorem witness_keys : ∀ x ∈ [(0x70, 0), (0x72, 0), (0x73, 2), (0x77, 2)], let d := desc x.1 0 0 0 1 0 0x1000 0x2000 16 4096 0 0 0x1001
    let q := req d src16 [] (some (key (zeros 32) rootAttr))
    RunsOn (work q) 0 x.1 q (if x.1 = 0x77 then src16 else []) ∧ (keyAux q).isSome = true ∧ tooLongOut d 96 = false := by unfold RunsOn; decide
theorem witness_key_aux : let q := req (desc 0x73 0 0 0 0 0 0 0 0 0 0 0 0x1001) [] [] none
    ∃ a, keyAux q = some a ∧ newKeyErr q.desc a = none ∧ q.desc.dstSel ≠ 3 := ⟨_, rfl, rfl, by decide⟩
theorem witness_key_inter : let q := req (desc 0x73 0 0 3 0 0 0 7 0 4096 0 1 0x1001) [] [] none
    q.desc.dstSel = 3 ∧ 16 ≤ 512 * q.desc.interLines := by decide
theorem witness_narrower : narrower rootAttr 0x6002000200A = true ∧ narrower 0x2000200A 0x6002000200A = false := by decide

/-- Witness: KeyedStateActs: loads with the store empty, a drop, a binding of slot 511. -/
theorem witness_store : ∀ x ∈ [(0x71, 0), (0x74, 1)], let q := req (desc x.1 x.2 0 0 2 0 0 0 0 0 0 0 0) [] [] (some (key src16 0x84001008))
    RunsOn (work q) 0 x.1 q [] ∧ q.desc.dstSel ≠ 3 ∧ (keyAux q).isSome = true ∧ nextFree (work q) = some 0 := by unfold RunsOn; decide
theorem witness_store_kinds : ktype 0x84001008 = 8 ∧ ktype 0x84001009 ≠ 8 := by decide
/-- A store with no free entry. -/
def fullStore (s : State) : State := { s with tkr := { s.tkr with store := Vector.replicate 2048 { Entry.reset with kind := 1 } } }
theorem witness_store_full (s : State) : nextFree (fullStore s) = none := by
  simp [nextFree, entryFree, fullStore]
theorem witness_drop : let q := req (desc 0x75 0 0 0 0 0 0 0 0 0 0 0 2047) [] [] none
    let h : Handle := 2047
    RunsOn (fullStore (work q)) 0 0x75 q [] ∧ (fullStore (work q)).tkr.store[h].kind ≠ 0 ∧ (fullStore (work q)).tkr.store[h].stall = q.stall ∧
    (fullStore (work q)).tkr.store[h].dropped = false ∧ entryUsers (fullStore (work q)) h = false ∧ (work q).tkr.store[h].kind = 0 := by
  unfold RunsOn; decide +kernel
theorem witness_bind : let aux := zeros 8 ++ leBytes 8 0x1000 ++ zeros 8
    let q := req (desc 0x76 0 0 0 1 511 0 0 0 0 24 0 0) [] aux (some (key src16 0))
    RunsOn (work q) 0 0x76 q [] ∧ (keyAux q).any (fun a => decide (a.tallyAddr ≠ 0)) = true ∧ slotBind (work q) 511 = none ∧
    ((vfind (work q).tkr.tbind fun b => !b.valid).head?) = some 0 := by unfold RunsOn; decide
/-- Witness: KeyedStateActs: a store entry of another stall, a request without its binding, a binding that stands, a binding of
each of the 64 registers. -/
theorem witness_store_more : let k (d : Desc) := req d [] [] (some (key src16 0))
    let b := { work (k hashDesc) with tkr := { Tkr.reset with tbind := Vector.replicate 64 { valid := true, slot := 511, tallyAddr := 8, tallyLimit := 0 } } }
    slotBind b 511 ≠ none ∧ (∀ j : Fin 64, b.tkr.tbind[j].valid = true) ∧ slotBind b 510 = none ∧
    keyAux (req (desc 0x76 0 0 0 1 511 0 0 0 0 24 0 0) [] (zeros 7 ++ [1] ++ zeros 16) none) = none ∧
    (keyAux (req (desc 0x76 0 0 0 1 511 0 0 0 0 24 0 0) [] (zeros 24) none)).any (fun a => decide (a.tallyAddr = 0)) = true := by decide

/-- Witness: SlotsLifeCycleAndDebugAct: slot 511 of an OWNED part and what refuses it; a sequence that ends. -/
theorem witness_slots : let o := { at_ .ready with tkr := { Tkr.reset with lcWord := #v[0xFF, 0xFF, 0], progAttr := aesAttr } }
    let b := { at_ .ready with tkr := { Tkr.reset with progBusy := some 3 } }
    let p := { at_ .ready with tkr := { Tkr.reset with progBusy := some 511, progValue := some 7 } }
    (Quiet o ∧ RoutesGood o) ∧
    (WritesServed o .pf1 ∧ o.tkr.progBusy = none ∧ o.tkr.lcBusy = none ∧ (bvFin (field (511 : BitVec 32) 0 9 : BitVec 9) : SlotId) ≠ 0 ∧
      o.tkr.slots[(511 : SlotId)].state = .unprogrammed ∧ lcCode o = 2 ∧
      o.tkr.debugOpen = false ∧ slotAttrBad o.tkr.progAttr = false ∧ bvFin (field (511 : BitVec 32) 0 9 : BitVec 9) = (511 : SlotId) ∧
      (field (511 : BitVec 32) 9 2 : BitVec 2) = 0 ∧ (field (0x3FF : BitVec 32) 9 2 : BitVec 2) = 1) ∧
    (b.tkr.progBusy ≠ none ∧ (bvFin (field (0 : BitVec 32) 0 9 : BitVec 9) : SlotId) = 0 ∧ lcCode (at_ .ready) = 0 ∧ slotAttrBad Tkr.reset.progAttr = true ∧
      progBlobValue o = none) ∧
    (p.tkr.progBusy = some 511 ∧ progValueNow p = some 7) :=
  ⟨⟨rfl, routesGood_of_reset rfl⟩, by unfold WritesServed; decide⟩
/-- Witness: SlotsLifeCycleAndDebugAct: the life-cycle commands and their ends; a stall that is ACTIVE; a key register long idle. -/
theorem witness_life_cycle : let i := { at_ .ready with tkr := { Tkr.reset with lcWord := #v[0xFF, 0, 0], stagedHash := Vector.replicate 6 1 } }
    let r (b : Option LcMove) (k : Nat) : State := { work (req hashDesc [] [] none) with tkr := { Tkr.reset with lcBusy := b, lcFrom := k, keyIdle := 1 } }
    (lcStart i 1 = some (.own false) ∧ lcStart (at_ .ready) 1 = none ∧ lcCode i ≠ 3 ∧ lcCode { i with tkr := { i.tkr with lcWord := #v[0xFF, 0, 0xFF] } } = 3) ∧
    ((r (some .retire) 1).tkr.lcBusy = some .retire ∧ (∃ q ∈ (r (some .retire) 1).reqs, q.id < 1) ∧ ∀ q ∈ (r (some .retire) 0).reqs, 0 ≤ q.id) ∧
    (r (some .finishOwn) 0).tkr.lcBusy = some .finishOwn ∧ (r (some (.own true)) 0).tkr.lcBusy = some (.own true) ∧
    (field (0x7AC00003 : BitVec 32) 16 16 = (0x7AC0 : BitVec 16) ∧ ((field (0x7AC00003 : BitVec 32) 0 4 : BitVec 4)).toNat = 3) ∧
    ((ringed .quiesced id).stalls[(0 : StallId)].state = .quiesced ∧ (ringed .active id).stalls[(0 : StallId)].state = .active) ∧
    (r none 0).tkr.keyIdle ≠ 0 ∧ (r none 0).units[(55 : UnitId)].run = none ∧ (r none 0).units[(55 : UnitId)].suspended = none := by decide
/-- Witness: SlotsLifeCycleAndDebugAct, debug unlock: the third failure and the fourth, a nonce drawn, in the queue, and not to
be had; a response to a BLANK part that allows debug, and to one that does not. -/
theorem witness_debug : let s (n : BitVec 3) : State := { at_ .ready with tkr := { Tkr.reset with fails := n, nonce := some (zeros 32) }, ent := { Ent.reset with granted := [(.debugNonce, [1])] } }
    dbgActs (s 3) = true ∧ (s 3).tkr.fails.toNat < 4 ∧ (s 3).boot.phase ≠ .otp ∧ grantedTo (s 3) .debugNonce = 1 :: [] ∧ 4 ≤ (s 4).tkr.fails.toNat ∧
    (grantedTo (at_ .ready) .debugNonce = [] ∧ (at_ .ready).ent.queue = [] ∧ (at_ .ready).tkr.nonce = none) ∧
    (s 3).tkr.nonce = some (zeros 32) ∧ feedActive (s 3) = false ∧ debugOk (s 3) (zeros 32) [] = (s 3).tkr.allow ∧
    debugOk { s 3 with tkr := { (s 3).tkr with allow := false } } (zeros 32) [] = false ∧
    debugOk { s 3 with tkr := { (s 3).tkr with allow := true } } (zeros 32) [] = true ∧ (s 3).mrb.fenced = false ∧ (s 3).mrb.queue = [] := by decide

/-! ### Memory opcodes, lines and channels -/

/-- Witness: MemoryOpcodesAnswer: each opcode runs; an operand in the last line of channel 3. -/
theorem witness_memops : let s (d : Desc) (b : List Byte) : State := powered (work (req d b [] none))
    let copy := desc 0x80 0 0 0 0 0 0x1000 0x2000 16 16 0 0 0
    let fill := desc 0x81 0 0 2 0 0 0 0x3FFFFFE00 0 512 0 0 0
    let read (n : Nat) := desc 0x85 0 2 0 0 0 0x3FFFFFFF8 0 8 n 0 0 0
    let add := desc 0x84 0 2 0 0 0 0x3FFFFFFF8 0 8 0 0 0 1
    let line := desc 0x86 0 0 2 0 0 0x1000 0x3FFFFFE00 512 512 0 0 0
    let flush := desc 0x88 0 0 2 0 0 0 0x3FFFFFE00 0 512 0 0 0
    (RunsOn (s copy src16) 0 0x80 (req copy src16 [] none) src16 ∧ copyOverlaps copy = false ∧ tooLongOut copy 16 = false) ∧
    (RunsOn (s fill []) 0 0x81 (req fill [] [] none) [] ∧ tooLongOut fill fill.dstLen = false) ∧
    (RunsOn (s (read 8) []) 0 0x85 (req (read 8) [] [] none) (zeros 8) ∧ (read 8).dstLen ≠ 0 ∧ tooLongOut (read 8) 8 = false ∧
      RunsOn (s (read 0) []) 0 0x85 (req (read 0) [] [] none) (zeros 8) ∧ (read 0).dstLen = 0) ∧
    (RunsOn (s add []) 0 0x84 (req add [] [] none) (zeros 8) ∧ redReady (s add []) add.src = true ∧ add.dstLen = 0 ∧ add.src % 8 = 0 ∧
      InOneLine (s add []) add.src 8) ∧
    (RunsOn (s line (zeros 512)) 0 0x86 (req line (zeros 512) [] none) (zeros 512) ∧ accessHeld (s line []) line.dst = false ∧
      coPoisoned (s line []) line.dst 512 = false ∧ redReady (s line []) line.dst = true ∧ line.dst % 512 = 0 ∧ InOneLine (s line []) line.dst 512) ∧
    (RunsOn (s flush []) 0 0x88 (req flush [] [] none) [] ∧ accessHeld (s flush []) flush.dst = false ∧
      (linesIn (s flush []) flush.dst flush.dstLen).all (flushable true) = true) := by unfold RunsOn InOneLine; decide

/-- A cached line 0 in a state. -/
def cached (st : LineState) : Line :=
  { line := 0, state := st, owner := some 0, writer := none, type := 0, foreign := false, valid := 0xFF, dirty := 0, poison := 0, data := 0, presence := 0, acks := 0,
    writes := [], since := 0, fills := [], evict := false, lastUse := 0 }
/-- The Manger with one line. -/
def lined (x : Line) : State := putLine (powered (at_ .ready)) x

/-- Witness: LinesAndSlicesAct, a miss of the last line. -/
theorem witness_miss : let s := setStall (powered (at_ .ready)) 0 fun x => { x with lines := 1 }
    let l : LineNo := 0x1FFFFFF
    findLine s l = none ∧ s.mcs[lineChan l].state ≠ .fenced ∧ accessHeld s (lineAddr l) = false ∧ homeSlice s l = some 14 ∧
    atCapacity s (some 0) l = false ∧ missFree s 14 .read = true ∧ (setLines s l).length < 16 := by decide
theorem witness_lines : let c (x : Line) : State := setUnit (lined x) 55 fun y => { y with crib := [{ line := 0, data := 0, poison := 0 }] }
    (findLine (lined (cached .filling)) 0 = some (cached .filling) ∧ (lined (cached .filling)).mgr.missWaiting = [] ∧
      (lined (cached .filling)).mcs[lineChan 0].state ≠ .fenced) ∧
    findLine (lined (cached .writeback)) 0 = some (cached .writeback) ∧
    findLine (lined { cached .writeback with evict := true }) 0 = some { cached .writeback with evict := true } ∧
    ((c (cached .clean)).units[(55 : UnitId)].crib.any fun y => decide (y.line = 0)) = true ∧
    findLine (c { cached .invalidating with acks := 1 }) 0 = some { cached .invalidating with acks := 1 } ∧
    (pdPowered (lined { cached .clean with type := 2 }) (unitPd 55) = true ∧ (lined { cached .clean with type := 2 }).units[(55 : UnitId)].crib = []) := by
  decide
/-- Witness: MemoryOpcodesAnswer: a COPY that overlaps, a line that cribs hold, a poisoned one. -/
theorem witness_memops_more : copyOverlaps (desc 0x80 0 2 2 0 0 0x1000 0x1008 16 16 0 0 0) = true ∧
    redReady (lined { cached .clean with presence := 1 }) 0 = false ∧ coPoisoned (lined { cached .clean with poison := 1 }) 0 512 = true := by decide
/-- Witness: LinesAndSlicesAct, repartition and slice errors: slice 15. -/
theorem witness_slices : let s := powered (at_ .ready)
    let r (p : Repart) : State := { s with mgr := { Mgr.reset with repart := Mgr.reset.repart.set 3 p } }
    sliceWill s.mgr.slices[(15 : SliceId)] = (false, 0) ∧ sliceWill s.mgr.slices[(15 : SliceId)] ≠ (true, 63) ∧ (∀ g : ChanId, s.mgr.repart[g] = .none) ∧
    (repartIn (r .clean) .clean = some 3 ∧ (r .clean).mgr.lines = []) ∧
    (repartIn (r .swap) .swap = some 3 ∧ (r .swap).mgr.held = [] ∧ (r .swap).mgr.missWaiting = [] ∧ repartIn (r .swap) .pending = none ∧
      ∀ k ∈ groupSlices 3, (r .swap).mgr.slices[k].held = none) ∧ s.mgr.slices[(15 : SliceId)].fenced = false := by decide

/-- READY with every channel in a state, of 4 GiB. -/
def chans (st : McState) : State :=
  { powered (at_ .ready) with mcs := Vector.replicate 4 { Mc.reset with state := st, density := 6, trained := true } }
/-- READY with the table area in channel 3. -/
def tabled : State := { chans .run with tableOk := true, dram := { (chans .run).dram with tableChan := some 3 } }
/-- Witness: SignatureOpcodesAnswer and AgreementOpcodesAnswer: a part with tables in memory, and one without. -/
theorem witness_tables (d : Desc) : noTables tabled d = false ∧ noTables (at_ .ready) d = true := by
  refine ⟨?_, rfl⟩
  have run : ∀ g : ChanId, tabled.mcs[g].state = .run := by decide
  have on : ∀ g : ChanId, pdOn tabled (groupPd g) = true := by decide
  have good : ∀ a, coPoisoned tabled a 512 = false := by
    intro a
    simp [coPoisoned, coBad, findLine, tabled, chans, powered, at_, State.reset, Mgr.reset]
  unfold noTables
  simp [on, good]
  refine ⟨⟨rfl, rfl⟩, fun l _ => ?_⟩
  have := run (lineChan l)
  simpa using this
/-- Witness: ChannelsAndScrubberAct: the greatest density, the last page of the usable capacity. -/
theorem witness_channels : let s := { chans .run with mcs := (chans .run).mcs.set 3 { (chans .run).mcs[3] with repairQ := [1] } }
    (6 : BitVec 3).toNat ≤ 6 ∧ (chans .training).mcs[(3 : ChanId)].state = .training ∧ ((chans .filling).mcs[(3 : ChanId)].state = .filling ∧ (chans .filling).mgr.held = []) ∧
    s.mcs[(3 : ChanId)].state = .run ∧ pageOk s 3 (usable s.mcs[(3 : ChanId)] / 2048 - 1) = true ∧ pageOk s 3 (usable s.mcs[(3 : ChanId)] / 2048) = false ∧
    256 ≤ s.mcs[(3 : ChanId)].ceThresh.toNat ∧ s.mcs[(3 : ChanId)].repairQ = 1 :: [] ∧
    (bit s.scb.dramEn 3 = true ∧ pageOk s 3 s.scb.sweeps[chanSweep 3].pos = true) ∧ s.scb.sramEn = true ∧ s.scb.dramMin ≠ 0 ∧
    s.scb.sweeps[(3 : Fin 5)].overdue = false ∧ (setSweep s 3 fun x => { x with overdue := true }).scb.sweeps[(3 : Fin 5)].overdue = true := by decide
/-- Witness: LinesAndSlicesAct: a line in each state, with nothing held; one that its crib has, and one of a type that cribs take. -/
theorem witness_lines_more : let c (x : Line) : State := setUnit (lined x) 55 fun y => { y with crib := [{ line := 0, data := 0, poison := 0 }] }
    (cached .filling).writes = [] ∧ (cached .filling).fills = [] ∧ (findLine (lined (cached .clean)) 0).isSome = true ∧
    findLine (c { cached .invalidating with acks := 2 }) 0 = some { cached .invalidating with acks := 2 } ∧
    ({ cached .dirty with type := 2 } : Line).type = 2 ∧ (chans .fenced).mcs[lineChan 0].state = .fenced ∧
    (let s := powered (at_ .ready)
     (WritesServed s .pf0 ∧ sliceMay s .pf0 15 true 63 = true ∧ sliceMay { s with mgr := { Mgr.reset with nmSlices := 0 } } .pf0 15 true 63 = false) ∧
     needsLines (req (desc 0x5C 0 0 0 0 0 0x1000 0x2000 776 257 0 0 0) [] [] none) = true) := by unfold WritesServed; decide

/-! ### Power and the window -/

/-- READY with domain 47 in a state of its register. -/
def dom (x : Pd) : State := { powered (at_ .ready) with pds := (powered (at_ .ready)).pds.set 47 x }
/-- Witness: PowerDomainsAct, requests. -/
theorem witness_power : let s := dom { Pd.reset with state := .on }
    let b := { s with reqs := [req hashDesc [] [] none], units := s.units.set 47 { UnitState.reset with run := some 0 } }
    let w := { b with stalls := b.stalls.set 0 { (Stall.reset 0) with secure := true } }
    let o (st : PdState) : State := dom { Pd.reset with state := st, offReq := true }
    let f := { s with units := vmapIdx (fun u x => { x with fenced := decide (33 ≤ u.val ∧ u.val < 47) }) s.units }
    (WritesServed s .pf0 ∧ s.boot.phase = .ready ∧ s.pds[(47 : PdId)].fail = false ∧ s.pds[(47 : PdId)].offReq = false ∧ bit s.pwr.pin 47 = false ∧
      breaksMin s 47 = false ∧ s.pds[(47 : PdId)].state = .on ∧ secureState (holdZero s 47) 47 = 0 ∧ drainLeft s 47 = false) ∧
    (secureState (holdZero b 47) 47 = 0 ∧ drainLeft b 47 = true) ∧ (pdUnit 47 = some 47 ∧ w.units[(47 : UnitId)].run = some 0 ∧ secureReq w 0 = true ∧ secureState (holdZero w 47) 47 = 1) ∧
    breaksMin f 47 = true ∧ (dom { Pd.reset with state := .on, fail := true }).pds[(47 : PdId)].fail = true ∧
    bit ({ s with pwr := { Pwr.reset with pin := BitVec.allOnes 63 } } : State).pwr.pin 47 = true ∧
    ((o .off).pds[(47 : PdId)].offReq = true ∧ (o .off).pds[(47 : PdId)].state = .off) ∧
    ((o .draining).pds[(47 : PdId)].state = .draining ∧ (o .draining).pds[(47 : PdId)].blockReset = false ∧
      secureState (holdZero (o .draining) 47) 47 = 0 ∧ drainLeft (o .draining) 47 = false) ∧
    ((o .secureHold).pds[(47 : PdId)].state = .secureHold ∧ secureState (holdZero (o .secureHold) 47) 47 = 0) := by
  unfold WritesServed; decide
/-- Witness: PowerDomainsAct: the end of a transition of a unit's, a group's and a source's domain; a group awaited, and one
with reserved lines. -/
theorem witness_transitions : let o (st : PdState) : State := dom { Pd.reset with state := st, offReq := true }
    let s := chans .selfRefresh
    let a := { s with mgr := { Mgr.reset with missWaiting := [(0x1800000, none, .read)] } }
    let r := { s with mgr := { Mgr.reset with resv := [{ slice := 15, stall := 0, who := .chain 0, lines := 1 }] } }
    ((o .poweringDown).pds[(47 : PdId)].state = .poweringDown ∧ offWanted (o .poweringDown).pds[(47 : PdId)] = true ∧
      offWanted { (o .poweringDown).pds[(47 : PdId)] with cancelled := true } = false ∧ (o .poweringDown).mgr.held = []) ∧
    (offWanted (dom { Pd.reset with state := .waking }).pds[(47 : PdId)] = false ∧ secureState (holdZero (o .waking) 47) 47 = 0 ∧
      drainLeft (o .waking) 47 = false) ∧
    (pdUnit 55 = some 55 ∧ pdGroup 59 = some 3 ∧ pdNs 61 = some 1 ∧ pdUnit 56 = none ∧ pdGroup 60 = none ∧ pdNs 62 = none) ∧
    (s.mcs[(3 : ChanId)].state = .selfRefresh ∧ (chans .off).mcs[(3 : ChanId)].state = .off ∧ (chans .off).mcs[(3 : ChanId)].enable = true) ∧
    (groupAwaited s 3 = false ∧ groupAwaited a 3 = true ∧ groupReserved s 3 = 0 ∧ groupReserved r 3 = 1) ∧
    (dom Pd.reset).pds[(47 : PdId)].state = .off ∧ feedActive s = false ∧ (noisy .run { Ent.reset with state := .run }).ent.state ≠ .fenced := by decide
theorem witness_demand : let s := { at_ .ready with pds := Vector.replicate 64 Pd.reset }
    s.pds[groupPd 3].state = .off ∧ s.pds[groupPd 3].fail = false := by decide

/-- The Paddock Table with one entry that grants every page of every stall. -/
def granted (s : State) (rd wr : Bool) : State :=
  let e : PkEntry := { PkEntry.reset with valid := true, limit := BitVec.allOnes 22, mask := BitVec.allOnes 64, win := true, rd := rd, wr := wr, red := true }
  { s with pdk := { Pdk.reset with live := Pdk.reset.live.set 255 e } }
/-- A page that one entry of the table alone hits has that entry's grant. -/
theorem page_of_one {s : State} {page : Nat} {who : Option StallId} {live : Vector PkEntry 256} {k : Fin 256}
    (ho : outside s (page * 4096) = false) (ht : inTable s (page * 4096) = false) (hf : s.mcs[chanOf (page * 4096)].state ≠ .fenced)
    (hl : tableOf s s.pdk.epoch = live) (hits : ((List.finRange 256).filter fun k => pkHits live[k] page who) = [k]) :
    pkPage s page who = .grant live[k].rd live[k].wr live[k].red live[k].type := by
  unfold pkPage pkPageAt
  simp only [hl, hits]
  simp [ho, ht]
  exact hf
/-- The one entry of `granted` hits the pages that it names, and no other entry does. -/
theorem granted_page {s : State} {rd wr : Bool} {page : Nat} (hp : page ≤ 0x3FFFFF) (ho : outside s (page * 4096) = false)
    (ht : inTable s (page * 4096) = false) (hf : s.mcs[chanOf (page * 4096)].state ≠ .fenced) :
    pkPage (granted s rd wr) page none = .grant rd wr true 0 := by
  have hits : ((List.finRange 256).filter fun k => pkHits (granted s rd wr).pdk.live[k] page none) = [255] := by
    have : (fun k : Fin 256 => pkHits (granted s rd wr).pdk.live[k] page none) = fun k => decide (k = 255) := by
      funext k
      by_cases e : k = 255
      · subst e; simp [granted, pkHits, PkEntry.reset, Pdk.reset, hp]
      · have : (255 : Nat) ≠ k.val := fun c => e (Fin.ext c.symm)
        simp [granted, pkHits, PkEntry.reset, Pdk.reset, e, Vector.getElem_set_ne _ _ this]
    rw [this]
    decide
  have o : outside (granted s rd wr) (page * 4096) = false := ho
  have i : inTable (granted s rd wr) (page * 4096) = false := ht
  have f : (granted s rd wr).mcs[chanOf (page * 4096)].state ≠ .fenced := hf
  rw [page_of_one o i f (if_pos rfl) hits]
  simp [granted, PkEntry.reset]
/-- An access of one page passes where the page gives its right. -/
theorem check_of_page {s : State} {who : Option StallId} {a n : Nat} {r : Need} {p : Nat} (hp : pagesOf a n = [p])
    (h : (pkPage s p who).gives r = true) : pkCheck s who [{ addr := a, len := n, need := r }] = .ok := by
  have h' : (pkPageAt s s.pdk.epoch p who).gives r = true := h
  unfold pkCheck pkCheckAt
  simp [hp, h']
/-- An access of one page whose grant lacks its right is denied. -/
theorem check_denied {s : State} {who : Option StallId} {a n : Nat} {r : Need} {p : Nat} (hp : pagesOf a n = [p])
    (h : (pkPage s p who).gives r = false) (hc : (pkPage s p who).isConflict = false) :
    pkCheck s who [{ addr := a, len := n, need := r }] = .denied p := by
  have h' : (pkPageAt s s.pdk.epoch p who).gives r = false := h
  have hc' : (pkPageAt s s.pdk.epoch p who).isConflict = false := hc
  unfold pkCheck pkCheckAt
  simp [hp, h', hc', lowerPage]
/-- Witness: WindowAccessesAct and StoresLandAtTheirAddressOnly: granted to the window's last byte; a channel in its fill, and a
group that is OFF; and denied there. -/
theorem witness_window : ∀ s ∈ [chans .run, chans .filling, { chans .selfRefresh with pds := Vector.replicate 64 Pd.reset }],
    ∀ r ∈ [Need.rd, .wr], pkCheck (granted s true true) none [{ addr := 0xFFFFFFF, len := 1, need := r }] = .ok ∧
      pkCheck (granted s false false) none [{ addr := 0xFFFFFFF, len := 1, need := r }] = .denied 0xFFFF := by
  intro s hs r hr
  have side : outside s (0xFFFF * 4096) = false ∧ inTable s (0xFFFF * 4096) = false ∧ s.mcs[chanOf (0xFFFF * 4096)].state ≠ .fenced := by
    simp only [List.mem_cons, List.not_mem_nil, or_false] at hs
    rcases hs with rfl | rfl | rfl <;> decide
  have page (rd wr : Bool) := granted_page (rd := rd) (wr := wr) (by decide) side.1 side.2.1 side.2.2
  simp only [List.mem_cons, List.not_mem_nil, or_false] at hr
  refine ⟨check_of_page (p := 0xFFFF) (by decide) ?_, check_denied (p := 0xFFFF) (by decide) ?_ ?_⟩ <;> rw [page] <;> rcases hr with rfl | rfl <;> rfl
/-- Witness: WindowAccessesAct: the premises beside the Paddock Table. -/
theorem witness_window_state : let s := granted (chans .run) true true
    let f := granted (chans .filling) true true
    let o := granted { chans .selfRefresh with pds := Vector.replicate 64 Pd.reset } true true
    let a := s.link.winBase.toNat * 0x10000000 + (0xFFFFFFF : BitVec 28).toNat
    a = 0xFFFFFFF ∧ (fnState s .pf0).d3hot = false ∧ (fnState s .pf0).flr = false ∧ s.boot.phase ≠ .bootFailed ∧
    (notFilled s a = false ∧ accessHeld s a = false ∧ InOneLine s a 1) ∧ (notFilled f a = true ∧ accessHeld f a = false) ∧
    (notFilled o a = false ∧ accessHeld o a = true) ∧ s.pdk.denyLog.valid = false := by unfold InOneLine; decide +kernel
/-- Witness: StoresLandAtTheirAddressOnly: no other chain has written, and one has written byte 1 of two. -/
theorem witness_raced : let q := ended hashDesc [{ dest := .locl 0x1000, bytes := [1, 2] }]
    let o : Req := { req hashDesc [] [] none with id := 1, chain := 1, wrote := [(0x1001, 1)] }
    (∀ x ∈ (powered (work q)).reqs, x.chain ≠ q.chain → x.wrote = []) ∧
    racedBytes { powered (work q) with reqs := [q, o] } q 0x1000 [1, 2] = [1, Config.freeByte 1] := by
  refine ⟨by decide, ?_⟩
  rfl
/-- Witness: PaddockGrantsTheTopPriority: page 0 installed; a match of top priority; two that differ. -/
theorem witness_paddock : let s := granted (chans .run) true false
    let t := { s with pdk := { s.pdk with live := s.pdk.live.set 0 { s.pdk.live[255] with rd := false } } }
    installed s 0 = true ∧ inTable s 0 = false ∧ s.mcs[chanOf 0].state ≠ .fenced ∧ pkHits s.pdk.live[(255 : Fin 256)] 0 none = true ∧
    pkHits s.pdk.live[(0 : Fin 256)] 0 none = false ∧ pkHits t.pdk.live[(0 : Fin 256)] 0 none = true ∧ t.pdk.live[(0 : Fin 256)].prio ≤ t.pdk.live[(255 : Fin 256)].prio ∧
    t.pdk.live[(0 : Fin 256)].rd ≠ t.pdk.live[(255 : Fin 256)].rd ∧ pkCheck t none [{ addr := 0, len := 1, need := .rd }] = .conflict 0 0 := by decide +kernel
/-- Witness: StoresLandAtTheirAddressOnly: the premises on the Manger and memory, with a dirty line. -/
theorem witness_settled : let s := lined { cached .dirty with dirty := 0x80 }
    LinesSettled s ∧ MemoryCanonical s ∧ Quiet s := by unfold LinesSettled MemoryCanonical Quiet; decide

/-! ### Stalls and protection -/

/-- Witness: StallCommandsAct: each state of a stall, both worlds. -/
theorem witness_stalls : (∀ st : StallState, (ringed st id).stalls[(0 : StallId)].state = st ∧ (ringed st id).stalls[(0 : StallId)].secure = false) ∧
    WritesServed (ringed .free id) .pf0 ∧ stallRings (at_ .ready) 63 = [] ∧ (∀ q ∈ (ringed .quiescing id).reqs, q.stall ≠ 0) ∧
    (6 : BitVec 4).toNat = 6 ∧ (setStall (at_ .ready) 63 fun x => { x with secure := true }).stalls[(63 : StallId)].secure = true ∧
    (ringed .resetting id).rings[(0 : RingId)].owner = some 0 ∧ (ringed .resetting id).rings[(255 : RingId)].owner ≠ some 0 := by
  refine ⟨fun st => ?_, ?_⟩
  · cases st <;> decide +kernel
  · unfold WritesServed; decide
/-- Witness: StallResourcesAct, DSP_ALARM_TB: BURST 32 within the budgets, 1 beyond that of the Normal world, 33. -/
theorem witness_alarm_budget :
    let s := ringed .active id
    let m := { s with disp := { s.disp with normalAlarmMax := 0 } }
    (WritesServed s .pf0 ∧ WritesServed m .pf0 ∧ s.stalls[(0 : StallId)].secure = false ∧ m.stalls[(0 : StallId)].secure = false) ∧
    (field (32 : BitVec 64) 0 6 : BitVec 6).toNat = 32 ∧ burstSum s 0 (fun _ => true) + 32 ≤ 32 ∧
    burstSum s 0 (fun k => !s.stalls[k].secure) + 32 ≤ s.disp.normalAlarmMax.toNat ∧
    (field (1 : BitVec 64) 0 6 : BitVec 6).toNat = 1 ∧
    ¬ burstSum m 0 (fun k => !m.stalls[k].secure) + 1 ≤ m.disp.normalAlarmMax.toNat ∧
    (field (33 : BitVec 64) 0 6 : BitVec 6).toNat = 33 := by unfold WritesServed; decide +kernel
/-- Witness: ChipResetAppliesChipColumn: a powered device that PERST_N holds. -/
theorem witness_perst : State.reset.boot.perst = true ∧ State.reset.boot.powered = true := by decide
/-- Witness: StallResourcesAct: ring 0 of the stall, drained and not; ring 255 of none; entry 7 free and entry 0 in use; a FREE
stall without rings. -/
theorem witness_resources :
    ((ringed .active id).rings[(255 : RingId)].owner = none ∧ (ringed .active id).rings[(0 : RingId)].owner = some 0 ∧
      drained (ringed .active id) 0 = true ∧ drained ringedOn 0 = false) ∧
    (stallRings (ringed .active id) 0).length < 32 ∧ stallRings (ringed .free id) 1 = [] ∧
    pasidUsed (ringed .active id) 0 7 = false ∧ pasidUsed ringedOn 0 0 = true := by
  have a := ringed_stallRings .active id rfl
  have e : stallRings ringedOn 0 = [0] := (ringed_stallRings .active (fun x => { x with enable := true }) rfl).1
  have r : ringedOn.rings[(0 : RingId)] = { Ring.reset with owner := some 0, enable := true } := by
    simp only [ringedOn, ringed_ring, if_true]
  refine ⟨⟨?_, ?_, ?_, ?_⟩, ?_, (ringed_stallRings .free id rfl).2 1 (by decide), ?_, ?_⟩
  · simp only [ringed_ring]; rfl
  · simp only [ringed_ring]; rfl
  · simp only [drained, ringed_ring]; rfl
  · simp only [drained, r]; rfl
  · rw [a.1]; decide
  · simp only [pasidUsed, a.1, List.any_cons, List.any_nil, ringed_ring]; rfl
  · simp only [pasidUsed, e, List.any_cons, List.any_nil, r]; rfl
/-- Witness: StallResourcesAct: 32 rings of stall 0. -/
theorem witness_rings_full : let s := ringed .active id
    (stallRings { s with rings := vmapIdx (fun r y => if r.val < 32 then { y with owner := some 0 } else y) s.rings } 0).length = 32 := by
  intro s
  have : (fun r : RingId => decide ((vmapIdx (fun (r : RingId) (y : Ring) => if r.val < 32 then { y with owner := some 0 } else y) s.rings)[r].owner = some (0 : StallId)))
      = fun r : RingId => decide (r.val < 32) := by
    funext r
    simp only [vmapIdx, Fin.getElem_fin, Vector.getElem_ofFn]
    have q : s.rings[r.val] = if r = 0 then id { Ring.reset with owner := some 0 } else Ring.reset := ringed_ring .active id r
    by_cases e : r.val < 32
    · simp [e]
    · have : r ≠ 0 := by rintro rfl; exact e (by decide)
      simp [e, q, this, Ring.reset]
  unfold stallRings
  rw [this]
  decide
/-- Witness: StallResourcesAct: the states of a stall, its entry, and both sides of its capacity. -/
theorem witness_capacity : let s := ringed .active id
    let x := lined (cached .clean)
    (s.stalls[(0 : StallId)].state ≠ .resetting ∧ s.stalls[(0 : StallId)].state ≠ .free ∧ (ringed .free id).stalls[(1 : StallId)].state = .free) ∧
    s.stalls[(0 : StallId)].aborted = [] ∧ (setStall s 0 fun y => { y with secure := true }).stalls[(0 : StallId)].secure = true ∧
    (bit (0x80000000 : BitVec 32) 31 = true ∧ field (0x80000000 : BitVec 32) 0 20 = s.stalls[(0 : StallId)].pasid[(0 : Fin 8)] ∧ bit (0 : BitVec 32) 31 = false) ∧
    reserved s 0 + cachedLines s 0 ≤ effCap s 0 ∧ effCap x 0 < reserved x 0 + cachedLines x 0 := by decide +kernel

/-- Witness: ProtectionEpochsAct: three and four undrained epochs, a held commit, a fence. -/
def epochs (n : Nat) : State :=
  { at_ .ready with pdk := { Pdk.reset with epoch := BitVec.ofNat 16 n },
                    reqs := (List.range n).map fun k => { req hashDesc [] [] none with id := k, epoch := BitVec.ofNat 16 k } }
theorem undrained_epochs (n : Nat) : undrained (epochs n) = (BitVec.ofNat 16 n :: (List.range n).map fun k => BitVec.ofNat 16 k).dedup := by
  have h : ((epochs n).stalls.toList.flatMap fun st => st.aborted.map (·.epoch)) = [] := by
    rw [List.flatMap_eq_nil_iff]
    intro st hst
    simp only [epochs, at_, State.reset, Vector.mem_toList_iff, Vector.mem_ofFn] at hst
    obtain ⟨i, rfl⟩ := hst
    rfl
  unfold undrained
  rw [h]
  simp [epochs, at_, State.reset, Mgr.reset, Function.comp_def]
/-- Witness: ProtectionEpochsAct: PENDING set and clear; a later fence target; a fence under way and none. -/
theorem witness_epochs : let p := { at_ .ready with pdk := { Pdk.reset with pending := true } }
    let e := { at_ .ready with pdk := { Pdk.reset with evaluating := true, irq := true } }
    (WritesServed (epochs 2) .pf1 ∧ WritesServed (epochs 2) .pf0 ∧ (epochs 2).pdk.pending = false ∧ (epochs 2).pdk.evaluating = false) ∧
    p.pdk.pending = true ∧ p.pdk.heldCommit = none ∧ e.pdk.evaluating = true ∧ e.pdk.irq = true ∧
    earlier (field (2 : BitVec 32) 0 16) (epochs 2).pdk.epoch = false ∧ earlier (field (3 : BitVec 32) 0 16) (epochs 2).pdk.epoch = true := by
  unfold WritesServed; decide
theorem witness_epochs_full : (undrained (epochs 2)).length = 3 ∧ (undrained (epochs 3)).length = 4 := by
  simp only [undrained_epochs]
  rw [List.Nodup.dedup (by simp [List.range_succ]), List.Nodup.dedup (by simp [List.range_succ])]
  decide
/-- A commit held for epoch 0 waits there, and one held for epoch 7 applies. -/
theorem witness_epochs_held : (0 : BitVec 16) ∈ undrained (epochs 3) ∧ (7 : BitVec 16) ∉ undrained (epochs 3) := by
  simp only [undrained_epochs, List.mem_dedup]; decide
/-- No epoch of three is earlier than 0; epoch 0 is earlier than 1. -/
theorem witness_epochs_fence : (∀ e ∈ undrained (epochs 2), earlier 0 e = false) ∧ ∃ e ∈ undrained (epochs 2), earlier 1 e = true := by
  simp [undrained_epochs, earlier, List.range_succ]

/-! ### Tamper, monitors, events, Halter -/

/-- READY with input 8, or 0, in a state. -/
def tampered (n : InputId) (x : TmpIn) : State := setIn (at_ .ready) n fun _ => x
/-- Witness: TamperInputsAct: the 32nd edge of a window, and each state. -/
theorem witness_tamper : let x (st : TmpState) : TmpIn := { TmpIn.reset 8 with en := true, state := st, windowCount := 31 }
    ((x .idle).windowCount + 1 ≤ (x .idle).chatterCount.toNat ∧ (x .idle).active = true) ∧
    (∀ st : TmpState, (tampered 8 (x st)).tmp.inp[(8 : InputId)].state = st) ∧
    (tampered 8 { x .chatter with level := false }).tmp.inp[(8 : InputId)].level ≠ (x .chatter).active ∧
    ((tampered 8 { x .chatter with level := true, raised := true }).tmp.inp[(8 : InputId)].level = (x .chatter).active) ∧
    ((tampered 8 { x .asserted with raised := true }).tmp.inp[(8 : InputId)].stuck = false) ∧
    effResp (tampered 7 { TmpIn.reset 7 with state := .asserted, resp := 1 }) 7 = true ∧ effResp (at_ .ready) 8 = false := by
  refine ⟨by decide, fun st => ?_, by decide⟩
  cases st <;> decide
/-- Witness: TamperInputsAct: the 31st and the 32nd edge of a window of 31, the first edge of the next, each state, an input
without power. -/
theorem witness_tamper_inputs : let x (st : TmpState) (n : Nat) : TmpIn :=
      { TmpIn.reset 8 with en := true, state := st, windowCount := n, windowLimit := 31, chatterCount := 4 }
    let limit (y : TmpIn) := if y.windowCount = 0 then y.chatterCount else y.windowLimit
    (at_ .ready).boot.powered = true ∧ (x .idle 30).windowCount + 1 ≤ (limit (x .idle 30)).toNat ∧
    (limit (x .idle 31)).toNat < (x .idle 31).windowCount + 1 ∧ (limit (x .idle 0)).toNat = 4 ∧
    (x .idle 31).chatTamper = true ∧ ({ x .idle 31 with chatTamper := false } : TmpIn).chatTamper = false ∧
    ({ at_ .ready with boot := { Boot.reset with powered := false } } : State).boot.powered = false ∧ (x .asserted 0).stuck = false ∧
    ({ x .asserted 0 with raised := true } : TmpIn).raised = true := by decide
/-- Witness: TamperControlActs: inputs 3, 4 and 8; an acknowledgement that leaves nothing and one of an asserted input; a
write under way to the battery section; the samples with and without supply. -/
theorem witness_tamper_control : let s := at_ .ready
    let l := { s with tmp := { Tmp.reset with latch := 0x80, lost := true, extLock := true } }
    let a := { l with tmp := { l.tmp with inp := l.tmp.inp.set 7 { TmpIn.reset 7 with state := .asserted } } }
    (WritesServed s .pf1 ∧ s.tmp.inp[(4 : InputId)].lock = false ∧ s.tmp.inp[(4 : InputId)].en = false ∧ bit (1 : BitVec 64) 0 = true ∧
      (setIn s 3 fun x => { x with lock := true }).tmp.inp[(3 : InputId)].lock = true) ∧
    (let e := tampered 8 { TmpIn.reset 8 with en := true, state := .idle, level := false }
     e.tmp.inp[(8 : InputId)].en = true ∧ e.tmp.inp[(8 : InputId)].active ≠ bit (1 : BitVec 64) 1) ∧
    (field (0x7AC103FF : BitVec 32) 16 16 = (0x7AC1 : BitVec 16) ∧
      (∃ t, exec (.tmpAck .pf1 0x7AC103FF) l = .next t ∧ t.tmp.latch = 0 ∧ t.tmp.lost = false ∧ t.tmp.extLock = false) ∧
      ∃ t, exec (.tmpAck .pf1 0x7AC103FF) a = .next t ∧ t.tmp.latch = 0x80 ∧ t.tmp.ackErr = true) ∧
    ({ s with tmp := { Tmp.reset with vbWrites := [1] } } : State).tmp.vbWrites = 1 :: [] ∧ s.tmp.vbWrites = [] ∧
    s.tmp.vbSampling = true ∧ ({ s with tmp := { Tmp.reset with vbSampling := false } } : State).tmp.vbSampling = false := by
  unfold WritesServed
  exact ⟨by decide, by decide, ⟨by decide, ⟨_, rfl, by decide, by decide, by decide⟩, _, rfl, by decide, by decide⟩, by decide⟩
/-- Witness: TamperControlActs, the sample that reaches the filter count of 4. -/
theorem witness_battery : let s := { at_ .reset with tmp := { Tmp.reset with vbEn := 8, vbCount := Vector.replicate 4 3 } }
    bit s.tmp.vbEn (3 : Fin 4).val = true ∧ bit (0 : BitVec 4) (3 : Fin 4).val = bit s.tmp.vbActive (3 : Fin 4).val ∧
    s.tmp.vbFilter.toNat ≤ s.tmp.vbCount[(3 : Fin 4)] + 1 ∧ bit (8 : BitVec 4) (3 : Fin 4).val ≠ bit s.tmp.vbActive (3 : Fin 4).val ∧
    s.tmp.vbSampling = true := by decide
/-- Witness: MonitorsAct: the two sides of the base temperature, 118 degrees, the exits of levels 1 to 3, CORE_CLK armed and not. -/
theorem witness_monitors : let s := at_ .ready
    let l (k : BitVec 2) (b : Bool) : State := { s with pwr := { s.pwr with level := k, below := b } }
    s.pwr.level = 0 ∧ s.boot.clkMon = false ∧ ({ s with boot := { s.boot with clkMon := true } } : State).boot.clkMon = true ∧
    (1887 : BitVec 16).toInt < 16 * (s.pwr.thrBase.toNat : Int) ∧ 16 * (s.pwr.thrBase.toNat : Int) ≤ (1888 : BitVec 16).toInt ∧
    (1935 : BitVec 16).toInt < 16 * (s.pwr.thrBase.toNat : Int) + 48 ∧
    ((l 1 true).pwr.level.toNat = 1 ∧ (l 1 true).pwr.below = true ∧ (1839 : BitVec 16).toInt < 16 * (s.pwr.thrBase.toNat : Int) - 48 ∧
      16 * (s.pwr.thrBase.toNat : Int) - 48 ≤ (1840 : BitVec 16).toInt) ∧
    ((l 3 false).pwr.level.toNat = 3 ∧ (l 3 false).pwr.below = false ∧ (1919 : BitVec 16).toInt < 16 * (s.pwr.thrBase.toNat : Int) + 32) := by decide

/-- Witness: EventsAct: sources that both functions, and PF1 alone, take; own and aliased entries; the greatest vectors; no
message to select; a buffer of 512 writes. -/
theorem witness_events : let s := at_ .ready
    let m := setStall s 0 fun x => { x with secure := true }
    evAllowed s .pf1 288 = true ∧ evAllowed s .pf0 288 = true ∧ evAllowed s .pf0 0 = true ∧ evAllowed s .pf1 0 = false ∧ evAllowed s .pf1 319 = false ∧
    WritesServed s .pf0 ∧ WritesServed s .pf1 ∧ routeTarget s .pf1 319 false = some .pf1 ∧ routeTarget s .pf1 0 true = some .pf0 ∧
    routeTarget m .pf1 0 true = none ∧ routeTarget m .pf0 0 false = none ∧ routeTarget s .pf0 0 true = none ∧
    (field (0x13FF : BitVec 64) 0 10 : BitVec 10).toNat = 1023 ∧ (255 : BitVec 10).toNat ≤ 255 ∧ 255 < (256 : BitVec 10).toNat := by
  unfold WritesServed; decide
/-- With nothing pending, no message is noted and none selected. -/
theorem nothing_selected {s : State} (h : ∀ f k, (evSrc s f k).pending = false) (f : Fn) : evPick (noteAllEv s) f = none := by
  have a : noteAllEv s = s := by
    unfold noteAllEv
    induction List.finRange 320 with
    | nil => rfl
    | cons k l ih => simp only [List.foldl_cons, h, Bool.false_eq_true, if_false]; exact ih
  have b : (List.finRange 320).filter (evEligible s f) = [] := by
    rw [List.filter_eq_nil_iff]
    intro k _
    simp [evEligible, evReady, h]
  rw [a]
  unfold evPick
  rw [b]
  rfl
theorem witness_no_selection : evPick (noteAllEv (at_ .ready)) .pf1 = none := by
  apply nothing_selected
  intro f k
  cases f <;> simp [evSrc, at_, State.reset, Evt.reset, EvtFn.reset, EvSrc.reset, fnIx]
theorem witness_full : pwbRoom { at_ .ready with link := { Link.reset with pwb := List.replicate 512 (pw .pf1 0) } } (pw .pf1 0) = false := by decide +kernel

/-- A source with a configuration, and no reactions by severity. -/
def hsOf (f : HSrc → HSrc) : State := setHs { at_ .ready with hlt := { Hlt.reset with sevReact := 0 } } 71 f
/-- Witness: HalterSourcesLatch: an entry without the reactions that reset or zeroise, latched or not, its line standing or
not; a dual-rail source; a source of the last word. -/
theorem witness_halter : let s (x : HSrc → HSrc) := hsOf fun y => x { y with promoN := 0 }
    let x (f : HSrc → HSrc) := (s f).hlt.src[(71 : HsId)]
    (Quiet (s id) ∧ RoutesGood (s id)) ∧
    ((x id).react &&& 0x1C = 0 ∧ (x id).parityBad = false ∧ (s id).hlt.sevReact = 0 ∧ (s id).hlt.sevParityBad = false ∧ (71 : HsId).val ≠ 95 ∧
      (x id).promoN = 0 ∧ (x id).latch = false) ∧
    (x fun y => { y with latch := true, asserted := true }).latch = true ∧ (x fun y => { y with latch := true, asserted := true }).asserted = true ∧
    (x fun y => { y with react := 0x63 }).react &&& 0x1C = 0 ∧
    (dualRail 48 = true ∧ dualRail 47 = false) ∧ WritesServed (s id) .pf1 ∧ (bit (0x80 : BitVec 32) (71 % 32) = true ∧ 71 / 32 = 2) :=
  ⟨⟨rfl, routesGood_of_reset rfl⟩, by unfold WritesServed; decide⟩
theorem witness_halter_quiet : ∀ j : HsId, (at_ .ready).hlt.src[j].asserted = false ∧ (at_ .ready).hlt.src[j].railBad = false := by
  intro j
  simp [at_, State.reset, Hlt.reset, HSrc.reset]
/-- Witness: HalterControlActs: nothing holds the safe state or the alert, something does; GUARD levels as they stand, others,
and a reserved one; locks open, set and not yet written. -/
theorem witness_halter_control : let s := at_ .ready
    let k := setHs s 95 fun x => { x with lock := true, lockWritten := true }
    let l := setHs s 83 fun x => { x with latch := true, react := 0x62 }
    let g := { s with hlt := { Hlt.reset with guardLock := true } }
    (WritesServed s .pf1 ∧ WritesServed s .pf0 ∧ s.boot.applied = false ∧ ({ s with boot := { s.boot with applied := true } } : State).boot.applied = true) ∧
    (bit (2 : BitVec 32) 0 = false ∧ bit (2 : BitVec 32) 1 = true ∧ safeWanted s = false ∧ safeWanted l = true ∧ s.boot.pllUnlocked = false) ∧
    (∀ i : HsId, s.hlt.src[i].latch = false) ∧
    (l.hlt.src[(83 : HsId)].latch = true ∧ bit (effReact l 83) 1 = true) ∧
    (s.hlt.safe = false ∧ s.hlt.guardLock = false ∧ g.hlt.guardLock = true) ∧
    (∀ i : Fin 8, (field (0xFFFF : BitVec 32) (2 * i.val) 2 : BitVec 2) = 3 ∨
      (field (0xFFFF : BitVec 32) (2 * i.val) 2 : BitVec 2) = field s.hlt.safeLevel (2 * i.val) 2) ∧
    ¬ (∀ i : Fin 8, (field (0 : BitVec 32) (2 * i.val) 2 : BitVec 2) = 3 ∨
      (field (0 : BitVec 32) (2 * i.val) 2 : BitVec 2) = field s.hlt.safeLevel (2 * i.val) 2) ∧
    (k.hlt.src[(95 : HsId)].lock = true ∧ s.hlt.src[(95 : HsId)].lock = false ∧ srcCfgLow k 95 ≠ srcCfgLow (setHs k 95 fun x => { x with sev := 0 }) 95) := by
  unfold WritesServed; decide +kernel

/-! ### Register accesses -/

/-- Witness: RegisterAccessesAct: a 64-bit register's halves, with and without a half held or captured; 32-bit registers; an
offset without a register; a high half that is read-only; a doorbell page of either function's. -/
theorem witness_access : let s := setFn (at_ .ready) .pf1 fun x => { x with lows := [(0x0, 1)], captured := some (0x0, 2) }
    (match halfAt .pf1 0x3048, halfAt .pf1 0x304C, halfAt .pf1 0x3038 with
     | .low r, .high k, .whole _ => decide (r = k) && !highReadOnly k
     | _, _, _ => false) = true ∧
    (match halfAt .pf1 0x60004 with | .high k => highReadOnly k | _ => false) = true ∧ halfAt .pf1 0xFFFFC = .none ∧
    heldLow s .pf1 (4 - 4) = some 1 ∧ heldLow (at_ .ready) .pf1 (4 - 4) = none ∧ (fnState s .pf1).captured = some (4 - 4, 2) ∧
    (fnState (at_ .ready) .pf1).captured = none ∧ (2 : BitVec 20).toNat % 4 ≠ 0 ∧ (0xFF000 : BitVec 20).toNat % 4096 = 0 ∧
    (0xFF010 : BitVec 20).toNat % 4096 = 0x010 ∧ (ringed .active id).rings[pageRing 0x00008].owner = some 0 ∧
    worldFn (ringed .active id) 0 = .pf0 ∧ (ringed .active id).rings[pageRing 0xFF000].owner = none := by decide +kernel

/-- Witness: EventsAct, the selection of the last source's message. -/
theorem witness_selection : let e := setEv (at_ .ready) .pf1 319 fun e => { e with en := true, pending := true, cause := true }
    let u := noteAllEv { e with fns := vmap (fun x => { x with msixEnable := true, msix := upd x.msix 0 fun e => { e with ctl := 0 } }) e.fns }
    evPick u .pf1 = some 319 ∧ evEligible u .pf1 319 = true ∧ pwbRoom u (msixWrite u .pf1 (evSrc u .pf1 319).vector) = true := by
  decide +kernel
/-- Witness: PlainRowsTouchOnlyTheirRequest and HostSideReachesNoMemoryOrKey. -/
theorem witness_frames : Quiet (at_ .ready) ∧ RoutesGood (at_ .ready) ∧ hostSide .idcode = true ∧ (Instr.hash 0) ∈ plainRows 0 ∧
    (Instr.ecdsaSign 0) ∈ baseRows 0 ∧ ∀ d, noTables (at_ .ready) d = true :=
  ⟨rfl, routesGood_of_reset rfl, rfl, by decide, by decide, fun _ => rfl⟩
/-- Witness: CompletionRecordLayout: a request that ran on unit 55, and one that was skipped. -/
theorem witness_layout : let q : Req := { req hashDesc [] [] none with unit := some 55 }
    (q.skipped = false ∧ q.started = true ∧ q.unit = some 55) ∧ ({ q with skipped := true } : Req).skipped = true := by decide

/-! ### Values from the tables and rules of the specification -/

/-- R577 with D = 2^21 pages and k = 64: G = 32 263 groups. -/
theorem test_usable : usableOf 1 6 = 32263 * 64 * 2048 := by decide
/-- R475: a modulus of 1024 bits has d = 4 and M = 78, and 8 units take 10 + 48 cycles. -/
theorem test_montgomery : montCycles 128 = 78 ∧ montSet 128 8 = 58 := by decide
/-- R524, R525: line 1 of group 0 is at home in slice 1, set 1; A[24] toggles bit 0 of the hash. -/
theorem test_home : homeSlice (at_ .ready) 1 = some 1 ∧ setOf 1 = 1 ∧ homeHash 0x1000000 = 1 := by decide
/-- The check value of CRC-32C on the nine digits. -/
theorem test_crc : crc32c (ascii "123456789") = 0xE3069283 := by decide
/-- R539: wrapping, saturating, setting. -/
theorem test_tally : tallyOp false false (BitVec.allOnes 64) 1 = 0 ∧ tallyOp true false (BitVec.allOnes 64) 1 = BitVec.allOnes 64 ∧
    tallyOp false true 5 1 = 1 := by decide
/-- A byte written and cleared leaves memory as it was. -/
theorem test_cells : cellSet (cellSet [(1, 2)] 7 5) 7 0 = [(1, 2)] ∧ cellSet [(7, 5)] 1 2 = [(1, 2), (7, 5)] := by decide
/-- R147: command 0x81 answers the state of the stop, running. -/
theorem test_stop_state : i2cBytes (at_ .ready) 0x81 [0] 1 = [0] := by decide
/-- R199: earlier is modulo 65 536. -/
theorem test_earlier : earlier 0 0xFFFF = true ∧ earlier 0 0 = false ∧ earlier 0x8000 0 = false ∧ earlier 0x7FFF 0 = true := by decide
/-- R778: IDCODE. -/
theorem test_idcode : ∃ t, exec .idcode (at_ .ready) = .next t ∧ t.resp = .value 0x16448A5B := ⟨_, rfl, rfl⟩
/-- R176: ENABLE takes a FREE stall to ACTIVE. -/
theorem test_enable : ∃ t, exec (.stlCmdEnable .pf0 63) (at_ .ready) = .next t ∧ t.stalls[(63 : StallId)].state = .active := ⟨_, rfl, by decide +kernel⟩
/-- R573: a hot poll sets HOT. -/
theorem test_mr4 : ∃ t, exec (.mr4Poll 3 false) (chans .run) = .next t ∧ t.mcs[(3 : ChanId)].hot = false := ⟨_, rfl, by decide⟩
/-- R116: a low half is held until its high half arrives. -/
theorem test_half : ∃ t, exec (.lowHalfWrite .pf1 0x1800 5) (at_ .ready) = .next t ∧ t.hlt = Hlt.reset := ⟨_, rfl, rfl⟩

end Sys2Proof.Tests
end

namespace Sys2Proof.Waking
open Sys2Proof.Machine Sys2Proof.Safety

/-- Settles O3: after reset no cell is listed. -/
theorem resetMemoryIsCanonical : Obligations.ResetMemoryIsCanonical := rfl

/-! ### Resets of the chip -/

/-- What a reset abandons in OTP touches the Tack Room and the free values only. -/
theorem abandonOtp_eq (s : State) : abandonOtp s = { s with free := (abandonOtp s).free, tkr := (abandonOtp s).tkr } := by
  unfold abandonOtp
  rw [abandonRoot_eq, abandonLc_eq, abandonSlot_eq]

@[simp] theorem abandonOtp_pending (s : State) : (abandonOtp s).pending = s.pending := by rw [abandonOtp_eq]
@[simp] theorem abandonOtp_boot (s : State) : (abandonOtp s).boot = s.boot := by rw [abandonOtp_eq]
@[simp] theorem abandonOtp_link (s : State) : (abandonOtp s).link = s.link := by rw [abandonOtp_eq]
@[simp] theorem abandonOtp_hlt (s : State) : (abandonOtp s).hlt = s.hlt := by rw [abandonOtp_eq]
@[simp] theorem abandonOtp_tmp (s : State) : (abandonOtp s).tmp = s.tmp := by rw [abandonOtp_eq]
@[simp] theorem abandonOtp_jtag (s : State) : (abandonOtp s).jtag = s.jtag := by rw [abandonOtp_eq]

/-- Power-on reset leaves the power-on column of R91, whatever stands at the pins afterwards. -/
theorem coldReset_powerOn (s : State) (b : Boot)
    (hb : b = { Boot.reset with perst := s.boot.perst, imgSel := b.imgSel, testMode := b.testMode,
                                refclkSel := b.refclkSel, i2cAddr := b.i2cAddr, powered := b.powered }) :
    PowerOnResetFrom s { coldReset s with boot := b } := by
  refine ⟨⟨rfl, rfl, rfl, fun _ => rfl⟩, otpStands_of s _ rfl, abandonOtp_pending s, hb, rfl, rfl, rfl, ?_⟩
  simp only [coldReset, coldTmp, abandonOtp_tmp]

/-- What stands at the pins through a power-on reset. -/
theorem coldReset_boot (s : State) :
    (coldReset s).boot = { Boot.reset with perst := s.boot.perst, imgSel := s.boot.imgSel, testMode := s.boot.testMode,
                                           refclkSel := s.boot.refclkSel, i2cAddr := s.boot.i2cAddr } := by
  simp only [coldReset, abandonOtp_boot]

/-- Settles O6: both commands are `coldReset` with what they leave at the pins. -/
theorem powerOnResetRestoresPowerOnColumn : Obligations.PowerOnResetRestoresPowerOnColumn := by
  intro s a r tm im
  refine ⟨⟨_, rfl, coldReset_powerOn s _ ?_, ?_⟩, ⟨_, rfl, coldReset_powerOn s _ ?_, ?_⟩⟩ <;>
    simp [coldReset_boot, Boot.reset]

/-- A chip reset for a set of causes leaves the chip column of R91, whatever PERST_N and IMG_SEL are afterwards. -/
theorem chipReset_column (s : State) (perst halter software : Bool) (b : Boot)
    (hb : b = { (chipReset s perst halter software).boot with perst := b.perst, imgSel := b.imgSel }) :
    ChipResetFrom perst halter software s { chipReset s perst halter software with boot := b } := by
  refine ⟨⟨rfl, rfl, rfl, fun _ => rfl⟩, otpStands_of s _ rfl, abandonOtp_pending s, abandonOtp_jtag s, ?_, ?_, fun k => ?_,
    ?_, fun n => ?_⟩
  · rw [hb]
    simp only [chipReset, abandonOtp_boot, ← BitVec.toNat_inj, BitVec.ofNat_eq_ofNat, BitVec.toNat_ofNat]
  · simp only [chipReset, keepHlt, abandonOtp_hlt, abandonOtp_boot, ← BitVec.toNat_inj]
    rfl
  · simp only [chipReset, keepHlt, abandonOtp_hlt, vmapIdx_get]
    rfl
  · simp only [chipReset, keepTmp, abandonOtp_tmp]
  · simp only [chipReset, keepTmp, abandonOtp_tmp, vmap_get]

/-- A chip reset leaves PERST_N and IMG_SEL as they are. -/
theorem chipReset_pins (s : State) (perst halter software : Bool) :
    (chipReset s perst halter software).boot.perst = s.boot.perst ∧
    (chipReset s perst halter software).boot.imgSel = s.boot.imgSel := by
  simp [chipReset]

/-- CFG_SW_RESET of a function in D0 that is not under FLR (R81, R106). -/
theorem execCfgSwReset_open {s : State} {f : Fn} (hd : (fnState s f).d3hot = false) (hf : (fnState s f).flr = false)
    (v : BitVec 32) :
    exec (.cfgSwReset f v) s =
      .next (if s.boot.phase = .bootFailed then s else onPf1 s f (if v = 0xC41F0001 then chipReset s false false true else s)) := by
  have hv : field (v.setWidth 64) 0 32 = v := by
    ext i hi
    simp [field, hi]
    omega
  show Host.Outcome.next (gateBar s f _) = _
  rw [gateBar_open hd hf, wrSwReset, hv]

/-- CHIP_RESET with a cause on a powered device (R91, R97). -/
theorem execChipReset_powered {s : State} {perst halter software : Bool} (im : BitVec 2) (hp : s.boot.powered = true)
    (hc : (perst || halter || software) = true) :
    let t := chipReset s perst halter software
    exec (.chipReset perst halter software im) s =
      .next { t with boot := { t.boot with perst := s.boot.perst || perst,
                                           imgSel := if s.boot.perst || perst then s.boot.imgSel else im } } := by
  show execChipReset _ _ _ _ s = _
  simp only [execChipReset, hp, hc, chipReset_pins]
  rfl

/-- PERST_N_ASSERT of a powered device whose PERST_N is high (R89, R94). -/
theorem execPerstNAssert_powered {s : State} (hn : s.boot.perst = false) (hp : s.boot.powered = true) :
    let t := chipReset s true false false
    exec .perstNAssert s = .next { t with boot := { t.boot with perst := true } } := by
  show execPerstNAssert s = _
  simp [execPerstNAssert, hn, hp]

/-- Settles O7: each source is `chipReset` with its causes; what else happens to PERST_N is read off. -/
theorem chipResetAppliesChipColumn : Obligations.ChipResetAppliesChipColumn := by
  refine ⟨fun s im => ⟨fun perst halter software hp hc => ?_, fun hn hp => ?_, fun hn hp => ?_, fun hl => ?_, fun hl => ?_,
    fun hn => ?_⟩, fun s v => ⟨fun hd hf => ⟨fun hb hv => ?_, fun h => ?_⟩, fun hd hf => ?_⟩⟩
  · exact ⟨_, execChipReset_powered im hp hc, chipReset_column s _ _ _ _ rfl, rfl, rfl⟩
  · exact ⟨_, execPerstNAssert_powered hn hp, chipReset_column s _ _ _ _ rfl, rfl, (chipReset_pins s true false false).2⟩
  · show execPerstNAssert s = _
    simp [execPerstNAssert, hn, hp]
  · show execPerstNAssert s = _
    simp [execPerstNAssert, hl]
  · show execPerstNDeassert im s = _
    simp [execPerstNDeassert, hl]
  · show execPerstNDeassert im s = _
    simp [execPerstNDeassert, hn]
  · refine ⟨chipReset s false false true, ?_, chipReset_column s _ _ _ _ rfl, chipReset_pins s _ _ _⟩
    rw [execCfgSwReset_open hd hf, if_neg hb, if_pos hv]
    rfl
  · rw [execCfgSwReset_open hd hf]
    rcases h with h | h
    · rw [if_pos h]
    · rw [if_neg h]
      exact congrArg _ (ite_self _)
  · rw [execCfgSwReset_open hd hf]
    exact congrArg _ (ite_self _)

end Sys2Proof.Waking

namespace Sys2Proof.Waking
open Sys2Proof.Machine Sys2Proof.Safety

/-! ### Monitors -/

/-- The device after reset with a parity error on record in PF1's route entry of EV313 (R744). -/
def badThrottleRoute : State := setEv State.reset .pf1 313 fun e => { e with bad := true }

/-- At 125 degrees its throttle level goes up, and the raise of EV313 leaves an assertion of HS81 at the Halter. -/
theorem badThrottleRoute_sample :
    ∃ t, exec (.tempSample 2000) badThrottleRoute = .next t ∧ t.hlt.inbox.map (·.src) = [81] :=
  ⟨_, rfl, by decide +kernel⟩

/-- Refutes O50: the statement has a rise of the throttle level leave the Halter as it was with any routes, but the raise of
EV313 meets a route entry with bad parity by asserting HS81 (R744), as `badThrottleRoute` shows. -/
theorem not_monitorsAct : ¬ Obligations.MonitorsAct := by
  intro h
  obtain ⟨-, -, -, -, -, samples⟩ := h badThrottleRoute
  obtain ⟨toThree, -⟩ := samples 2000
  obtain ⟨t, ht, ⟨-, -, -, hlt⟩, -⟩ := toThree (by decide) (by decide)
  obtain ⟨u, hu, inbox⟩ := badThrottleRoute_sample
  rw [ht] at hu
  cases hu
  rw [hlt] at inbox
  exact absurd inbox (by decide)

end Sys2Proof.Waking

namespace Sys2Proof.Waking
open Sys2Proof.Machine Sys2Proof.Safety

/-! ### What a raise leaves in the route entries -/

/-- PF1 takes every device event (R732, R734). -/
theorem evAllowed_device (s : State) {k : EvId} (lo : 288 ≤ k.val) (hi : k.val < 315) : evAllowed s .pf1 k = true := by
  simp only [evAllowed, dif_neg (show ¬ k.val < 192 by omega), if_neg (show ¬ k.val < 288 by omega), if_pos hi]

/-- The first half of noting a message: the pending bit of a vector that masking alone holds back (R132). -/
def pendNoted (s : State) (f : Fn) (k : EvId) : State :=
  if evReady (evSrc s f k) && msixOn s f && vecMasked s f (evSrc s f k).vector
  then setFn s f fun x => { x with msixPend := putBit x.msixPend (evSrc s f k).vector.toNat true } else s

/-- The cycle in which a message became eligible, none while it is not (R740). -/
def sinceNow (s : State) (f : Fn) (k : EvId) : Option Nat :=
  if evEligible s f k then some ((evSrc s f k).since.getD s.cycle) else none

/-- The second half: that cycle noted. -/
def sinceNoted (s : State) (f : Fn) (k : EvId) : State :=
  if sinceNow s f k = (evSrc s f k).since then s else setEv s f k fun x => { x with since := sinceNow s f k }

/-- The pending bits are no part of a route entry. -/
theorem pendNoted_entry (s : State) (f g : Fn) (k j : EvId) : evSrc (pendNoted s f k) g j = evSrc s g j := by
  unfold pendNoted
  split <;> rfl

/-- The two halves of noting a message. -/
theorem noteEv_eq (s : State) (f : Fn) (k : EvId) : noteEv s f k = sinceNoted (pendNoted s f k) f k := by
  unfold sinceNoted sinceNow
  rw [pendNoted_entry]
  rfl

/-- Noting a cycle leaves the entry as it is but for `since`. -/
theorem sinceNoted_self (s : State) (f : Fn) (k : EvId) :
    evSrc (sinceNoted s f k) f k = { evSrc s f k with since := sinceNow s f k } := by
  unfold sinceNoted
  split
  case isTrue h => rw [h]
  case isFalse _ => rw [evSrc_setEv, if_pos ⟨rfl, rfl⟩]

/-- Noting eligibility leaves a route entry as it is but for `since`. -/
theorem noteEv_self (s : State) (f : Fn) (k : EvId) :
    evSrc (noteEv s f k) f k = { evSrc s f k with since := sinceNow (pendNoted s f k) f k } := by
  rw [noteEv_eq, sinceNoted_self, pendNoted_entry]

/-- Noting eligibility leaves every other entry as it is. -/
theorem noteEv_other (s : State) {f g : Fn} {k j : EvId} (h : ¬ (f = g ∧ k = j)) : evSrc (noteEv s f k) g j = evSrc s g j := by
  rw [noteEv_eq, ← pendNoted_entry s f g k j]
  unfold sinceNoted
  split
  · rfl
  · rw [evSrc_setEv, if_neg h]

/-- A raise on one function leaves every other entry as it is. -/
theorem raiseOn_other (s : State) {f g : Fn} {k j : EvId} (al : Bool) (h : ¬ (f = g ∧ k = j)) :
    evSrc (raiseOn s f k al) g j = evSrc s g j := by
  have set (s' : State) (u : EvSrc → EvSrc) : evSrc (setEv s' f k u) g j = evSrc s' g j := by rw [evSrc_setEv, if_neg h]
  have parity (s' : State) (u : BitVec 9) :
      evSrc (raiseHs (setEvFn s' f fun x => { x with parity := true, parSrc := u }) 81 none) g j = evSrc s' g j := by
    show ((upd s'.evt.fns (fnIx f) _)[fnIx g]).src[j] = _
    rw [upd_get]
    split <;> rfl
  unfold raiseOn
  split
  · rfl
  · dsimp only
    split
    · rw [parity, set]
    · split
      · rw [noteEv_other _ h, set, set]
      · rw [set]

/-- A raise on one function that delivers the source sets its cause bit and counts it (R736). -/
theorem raiseOn_self {s : State} {f : Fn} {k : EvId} (al : Bool) (ha : evAllowed s f k = true) :
    (evSrc (raiseOn s f k al) f k).cause = true ∧ (evSrc (raiseOn s f k al) f k).raises = satInc (evSrc s f k).raises := by
  have set (s' : State) (u : EvSrc → EvSrc) : evSrc (setEv s' f k u) f k = u (evSrc s' f k) := by
    rw [evSrc_setEv, if_pos ⟨rfl, rfl⟩]
  have parity (s' : State) (u : BitVec 9) :
      evSrc (raiseHs (setEvFn s' f fun x => { x with parity := true, parSrc := u }) 81 none) f k = evSrc s' f k := by
    show ((upd s'.evt.fns (fnIx f) _)[fnIx f]).src[k] = _
    rw [upd_self]
    rfl
  unfold raiseOn
  rw [ha, if_neg (by simp)]
  dsimp only
  split
  · rw [parity, set]; exact ⟨rfl, rfl⟩
  · split
    · rw [noteEv_self, set, set]; exact ⟨rfl, rfl⟩
    · rw [set]; exact ⟨rfl, rfl⟩

/-- A raise leaves the entries of every other source as they are. -/
theorem raiseEv_other (s : State) (f : Fn) {k j : EvId} (al : Bool) (h : k ≠ j) : evSrc (raiseEv s k al) f j = evSrc s f j :=
  (raiseOn_other _ al fun c => h c.2).trans (raiseOn_other s al fun c => h c.2)

/-- A device event is raised on PF1: its cause bit is set and the raise counted (R736). -/
theorem raiseEv_device (s : State) {k : EvId} (al : Bool) (lo : 288 ≤ k.val) (hi : k.val < 315) :
    (evSrc (raiseEv s k al) .pf1 k).cause = true ∧
    (evSrc (raiseEv s k al) .pf1 k).raises = satInc (evSrc s .pf1 k).raises := by
  have before : evSrc (raiseOn s .pf0 k al) .pf1 k = evSrc s .pf1 k := raiseOn_other s al (by simp)
  obtain ⟨hc, hr⟩ := raiseOn_self (s := raiseOn s .pf0 k al) al (evAllowed_device _ lo hi)
  exact ⟨hc, hr.trans (by rw [before])⟩

/-- An event raised or not by a condition, all routes good: only the Event Router changes, no route goes bad, the cause bit
stands where the condition holds, and the other sources' entries stand. -/
structure RaisedWhen (c : Prop) (k : EvId) (s t : State) : Prop where
  only : EvOnly s t
  routes : RoutesGood t
  cause : c → (evSrc t .pf1 k).cause = true
  other : ∀ j, k ≠ j → evSrc t .pf1 j = evSrc s .pf1 j

/-- See `RaisedWhen`. -/
theorem raisedWhen {s : State} (h : RoutesGood s) (c : Prop) [Decidable c] (k : EvId) (lo : 288 ≤ k.val) (hi : k.val < 315) :
    RaisedWhen c k s (if c then raiseEv s k else s) := by
  split
  case isTrue _ =>
    obtain ⟨only, routes⟩ := raiseEv_spec h k false
    exact ⟨only, routes, fun _ => (raiseEv_device s false lo hi).1, fun j hj => raiseEv_other s .pf1 false hj⟩
  case isFalse hc => exact ⟨EvOnly.refl s, h, fun h => absurd h hc, fun _ _ => rfl⟩

/-- Route entries are read in the Event Router alone. -/
theorem evSrc_congr {s t : State} (e : t.evt = s.evt) (f : Fn) (k : EvId) : evSrc t f k = evSrc s f k := by
  unfold evSrc
  rw [e]

/-- Good routes depend on the Event Router alone. -/
theorem routesGood_congr {s t : State} (e : t.evt = s.evt) (h : RoutesGood s) : RoutesGood t := by
  intro f k
  rw [evSrc_congr e]
  exact h f k

/-! ### The boot report and READY -/

/-- A state differs from another in the Measurement Bank alone. -/
def MrbOnly (s t : State) : Prop := t = { s with mrb := t.mrb }

/-- Two such changes one after the other. -/
theorem MrbOnly.trans {s t u : State} (h : MrbOnly s t) (g : MrbOnly t u) : MrbOnly s u := by
  unfold MrbOnly at *; rw [g, h]

/-- The extends that wait in the bank touch nothing else. -/
theorem mrSettled_only (s : State) : MrbOnly s (mrSettled s) := by
  have fold (q : List MrExt) (t : State) : MrbOnly t (q.foldl (fun s x => mrExtend s x.mr (leBytes 48 x.input.toNat)) t) := by
    induction q generalizing t with
    | nil => rfl
    | cons x q ih => exact MrbOnly.trans (t := mrExtend t _ _) rfl (ih _)
  exact MrbOnly.trans (t := { s with mrb := { s.mrb with queue := [] } }) rfl (fold _ _)

/-- The boot report's extend touches nothing else. -/
theorem extendMr1_only (s : State) : MrbOnly s (extendMr1 s) := by
  unfold extendMr1
  split
  · rfl
  · exact (mrSettled_only s).trans rfl

/-- With nothing waiting in the bank, the extend of MR1 (R45). -/
theorem extendMr1_empty {s : State} (hf : s.mrb.fenced = false) (hq : s.mrb.queue = []) :
    (extendMr1 s).mrb.value[(1 : MrId)] = BitVec.ofNat 384 (leNat (sha384 (mrBytes s 1 ++ slice (sha384 (summary16 s)) 0 48))) ∧
    (extendMr1 s).mrb.count[(1 : MrId)] = satInc s.mrb.count[(1 : MrId)] := by
  have settled : mrSettled s = s := by
    have e : ({ s with mrb := { s.mrb with queue := [] } } : State) = s := by rw [← hq]
    unfold mrSettled
    rw [hq]
    exact e
  unfold extendMr1
  rw [hf, if_neg (by simp), settled]
  exact ⟨by simp [mrExtend], upd_self _ _ _⟩

/-- A fenced bank takes no extend (R438). -/
theorem extendMr1_fenced {s : State} (hf : s.mrb.fenced = true) : extendMr1 s = s := by
  unfold extendMr1
  rw [if_pos hf]

/-- The Event Router holds no state of boot. -/
theorem evOnly_boot {s t : State} (h : EvOnly s t) : t.boot = s.boot := by rw [h]
/-- Nor of the Measurement Bank. -/
theorem evOnly_mrb {s t : State} (h : EvOnly s t) : t.mrb = s.mrb := by rw [h]
/-- Nor of the Halter. -/
theorem evOnly_hlt {s t : State} (h : EvOnly s t) : t.hlt = s.hlt := by rw [h]

/-- A state differs from another in what the boot report touches. -/
def ReportOnly (s t : State) : Prop := t = { s with mrb := t.mrb, evt := t.evt, fns := t.fns }

/-- The boot report with good routes: the Measurement Bank and the Event Router alone change, no route goes bad, and what it
reports stands (R45, R50, R84). -/
theorem bootReport_spec {s : State} (h : RoutesGood s) :
    ReportOnly s (bootReport s) ∧ RoutesGood (bootReport s) ∧ BootReported s (bootReport s) := by
  have boot : (extendMr1 s).boot = s.boot := by rw [extendMr1_only s]
  have fallback := raisedWhen (s := extendMr1 s) (routesGood_congr (by rw [extendMr1_only s]) h)
    ((extendMr1 s).boot.fallback || decide ((extendMr1 s).boot.imageSrc = 0)) 289 (by decide) (by decide)
  have stages : bootReport s = bootReport s := rfl
  conv_rhs at stages => unfold bootReport
  extract_lets s1 s2 s3 at stages
  change RaisedWhen _ _ s1 s2 at fallback
  have fence := raisedWhen fallback.routes (s2.boot.fence ≠ 0) 290 (by decide) (by decide)
  change RaisedWhen _ _ s2 s3 at fence
  have locked := raisedWhen fence.routes s3.boot.keysLocked 291 (by decide) (by decide)
  rw [← stages] at locked
  have boot2 : s2.boot = s.boot := (evOnly_boot fallback.only).trans boot
  have boot3 : s3.boot = s.boot := (evOnly_boot fence.only).trans boot2
  have only : EvOnly (extendMr1 s) (bootReport s) := (fallback.only.trans fence.only).trans locked.only
  have report : ReportOnly s (bootReport s) := by
    have mrb := extendMr1_only s
    generalize bootReport s = t at only
    generalize extendMr1 s = u at only mrb
    unfold ReportOnly
    rw [only, mrb]
  refine ⟨report, locked.routes, fun hf hq => ?_, fun hf => ?_, fun hc => ?_, fun hc => ?_, fun hc => ?_⟩
  · rw [evOnly_mrb only]
    exact extendMr1_empty hf hq
  · rw [evOnly_mrb only, extendMr1_fenced hf]
  · rw [locked.other 289 (by decide), fence.other 289 (by decide)]
    exact fallback.cause (by rw [boot]; simpa using hc)
  · rw [locked.other 290 (by decide)]
    exact fence.cause (by rw [boot2]; exact hc)
  · exact locked.cause (by rw [boot3]; exact hc)

/-- A boot report stands where the Measurement Bank and the three events' entries stand. -/
theorem bootReported_congr {s t u : State} (mrb : u.mrb = t.mrb) (h289 : evSrc u .pf1 289 = evSrc t .pf1 289)
    (h290 : evSrc u .pf1 290 = evSrc t .pf1 290) (h291 : evSrc u .pf1 291 = evSrc t .pf1 291) (h : BootReported s t) :
    BootReported s u := by
  unfold BootReported
  rw [mrb, h289, h290, h291]
  exact h

/-- HELD_ENTRY once boot is done, with READY_HOLD set. -/
theorem execHeldEntry_hold {s : State} (done : bootDone s = true) (hold : s.boot.readyHold = true) :
    exec .heldEntry s = .next (settle (bootReport (toPhase s .held))) := by
  show execHeldEntry s = _
  simp only [execHeldEntry, done, hold, Bool.and_self, if_true]

/-- READY_ENTRY once boot is done, with READY_HOLD clear. -/
theorem execReadyEntry_go {s : State} (done : bootDone s = true) (hold : s.boot.readyHold = false) :
    exec .readyEntry s = .next (settle (toReady (bootReport s))) := by
  show execReadyEntry s = _
  simp only [execReadyEntry, done, hold, Bool.not_false, Bool.and_self, if_true]

/-! ### READY -/

/-- With no tail kept, none is accepted. -/
theorem acceptKept_none {s : State} (h : ∀ r : RingId, s.rings[r].kept = false) (p : RingId → Bool) : acceptKept s p = s :=
  List.foldl_fixed' (fun r => if_neg fun c => by rw [h r] at c; simp at c) _

/-- With no gating request waiting, none is taken. -/
theorem takeWaiting_none {s : State} (h : ∀ d : PdId, s.pds[d].waitFn = none) : takeWaiting s = s :=
  List.foldl_fixed' (fun d => by simp only [h d]) _

/-- What waits for READY depends on the rings, the domains, the Manger and the requests. -/
theorem nothingWaits_congr {s t : State} (rings : t.rings = s.rings) (pds : t.pds = s.pds) (mgr : t.mgr = s.mgr)
    (reqs : t.reqs = s.reqs) (h : NothingWaits s) : NothingWaits t := by
  unfold NothingWaits groupAwaited at *
  rw [rings, pds, mgr, reqs]
  exact h

/-- READY as a phase: BOOT_ATTEMPTS cleared and every bucket full (R96, R305). -/
def readyPhase (s : State) : State :=
  { s with boot := { s.boot with phase := .ready, attempts := 0 },
           stalls := vmap (fun x => { x with tokens := x.burst }) s.stalls }

/-- A kept stop begins (R83). -/
def stopBegun (s : State) : State :=
  if s.link.stopKept then { s with link := { s.link with stopKept := false, stopState := 1 } } else s

/-- The state in which READY takes what waited for it. -/
def readyStarted (s : State) : State := stopBegun (raiseEv (readyPhase s) 288)

/-- READY takes the tails, the gating requests and the accesses that waited, in that order. -/
theorem toReady_eq (s : State) :
    toReady s = (List.finRange 4).foldl (fun s g => if groupAwaited s g then demandWake s g else s)
      (takeWaiting (acceptKept (readyStarted s) fun _ => true)) := by
  unfold toReady readyStarted stopBegun readyPhase
  with_reducible rfl

/-- What a kept stop changes. -/
theorem stopBegun_eq (s : State) :
    stopBegun s = { s with link := { s.link with stopKept := false, stopState := if s.link.stopKept then 1 else s.link.stopState } } := by
  unfold stopBegun
  split
  · rfl
  case isFalse h =>
    have e : { s.link with stopKept := false } = s.link := by rw [← Bool.eq_false_of_not_eq_true h]
    rw [e]

/-- READY entered with good routes. -/
theorem readyStarted_spec {s : State} (h : RoutesGood s) : ReadyFrom s (readyStarted s) := by
  obtain ⟨only, -⟩ := raiseEv_spec (s := readyPhase s) h 288 false
  obtain ⟨cause, -⟩ := raiseEv_device (readyPhase s) (k := 288) false (by decide) (by decide)
  unfold readyStarted
  generalize raiseEv (readyPhase s) 288 = r at only cause
  rw [stopBegun_eq]
  refine ⟨?_, fun n => ?_, cause⟩
  · rw [only]
    rfl
  · have stalls : r.stalls = vmap (fun x => { x with tokens := x.burst }) s.stalls := by rw [only]; rfl
    show r.stalls[n] = _
    rw [stalls, vmap_get]

/-- With nothing waiting, READY does no more. -/
theorem toReady_of_nothingWaits {s : State} (h : RoutesGood s) (hw : NothingWaits s) : toReady s = readyStarted s := by
  have e := (readyStarted_spec h).1
  obtain ⟨kept, waiting, awaited⟩ :=
    nothingWaits_congr (t := readyStarted s) (by rw [e]) (by rw [e]) (by rw [e]) (by rw [e]) hw
  rw [toReady_eq, acceptKept_none kept, takeWaiting_none waiting]
  exact List.foldl_fixed' (fun g => by rw [awaited g, if_neg (by simp)]) _

/-- READY raises EV288 alone. -/
theorem readyStarted_other (s : State) {k : EvId} (h : 288 ≠ k) : evSrc (readyStarted s) .pf1 k = evSrc s .pf1 k := by
  have before : evSrc (readyStarted s) .pf1 k = evSrc (raiseEv (readyPhase s) 288) .pf1 k :=
    evSrc_congr (by rw [readyStarted, stopBegun_eq]) _ _
  exact before.trans (raiseEv_other (readyPhase s) .pf1 false h)

/-- READY with nothing waiting and no assertion at the Halter. -/
theorem settle_toReady {s : State} (q : Quiet s) (h : RoutesGood s) (hw : NothingWaits s) :
    settle (toReady s) = readyStarted s := by
  rw [toReady_of_nothingWaits h hw, settle_of_quiet (by rw [(readyStarted_spec h).1]; exact q)]

/-- See `settle_toReady`. -/
theorem settle_toReady_from {s : State} (q : Quiet s) (h : RoutesGood s) (hw : NothingWaits s) :
    ReadyFrom s (settle (toReady s)) := by
  rw [settle_toReady q h hw]
  exact readyStarted_spec h

/-- CFG_BOOT_CTL with RELEASE, written by a function whose writes are served (R82, R107). -/
theorem execCfgBootCtlRelease_served {s : State} {f : Fn} (hw : WritesServed s f) (v : BitVec 32) :
    exec (.cfgBootCtlRelease f v) s = .next (settle (wrBootCtl s f (v.setWidth 64 ||| 2) (BitVec.allOnes 64))) := by
  show Host.Outcome.next (gateW s f _) = _
  rw [gateW_served hw]

/-- What PF1's RELEASE does in HELD. -/
theorem wrBootCtl_release {s : State} (hp : s.boot.phase = .held) (v : BitVec 32) :
    wrBootCtl s .pf1 (v.setWidth 64 ||| 2) (BitVec.allOnes 64) =
      toReady (if s.boot.readyHoldWritten then s
        else { s with boot := { s.boot with readyHold := bit v 0, readyHoldWritten := true } }) := by
  have b0 : bit (v.setWidth 64 ||| 2) 0 = bit v 0 := by simp [bit]
  have m0 : bit (BitVec.allOnes 64) 0 = true := by decide
  have m1 : bit ((v.setWidth 64 ||| 2) &&& BitVec.allOnes 64) 1 = true := by simp [bit]
  unfold wrBootCtl
  simp only [b0, m0, m1, onPf1]
  cases hw : s.boot.readyHoldWritten <;> simp [hp]

/-- READY after the boot report: what is reported stands, and READY finds the reported measurements. -/
theorem readyStarted_bootReport {s : State} (h : RoutesGood s) :
    BootReported s (readyStarted (bootReport s)) ∧
    ReadyFrom { s with mrb := (readyStarted (bootReport s)).mrb } (readyStarted (bootReport s)) := by
  obtain ⟨only, routes, reported⟩ := bootReport_spec h
  have ready := readyStarted_spec routes
  have other := fun k h => readyStarted_other (bootReport s) (k := k) h
  generalize bootReport s = u at *
  generalize readyStarted u = t at *
  obtain ⟨whole, tokens, cause⟩ := ready
  have mrb : t.mrb = u.mrb := by rw [whole]
  refine ⟨bootReported_congr mrb (other _ (by decide)) (other _ (by decide)) (other _ (by decide)) reported, ?_, ?_, cause⟩
  · rw [mrb]
    rw [only] at whole
    exact whole
  · rw [only] at tokens
    exact tokens

/-- Settles O10. -/
theorem bootEndsInHeldOrReady : Obligations.BootEndsInHeldOrReady := by
  intro s q routes
  refine ⟨fun done hold => ?_, fun done hold => ⟨execReadyEntry_go done hold, fun hw => ⟨_, execReadyEntry_go done hold, ?_⟩⟩,
    fun held v => ⟨fun hs => ?_, fun hs => ?_⟩⟩
  · obtain ⟨only, -, reported⟩ := bootReport_spec (s := toPhase s .held) routes
    refine ⟨_, execHeldEntry_hold done hold, ?_⟩
    rw [settle_of_quiet (by rw [only]; exact q)]
    exact ⟨only, reported⟩
  · obtain ⟨only, routes', -⟩ := bootReport_spec routes
    have hw' : NothingWaits (bootReport s) :=
      nothingWaits_congr (by rw [only]) (by rw [only]) (by rw [only]) (by rw [only]) hw
    rw [settle_toReady (by rw [Quiet, only]; exact q) routes' hw']
    exact readyStarted_bootReport routes
  · have release := execCfgBootCtlRelease_served hs v
    rw [wrBootCtl_release held] at release
    refine ⟨release, fun hw => ⟨_, release, ?_⟩⟩
    split
    · exact settle_toReady_from q routes hw
    · exact settle_toReady_from q routes (nothingWaits_congr rfl rfl rfl rfl hw)
  · rw [execCfgBootCtlRelease_served hs]
    have kept : wrBootCtl s .pf0 (v.setWidth 64 ||| 2) (BitVec.allOnes 64) = s := rfl
    rw [kept, settle_of_quiet q]

end Sys2Proof.Waking

namespace Sys2Proof.Waking
open Sys2Proof.Machine Sys2Proof.Safety

/-! ### Configuration space -/

/-- A configuration request that is answered with Retry (R75, R140). -/
theorem execConfigRequest_retry {s : State} {f : Fn} (h : cfgRetry s f = true) (op : CfgOp) :
    exec (.configRequest f op) s = .next (answer s .retry) := by
  show Host.Outcome.next (if cfgRetry s f then _ else _) = _
  rw [if_pos h]

/-- An open configuration request. -/
theorem execConfigRequest_open {s : State} {f : Fn} (h : cfgRetry s f = false) (op : CfgOp) :
    exec (.configRequest f op) s = .next (configDo s f op) := by
  show Host.Outcome.next (if cfgRetry s f then _ else _) = _
  rw [h]
  rfl

/-- Configuration space is open to a function that is not under FLR. -/
theorem cfgRetry_open {s : State} {f : Fn} (ho : s.boot.cfgOpen = true) (hf : (fnState s f).flr = false) :
    cfgRetry s f = false := by
  simp [cfgRetry, ho, hf]

/-- A function's own state after a change of it. -/
theorem fnState_setFn (s : State) (f : Fn) (h : FnState → FnState) : fnState (setFn s f h) f = h (fnState s f) :=
  upd_self s.fns (fnIx f) h

/-- The other function's state stands. -/
theorem fnState_setFn_other (s : State) {f g : Fn} (hg : g ≠ f) (h : FnState → FnState) :
    fnState (setFn s f h) g = fnState s g :=
  upd_other s.fns h fun c => hg (fnIx_inj c).symm

/-- The identity word, field by field (R111). -/
theorem idWord_fields (f : Fn) :
    field (idWord f) 0 16 = 0x1E9B ∧ field (idWord f) 16 16 = (match f with | .pf0 => 0x6448 | .pf1 => 0x6449) ∧
    field (idWord f) 32 8 = 0xB0 ∧ field (idWord f) 40 24 = 0x108000 := by
  cases f <;> decide

/-- A flag read on bit 0 is the capability (R108, R112). -/
theorem flag_carries (f : Fn) (c : Cap) :
    flag 0 (carries f c) = if c = .powerManagement ∨ c = .pciExpress ∨ c = .msix ∨ c = .aer ∨ c = .pasid ∨
      (c = .ltr ∧ f = .pf0) then 1 else 0 := by
  cases f <;> cases c <;> decide

/-- MSI-X features (R131). -/
theorem msixCaps_eq (f : Fn) : msixCaps f = (match f with | .pf0 => 0xF80000F000003FF | .pf1 => 0xF80000F000000FF) := by
  cases f <;> decide

/-- Transactions Pending is bit 5 of the Device Status (R141). -/
theorem flag_transPending (s : State) (f : Fn) :
    flag 5 (transPending s f) = if s.link.reads.any fun r => decide (r.fn = f) then 0x20 else 0 := by
  unfold transPending flag
  cases s.link.reads.any fun r => decide (r.fn = f) <;> decide

/-! ### Messages noted -/

/-- A step for each element of a list leaves, for each, what its own step makes and no other step undoes. -/
theorem foldl_establishes {σ α : Type} {f : σ → α → σ} {P : α → σ → Prop} (make : ∀ s a, P a (f s a))
    (keep : ∀ s a b, P a s → P a (f s b)) : ∀ (l : List α) (s : σ), ∀ a ∈ l, P a (l.foldl f s) := by
  have stays : ∀ (l : List α) (s : σ) (a : α), P a s → P a (l.foldl f s) := by
    intro l
    induction l with
    | nil => exact fun _ _ h => h
    | cons b l ih => exact fun s a h => ih _ a (keep s a b h)
  intro l
  induction l with
  | nil => exact fun _ _ h => nomatch h
  | cons b l ih =>
    intro s a ha
    rcases List.mem_cons.1 ha with rfl | ha
    · exact stays l _ a (make s a)
    · exact ih _ a ha

/-- What noting eligibility can change: the cycle noted in a route entry, and the pending bits of vectors. -/
structure Noted (s t : State) : Prop where
  only : EvOnly s t
  fns : ∀ g, fnState t g = { fnState s g with msixPend := (fnState t g).msixPend }
  entry : ∀ g k, evSrc t g k = { evSrc s g k with since := (evSrc t g k).since }

/-- Nothing changed. -/
theorem Noted.refl (s : State) : Noted s s := ⟨EvOnly.refl s, fun _ => rfl, fun _ _ => rfl⟩

/-- Two such changes one after the other. -/
theorem Noted.trans {s t u : State} (h : Noted s t) (g : Noted t u) : Noted s u := by
  refine ⟨h.only.trans g.only, fun f => ?_, fun f k => ?_⟩
  · rw [g.fns, h.fns]
  · rw [g.entry, h.entry]

/-- Either of two such changes. -/
theorem Noted.ite {s t u : State} {c : Prop} [Decidable c] (h : Noted s t) (g : Noted s u) : Noted s (if c then t else u) := by
  split <;> assumption

/-- Such a change for each element of a list. -/
theorem Noted.foldl {α : Type} {f : State → α → State} (hf : ∀ s a, Noted s (f s a)) (l : List α) (s : State) :
    Noted s (l.foldl f s) := by
  induction l generalizing s with
  | nil => exact Noted.refl s
  | cons a l ih => exact (hf s a).trans (ih _)

/-- What is noted does not decide whether a message is eligible (R739). -/
theorem Noted.eligible {s t : State} (h : Noted s t) (f : Fn) (k : EvId) : evEligible t f k = evEligible s f k := by
  unfold evEligible evReady msixOn vecMasked
  rw [h.entry, h.fns]

/-- A pending bit set for a vector. -/
theorem noted_setFn (s : State) (f : Fn) (p : BitVec 1024 → BitVec 1024) :
    Noted s (setFn s f fun x => { x with msixPend := p x.msixPend }) := by
  refine ⟨setFn_only s f _, fun g => ?_, fun _ _ => rfl⟩
  by_cases hg : g = f
  · subst hg
    rw [fnState_setFn]
  · rw [fnState_setFn_other s hg]

/-- A cycle noted in an entry. -/
theorem noted_setEv (s : State) (f : Fn) (k : EvId) (v : Option Nat) : Noted s (setEv s f k fun x => { x with since := v }) := by
  refine ⟨setEv_only s f k _, fun _ => rfl, fun g j => ?_⟩
  rw [evSrc_setEv]
  split <;> rfl

/-- Noting eligibility of one message. -/
theorem noteEv_noted (s : State) (f : Fn) (k : EvId) : Noted s (noteEv s f k) := by
  rw [noteEv_eq]
  have pend : Noted s (pendNoted s f k) := 
    Noted.ite (noted_setFn s f fun p => putBit p (evSrc s f k).vector.toNat true) (Noted.refl s)
  exact pend.trans (Noted.ite (Noted.refl _) (noted_setEv _ f k _))

/-- Noting eligibility of every message. -/
theorem noteAllEv_noted (s : State) : Noted s (noteAllEv s) :=
  Noted.foldl (fun s k => (Noted.ite (noteEv_noted s .pf0 k) (Noted.refl s)).trans
    (Noted.ite (noteEv_noted _ .pf1 k) (Noted.refl _))) _ _

/-- An eligible pending message has its cycle noted. -/
def Marked (f : Fn) (k : EvId) (s : State) : Prop :=
  (evSrc s f k).pending = true → evEligible s f k = true → (evSrc s f k).since ≠ none

/-- Noting a message marks it. -/
theorem noteEv_marks (s : State) (f : Fn) (k : EvId) : Marked f k (noteEv s f k) := by
  intro _ eligible
  have before : Noted (pendNoted s f k) (noteEv s f k) := by
    rw [noteEv_eq]
    exact Noted.ite (Noted.refl _) (noted_setEv _ f k _)
  rw [before.eligible] at eligible
  rw [noteEv_self, sinceNow, if_pos eligible]
  exact Option.some_ne_none _

/-- Noting a message keeps every mark. -/
theorem noteEv_keeps_mark {s : State} {f : Fn} {k : EvId} (g : Fn) (j : EvId) (h : Marked f k s) : Marked f k (noteEv s g j) := by
  by_cases c : g = f ∧ j = k
  · obtain ⟨rfl, rfl⟩ := c
    exact noteEv_marks s g j
  · unfold Marked
    rw [(noteEv_noted s g j).eligible, noteEv_other s c]
    exact h

/-- A message noted where it is pending is marked. -/
theorem noteIfPending_marks (s : State) (f : Fn) (k : EvId) :
    Marked f k (if (evSrc s f k).pending then noteEv s f k else s) := by
  split
  · exact noteEv_marks s f k
  case isFalse h => exact fun hp => absurd hp h

/-- A message noted or not keeps every mark. -/
theorem noteIf_keeps_mark {s : State} {f : Fn} {k : EvId} (c : Bool) (g : Fn) (j : EvId) (h : Marked f k s) :
    Marked f k (if c then noteEv s g j else s) := by
  split
  · exact noteEv_keeps_mark g j h
  · exact h

/-- Noting every message marks every message. -/
theorem noteAllEv_marks (s : State) (f : Fn) (k : EvId) : Marked f k (noteAllEv s) := by
  refine foldl_establishes (P := fun k u => Marked f k u) (fun u j => ?_) (fun u j l h => ?_) _ s k (List.mem_finRange k)
  · cases f
    · exact noteIf_keeps_mark _ _ _ (noteIfPending_marks u .pf0 j)
    · exact noteIfPending_marks _ .pf1 j
  · exact noteIf_keeps_mark _ _ _ (noteIf_keeps_mark _ _ _ h)

/-! ### The requests -/

/-- What is left of a change of power state once every message is noted (R143). -/
theorem power_of_noted {s t : State} {f : Fn} {v : Bool}
    (noted : Noted (answer (setFn s f fun x => { x with d3hot := v }) .ok) t) (marks : ∀ g k, Marked g k t) :
    t.resp = .ok ∧ (fnState t f).d3hot = v ∧
    fnState t f = { fnState s f with d3hot := v, msixPend := (fnState t f).msixPend } ∧
    t = { s with resp := t.resp, fns := t.fns, evt := t.evt } ∧
    ∀ g k, (evSrc t g k).cause = (evSrc s g k).cause ∧ (evSrc t g k).pending = (evSrc s g k).pending ∧
      ((evSrc s g k).pending = true → evEligible t g k = true → (evSrc t g k).since ≠ none) := by
  have own : fnState (answer (setFn s f fun x => { x with d3hot := v }) .ok) f = { fnState s f with d3hot := v } :=
    fnState_setFn s f _
  have fn := noted.fns f
  rw [own] at fn
  have entry : ∀ g k, evSrc t g k = { evSrc s g k with since := (evSrc t g k).since } := noted.entry
  refine ⟨by rw [noted.only]; rfl, by rw [fn], fn, ?_, fun g k => ⟨by rw [entry], by rw [entry], fun hp he => ?_⟩⟩
  · rw [noted.only]
    rfl
  · exact marks g k (by rw [entry]; exact hp) he

/-- The power state of a function whose configuration space is open. -/
theorem power_open {s : State} {f : Fn} (h : cfgRetry s f = false) :
    exec (.d3hotEntry f) s = .next (noteAllEv (answer (setFn s f fun x => { x with d3hot := true }) .ok)) ∧
    exec (.d0Return f) s = .next (noteAllEv (answer (setFn s f fun x => { x with d3hot := false }) .ok)) := by
  constructor
  · show execD3hotEntry f s = _
    rw [execD3hotEntry, h, if_neg Bool.false_ne_true]
  · show execD0Return f s = _
    rw [execD0Return, h, if_neg Bool.false_ne_true]

/-- Settles O11. -/
theorem configurationRequestsAct : Obligations.ConfigurationRequestsAct := by
  intro s f x reads sets power
  refine ⟨fun hr => ⟨execConfigRequest_retry hr, ?_, ?_⟩, fun ho hf => ?_⟩
  · show Host.Outcome.next (if cfgRetry s f then _ else _) = _
    rw [if_pos hr]
  · show Host.Outcome.next (if cfgRetry s f then _ else _) = _
    rw [if_pos hr]
  have hr : cfgRetry s f = false := cfgRetry_open ho hf
  have reads_of {op : CfgOp} {w v : BitVec 64} (h : configDo s f op = answer s (.value w)) (e : w = v) : reads op v := by
    show exec _ s = _
    rw [execConfigRequest_open hr, h, e]
  have sets_of {op : CfgOp} {g : FnState → FnState} {y : FnState} (h : configDo s f op = answer (setFn s f g) .ok)
      (e : g x = y) : sets op y := by
    refine ⟨_, (execConfigRequest_open hr op).trans (congrArg _ h), rfl, (fnState_setFn s f g).trans e, rfl, fun k hk => ?_⟩
    exact fnState_setFn_other s hk g
  refine ⟨⟨idWord f, reads_of rfl rfl, idWord_fields f⟩, reads_of rfl rfl, fun c => reads_of rfl (flag_carries f c),
    reads_of rfl (by decide), reads_of rfl (by decide), reads_of rfl (by decide), reads_of rfl (msixCaps_eq f),
    reads_of rfl (flag_transPending s f), reads_of rfl rfl, reads_of rfl rfl, reads_of rfl rfl,
    fun i => reads_of rfl (BitVec.shiftLeft_zero _), fun i v => sets_of rfl rfl, fun v => sets_of rfl rfl, fun v => sets_of rfl rfl,
    fun v => sets_of rfl rfl, fun v => sets_of rfl rfl, fun v => sets_of rfl rfl, fun v => sets_of rfl rfl, fun v => sets_of rfl rfl,
    fun v => sets_of rfl rfl, fun u c => sets_of rfl rfl, fun v => execConfigRequest_open hr _,
    fun v => execConfigRequest_open hr _, ?_, ?_⟩
  · exact ⟨_, (power_open hr).1, power_of_noted (noteAllEv_noted _) (noteAllEv_marks _)⟩
  · exact ⟨_, (power_open hr).2, power_of_noted (noteAllEv_noted _) (noteAllEv_marks _)⟩

end Sys2Proof.Waking

namespace Sys2Proof.Waking
open Sys2Proof.Machine Sys2Proof.Safety

/-! ### A raise with any routes -/

/-- What a raise can change whatever the routes' parity: the Event Router, the functions' link state, the Halter. -/
def RaiseOnly (s t : State) : Prop := t = { s with evt := t.evt, fns := t.fns, hlt := t.hlt }

/-- Nothing changed. -/
theorem RaiseOnly.refl (s : State) : RaiseOnly s s := rfl
/-- Two such changes one after the other. -/
theorem RaiseOnly.trans {s t u : State} (h : RaiseOnly s t) (g : RaiseOnly t u) : RaiseOnly s u := by
  unfold RaiseOnly at *; rw [g, h]
/-- Either of two such changes. -/
theorem RaiseOnly.ite {s t u : State} {c : Prop} [Decidable c] (h : RaiseOnly s t) (g : RaiseOnly s u) :
    RaiseOnly s (if c then t else u) := by split <;> assumption
/-- A change of the Event Router is one. -/
theorem raiseOnly_of_evOnly {s t : State} (h : EvOnly s t) : RaiseOnly s t := by
  unfold RaiseOnly
  rw [h]

/-- A raise on one function. -/
theorem raiseOn_only (s : State) (f : Fn) (k : EvId) (al : Bool) : RaiseOnly s (raiseOn s f k al) := by
  unfold raiseOn
  refine RaiseOnly.ite (RaiseOnly.refl s) ?_
  have set : RaiseOnly s (setEv s f k fun e => { e with cause := true, raises := satInc e.raises }) := rfl
  refine set.trans (RaiseOnly.ite rfl (RaiseOnly.ite ?_ (RaiseOnly.refl _)))
  exact RaiseOnly.trans (t := setEv _ f k _) rfl (raiseOnly_of_evOnly (noteEv_only _ f k))

/-- A raise. -/
theorem raiseEv_only (s : State) (k : EvId) (al : Bool) : RaiseOnly s (raiseEv s k al) :=
  (raiseOn_only s .pf0 k al).trans (raiseOn_only _ .pf1 k al)

/-! ### Bits and folds -/

/-- A bit after a bit is set. -/
theorem bit_putBit {w : Nat} (x : BitVec w) {i j : Nat} (hj : j < w) : bit (putBit x i true) j = (bit x j || decide (i = j)) := by
  unfold bit putBit
  rw [if_pos rfl, BitVec.getLsbD_or, BitVec.getLsbD_shiftLeft]
  by_cases h : i = j
  · subst h; simp [hj, Nat.zero_lt_of_lt hj]
  · simp only [h, decide_false, Bool.or_false, Bool.or_eq_left_iff_imp]
    simp; omega

/-- What each step keeps, the whole list keeps. -/
theorem foldl_keeps {σ α β : Type} {f : σ → α → σ} {g : σ → β} (h : ∀ s a, g (f s a) = g s) (l : List α) (s : σ) :
    g (l.foldl f s) = g s := by
  induction l generalizing s with
  | nil => rfl
  | cons a l ih => exact (ih _).trans (h s a)

/-! ### MEMORY -/

/-- The outcome of a failed SRAM checker in its structure (R582). -/
def SramFenced (s : State) : SramPart → Prop
  | .slice k => s.mgr.slices[k].fenced = true
  | .crib u => s.units[u].fenced = true
  | .entropyQueue => s.ent.fenced = true
  | .store | .bridle => True

/-- The DRBG's fence touches the Entropy Block and what a raise touches. -/
theorem entFence_spec (s : State) :
    (entFence s).mgr = s.mgr ∧ (entFence s).units = s.units ∧ (entFence s).boot = s.boot ∧ (entFence s).ent.fenced = true := by
  have enter (t : State) (st : EntState) :
      (entEnter t st).mgr = t.mgr ∧ (entEnter t st).units = t.units ∧ (entEnter t st).boot = t.boot ∧
      (entEnter t st).ent.fenced = t.ent.fenced := by
    unfold entEnter
    split
    · exact ⟨rfl, rfl, rfl, rfl⟩
    · rw [raiseEv_only _ 302 false]
      exact ⟨rfl, rfl, rfl, rfl⟩
  obtain ⟨hm, hu, hb, he⟩ := enter { entZero s with ent := { (entZero s).ent with fenced := true } } .fenced
  exact ⟨hm, hu, hb, he⟩

/-- A failed checker sets bit 63 and fences its structure; what was fenced stays so (R76, R582). -/
theorem sramFail_spec (s : State) (x : SramPart) :
    bit (sramFail s x).boot.fence 63 = true ∧ SramFenced (sramFail s x) x ∧
    ∀ y, SramFenced s y → SramFenced (sramFail s x) y := by
  have b63 (b : BitVec 64) : bit (putBit b 63 true) 63 = true := by rw [bit_putBit b (by decide)]; simp
  cases x with
  | slice k =>
    refine ⟨b63 _, congrArg Slice.fenced (upd_self s.mgr.slices k _), fun y hy => ?_⟩
    cases y with
    | slice j =>
      show (upd s.mgr.slices k _)[j].fenced = true
      rw [upd_get]
      split
      · rfl
      · exact hy
    | _ => exact hy
  | crib u =>
    refine ⟨b63 _, congrArg UnitState.fenced (upd_self s.units u _), fun y hy => ?_⟩
    cases y with
    | crib v =>
      show (upd s.units u _)[v].fenced = true
      rw [upd_get]
      split
      · rfl
      · exact hy
    | _ => exact hy
  | entropyQueue =>
    obtain ⟨mgr, units, -, fenced⟩ := entFence_spec s
    refine ⟨b63 _, fenced, fun y hy => ?_⟩
    cases y with
    | slice j => show (entFence s).mgr.slices[j].fenced = true; rw [mgr]; exact hy
    | crib v => show (entFence s).units[v].fenced = true; rw [units]; exact hy
    | entropyQueue => exact fenced
    | _ => exact hy
  | store => exact ⟨b63 _, trivial, fun _ hy => hy⟩
  | bridle => exact ⟨b63 _, trivial, fun _ hy => hy⟩

/-- Every failed checker has its structure fenced. -/
theorem sramFails_fenced (s : State) (bad : List SramPart) : ∀ x ∈ bad, SramFenced (bad.foldl sramFail s) x := by
  refine foldl_establishes (P := fun x t => SramFenced t x) (fun t x => ?_) (fun t x y h => ?_) bad s
  · obtain ⟨-, fenced, -⟩ := sramFail_spec t x
    exact fenced
  · obtain ⟨-, -, keeps⟩ := sramFail_spec t y
    exact keeps x h

/-- A failed checker sets bit 63. -/
theorem sramFails_bit (s : State) {bad : List SramPart} (h : bad ≠ []) : bit (bad.foldl sramFail s).boot.fence 63 = true := by
  obtain ⟨x, hx⟩ := List.exists_mem_of_ne_nil bad h
  exact foldl_establishes (P := fun _ (t : State) => bit t.boot.fence 63 = true) (fun t x => (sramFail_spec t x).1)
    (fun t _ y _ => (sramFail_spec t y).1) bad s x hx

/-- MEMORY ended over the channels that run. -/
def memoryDone (s : State) (ok : Bool) (top : Option ChanId) : State :=
  { s with boot := { s.boot with phase := .selfTest, tablesBuilt := ok && top.isSome },
           dram := { s.dram with tableChan := top }, tableOk := ok && top.isSome }

/-- MEMORY_PHASE_END once no channel trains or fills (R40, R570). -/
theorem execMemoryPhaseEnd_go {s : State} (hp : s.boot.phase = .memory) (hc : s.mcs.toList.any channelBusy = false)
    (ok : Bool) (bad : List SramPart) :
    exec (.memoryPhaseEnd ok bad) s =
      .next (settle (memoryDone (bad.foldl sramFail s) ok (vfind s.mcs fun m => decide (m.state = .run)).getLast?)) := by
  show execMemoryPhaseEnd ok bad s = _
  unfold execMemoryPhaseEnd memoryDone
  rw [if_neg (by simp [hp, hc])]

/-! ### SELF_TEST -/

/-- The tests of SELF_TEST that failed. -/
def testFails (s : State) (failed : BitVec 64) : State :=
  (List.finRange 64).foldl (fun s i => if bit failed i.val then testFail s i else s) s

/-- The tests over: no unit is under test (R76). -/
def testsOver (s : State) : State :=
  { s with units := vmap (fun x => { x with testing := false }) s.units,
           boot := { s.boot with selfTested := true },
           disp := { s.disp with passes := satAdd s.disp.passes (vfind s.units fun x => x.testing).length } }

/-- SELF_TEST ended, and ROOT_GEN follows where it is due (R85, R87). -/
def selfTestDone (s : State) : State := if rootDue (testsOver s) then toPhase (testsOver s) .rootGen else testsOver s

/-- SELF_TEST_PHASE_END with no start-up test and no instantiation running (R76). -/
theorem execSelfTestPhaseEnd_go {s : State} (hp : s.boot.phase = .selfTest) (ht : s.boot.selfTested = false)
    (hn : ∀ n : NsId, s.ns[n].state ≠ .startup) (he : s.ent.state ≠ .init) (failed : BitVec 64) :
    exec (.selfTestPhaseEnd failed) s = .next (settle (selfTestDone (testFails s failed))) := by
  have quiet : ((List.finRange 2).any fun n => decide (s.ns[n].state = .startup) && !bit failed (56 + n.val)) = false := by
    simp [-Fin.getElem_fin, hn]
  show execSelfTestPhaseEnd failed s = _
  unfold execSelfTestPhaseEnd selfTestDone testsOver testFails
  extract_lets busy
  rw [if_neg (by simp [busy, quiet, hp, ht, he, -Fin.getElem_fin, -List.any_eq_true])]

/-- What SELF_TEST's end leaves in boot and the units. -/
theorem selfTestDone_spec (s : State) :
    (selfTestDone s).boot.selfTested = true ∧ (selfTestDone s).boot.fence = s.boot.fence ∧
    (selfTestDone s).boot.phase = (if rootDue s then .rootGen else s.boot.phase) ∧
    (selfTestDone s).hlt = s.hlt ∧ ∀ u : UnitId, (selfTestDone s).units[u] = { s.units[u] with testing := false } := by
  unfold selfTestDone
  have due : rootDue (testsOver s) = rootDue s := rfl
  have units (u : UnitId) : (testsOver s).units[u] = { s.units[u] with testing := false } := by
    simp only [testsOver, vmap_get]
  rw [due]
  split
  · exact ⟨rfl, rfl, rfl, rfl, units⟩
  · exact ⟨rfl, rfl, rfl, rfl, units⟩

/-- What a unit comes to at the end of SELF_TEST: fenced already, or under test and failed. -/
def unitDue (failed : BitVec 64) (u : UnitId) (s : State) : Bool := bit failed u.val && s.units[u].testing

/-- The step of SELF_TEST's end for one bit. -/
def testStep (failed : BitVec 64) (s : State) (i : Fin 64) : State := if bit failed i.val then testFail s i else s

/-- With no bit above 55 a step fences the unit of its bit, if it failed under test, or does nothing (R76). -/
theorem testStep_eq {failed : BitVec 64} (h : (field failed 56 8 : BitVec 8) = 0) (s : State) (i : Fin 64) :
    (∃ u : UnitId, i.val = u.val ∧ testStep failed s i = if unitDue failed u s then bootFenceUnit s u else s) ∨
    56 ≤ i.val ∧ testStep failed s i = s := by
  unfold testStep unitDue
  by_cases hi : i.val < 56
  · refine .inl ⟨⟨i.val, hi⟩, rfl, ?_⟩
    simp only [testFail, dif_pos hi]
    cases bit failed i.val <;> simp
  · refine .inr ⟨by omega, if_neg ?_⟩
    have b : bit failed i.val = (field failed 56 8).getLsbD (i.val - 56) := by
      simp only [bit, field, BitVec.getLsbD_extractLsb', show 56 + (i.val - 56) = i.val by omega,
        show i.val - 56 < 8 by omega, decide_true, Bool.true_and]
    rw [b, h]
    simp

/-- A unit fenced at boot: that unit is fenced with its bit, and is under test no longer; the others stand. -/
theorem bootFenceUnit_unit (s : State) (u v : UnitId) :
    (bootFenceUnit s u).units[v].fenced = (s.units[v].fenced || decide (u = v)) ∧
    (bootFenceUnit s u).units[v].testing = (s.units[v].testing && !decide (u = v)) ∧
    bit (bootFenceUnit s u).boot.fence v.val = (bit s.boot.fence v.val || decide (u = v)) := by
  have unit : (bootFenceUnit s u).units[v] =
      (upd s.units u fun x => noteFault { x with fenced := true, testing := false } 6)[v] := rfl
  have fence : (bootFenceUnit s u).boot.fence = putBit s.boot.fence u.val true := rfl
  rw [unit, fence, upd_get, bit_putBit _ (by omega)]
  by_cases h : u = v
  · subst h
    simp [noteFault]
  · simp [h, Fin.val_inj]

/-- What a step does to one unit: fenced with its bit where it is that unit's step and the unit failed under test. -/
theorem testStep_unit {failed : BitVec 64} (h : (field failed 56 8 : BitVec 8) = 0) (s : State) (i : Fin 64) (v : UnitId) :
    (testStep failed s i).units[v].fenced = (s.units[v].fenced || (decide (i.val = v.val) && unitDue failed v s)) ∧
    bit (testStep failed s i).boot.fence v.val = (bit s.boot.fence v.val || (decide (i.val = v.val) && unitDue failed v s)) ∧
    unitDue failed v (testStep failed s i) = (unitDue failed v s && !decide (i.val = v.val)) := by
  rcases testStep_eq h s i with ⟨u, hi, e⟩ | ⟨hi, e⟩
  · have same : decide (i.val = v.val) = decide (u = v) := by rw [hi]; exact decide_eq_decide.2 Fin.val_inj
    rw [e, same]
    cases hd : unitDue failed u s
    · rw [if_neg Bool.false_ne_true]
      by_cases huv : u = v
      · subst huv; simp [hd]
      · simp [huv]
    · rw [if_pos rfl]
      obtain ⟨fenced, testing, fence⟩ := bootFenceUnit_unit s u v
      have due : unitDue failed v (bootFenceUnit s u) = (unitDue failed v s && !decide (u = v)) := by
        rw [unitDue, testing, unitDue, Bool.and_assoc]
      rw [fenced, fence, due]
      by_cases huv : u = v
      · subst huv; simp [hd]
      · simp [huv]
  · have other : decide (i.val = v.val) = false := decide_eq_false (by omega)
    rw [e, other]
    simp

/-- The units at the end of SELF_TEST: each that failed while it was tested is fenced with its bit (R76). -/
theorem testFails_unit {failed : BitVec 64} (h : (field failed 56 8 : BitVec 8) = 0) (s : State) (v : UnitId) :
    (testFails s failed).units[v].fenced = (s.units[v].fenced || unitDue failed v s) ∧
    bit (testFails s failed).boot.fence v.val = (bit s.boot.fence v.val || unitDue failed v s) := by
  have fold : testFails s failed = (List.finRange 64).foldl (testStep failed) s := rfl
  have due : unitDue failed v (testFails s failed) = false := by
    rw [fold]
    refine foldl_establishes (P := fun (i : Fin 64) (t : State) => i.val = v.val → unitDue failed v t = false) ?_ ?_ _ s
      ⟨v.val, by omega⟩ (List.mem_finRange _) rfl
    · intro t i hi
      rw [(testStep_unit h t i v).2.2, hi]
      simp
    · intro t i j ht hi
      rw [(testStep_unit h t j v).2.2, ht hi]
      rfl
  have fenced : ((testFails s failed).units[v].fenced || unitDue failed v (testFails s failed)) =
      (s.units[v].fenced || unitDue failed v s) := by
    rw [fold]
    refine foldl_keeps (g := fun t : State => t.units[v].fenced || unitDue failed v t) (fun t i => ?_) _ s
    obtain ⟨hf, -, hd⟩ := testStep_unit h t i v
    rw [hf, hd]
    cases t.units[v].fenced <;> cases unitDue failed v t <;> cases decide (i.val = v.val) <;> rfl
  have fence : (bit (testFails s failed).boot.fence v.val || unitDue failed v (testFails s failed)) =
      (bit s.boot.fence v.val || unitDue failed v s) := by
    rw [fold]
    refine foldl_keeps (g := fun t : State => bit t.boot.fence v.val || unitDue failed v t) (fun t i => ?_) _ s
    obtain ⟨-, hf, hd⟩ := testStep_unit h t i v
    rw [hf, hd]
    cases bit t.boot.fence v.val <;> cases unitDue failed v t <;> cases decide (i.val = v.val) <;> rfl
  rw [due, Bool.or_false] at fenced fence
  exact ⟨fenced, fence⟩

/-- With no failure named nothing fails. -/
theorem testFails_zero (s : State) : testFails s 0 = s :=
  List.foldl_fixed' (fun i => if_neg (by simp [bit])) _

/-! ### ROOT_GEN -/

/-- TS0 with the root from the first entry drawn. -/
def rootSlot (s : State) (e : BitVec 512) : Slot :=
  let v := BitVec.ofNat 256 (leNat (slice (entryBytes [e]) 0 32))
  { value := v, attr := rootAttr s, crc := crc32c (slotBytes v (rootAttr s)), state := .valid }

/-- The root programmed, its draw used up (R86). -/
def rootProgrammed (s : State) (e : BitVec 512) : State :=
  takeFree { s with tkr := { s.tkr with slots := s.tkr.slots.set 0 (rootSlot s e) },
                    ent := { s.ent with granted := s.ent.granted.filter fun g => decide (g.1 ≠ .root) } } 1

/-- ROOT_GEN with its draw, read back as it was programmed (R86). -/
theorem execRootGen_drawn {s : State} (hp : s.boot.phase = .rootGen) {e : BitVec 512} {rest : List (BitVec 512)}
    (he : grantedTo s .root = e :: rest) : exec (.rootGen true) s = .next (settle (lcEnd (rootProgrammed s e) 0)) := by
  show execRootGen true s = _
  unfold execRootGen
  rw [if_neg (by simp [hp]), he]
  rfl

/-- Once the root is programmed no draw for it is left. -/
theorem rootProgrammed_granted (s : State) (e : BitVec 512) : grantedTo (rootProgrammed s e) .root = [] := by
  have none : (s.ent.granted.filter fun g => decide (g.1 ≠ .root)).find? (fun g => decide (g.1 = Consumer.root)) = none := by
    rw [List.find?_eq_none]
    intro g hg
    simpa using (List.mem_filter.1 hg).2
  unfold grantedTo rootProgrammed takeFree
  dsimp only
  rw [none]
  rfl

/-- A life-cycle byte programmed, with good routes (EV298). -/
theorem lcEnd_only {s : State} (h : RoutesGood s) (i : Fin 3) :
    EvOnly { s with tkr := { s.tkr with lcWord := s.tkr.lcWord.set i 0xFF, lcBusy := none } } (lcEnd s i) :=
  (raiseEv_spec (s := { s with tkr := { s.tkr with lcWord := s.tkr.lcWord.set i 0xFF, lcBusy := none } }) h 298 false).1

/-- Settles O9. -/
theorem memorySelfTestAndRootGenEnd : Obligations.MemorySelfTestAndRootGenEnd := by
  intro s q
  refine ⟨fun hp hc ok => ⟨?_, fun bad => ?_⟩, fun hp ht hn he => ⟨?_, fun failed hf => ?_⟩, fun hp routes e rest he => ?_⟩
  · refine ⟨_, execMemoryPhaseEnd_go hp hc ok [], ?_⟩
    rw [List.foldl_nil, settle_of_quiet (s := memoryDone s ok _) q]
    exact ⟨rfl, rfl, rfl, rfl, rfl, rfl, rfl⟩
  · refine ⟨_, execMemoryPhaseEnd_go hp hc ok bad, _, rfl, rfl, sramFails_bit s, fun k hk => ?_, fun v hv => ?_, fun hb => ?_⟩
    · exact sramFails_fenced s bad _ hk
    · exact sramFails_fenced s bad _ hv
    · exact sramFails_fenced s bad _ hb
  · obtain ⟨tested, fence, phase, hlt, units⟩ := selfTestDone_spec s
    refine ⟨selfTestDone s, ?_, tested, fence, units, by rw [phase, hp]⟩
    rw [execSelfTestPhaseEnd_go hp ht hn he, testFails_zero, settle_of_quiet (by rw [hlt]; exact q)]
  · obtain ⟨tested, fence, -, -, units⟩ := selfTestDone_spec (testFails s failed)
    refine ⟨_, execSelfTestPhaseEnd_go hp ht hn he failed, _, rfl, tested, fun u => ?_⟩
    rw [units u, fence]
    exact testFails_unit hf s u
  · have only := lcEnd_only (s := rootProgrammed s e) routes 0
    have done := execRootGen_drawn hp he
    generalize lcEnd (rootProgrammed s e) 0 = t at only done
    rw [settle_of_quiet (by rw [only]; exact q)] at done
    have slots : t.tkr.slots = s.tkr.slots.set 0 (rootSlot s e) := by rw [only]; rfl
    have ts0 : t.tkr.slots[(0 : SlotId)] = rootSlot s e := by
      rw [slots]
      exact Vector.getElem_set_self _
    have ent : t.ent = (rootProgrammed s e).ent := by rw [only]
    refine ⟨t, done, ?_, ?_, ?_, fun k hk => ?_, ?_, by rw [only]; rfl, by rw [only]; rfl⟩
    · rw [ts0]
      rfl
    · rw [ts0]
      rfl
    · rw [only]
      exact Vector.getElem_set_self _
    · rw [slots]
      exact Vector.getElem_set_ne _ _ fun c => hk (Fin.ext c.symm)
    · rw [grantedTo, ent]
      exact rootProgrammed_granted s e

end Sys2Proof.Waking

namespace Sys2Proof.Waking
open Sys2Proof.Machine Sys2Proof.Safety

/-! ### RESET to PRELOAD_TEST -/

/-- The Tack Room with every OTP slot evaluated (R318). -/
def slotsSensed (s : State) : State := { s with tkr := { s.tkr with slots := vmap evalSlot s.tkr.slots, sensed := true } }

/-- OTP sensed where no check fails: the slots evaluated, and nothing raised (R318, R353, R355). -/
theorem senseOtp_clean {s : State} (slots : ∀ k : SlotId, (evalSlot s.tkr.slots[k]).state ≠ .bad)
    (ha : copyBad s.tkr.ownerA = false) (hb : copyBad s.tkr.ownerB = false) (hl : lcPartial s = false) :
    senseOtp s = slotsSensed s := by
  have good (k : SlotId) : (vmap evalSlot s.tkr.slots)[k].state ≠ .bad := by rw [vmap_get]; exact slots k
  have none : vfind (vmap evalSlot s.tkr.slots) (fun x => decide (x.state = .bad)) = [] :=
    List.filter_eq_nil_iff.2 fun k _ => by rw [decide_eq_true_iff]; exact good k
  have first : (vmap evalSlot s.tkr.slots)[0].state ≠ .bad := good 0
  have part : lcPartial (slotsSensed s) = false := by
    unfold lcPartial slotsSensed at *
    exact hl
  unfold slotsSensed at *
  unfold senseOtp
  dsimp only
  rw [if_neg first, none, List.any_nil, if_neg Bool.false_ne_true]
  rw [ha, hb, Bool.or_self, if_neg Bool.false_ne_true, part, if_neg Bool.false_ne_true]

/-- A state differs from another in the Tamper Monitor's inputs alone. -/
def InpOnly (s t : State) : Prop := t = { s with tmp := { s.tmp with inp := t.tmp.inp } }

/-- Two such changes one after the other. -/
theorem InpOnly.trans {s t u : State} (h : InpOnly s t) (g : InpOnly t u) : InpOnly s u := by
  unfold InpOnly at *; rw [g, h]

/-- The battery section's outputs move the inputs alone. -/
theorem followBattery_only (s : State) : InpOnly s (followBattery s) := by
  have step (u : State) (n : InputId) : InpOnly u
      (if batteryInput n then setIn u n fun x => inputMode x (bit u.tmp.vbEn n.val) (bit u.tmp.vbActive n.val) else u) := by
    split <;> rfl
  have fold (l : List InputId) (u : State) : InpOnly u (l.foldl (fun s n =>
      if batteryInput n then setIn s n fun x => inputMode x (bit s.tmp.vbEn n.val) (bit s.tmp.vbActive n.val) else s) u) := by
    induction l generalizing u with
    | nil => rfl
    | cons n l ih => exact (step u n).trans (ih _)
  exact fold _ s

/-- A state differs from another in boot and the Tamper Monitor alone. -/
def BatteryOnly (s t : State) : Prop := t = { s with boot := t.boot, tmp := t.tmp }

/-- The battery report: what it finds, and the keys locked by it (R46). -/
theorem batteryReport_spec (s : State) :
    BatteryOnly s (batteryReport s) ∧ (batteryReport s).boot.phase = s.boot.phase ∧
    (batteryReport s).boot.vbatReport = (decide (s.tmp.latch ≠ 0) || s.tmp.lost || decide (s.tmp.canary ≠ 0x5A3C96E1)) ∧
    ((batteryReport s).boot.vbatReport = true → (batteryReport s).boot.keysLocked = true) := by
  unfold batteryReport
  by_cases h : s.tmp.canary = 0x5A3C96E1
  · have none : decide (s.tmp.canary ≠ 0x5A3C96E1) = false := decide_eq_false (not_not.2 h)
    rw [if_pos h, none, Bool.or_false]
    exact ⟨rfl, rfl, rfl, fun hr => Bool.or_eq_true_iff.2 (.inl hr)⟩
  · rw [if_neg h, decide_eq_true h, Bool.or_true]
    exact ⟨rfl, rfl, Bool.or_true _, fun hr => Bool.or_eq_true_iff.2 (.inl hr)⟩

/-- RESET ends on a powered part that nothing holds (R38). -/
theorem execResetPhaseEnd_go {s : State} (hp : s.boot.phase = .reset) (power : s.boot.powered = true)
    (hn : s.boot.perst = false) (ht : s.boot.testMode = false) (trip : s.tmp.tripHold = false) :
    exec .resetPhaseEnd s =
      .next { s with boot := { s.boot with phase := .otp }, hlt := { s.hlt with alert := alertWanted s } } := by
  show execResetPhaseEnd s = _
  unfold execResetPhaseEnd
  rw [if_neg (by simp [hp, power, hn, ht, trip])]
  rfl

/-- OTP ends (R38, R46). -/
theorem execOtpPhaseEnd_go {s : State} (hp : s.boot.phase = .otp) :
    exec .otpPhaseEnd s = .next (settle (followBattery (batteryReport (senseOtp (toPhase s .clock))))) := by
  show execOtpPhaseEnd s = _
  unfold execOtpPhaseEnd
  rw [if_neg (by simp [hp])]

/-- CLOCK ends, or fails (R38, R99). -/
theorem execPllLock_go {s : State} (hp : s.boot.phase = .clock) (hu : s.boot.pllUnlocked = false) :
    exec .pllLock s =
      .next { s with boot := { s.boot with phase := .preloadTest, clkOn := true, clkRate := 2, clkMon := true },
                     hlt := { s.hlt with clkRef := false } } ∧
    exec .pllLockTimeout s =
      .next (settle (raiseHs { s with boot := { s.boot with pllUnlocked := true }, hlt := { s.hlt with alert := true } } 83 none)) := by
  constructor
  · show execPllLock s = _
    unfold execPllLock
    rw [if_neg (by simp [hp, hu])]
  · show execPllLockTimeout s = _
    unfold execPllLockTimeout
    rw [if_neg (by simp [hp, hu])]

/-- PRELOAD_TEST passed: PD48 to PD56 are powered, and LOAD begins with what SFDP gives (R38). -/
def preloadPassed (s : State) (f : Option Sfdp) : State :=
  { s with pds := vmapIdx (fun d p => if 48 ≤ d.val ∧ d.val ≤ 56 then { p with state := .on } else p) s.pds,
           boot := { s.boot with phase := .load, sfdp := f, spiDriven := decide (copyBase s.boot.imgSel ≠ none) } }

/-- The three ends of PRELOAD_TEST with the checker of MS0 passed or not reached (R38, R99). -/
theorem execPreloadTestEnd_go {s : State} (hp : s.boot.phase = .preloadTest) (f : Option Sfdp) (mr m0 : Bool) :
    exec (.preloadTestEnd true true true f) s = .next (settle (preloadPassed s f)) ∧
    exec (.preloadTestEnd false mr m0 f) s = .next (settle (raiseHs (bootFail s 1) 95 none)) ∧
    exec (.preloadTestEnd true false m0 f) s = .next (settle (selfFail (bootFail s 2) 6 none)) := by
  refine ⟨?_, ?_, ?_⟩
  · show execPreloadTestEnd _ _ _ f s = _
    unfold execPreloadTestEnd
    rw [if_neg (by simp [hp])]
    rfl
  · show execPreloadTestEnd _ _ _ f s = _
    unfold execPreloadTestEnd
    rw [if_neg (by simp [hp])]
    rfl
  · show execPreloadTestEnd _ _ _ f s = _
    unfold execPreloadTestEnd
    rw [if_neg (by simp [hp])]
    rfl

/-- A domain after PRELOAD_TEST. -/
theorem preloadPassed_pd (s : State) (f : Option Sfdp) (d : PdId) :
    (preloadPassed s f).pds[d].state = if 48 ≤ d.val ∧ d.val ≤ 56 then .on else s.pds[d].state := by
  unfold preloadPassed
  rw [vmapIdx_get]
  split <;> rfl

/-! ### LOAD -/

/-- Boot as LOAD leaves it with a choice between the copies (R71, R101-R103). -/
def loadBoot (b : Boot) (c : Choice) : Boot :=
  { b with phase := .apply, aErr := c.aErr, bErr := c.bErr, badRecord := BitVec.ofNat 16 c.bad,
           imageSrc := c.src, aValid := decide (c.src = 1), bValid := decide (c.src = 2),
           signed := (c.image.map (·.signed)).getD false, sequence := (c.image.map (·.sequence)).getD 0,
           spiMode := spiModeOf b.imgSel b.sfdp, fallback := c.image.isSome && c.fallback,
           image := c.image, spiDriven := false }

/-- LOAD ended with a choice over the units that passed. -/
def loadDone (s : State) (pass : BitVec 8) (c : Choice) : State :=
  { preloadBnu s pass with boot := loadBoot (preloadBnu s pass).boot c }

/-- What LOAD reports of a choice (R99). -/
def loadReport (s : State) (c : Choice) : State :=
  if c.image.isNone then raiseHs s 80 none else if c.fallback then raiseInfo s 80 else s

/-- LOAD ends (R39). -/
theorem execLoadPhaseEnd_go {s : State} (hp : s.boot.phase = .load) (a b : List Byte) (pass : BitVec 8) :
    exec (.loadPhaseEnd a b pass) s =
      .next (settle (loadReport (loadDone s pass (chooseImage s pass a b)) (chooseImage s pass a b))) := by
  show execLoadPhaseEnd a b pass s = _
  unfold execLoadPhaseEnd loadReport loadDone loadBoot
  rw [if_neg (by simp [hp])]

/-- The step of LOAD's pre-load tests for one unit. -/
def preloadStep (pass : BitVec 8) (s : State) (k : Fin 8) : State :=
  if bit pass k.val then s else bootFenceUnit s ⟨48 + k.val, by omega⟩

/-- Every unit passed. -/
theorem preloadBnu_all (s : State) : preloadBnu s 0xFF = s := by
  have all : ∀ k : Fin 8, bit (0xFF : BitVec 8) k.val = true := by decide
  exact List.foldl_fixed' (f := preloadStep 0xFF) (fun k => if_pos (all k)) _

/-- A unit's step fences it where it failed, with its bit and its source, and nothing undoes that; no step touches what LOAD
reads of the image. -/
theorem preloadStep_spec (pass : BitVec 8) (s : State) (k : Fin 8) (u : UnitId) :
    let t := preloadStep pass s k
    t.units[u].fenced = (s.units[u].fenced || (decide (48 + k.val = u.val) && !bit pass k.val)) ∧
    bit t.boot.fence u.val = (bit s.boot.fence u.val || (decide (48 + k.val = u.val) && !bit pass k.val)) ∧
    (bit pass k.val = false → ∃ x ∈ t.hlt.inbox, x.src.val = 48 + k.val) ∧ ∀ x ∈ s.hlt.inbox, x ∈ t.hlt.inbox := by
  intro t
  by_cases hb : bit pass k.val = true
  · have e : t = s := if_pos hb
    rw [e, hb]
    simp
  · have e : t = bootFenceUnit s ⟨48 + k.val, by omega⟩ := if_neg hb
    have same : decide ((⟨48 + k.val, by omega⟩ : UnitId) = u) = decide (48 + k.val = u.val) := decide_eq_decide.2 Fin.ext_iff
    obtain ⟨fenced, -, fence⟩ := bootFenceUnit_unit s ⟨48 + k.val, by omega⟩ u
    rw [e, fenced, fence, Bool.eq_false_of_not_eq_true hb, same]
    refine ⟨by simp, by simp, fun _ => ⟨_, List.mem_append_right _ (List.mem_singleton_self _), rfl⟩,
      fun x hx => List.mem_append_left _ hx⟩

/-- A flag that each step sets or leaves is at last set by any of them. -/
theorem foldl_or {σ α : Type} {f : σ → α → σ} {g : σ → Bool} {h : α → Bool} (step : ∀ s a, g (f s a) = (g s || h a))
    (l : List α) (s : σ) : g (l.foldl f s) = (g s || l.any h) := by
  induction l generalizing s with
  | nil => simp
  | cons a l ih => rw [List.foldl_cons, ih, step, List.any_cons, Bool.or_assoc]

/-- Of the pre-load tests one is the unit's own. -/
theorem any_preload (pass : BitVec 8) {u : UnitId} {k : Fin 8} (hu : u.val = 48 + k.val) :
    ((List.finRange 8).any fun j : Fin 8 => decide (48 + j.val = u.val) && !bit pass j.val) = !bit pass k.val := by
  rw [Bool.eq_iff_iff, List.any_eq_true]
  constructor
  · rintro ⟨j, -, hj⟩
    obtain ⟨same, failed⟩ := Bool.and_eq_true_iff.1 hj
    have : j = k := Fin.ext (by have := of_decide_eq_true same; omega)
    exact this ▸ failed
  · exact fun failed => ⟨k, List.mem_finRange k, by rw [failed, hu]; simp⟩

/-- The big-number units after their pre-load tests (R76). -/
theorem preloadBnu_spec (s : State) (pass : BitVec 8) {u : UnitId} {k : Fin 8} (hu : u.val = 48 + k.val) :
    (preloadBnu s pass).units[u].fenced = (s.units[u].fenced || !bit pass k.val) ∧
    (bit pass k.val = false →
      bit (preloadBnu s pass).boot.fence u.val = true ∧ ∃ x ∈ (preloadBnu s pass).hlt.inbox, x.src = unitHs u) := by
  have fold : preloadBnu s pass = (List.finRange 8).foldl (preloadStep pass) s := rfl
  have fenced : (preloadBnu s pass).units[u].fenced = _ :=
    foldl_or (g := fun t : State => t.units[u].fenced) (fun t j => (preloadStep_spec pass t j u).1) (List.finRange 8) s
  have fence : bit (preloadBnu s pass).boot.fence u.val = _ :=
    foldl_or (g := fun t : State => bit t.boot.fence u.val) (fun t j => (preloadStep_spec pass t j u).2.1) (List.finRange 8) s
  rw [any_preload pass hu] at fenced fence
  refine ⟨fenced, fun failed => ⟨by rw [fence, failed]; simp, ?_⟩⟩
  have source : ∃ x ∈ (preloadBnu s pass).hlt.inbox, x.src.val = 48 + k.val := by
    rw [fold]
    refine foldl_establishes (P := fun (j : Fin 8) (t : State) => bit pass j.val = false → ∃ x ∈ t.hlt.inbox, x.src.val = 48 + j.val)
      (fun t j => ?_) (fun t j l h hj => ?_) _ s k (List.mem_finRange k) failed
    · obtain ⟨-, -, raised, -⟩ := preloadStep_spec pass t j u
      exact raised
    · obtain ⟨-, -, -, stays⟩ := preloadStep_spec pass t l u
      obtain ⟨x, hx, e⟩ := h hj
      exact ⟨x, stays x hx, e⟩
  obtain ⟨x, hx, e⟩ := source
  exact ⟨x, hx, Fin.ext (by rw [e, ← hu]; rfl)⟩

/-- What LOAD reports touches the Halter's input alone, and takes nothing from it. -/
theorem loadReport_spec (s : State) (c : Choice) :
    (loadReport s c).boot = s.boot ∧ (loadReport s c).units = s.units ∧ ∀ x ∈ s.hlt.inbox, x ∈ (loadReport s c).hlt.inbox := by
  unfold loadReport
  split
  · exact ⟨rfl, rfl, fun x hx => List.mem_append_left _ hx⟩
  · split
    · exact ⟨rfl, rfl, fun x hx => List.mem_append_left _ hx⟩
    · exact ⟨rfl, rfl, fun x hx => hx⟩

/-! ### APPLY -/

/-- APPLY ends (R44, R63, R66, R75). -/
theorem execApplyPhaseEnd_go {s : State} (hp : s.boot.phase = .apply) :
    let u := extendMr0 (applyImage (applyFixed s))
    exec .applyPhaseEnd s =
      .next (settle ((List.finRange 4).foldl bootChannel (bootOrder.foldl bootDomain
        { u with boot := { u.boot with phase := .memory, applied := true, cfgOpen := true } }))) := by
  show execApplyPhaseEnd s = _
  unfold execApplyPhaseEnd
  rw [if_neg (by simp [hp])]

/-- With no image: CORE_CLK by default, no entry, and MR0 extended with 48 zero bytes (R44, R71). -/
theorem apply_none {s : State} (h : s.boot.image = none) :
    (applyFixed s).boot.clkRate = 0 ∧ imageWrites s = [] ∧
    (s.mrb.fenced = false → extendMr0 s = mrExtend (mrSettled s) 0 (zeros 48)) := by
  refine ⟨?_, ?_, fun hf => ?_⟩
  · simp [applyFixed, h]
  · simp [imageWrites, h]
  · unfold extendMr0
    rw [hf, if_neg Bool.false_ne_true, h]
    rfl

/-- OTP ends with no failed check (R38, R46, R318). -/
theorem otpPhaseEnd_clean {s : State} (q : Quiet s) (hp : s.boot.phase = .otp)
    (slots : ∀ k : SlotId, (evalSlot s.tkr.slots[k]).state ≠ .bad) (ha : copyBad s.tkr.ownerA = false)
    (hb : copyBad s.tkr.ownerB = false) (hl : lcPartial s = false) :
    Ends .otpPhaseEnd s fun t => t.boot.phase = .clock ∧ t.tkr.sensed = true ∧
      (∀ k : SlotId, t.tkr.slots[k] = evalSlot s.tkr.slots[k]) ∧
      t.boot.vbatReport = (decide (s.tmp.latch ≠ 0) || s.tmp.lost || decide (s.tmp.canary ≠ 0x5A3C96E1)) ∧
      (t.boot.vbatReport = true → t.boot.keysLocked = true) ∧ t.dram = s.dram ∧ t.mgr = s.mgr ∧ t.stalls = s.stalls := by
  have done := execOtpPhaseEnd_go hp
  rw [senseOtp_clean (s := toPhase s .clock) slots ha hb (by unfold lcPartial at *; exact hl)] at done
  obtain ⟨only, phase, report, locked⟩ := batteryReport_spec (slotsSensed (toPhase s .clock))
  have inputs := followBattery_only (batteryReport (slotsSensed (toPhase s .clock)))
  generalize followBattery (batteryReport (slotsSensed (toPhase s .clock))) = t at inputs done
  generalize batteryReport (slotsSensed (toPhase s .clock)) = u at *
  have boot : t.boot = u.boot := by rw [inputs]
  have tkr : t.tkr = (slotsSensed (toPhase s .clock)).tkr := by rw [inputs, only]
  rw [settle_of_quiet (by rw [inputs, only]; exact q)] at done
  refine ⟨t, done, by rw [boot, phase]; rfl, by rw [tkr]; rfl, fun k => ?_, by rw [boot, report]; rfl, by rw [boot]; exact locked, ?_⟩
  · rw [tkr]
    exact vmap_get evalSlot s.tkr.slots k
  · rw [inputs, only]
    exact ⟨rfl, rfl, rfl⟩

/-- LOAD ends with every big-number unit passed (R39, R71, R99). -/
theorem loadPhaseEnd_allPass {s : State} (q : Quiet s) (hp : s.boot.phase = .load) (a b : List Byte) (c : Choice)
    (hc : c = chooseImage s 0xFF a b) :
    (c.image ≠ none → c.fallback = false →
      Ends (.loadPhaseEnd a b 0xFF) s fun t => t.boot.phase = .apply ∧ t.boot.image = c.image ∧ t.boot.imageSrc = c.src ∧
        t.boot.aErr = c.aErr ∧ t.boot.bErr = c.bErr ∧ t.boot.spiDriven = false ∧ t.hlt = s.hlt ∧ t.units = s.units ∧
        t.dram = s.dram ∧ t.tkr = s.tkr) ∧
    (c.image = none →
      Ends (.loadPhaseEnd a b 0xFF) s fun t => ∃ u, t = settle (raiseHs u 80 none) ∧ u.boot.phase = .apply ∧
        u.boot.image = none ∧ u.boot.imageSrc = c.src) ∧
    (c.image ≠ none → c.fallback = true →
      Ends (.loadPhaseEnd a b 0xFF) s fun t => ∃ u, t = settle (raiseInfo u 80) ∧ u.boot.phase = .apply ∧
        u.boot.image = c.image ∧ u.boot.imageSrc = c.src) := by
  have done := execLoadPhaseEnd_go hp a b 0xFF
  have load : loadDone s 0xFF c = { s with boot := loadBoot s.boot c } := by rw [loadDone, preloadBnu_all]
  rw [← hc, load] at done
  have some (hi : c.image ≠ none) : ¬ c.image.isNone = true := by simpa using hi
  refine ⟨fun hi hf => ?_, fun hi => ?_, fun hi hf => ?_⟩
  · rw [loadReport, if_neg (some hi), hf, if_neg Bool.false_ne_true,
      settle_of_quiet (s := { s with boot := loadBoot s.boot c }) q] at done
    exact ⟨_, done, rfl, rfl, rfl, rfl, rfl, rfl, rfl, rfl, rfl, rfl⟩
  · rw [loadReport, if_pos (by rw [hi]; rfl)] at done
    exact ⟨_, done, _, rfl, rfl, hi, rfl⟩
  · rw [loadReport, if_neg (some hi), if_pos hf] at done
    exact ⟨_, done, _, rfl, rfl, rfl, rfl⟩

/-- LOAD ends whatever units passed (R39, R76). -/
theorem loadPhaseEnd_units {s : State} (hp : s.boot.phase = .load) (a b : List Byte) (pass : BitVec 8) :
    Ends (.loadPhaseEnd a b pass) s fun t => ∃ u, t = settle u ∧ u.boot.phase = .apply ∧
      u.boot.image = (chooseImage s pass a b).image ∧ ∀ (u' : UnitId) (k : Fin 8), u'.val = 48 + k.val →
        u.units[u'].fenced = (s.units[u'].fenced || !bit pass k.val) ∧
        (bit pass k.val = false → bit u.boot.fence u'.val = true ∧ ∃ x ∈ u.hlt.inbox, x.src = unitHs u') := by
  have done := execLoadPhaseEnd_go hp a b pass
  generalize chooseImage s pass a b = c at *
  obtain ⟨boot, units, stays⟩ := loadReport_spec (loadDone s pass c) c
  refine ⟨_, done, _, rfl, by rw [boot]; rfl, by rw [boot]; rfl, fun u k hu => ?_⟩
  obtain ⟨fenced, failed⟩ := preloadBnu_spec s pass hu
  rw [boot, units]
  refine ⟨fenced, fun hb => ?_⟩
  obtain ⟨fence, x, hx, src⟩ := failed hb
  exact ⟨fence, x, stays x hx, src⟩

/-- Settles O8. -/
theorem startupPhasesEndAsStated : Obligations.StartupPhasesEndAsStated := by
  refine ⟨fun s q => ⟨fun hp power hn ht trip => execResetPhaseEnd_go hp power hn ht trip, fun hp => otpPhaseEnd_clean q hp,
    fun hp hu => execPllLock_go hp hu, fun hp m0 f => ⟨?_, fun mr => ?_, ?_, rfl, rfl, rfl⟩⟩,
    fun s q => ⟨fun hp a b => ?_, fun hp a b pass => loadPhaseEnd_units hp a b pass, fun hp => ?_⟩⟩
  · obtain ⟨passed, -, -⟩ := execPreloadTestEnd_go hp f true true
    rw [settle_of_quiet (s := preloadPassed s f) q] at passed
    exact ⟨_, passed, rfl, rfl, preloadPassed_pd s f, rfl, rfl⟩
  · obtain ⟨-, halter, -⟩ := execPreloadTestEnd_go hp f mr m0
    exact halter
  · obtain ⟨-, -, bank⟩ := execPreloadTestEnd_go hp f true m0
    exact bank
  · exact loadPhaseEnd_allPass q hp a b _ rfl
  · exact ⟨execApplyPhaseEnd_go hp, apply_none⟩

end Sys2Proof.Waking

namespace Sys2Proof.Waking
open Sys2Proof.Machine Sys2Proof.Safety

/-- What both of two values keep, either keeps. -/
theorem ite_keeps {σ β : Type} {g : σ → β} {c : Prop} [Decidable c] {a b : σ} {v : β} (ha : g a = v) (hb : g b = v) :
    g (if c then a else b) = v := by
  split <;> assumption

/-! ### Channel states -/

/-- A move of a channel between states that are neither FENCED nor SELF_REFRESH touches the channel alone (R597). -/
theorem mcEnter_plain {s : State} {g : ChanId} {old st : McState} (hs : s.mcs[g].state = old) (hne : old ≠ st)
    (ho : old ≠ .fenced ∧ old ≠ .selfRefresh) (hst : st ≠ .fenced ∧ st ≠ .selfRefresh) :
    mcEnter s g st = setMc s g fun m => { m with state := st } := by
  unfold mcEnter
  rw [hs, if_neg hne]
  simp only [ho.1, ho.2, hst.1, hst.2, decide_false, Bool.or_self, Bool.false_eq_true, if_false, ne_eq, not_false_eq_true,
    if_true]

/-- Dropping a group's lines touches no channel. -/
theorem dropGroup_mcs (s : State) (g : ChanId) : (dropGroup s g).mcs = s.mcs := by
  have step (t : State) (x : Line) :
      (if lineChan x.line = g then dropLine (cribsDrop t x.line) x.line else t).mcs = t.mcs :=
    ite_keeps (g := State.mcs) (by unfold dropLine cribsDrop; rfl) rfl
  exact foldl_keeps (g := State.mcs) step s.mgr.lines s

/-- A fenced channel is FENCED with nothing to repair (R597). -/
theorem mcEnter_fenced {s : State} {g : ChanId} (h : s.mcs[g].state ≠ .fenced) :
    (mcEnter s g .fenced).mcs[g].state = .fenced ∧ (mcEnter s g .fenced).mcs[g].repairQ = [] := by
  have raised (t : State) (c : Bool) : (if c then raiseEv t 306 else t).mcs = t.mcs :=
    ite_keeps (g := State.mcs) (by rw [raiseEv_only t 306 false]) rfl
  have tables (t : State) (c : Prop) [Decidable c] : (if c then { t with tableOk := false } else t).mcs = t.mcs :=
    ite_keeps (g := State.mcs) rfl rfl
  unfold mcEnter
  rw [if_neg h]
  dsimp only
  rw [if_neg (by simp), tables, setMc_mcs, dropGroup_mcs, raised, setMc_mcs, upd_self, upd_self]
  exact ⟨rfl, rfl⟩

/-- See `mcEnter_fenced`. -/
theorem fenceChan_fenced {s : State} {g : ChanId} (h : s.mcs[g].state ≠ .fenced) :
    (fenceChan s g).mcs[g].state = .fenced ∧ (fenceChan s g).mcs[g].repairQ = [] := by
  unfold fenceChan
  rw [raiseHs_mcs]
  split
  · exact mcEnter_fenced h
  · exact mcEnter_fenced (s := { s with boot := _ }) h

/-- With no access held none resumes. -/
theorem resumeHeld_none {s : State} (h : s.mgr.held = []) : resumeHeld s = s := by
  have e : ({ s with mgr := { s.mgr with held := [] } } : State) = s := by rw [← h]
  unfold resumeHeld
  rw [h]
  exact e

/-- The addresses of a channel (R571). -/
theorem chanOf_eq_iff {a : Nat} (ha : a < 0x400000000) (g : ChanId) :
    chanOf a = g ↔ g.val * 0x100000000 ≤ a ∧ a < g.val * 0x100000000 + 0x100000000 := by
  have hv : chanOf a = g ↔ a / 0x100000000 % 4 = g.val := Fin.ext_iff
  rw [hv]
  omega

/-- A channel filled with zeros: its bytes, the other channels' bytes, and its poison (R93). -/
theorem zeroFill_spec (s : State) (g : ChanId) :
    (∀ a, chanOf a = g → a < 0x400000000 → cellGet (zeroFill s g).dram.cells a = 0) ∧
    (∀ a, a < 0x400000000 → chanOf a ≠ g → cellGet (zeroFill s g).dram.cells a = cellGet s.dram.cells a) ∧
    ∀ x ∈ (zeroFill s g).dram.poison, chanOf (64 * x) ≠ g := by
  refine ⟨fun a hg ha => ?_, fun a ha hg => ?_, fun x hx => ?_⟩
  · exact (cellGet_cellClear _ _ a).trans (if_pos ((chanOf_eq_iff ha g).1 hg))
  · exact (cellGet_cellClear _ _ a).trans (if_neg fun c => hg ((chanOf_eq_iff ha g).2 c))
  · exact of_decide_eq_true (List.mem_filter.1 hx).2

/-! ### Channel commands -/

/-- CHANNEL_TRAINING_END of a channel in training (R570, R595). -/
theorem execChannelTrainingEnd_training {s : State} {g : ChanId} (h : s.mcs[g].state = .training) (ok : Bool)
    (density : BitVec 3) (r2 : Bool) :
    exec (.channelTrainingEnd g ok density r2) s = .next (if ok && decide (density.toNat ≤ 6) then
      setMc (mcEnter s g .filling) g fun m => { m with density := density, ranks2 := r2, trained := true }
      else settle (fenceChan s g)) := by
  show execChannelTrainingEnd g ok density r2 s = _
  unfold execChannelTrainingEnd
  rw [h]
  dsimp only
  split <;> rfl

/-- CHANNEL_FILL_END of a channel in its fill (R595). -/
theorem execChannelFillEnd_filling {s : State} {g : ChanId} (h : s.mcs[g].state = .filling) :
    exec (.channelFillEnd g) s = .next (settle (resumeHeld (mcEnter (zeroFill s g) g .run))) := by
  show execChannelFillEnd g s = _
  unfold execChannelFillEnd
  rw [h]

/-- MR4_POLL and TRACKING_FAIL of a channel that runs (R573, R595). -/
theorem execPolls_run {s : State} {g : ChanId} (h : s.mcs[g].state = .run) :
    (∀ hot, exec (.mr4Poll g hot) s = .next (if hot then
      settle (raiseHs (setMc s g fun m => { m with hot := hot }) (chanHs g) none) else setMc s g fun m => { m with hot := hot })) ∧
    exec (.trackingFail g) s = .next (settle (fenceChan s g)) := by
  refine ⟨fun hot => ?_, ?_⟩
  · show execMr4Poll g hot s = _
    unfold execMr4Poll
    rw [h]
  · show execTrackingFail g s = _
    unfold execTrackingFail
    rw [h]

/-- On a channel that does not run they change nothing. -/
theorem execPolls_idle {s : State} {g : ChanId} (h : s.mcs[g].state ≠ .run) :
    (∀ hot, exec (.mr4Poll g hot) s = .next s) ∧ exec (.trackingFail g) s = .next s := by
  refine ⟨fun hot => ?_, ?_⟩
  · show execMr4Poll g hot s = _
    unfold execMr4Poll
    split
    · contradiction
    · rfl
  · show execTrackingFail g s = _
    unfold execTrackingFail
    split
    · contradiction
    · rfl

/-! ### ECC -/

/-- A correctable page counted and queued for repair (R579). -/
def pageCorrected (s : State) (g : ChanId) (page : BitVec 21) : State :=
  setMc s g fun m => { m with corrected := satInc m.corrected,
                              repairQ := if m.repairQ.length < 8 then m.repairQ ++ [page] else m.repairQ }

/-- The channels after it. -/
theorem pageCorrected_chan (s : State) (g : ChanId) (page : BitVec 21) :
    (pageCorrected s g page).mcs[g] =
      { s.mcs[g] with corrected := satInc s.mcs[g].corrected,
                      repairQ := if s.mcs[g].repairQ.length < 8 then s.mcs[g].repairQ ++ [page] else s.mcs[g].repairQ } ∧
    ∀ h : ChanId, h ≠ g → (pageCorrected s g page).mcs[h] = s.mcs[h] := by
  unfold pageCorrected
  rw [setMc_mcs]
  exact ⟨upd_self _ _ _, fun h hh => upd_other _ _ (Ne.symm hh)⟩

/-- Reads of a page that no running channel has change nothing. -/
theorem execReads_noPage {s : State} {g : ChanId} {page : BitVec 21} (h : pageOk s g page.toNat = false) :
    (∀ n, exec (.dramCorrectableRead g page n) s = .next s) ∧ ∀ st, exec (.dramUncorrectableRead g page st) s = .next s := by
  refine ⟨fun n => ?_, fun st => ?_⟩
  · show execDramCorrectableRead g page n s = _
    unfold execDramCorrectableRead
    rw [h]
    rfl
  · show execDramUncorrectableRead g page st s = _
    unfold execDramUncorrectableRead
    rw [h]
    rfl

/-- Reads of a usable page of a running channel (R579, R580). -/
theorem execReads_page {s : State} {g : ChanId} {page : BitVec 21} (h : pageOk s g page.toNat = true) :
    (∀ n, exec (.dramCorrectableRead g page n) s = .next (if s.mcs[g].ceThresh.toNat < n then
      raiseEv (pageCorrected s g page) 305 else pageCorrected s g page)) ∧
    ∀ st, exec (.dramUncorrectableRead g page st) s = .next (settle (raiseHs (poisonPage s g page 1) (chanHs g) st)) := by
  refine ⟨fun n => ?_, fun st => ?_⟩
  · have thresh : (pageCorrected s g page).mcs[g].ceThresh = s.mcs[g].ceThresh := by
      unfold pageCorrected
      rw [setMc_mcs, upd_self]
    rw [← thresh]
    show execDramCorrectableRead g page n s = _
    unfold execDramCorrectableRead pageCorrected
    rw [h]
    rfl
  · show execDramUncorrectableRead g page st s = _
    unfold execDramUncorrectableRead
    rw [h]
    rfl

/-- A sector inserted is in the list, with those that were. -/
theorem mem_secInsert {x k : Nat} : ∀ {p : List Nat}, x ∈ secInsert p k ↔ x = k ∨ x ∈ p
  | [] => by simp [secInsert]
  | h :: t => by
    unfold secInsert
    split
    · simp
    · split
      · subst_vars; simp
      · simp [mem_secInsert (p := t), or_left_comm]

/-- The sectors of a page poisoned one after the other are all listed. -/
theorem setPoison_range (first n : Nat) (p : List Nat) :
    ∀ i, i < n → first + i ∈ (List.range n).foldl (fun p i => setPoison p (first + i) true) p := fun i hi =>
  foldl_establishes (P := fun i p => first + i ∈ p) (fun _ _ => mem_secInsert.2 (.inl rfl))
    (fun _ _ _ h => mem_secInsert.2 (.inr h)) _ p i (List.mem_range.2 hi)

/-- A page poisoned as a whole: counted, all its sectors listed, its bytes left (R580). -/
theorem poisonPage_spec (s : State) (g : ChanId) (page : BitVec 21) (source : BitVec 2) :
    (poisonPage s g page source).mcs[g].uncorr = satInc s.mcs[g].uncorr ∧
    (∀ i, i < 32 → (g.val * 0x100000000 + page.toNat * 2048) / 64 + i ∈ (poisonPage s g page source).dram.poison) ∧
    (poisonPage s g page source).dram.cells = s.dram.cells := by
  have uncorr (m : Mc) : (logMc m page source).uncorr = m.uncorr := by
    unfold logMc
    split <;> rfl
  unfold poisonPage
  refine ⟨?_, fun i hi => ?_, ?_⟩
  · rw [setMc_mcs, upd_self, uncorr]
  · rw [setMc_dram]
    dsimp only
    generalize (g.val * 0x100000000 + page.toNat * 2048) / 64 = first
    exact setPoison_range first 32 s.dram.poison i hi
  · rw [setMc_dram]

/-- REPAIR_REWRITE (R579). -/
theorem execRepairRewrite_eq (s : State) (g : ChanId) :
    (∀ p l, s.mcs[g].repairQ = p :: l →
      exec (.repairRewrite g) s = .next (setMc s g fun m => { m with repairQ := l, repairs := satInc m.repairs })) ∧
    (s.mcs[g].repairQ = [] → exec (.repairRewrite g) s = .next s) := by
  refine ⟨fun p l h => ?_, fun h => ?_⟩
  · show execRepairRewrite g s = _
    unfold execRepairRewrite
    rw [h]
  · show execRepairRewrite g s = _
    unfold execRepairRewrite
    rw [h]

/-! ### The Scrubber -/

/-- SCRUB_DRAM_READ where the sweep may read: counted, and an uncorrectable page poisoned and reported (R591). -/
theorem execScrubDramRead_go {s : State} {g : ChanId} (en : bit s.scb.dramEn g.val = true)
    (ok : pageOk s g s.scb.sweeps[chanSweep g].pos = true) (r : EccResult) :
    exec (.scrubDramRead g r) s = .next (if r = .uncorrectable then
      settle (raiseHs (poisonPage (countScrub s (chanSweep g) r) g (BitVec.ofNat 21 s.scb.sweeps[chanSweep g].pos) 2) 94 none)
      else countScrub s (chanSweep g) r) := by
  show execScrubDramRead g r s = _
  unfold execScrubDramRead
  exact (if_neg (by rw [en, ok]; simp)).trans rfl

/-- Where it may not, nothing changes. -/
theorem execScrubDramRead_idle {s : State} {g : ChanId}
    (h : bit s.scb.dramEn g.val = false ∨ pageOk s g s.scb.sweeps[chanSweep g].pos = false) (r : EccResult) :
    exec (.scrubDramRead g r) s = .next s := by
  show execScrubDramRead g r s = _
  unfold execScrubDramRead
  exact if_pos (by rcases h with h | h <;> rw [h] <;> simp)

/-- What a scrub read that finds no uncorrectable word counts (R591, R611). -/
theorem countScrub_spec (s : State) (i : Fin 5) {r : EccResult} (hr : r ≠ .uncorrectable) :
    countScrub s i r = { s with scb := (countScrub s i r).scb } ∧
    (countScrub s i r).scb.sweeps[i] = { s.scb.sweeps[i] with pos := s.scb.sweeps[i].pos + 1, rewrite := decide (r = .correctable) } ∧
    (countScrub s i r).scb.foundCor = (if r = .correctable then satInc s.scb.foundCor else s.scb.foundCor) ∧
    (countScrub s i r).scb.foundUnc = s.scb.foundUnc := by
  have sweep := upd_self s.scb.sweeps i fun x => { x with pos := x.pos + 1, rewrite := decide (r = .correctable) }
  unfold countScrub setSweep
  cases r with
  | clean => exact ⟨rfl, sweep, rfl, rfl⟩
  | correctable => exact ⟨rfl, sweep, rfl, rfl⟩
  | uncorrectable => exact absurd rfl hr

/-- SCRUB_SRAM_READ while the SRAM sweep is enabled (R590, R591). -/
theorem execScrubSramRead_go {s : State} (en : s.scb.sramEn = true) (w : SramWord) :
    exec (.scrubSramRead w .clean) s = .next (countScrub s 4 .clean) ∧
    exec (.scrubSramRead w .correctable) s = .next (sramCorrected (countScrub s 4 .correctable) w) ∧
    exec (.scrubSramRead w .uncorrectable) s = .next (settle (sramBad (countScrub s 4 .uncorrectable) w true)) := by
  have go (r : EccResult) : exec (.scrubSramRead w r) s = .next (match r with
      | .clean => countScrub s 4 .clean
      | .correctable => sramCorrected (countScrub s 4 .correctable) w
      | .uncorrectable => settle (sramBad (countScrub s 4 .uncorrectable) w true)) := by
    show execScrubSramRead w r s = _
    unfold execScrubSramRead
    rw [en]
    cases r <;> rfl
  exact ⟨go .clean, go .correctable, go .uncorrectable⟩

/-- Where it is not, nothing changes. -/
theorem execScrubSramRead_idle {s : State} (en : s.scb.sramEn = false) (w : SramWord) (r : EccResult) :
    exec (.scrubSramRead w r) s = .next s := by
  show execScrubSramRead w r s = _
  unfold execScrubSramRead
  rw [en]
  rfl

/-- The request found by a number has that number. -/
theorem findReq_id {s : State} {i : Nat} {q : Req} (h : findReq s i = some q) : q.id = i := by
  unfold findReq at h
  simpa using List.find?_some h

/-- An uncorrectable word of the Bridle's buffers that holds an open request's data ends it (R581). -/
theorem execSramUncorrectable_request {s : State} {i : Nat} {q : Req} (h : findReq s i = some q) (open' : q.done = none) :
    exec (.sramUncorrectable (.bridle (some i))) s = .next (settle (raiseHs (failReq s i 0x7F 0) 81 (some q.stall))) := by
  show Host.Outcome.next (settle (sramBad s (.bridle (some i)) false)) = _
  unfold sramBad
  dsimp only [Option.bind_some]
  rw [h]
  dsimp only
  rw [open', findReq_id h]
  rfl

/-- SCRUB_LAP_OVERDUE, once for a lap that has a limit (R593). -/
theorem execScrubLapOverdue_go {s : State} {i : Fin 5} (limit : (if i.val < 4 then s.scb.dramMin else s.scb.sramMin) ≠ 0)
    (h : s.scb.sweeps[i].overdue = false) :
    exec (.scrubLapOverdue i) s = .next (raiseEv (setSweep s i fun x => { x with overdue := true }) 304) := by
  show execScrubLapOverdue i s = _
  unfold execScrubLapOverdue
  exact if_neg (by rw [h]; simpa using limit)

/-- CHANNEL_TRAINING_END with a known density: the channel fills (R570, R595). -/
theorem channelTrainingEnd_known {s : State} {g : ChanId} (h : s.mcs[g].state = .training) {density : BitVec 3}
    (known : density.toNat ≤ 6) (r2 : Bool) :
    Ends (.channelTrainingEnd g true density r2) s fun t =>
      t.mcs[g] = { s.mcs[g] with state := .filling, density := density, ranks2 := r2, trained := true } ∧
      (∀ h : ChanId, h ≠ g → t.mcs[h] = s.mcs[h]) ∧ t.dram = s.dram ∧ t.hlt = s.hlt := by
  have done := execChannelTrainingEnd_training h true density r2
  rw [if_pos (by simpa using known), mcEnter_plain h (by decide) (by decide) (by decide)] at done
  refine ⟨_, done, ?_, fun k hk => ?_, rfl, rfl⟩
  · rw [setMc_mcs, setMc_mcs, upd_self, upd_self]
  · rw [setMc_mcs, setMc_mcs, upd_other _ _ (Ne.symm hk), upd_other _ _ (Ne.symm hk)]

/-- CHANNEL_FILL_END with no access held: the channel runs, all zero (R93, R595). -/
theorem channelFillEnd_idle {s : State} {g : ChanId} (q : Quiet s) (h : s.mcs[g].state = .filling) (held : s.mgr.held = []) :
    Ends (.channelFillEnd g) s fun t => t.mcs[g] = { s.mcs[g] with state := .run } ∧
      (∀ a, chanOf a = g → a < 0x400000000 → cellGet t.dram.cells a = 0) ∧
      (∀ a, a < 0x400000000 → chanOf a ≠ g → cellGet t.dram.cells a = cellGet s.dram.cells a) ∧
      (∀ x ∈ t.dram.poison, chanOf (64 * x) ≠ g) ∧ t.hlt = s.hlt ∧ t.reqs = s.reqs := by
  have done := execChannelFillEnd_filling h
  have run : mcEnter (zeroFill s g) g .run = setMc (zeroFill s g) g fun m => { m with state := .run } :=
    mcEnter_plain (s := zeroFill s g) h (by decide) (by decide) (by decide)
  rw [run, resumeHeld_none (s := setMc (zeroFill s g) g _) held, settle_of_quiet (s := setMc (zeroFill s g) g _) q] at done
  obtain ⟨zero, others, poison⟩ := zeroFill_spec s g
  exact ⟨_, done, upd_self s.mcs g _, zero, others, poison, rfl, rfl⟩

/-- A correctable page: counted and queued, with EV305 past the threshold (R579, R599). -/
theorem dramCorrectableRead_page {s : State} {g : ChanId} {page : BitVec 21} (routes : RoutesGood s)
    (h : pageOk s g page.toNat = true) (n : Nat) :
    Ends (.dramCorrectableRead g page n) s fun t =>
      t.mcs[g] = { s.mcs[g] with corrected := satInc s.mcs[g].corrected,
                                 repairQ := if s.mcs[g].repairQ.length < 8 then s.mcs[g].repairQ ++ [page] else s.mcs[g].repairQ } ∧
      (∀ h : ChanId, h ≠ g → t.mcs[h] = s.mcs[h]) ∧ t.dram = s.dram ∧
      (if s.mcs[g].ceThresh.toNat < n then (evSrc t .pf1 305).cause = true else t.evt = s.evt) := by
  obtain ⟨own, others⟩ := pageCorrected_chan s g page
  have done := (execReads_page h).1 n
  by_cases past : s.mcs[g].ceThresh.toNat < n
  · obtain ⟨only, -⟩ := raiseEv_spec (s := pageCorrected s g page) routes 305 false
    obtain ⟨cause, -⟩ := raiseEv_device (pageCorrected s g page) (k := 305) false (by decide) (by decide)
    rw [if_pos past] at done
    generalize raiseEv (pageCorrected s g page) 305 = t at *
    have same : t.mcs = (pageCorrected s g page).mcs := by rw [only]
    exact ⟨t, done, by rw [same]; exact own, fun k hk => by rw [same]; exact others k hk, by rw [only]; rfl,
      by rw [if_pos past]; exact cause⟩
  · rw [if_neg past] at done
    exact ⟨_, done, own, others, rfl, by rw [if_neg past]; rfl⟩

/-- An overdue lap is marked and raises EV304 (R593). -/
theorem scrubLapOverdue_raises {s : State} {i : Fin 5} (limit : (if i.val < 4 then s.scb.dramMin else s.scb.sramMin) ≠ 0)
    (h : s.scb.sweeps[i].overdue = false) :
    Ends (.scrubLapOverdue i) s fun t => t.scb.sweeps[i].overdue = true ∧ (evSrc t .pf1 304).cause = true ∧
      (evSrc t .pf1 304).raises = satInc (evSrc s .pf1 304).raises := by
  have done := execScrubLapOverdue_go limit h
  have event := raiseEv_device (setSweep s i fun x => { x with overdue := true }) (k := 304) false (by decide) (by decide)
  have only := raiseEv_only (setSweep s i fun x => { x with overdue := true }) 304 false
  have sweep : (setSweep s i fun x => { x with overdue := true }).scb.sweeps[i].overdue = true :=
    congrArg Sweep.overdue (upd_self s.scb.sweeps i _)
  generalize raiseEv (setSweep s i fun x => { x with overdue := true }) 304 = t at *
  exact ⟨t, done, by rw [only]; exact sweep, event⟩

/-- Settles O42. -/
theorem channelsAndScrubberAct : Obligations.ChannelsAndScrubberAct := by
  refine ⟨fun s g q routes => ⟨fun training density r2 => ⟨fun known => channelTrainingEnd_known training known r2,
      fun unknown => ?_, execChannelTrainingEnd_training training false density r2⟩,
    fun filling held => channelFillEnd_idle q filling held,
    fun run => ⟨(execPolls_run run).1 false, (execPolls_run run).1 true, (execPolls_run run).2, fenceChan_fenced (by rw [run]; simp)⟩,
    fun idle => execPolls_idle idle,
    fun page => ⟨fun h => execReads_noPage h, fun h => ⟨dramCorrectableRead_page routes h, fun st => ⟨(execReads_page h).2 st,
      poisonPage_spec s g page 1⟩⟩⟩, execRepairRewrite_eq s g⟩,
    fun s q routes => ⟨fun g => ⟨fun h r => execScrubDramRead_idle h r, fun en ok => ⟨fun r hr => ?_, ?_⟩⟩,
      fun w => ⟨fun en r => execScrubSramRead_idle en w r, fun en => execScrubSramRead_go en w⟩, fun u l => rfl, fun k err st => rfl,
      fun h => rfl, fun i => rfl, fun i r hr hd => ⟨_, execSramUncorrectable_request hr hd, rfl⟩, rfl,
      fun i => ⟨rfl, fun ms => rfl, fun limit h => ?_, fun h => ?_⟩⟩⟩
  · rw [execChannelTrainingEnd_training training, if_neg (by simp [unknown])]
  · obtain ⟨only, sweep, cor, unc⟩ := countScrub_spec s (chanSweep g) hr
    have done := execScrubDramRead_go en ok r
    rw [if_neg hr] at done
    exact ⟨_, done, only, sweep, cor, unc⟩
  · rw [execScrubDramRead_go en ok, if_pos rfl]
  · exact scrubLapOverdue_raises limit h
  · show execScrubLapOverdue i s = _
    unfold execScrubLapOverdue
    exact if_pos h

end Sys2Proof.Waking

namespace Sys2Proof.Waking
open Sys2Proof.Machine Sys2Proof.Safety

/-! ### What the end of a stall's work leaves alone -/

/-- The queue, the stalls, the rings, the requests and the Tack Room are as before. -/
structure CoreKept (s t : State) : Prop where
  pending : t.pending = s.pending
  stalls : t.stalls = s.stalls
  rings : t.rings = s.rings
  reqs : t.reqs = s.reqs
  tkr : t.tkr = s.tkr

/-- Nothing changed. -/
theorem CoreKept.refl (s : State) : CoreKept s s := ⟨rfl, rfl, rfl, rfl, rfl⟩

/-- Two such changes one after the other. -/
theorem CoreKept.trans {s t u : State} (h : CoreKept s t) (g : CoreKept t u) : CoreKept s u :=
  ⟨g.pending.trans h.pending, g.stalls.trans h.stalls, g.rings.trans h.rings, g.reqs.trans h.reqs, g.tkr.trans h.tkr⟩

/-- An operation that is such a change, after one. -/
theorem CoreKept.andThen {s t : State} (f : State → State) (hf : ∀ u, CoreKept u (f u)) (h : CoreKept s t) :
    CoreKept s (f t) :=
  h.trans (hf t)

/-- Either of two such changes. -/
theorem CoreKept.ite {s t u : State} {c : Prop} [Decidable c] (h : CoreKept s t) (g : CoreKept s u) :
    CoreKept s (if c then t else u) := by
  split <;> assumption

/-- Such a change for each element of a list. -/
theorem CoreKept.foldl {α : Type} {f : State → α → State} (hf : ∀ s a, CoreKept s (f s a)) (l : List α) (s : State) :
    CoreKept s (l.foldl f s) := by
  induction l generalizing s with
  | nil => exact CoreKept.refl s
  | cons a l ih => exact (hf s a).trans (ih _)

/-- A raise is such a change. -/
theorem raiseEv_core (s : State) (k : EvId) : CoreKept s (raiseEv s k) := by
  rw [raiseEv_only s k false]
  exact ⟨rfl, rfl, rfl, rfl, rfl⟩

/-- A change of the Entropy Block's state. -/
theorem entEnter_core (s : State) (st : EntState) : CoreKept s (entEnter s st) :=
  CoreKept.ite (CoreKept.refl s) (CoreKept.trans (t := { s with ent := { s.ent with state := st } }) ⟨rfl, rfl, rfl, rfl, rfl⟩
    (raiseEv_core _ 302))

/-- The Entropy Block zeroised, and its state changed. -/
theorem entEnter_entZero_core (s : State) (st : EntState) : CoreKept s (entEnter (entZero s) st) :=
  CoreKept.trans (t := entZero s) ⟨rfl, rfl, rfl, rfl, rfl⟩ (entEnter_core _ st)

/-- The Entropy Block following its sources (R503, R504). -/
theorem entUpdate_core (s : State) : CoreKept s (entUpdate s) := by
  have halt := entEnter_entZero_core s .halted
  have enter := entEnter_core s
  unfold entUpdate
  dsimp only
  split
  · exact CoreKept.refl s
  · exact CoreKept.refl s
  · exact CoreKept.ite halt (CoreKept.refl s)
  · exact CoreKept.ite (CoreKept.refl s) (enter _)
  · exact CoreKept.ite halt (CoreKept.ite (enter _) (enter _))
  · exact CoreKept.ite halt (CoreKept.ite (enter _) (enter _))

/-- A change of a noise source. -/
theorem setNs_core (s : State) (n : NsId) (g : Ns → Ns) : CoreKept s (setNs s n g) := ⟨rfl, rfl, rfl, rfl, rfl⟩

/-- A source moved (R504). -/
theorem nsEnter_core (s : State) (n : NsId) (st : NsState) : CoreKept s (nsEnter s n st) := by
  unfold nsEnter
  refine CoreKept.ite (CoreKept.refl s) (CoreKept.andThen entUpdate entUpdate_core ?_)
  split
  · exact CoreKept.andThen (raiseEv · 301) (raiseEv_core · 301) (setNs_core s n _)
  · exact CoreKept.andThen (raiseEv · 301) (raiseEv_core · 301) (setNs_core s n _)
  · exact CoreKept.andThen (raiseEv · 301) (raiseEv_core · 301) (setNs_core s n _)
  · exact setNs_core s n _

/-- A raw capture ended. -/
theorem endCapture_core (s : State) (p : Nat → Bool) : CoreKept s (endCapture s p) := by
  refine CoreKept.foldl (fun s n => ?_) _ s
  split
  · exact CoreKept.ite (CoreKept.ite ((setNs_core s n _).trans (nsEnter_core _ n _)) (setNs_core s n _)) (CoreKept.refl s)
  · exact CoreKept.refl s

/-- A unit chosen for a known-answer test (R295). -/
theorem katChoose_core (s : State) (i : Fin 3) : CoreKept s (katChoose s i) := by
  unfold katChoose
  split
  · exact CoreKept.refl s
  · exact ⟨rfl, rfl, rfl, rfl, rfl⟩

/-- The rotation of known-answer tests. -/
theorem katNext_core (s : State) : CoreKept s (katNext s) := by
  refine CoreKept.foldl (fun s i => ?_) _ s
  exact CoreKept.ite (CoreKept.andThen (katChoose · i) (katChoose_core · i) ⟨rfl, rfl, rfl, rfl, rfl⟩) (CoreKept.refl s)

/-- Held units let go (R278). -/
theorem dropHeld_core (s : State) : CoreKept s (dropHeld s) := by
  unfold dropHeld
  exact CoreKept.andThen katNext katNext_core ⟨rfl, rfl, rfl, rfl, rfl⟩

/-- Cooperative sets given up. -/
theorem dropCoop_core (s : State) (p : CoopFor → Bool) : CoreKept s (dropCoop s p) := by
  unfold dropCoop
  refine CoreKept.trans (t := { s with disp := { s.disp with coopLate := s.disp.coopLate.filter fun c => !p c } })
    ⟨rfl, rfl, rfl, rfl, rfl⟩ ?_
  dsimp only
  split
  · exact CoreKept.ite (dropHeld_core _) (CoreKept.refl _)
  · exact CoreKept.refl _

/-- Units let go of requests. -/
theorem releaseUnits_core (s : State) (ids : List Nat) : CoreKept s (releaseUnits s ids) := by
  unfold releaseUnits
  exact ⟨rfl, rfl, rfl, rfl, rfl⟩

/-- Draws withdrawn. -/
theorem dropDraws_core (s : State) (p : Nat → Bool) : CoreKept s (dropDraws s p) := ⟨rfl, rfl, rfl, rfl, rfl⟩

/-- Reserved lines released. -/
theorem release_core (s : State) (p : Resv → Bool) : CoreKept s (release s p) := ⟨rfl, rfl, rfl, rfl, rfl⟩

/-- A sector written back. -/
theorem writeBackSector_core (s : State) (x : Line) (k : Nat) : CoreKept s (writeBackSector s x k) := by
  unfold writeBackSector pageWritten
  exact CoreKept.ite (CoreKept.refl s) ⟨rfl, rfl, rfl, rfl, rfl⟩

/-- A line written back. -/
theorem writeBack_core (s : State) (x : Line) : CoreKept s (writeBack s x) :=
  CoreKept.foldl (fun s k => writeBackSector_core s x k) _ s

/-- A line of the Manger replaced. -/
theorem putLine_core (s : State) (x : Line) : CoreKept s (putLine s x) := ⟨rfl, rfl, rfl, rfl, rfl⟩

/-- The lines of a stall dropped or written back (R555). -/
theorem dropStallLines_core (s : State) (n : StallId) : CoreKept s (dropStallLines s n) := by
  refine CoreKept.foldl (fun s x => ?_) _ s
  refine CoreKept.ite ((writeBack_core s x).trans (putLine_core _ _)) (CoreKept.ite (CoreKept.ite ?_ ?_) (CoreKept.refl s))
  · exact CoreKept.trans (CoreKept.ite (writeBack_core s x) (CoreKept.refl s)) ⟨rfl, rfl, rfl, rfl, rfl⟩
  · exact (writeBack_core s x).trans (putLine_core _ _)

/-- Fetches under way discarded. -/
theorem dropFetches_core (s : State) (p : RingId → Bool) : CoreKept s (dropFetches s p) := ⟨rfl, rfl, rfl, rfl, rfl⟩

/-- Key registers zeroised. -/
theorem zeroKeyRegs_core (s : State) (p : KeyReg → Bool) : CoreKept s (zeroKeyRegs s p) := by
  unfold zeroKeyRegs
  exact ⟨rfl, rfl, rfl, rfl, rfl⟩

end Sys2Proof.Waking

namespace Sys2Proof.Waking
open Sys2Proof.Machine Sys2Proof.Safety

/-! ### The work of a function's world at a function reset (R91, R92) -/

/-- Work may go and keyed-state entries may be zeroised; no request is admitted, no entry is made, and the queue, the
stalls and the rings stay. -/
structure WorkGone (s t : State) : Prop where
  pending : t.pending = s.pending
  stalls : t.stalls = s.stalls
  rings : t.rings = s.rings
  reqs : ∀ q ∈ t.reqs, q ∈ s.reqs
  store : ∀ h : Handle, t.tkr.store[h] = s.tkr.store[h] ∨ t.tkr.store[h].kind = 0

/-- Such changes one after the other. -/
theorem WorkGone.trans {s t u : State} (h : WorkGone s t) (g : WorkGone t u) : WorkGone s u :=
  ⟨g.pending.trans h.pending, g.stalls.trans h.stalls, g.rings.trans h.rings, fun q hq => h.reqs q (g.reqs q hq),
    fun k => (g.store k).elim (fun e => e ▸ h.store k) .inr⟩

/-- An operation that is such a change, after one. -/
theorem WorkGone.andThen {s t : State} (f : State → State) (hf : ∀ u, WorkGone u (f u)) (h : WorkGone s t) :
    WorkGone s (f t) :=
  h.trans (hf t)

/-- What leaves the queue, the stalls, the rings, the requests and the Tack Room as before. -/
theorem CoreKept.work {s t : State} (h : CoreKept s t) : WorkGone s t :=
  ⟨h.pending, h.stalls, h.rings, fun _ hq => h.reqs ▸ hq, fun _ => .inl (by rw [h.tkr])⟩

/-- Such a change for each element of a list. -/
theorem WorkGone.foldl {α : Type} {f : State → α → State} (hf : ∀ s a, WorkGone s (f s a)) (l : List α) (s : State) :
    WorkGone s (l.foldl f s) := by
  induction l generalizing s with
  | nil => exact (CoreKept.refl s).work
  | cons a l ih => exact (hf s a).trans (ih _)

/-- No request of a stall is admitted. -/
def NoRequestOf (n : StallId) (s : State) : Prop := ∀ q ∈ s.reqs, q.stall ≠ n

/-- No keyed-state entry is a stall's. -/
def NoEntryOf (n : StallId) (s : State) : Prop := ∀ h : Handle, s.tkr.store[h].kind ≠ 0 → s.tkr.store[h].stall ≠ n

/-- A stall without requests stays so while work goes. -/
theorem NoRequestOf.keeps {n : StallId} {s t : State} (h : NoRequestOf n s) (g : WorkGone s t) : NoRequestOf n t :=
  fun q hq => h q (g.reqs q hq)

/-- A stall without keyed-state entries stays so while work goes. -/
theorem NoEntryOf.keeps {n : StallId} {s t : State} (h : NoEntryOf n s) (g : WorkGone s t) : NoEntryOf n t := by
  intro k hk
  rcases g.store k with e | e
  · rw [e] at hk ⊢
    exact h k hk
  · exact absurd e hk

/-- What follows a stall's requests dropped. -/
theorem abortStall_core (s : State) (n : StallId) :
    ∃ inters quotas, CoreKept { s with reqs := s.reqs.filter fun q => decide (q.stall ≠ n), inters, quotas } (abortStall s n) := by
  refine ⟨s.inters.filter fun x => !(stallChains s n).contains x.chain, s.quotas.filter fun x => decide (x.2.1 ≠ n), ?_⟩
  unfold abortStall
  exact CoreKept.andThen (release · _) (release_core · _) (CoreKept.andThen (dropCoop · _) (dropCoop_core · _)
    (CoreKept.andThen (dropDraws · _) (dropDraws_core · _) (CoreKept.andThen (endCapture · _) (endCapture_core · _)
      (releaseUnits_core _ _))))

/-- An abort admits nothing. -/
theorem abortStall_work (s : State) (n : StallId) : WorkGone s (abortStall s n) := by
  obtain ⟨inters, quotas, h⟩ := abortStall_core s n
  have dropped : WorkGone s { s with reqs := s.reqs.filter fun q => decide (q.stall ≠ n), inters, quotas } :=
    ⟨rfl, rfl, rfl, fun q hq => List.mem_of_mem_filter hq, fun _ => .inl rfl⟩
  exact dropped.trans h.work

/-- An aborted stall has no request. -/
theorem abortStall_noRequest (s : State) (n : StallId) : NoRequestOf n (abortStall s n) := by
  obtain ⟨_, _, h⟩ := abortStall_core s n
  intro q hq
  rw [h.reqs] at hq
  exact of_decide_eq_true (List.mem_filter.1 hq).2

/-- An entry that is zeroised or kept is free or as it was. -/
theorem reset_or_kept (c : Prop) [Decidable c] (e : Entry) :
    (if c then Entry.reset else e) = e ∨ (if c then Entry.reset else e).kind = 0 := by
  split
  · exact .inr rfl
  · exact .inl rfl

/-- Entries zeroised. -/
theorem zeroEntries_work (s : State) (p : Entry → Bool) : WorkGone s (zeroEntries s p) := by
  unfold zeroEntries
  refine ⟨rfl, rfl, rfl, fun _ hq => hq, fun k => ?_⟩
  dsimp only
  rw [vmap_get]
  exact reset_or_kept _ _

/-- The entries of a stall are gone once they are zeroised. -/
theorem zeroEntries_noEntry (s : State) (n : StallId) : NoEntryOf n (zeroEntries s fun e => decide (e.stall = n)) := by
  intro k
  unfold zeroEntries
  dsimp only
  rw [vmap_get]
  split
  next => exact fun hk => absurd rfl hk
  next h => exact fun hk e => h ⟨hk, decide_eq_true e⟩

/-- A stall's keys and lines gone. -/
theorem zeroStall_work (s : State) (n : StallId) : WorkGone s (zeroStall s n) :=
  ((zeroKeyRegs_core s _).work.trans (zeroEntries_work _ _)).trans (dropStallLines_core _ n).work

/-- A zeroised stall has no keyed-state entry. -/
theorem zeroStall_noEntry (s : State) (n : StallId) : NoEntryOf n (zeroStall s n) :=
  (zeroEntries_noEntry _ n).keeps (dropStallLines_core _ n).work

/-- One stall at a function reset: its requests, its keys and its lines. -/
theorem clearStall_work (s : State) (n : StallId) : WorkGone s (zeroStall (abortStall s n) n) :=
  (abortStall_work s n).trans (zeroStall_work _ n)

/-- The work of a function's world gone, all else as before. -/
theorem flrWork_work (s : State) (f : Fn) : WorkGone s (flrWork s f) :=
  (WorkGone.foldl (fun s n => clearStall_work s n) _ s).trans (dropFetches_core _ _).work

/-- No request and no keyed-state entry of the function's world stays. -/
theorem flrWork_clears (s : State) (f : Fn) {n : StallId} (hn : worldFn s n = f) :
    NoRequestOf n (flrWork s f) ∧ NoEntryOf n (flrWork s f) := by
  obtain ⟨noRequest, noEntry⟩ := foldl_establishes (f := fun s n => zeroStall (abortStall s n) n)
    (P := fun n s => NoRequestOf n s ∧ NoEntryOf n s)
    (fun s n => ⟨(abortStall_noRequest s n).keeps (zeroStall_work _ n), zeroStall_noEntry _ n⟩)
    (fun s _ m h => ⟨h.1.keeps (clearStall_work s m), h.2.keeps (clearStall_work s m)⟩)
    ((List.finRange 64).filter (ofWorld s f)) s n (List.mem_filter.2 ⟨List.mem_finRange n, decide_eq_true hn⟩)
  have fetches := dropFetches_core
    (((List.finRange 64).filter (ofWorld s f)).foldl (fun s n => zeroStall (abortStall s n) n) s)
  exact ⟨noRequest.keeps (fetches _).work, noEntry.keeps (fetches _).work⟩

/-- Dropped entries of the Tack Room zeroised (R346). -/
theorem sweepDropped_work (s : State) : WorkGone s (sweepDropped s) := by
  unfold sweepDropped
  refine ⟨rfl, rfl, rfl, fun _ hq => hq, fun k => ?_⟩
  dsimp only
  rw [vmapIdx_get]
  exact reset_or_kept _ _

/-- The feed session of PF1 ended. -/
theorem flrFeed_work (s : State) (f : Fn) : WorkGone s (flrFeed s f) := by
  have error (u : State) : WorkGone u (feedError u 0 5) := by
    unfold feedError
    exact WorkGone.andThen (raiseEv · 300) (fun v => (raiseEv_core v 300).work)
      (WorkGone.andThen sweepDropped sweepDropped_work (CoreKept.work ⟨rfl, rfl, rfl, rfl, rfl⟩))
  have ended : WorkGone s (feedEnd s 5) := by
    unfold feedEnd
    split
    · exact error s
    · exact (CoreKept.refl s).work
  cases f with
  | pf0 => exact (CoreKept.refl s).work
  | pf1 =>
    unfold flrFeed
    exact WorkGone.andThen (fun v => { v with feed := Feed.reset }) (fun v => CoreKept.work ⟨rfl, rfl, rfl, rfl, rfl⟩) ended

/-! ### A function reset (R139-R142) -/

/-- The state in which a function reset finds the registers that it returns: the world's work and PF1's feed are gone. -/
def flrCleared (s : State) (f : Fn) : State := flrFeed (flrWork s f) f

/-- No work of another world comes, and nothing else is touched. -/
theorem flrCleared_work (s : State) (f : Fn) : WorkGone s (flrCleared s f) :=
  (flrWork_work s f).trans (flrFeed_work _ f)

/-- No request and no keyed-state entry of the function's world stays. -/
theorem flrCleared_clears (s : State) (f : Fn) {n : StallId} (hn : worldFn s n = f) :
    NoRequestOf n (flrCleared s f) ∧ NoEntryOf n (flrCleared s f) := by
  obtain ⟨requests, entries⟩ := flrWork_clears s f hn
  exact ⟨requests.keeps (flrFeed_work _ f), entries.keeps (flrFeed_work _ f)⟩

/-- The stalls after a function reset: the image's in the function's world, as they were in the other (R91). -/
theorem flrDo_stalls (s : State) (f : Fn) (n : StallId) : (flrDo s f).stalls[n] =
    if ofWorld s f n then flrStall (flrImage s).stalls[n] s.stalls[n] else s.stalls[n] := by
  have kept := (flrCleared_work s f).stalls
  unfold flrCleared at kept
  unfold flrDo
  dsimp only
  rw [vmapIdx_get, kept]

/-- The rings after a function reset (R139, R266). -/
theorem flrDo_rings (s : State) (f : Fn) (r : RingId) :
    (flrDo s f).rings[r] = flrRing (ofWorld s f) (flrImage s).rings[r] s.rings[r] := by
  have kept := (flrCleared_work s f).rings
  unfold flrCleared at kept
  unfold flrDo
  dsimp only
  rw [vmapIdx_get, kept]

/-- The requests after a function reset. -/
theorem flrDo_reqs (s : State) (f : Fn) : (flrDo s f).reqs = (flrCleared s f).reqs := by
  unfold flrDo flrCleared
  with_reducible rfl

/-- The Tack Room after a function reset. -/
theorem flrDo_tkr (s : State) (f : Fn) : (flrDo s f).tkr = (flrCleared s f).tkr := by
  unfold flrDo flrCleared
  with_reducible rfl

/-- The queue after a function reset. -/
theorem flrDo_pending (s : State) (f : Fn) : (flrDo s f).pending = s.pending := by
  have kept := (flrCleared_work s f).pending
  unfold flrCleared at kept
  unfold flrDo
  exact kept

/-- The function's writes not yet sent are gone (R140). -/
theorem flrDo_pwb (s : State) (f : Fn) : ∀ w ∈ (flrDo s f).link.pwb, w.fn ≠ f := by
  intro w hw
  unfold flrDo at hw
  exact of_decide_eq_true (List.mem_filter.1 hw).2

/-- The function is under reset until FLR_COMPLETE. -/
theorem flrDo_flr (s : State) (f : Fn) : (fnState (flrDo s f) f).flr = true := by
  unfold fnState flrDo
  dsimp only
  rw [upd_self]
  unfold flrFn
  with_reducible rfl

/-- A ring of the other world is untouched by a function reset. -/
theorem flrRing_other {mine : StallId → Bool} {old : Ring} {n : StallId} (img : Ring) (ho : old.owner = some n)
    (hn : mine n = false) : flrRing mine img old = old := by
  unfold flrRing
  rw [ho]
  cases img.owner with
  | none => simp [hn]
  | some m => simp [hn]

/-- A ring of the function's world goes to the image, or is unassigned where the image gives it to the other world. -/
theorem flrRing_mine {mine : StallId → Bool} {old : Ring} {n : StallId} (img : Ring) (ho : old.owner = some n)
    (hn : mine n = true) : flrRing mine img old =
      match img.owner with
      | some m => if mine m then img else Ring.reset
      | none => img := by
  unfold flrRing
  rw [ho]
  cases img.owner with
  | none => simp [hn]
  | some m => simp [hn]

/-- FLR, once configuration space is open and no reset of the function is under way (R140). -/
theorem exec_flr {s : State} {f : Fn} (ho : s.boot.cfgOpen = true) (hf : (fnState s f).flr = false) :
    exec (.flr f) s = .next (answer (flrDo s f) .ok) :=
  if_neg (by rw [ho, hf]; decide)

/-! ### The end of a function reset -/

/-- What the pump of waiting reads leaves alone. -/
structure PumpKept (s t : State) : Prop where
  fns : t.fns = s.fns
  stalls : t.stalls = s.stalls
  rings : t.rings = s.rings
  reqs : t.reqs = s.reqs

/-- Waiting reads sent, dropped or left waiting: all on the link. -/
theorem pumpList_kept (l : List Rd) (s : State) : PumpKept s (pumpList s l) := by
  induction l generalizing s with
  | nil => exact ⟨rfl, rfl, rfl, rfl⟩
  | cons r l ih =>
    have sent := ih (sendRead s r)
    have waits := ih { s with link := { s.link with readQ := s.link.readQ ++ [r] } }
    unfold pumpList
    split
    · exact ih s
    · split
      · exact ⟨sent.fns, sent.stalls, sent.rings, sent.reqs⟩
      · exact ⟨waits.fns, waits.stalls, waits.rings, waits.reqs⟩

/-- The pump of waiting reads. -/
theorem pumpReads_kept (s : State) : PumpKept s (pumpReads s) := by
  unfold pumpReads
  dsimp only
  split
  · exact ⟨rfl, rfl, rfl, rfl⟩
  · have pumped := pumpList_kept (s.link.readQ.filter (·.alarm) ++ s.link.readQ.filter (!·.alarm))
      { s with link := { s.link with readQ := [] } }
    exact ⟨pumped.fns, pumped.stalls, pumped.rings, pumped.reqs⟩

/-- With no read waiting, the pump does nothing. -/
theorem pumpReads_of_empty {s : State} (h : s.link.readQ = []) : pumpReads s = s := by
  unfold pumpReads
  rw [h]
  rfl

/-- The function out of reset, with no read of it left (R141). -/
def flrEnded (s : State) (f : Fn) : State :=
  let t := setFn s f fun x => { x with flr := false }
  { t with link := { t.link with reads := t.link.reads.filter fun r => decide (r.fn ≠ f) } }

/-- FLR_COMPLETE of a function under reset (R140, R141). -/
theorem exec_flrComplete {s : State} {f : Fn} (hf : (fnState s f).flr = true) :
    exec (.flrComplete f) s = .next (pumpReads (flrEnded s f)) :=
  if_neg (by rw [hf]; decide)

/-- The functions once the reset has ended. -/
theorem fnState_pumpReads_flrEnded (s : State) (f g : Fn) :
    fnState (pumpReads (flrEnded s f)) g = fnState (setFn s f fun x => { x with flr := false }) g := by
  unfold fnState
  rw [(pumpReads_kept _).fns]
  rfl

/-- HOT_RESET of a link that is up (R142). -/
theorem exec_hotReset {s : State} (h : s.link.up = true) : exec .hotReset s =
    .next (settle (raiseHs (flrDo (flrDo { s with link := { s.link with up := false, lost := true } } .pf0) .pf1) 81 none)) :=
  if_neg (by rw [h]; decide)

/-- Settles O14: the loop over the stalls of the function's world leaves each of them without request and key and touches
no register of the other; the registers are then returned stall by stall and ring by ring. -/
theorem functionResetStaysInItsWorld : Obligations.FunctionResetStaysInItsWorld := by
  unfold Obligations.FunctionResetStaysInItsWorld
  intro s f
  refine ⟨fun ho hf => ⟨_, exec_flr ho hf, rfl, flrDo_flr s f, fun n hn => ?_, fun n hn => ?_, fun r n hr hn => ?_,
    fun r n hr hn => ?_, fun q hq e => ?_, fun h hk e => ?_, flrDo_pwb s f, flrDo_pending s f⟩, fun hf => ?_, exec_hotReset⟩
  · exact (flrDo_stalls s f n).trans (if_neg (by simp [ofWorld, hn]))
  · have returned : (flrDo s f).stalls[n] = flrStall (flrImage s).stalls[n] s.stalls[n] :=
      (flrDo_stalls s f n).trans (if_pos (decide_eq_true hn))
    change (flrDo s f).stalls[n] = { (flrImage s).stalls[n] with
      secure := s.stalls[n].secure, domain := s.stalls[n].domain, kekGen := s.stalls[n].kekGen, importEn := s.stalls[n].importEn,
      bypass := (flrDo s f).stalls[n].bypass, drbgNow := (flrDo s f).stalls[n].drbgNow, tokens := (flrImage s).stalls[n].burst,
      draws := 0, vInteractive := 0, vBulk := 0, lastRing := Vector.replicate 7 255, resetCause := 0, aborted := [] }
    rw [returned]
    rfl
  · exact (flrDo_rings s f r).trans (flrRing_other _ hr (decide_eq_false hn))
  · refine (flrDo_rings s f r).trans ((flrRing_mine _ hr (decide_eq_true hn)).trans ?_)
    cases (flrImage s).rings[r].owner with
    | none => rfl
    | some m => simp [ofWorld]
  · exact (flrCleared_clears s f e).1 q (flrDo_reqs s f ▸ hq) rfl
  · change (flrDo s f).tkr.store[h].kind ≠ 0 at hk
    change worldFn s (flrDo s f).tkr.store[h].stall = f at e
    rw [flrDo_tkr] at hk e
    exact (flrCleared_clears s f e).2 h hk rfl
  · have kept := pumpReads_kept (flrEnded s f)
    refine ⟨_, exec_flrComplete hf, ?_, fun g hg => ?_, kept.stalls, kept.rings, kept.reqs, fun hq => ?_⟩
    · rw [fnState_pumpReads_flrEnded, fnState_setFn]
    · rw [fnState_pumpReads_flrEnded, fnState_setFn_other s hg]
    · rw [pumpReads_of_empty (s := flrEnded s f) hq]
      rfl

end Sys2Proof.Waking

namespace Sys2Proof.HostLink
open Sys2Proof.Machine Sys2Proof.Safety Sys2Proof.Waking

/-! ### Waiting host reads sent -/

/-- Reads of the host gone on the link, and what then waits. -/
def readsSent (s : State) (rs waiting : List Rd) : State :=
  { s with linkOut := s.linkOut ++ rs.map .read, link := { s.link with reads := s.link.reads ++ rs, readQ := waiting } }

/-- One read sent and then others, or one left waiting and then others sent. -/
theorem readsSent_cons (s : State) (r : Rd) (rs waiting q : List Rd) :
    readsSent (sendRead s r) rs waiting = readsSent s (r :: rs) waiting ∧
    readsSent { s with link := { s.link with readQ := q } } rs waiting = readsSent s rs waiting := by
  simp [readsSent, sendRead, emit]

/-- Of the reads that wait some go on the link, some still wait, and nothing else happens (R124, R618). -/
theorem pumpList_sends (l : List Rd) (s : State) : ∃ rs waiting, (∀ r ∈ rs, r ∈ l) ∧
    (∀ r ∈ waiting, r ∈ s.link.readQ ∨ r ∈ l) ∧ pumpList s l = readsSent s rs waiting := by
  induction l generalizing s with
  | nil => exact ⟨[], s.link.readQ, by simp, fun _ h => .inl h, by simp [pumpList, readsSent]⟩
  | cons r l ih =>
    have later {x : Rd} (h : x ∈ l) : x ∈ r :: l := List.mem_cons_of_mem _ h
    unfold pumpList
    split
    · obtain ⟨rs, q, sub, wait, e⟩ := ih s
      exact ⟨rs, q, fun x hx => later (sub x hx), fun x hx => (wait x hx).imp_right later, e⟩
    · split
      · obtain ⟨rs, q, sub, wait, e⟩ := ih (sendRead s r)
        refine ⟨r :: rs, q, fun x hx => ?_, fun x hx => (wait x hx).imp_right later, e.trans (readsSent_cons s r rs q []).1⟩
        exact (List.mem_cons.1 hx).elim (fun h => h ▸ List.mem_cons_self) fun h => later (sub x h)
      · obtain ⟨rs, q, sub, wait, e⟩ := ih { s with link := { s.link with readQ := s.link.readQ ++ [r] } }
        refine ⟨rs, q, fun x hx => later (sub x hx), fun x hx => ?_, e.trans (readsSent_cons s r rs q _).2⟩
        rcases wait x hx with h | h
        · exact (List.mem_append.1 h).imp_right fun h => List.mem_cons.2 (.inl (List.mem_singleton.1 h))
        · exact .inr (later h)

/-- Waiting reads go on the link or still wait, and nothing else happens. -/
theorem pumpReads_sends (s : State) : ∃ rs waiting, (∀ r ∈ rs, r ∈ s.link.readQ) ∧
    (∀ r ∈ waiting, r ∈ s.link.readQ) ∧ pumpReads s = readsSent s rs waiting := by
  unfold pumpReads
  dsimp only
  split
  · exact ⟨[], s.link.readQ, by simp, fun _ h => h, by simp [readsSent]⟩
  · have inQueue {r : Rd} (h : r ∈ s.link.readQ.filter (·.alarm) ++ s.link.readQ.filter (!·.alarm)) : r ∈ s.link.readQ := by
      rcases List.mem_append.1 h with h | h <;> exact List.mem_of_mem_filter h
    obtain ⟨rs, q, sub, wait, e⟩ := pumpList_sends (s.link.readQ.filter (·.alarm) ++ s.link.readQ.filter (!·.alarm))
      { s with link := { s.link with readQ := [] } }
    exact ⟨rs, q, fun r hr => inQueue (sub r hr), fun r hr => inQueue ((wait r hr).resolve_left List.not_mem_nil), e⟩

/-! ### Stall events -/

/-- A function's events are those of the stalls of its world, the mirrors and the device's: which it takes depends on the
stalls and the mirror mask (R732). -/
theorem evAllowed_congr {s t : State} (stalls : t.stalls = s.stalls) (mask : t.evt.nmMirror = s.evt.nmMirror) (f : Fn)
    (k : EvId) : evAllowed t f k = evAllowed s f k := by
  unfold evAllowed worldFn
  rw [stalls, mask]

/-- Noting a message leaves the mirror mask. -/
theorem noteEv_nmMirror (s : State) (f : Fn) (k : EvId) : (noteEv s f k).evt.nmMirror = s.evt.nmMirror := by
  rw [noteEv_eq]
  unfold sinceNoted pendNoted
  split <;> split <;> rfl

/-- A raise leaves the mirror mask. -/
theorem raiseOn_nmMirror (s : State) (f : Fn) (k : EvId) (al : Bool) : (raiseOn s f k al).evt.nmMirror = s.evt.nmMirror := by
  unfold raiseOn
  split
  · rfl
  · dsimp only
    split
    · rfl
    · split
      · exact noteEv_nmMirror _ f k
      · rfl

/-- A raise on one function does not decide which events are taken. -/
theorem raiseOn_allowed (s : State) (f g : Fn) (k j : EvId) (al : Bool) :
    evAllowed (raiseOn s f k al) g j = evAllowed s g j :=
  evAllowed_congr (by rw [raiseOn_only s f k al]) (raiseOn_nmMirror s f k al) g j

/-- A raise on a function that takes the source sets its cause bit and counts it (R736). -/
theorem raiseEv_self {s : State} {f : Fn} {k : EvId} (al : Bool) (ha : evAllowed s f k = true) :
    (evSrc (raiseEv s k al) f k).cause = true ∧ (evSrc (raiseEv s k al) f k).raises = satInc (evSrc s f k).raises := by
  cases f with
  | pf0 =>
    have after : evSrc (raiseEv s k al) .pf0 k = evSrc (raiseOn s .pf0 k al) .pf0 k := raiseOn_other _ al (by simp)
    rw [after]
    exact raiseOn_self al ha
  | pf1 =>
    have before : evSrc (raiseOn s .pf0 k al) .pf1 k = evSrc s .pf1 k := raiseOn_other s al (by simp)
    obtain ⟨hc, hr⟩ := raiseOn_self (s := raiseOn s .pf0 k al) al ((raiseOn_allowed s .pf0 .pf1 k k al).trans ha)
    exact ⟨hc, hr.trans (by rw [before])⟩

/-- The function of a stall's world takes the stall's three events. -/
theorem evAllowed_stall (s : State) (n : StallId) {k : EvId} (h : k.val / 3 = n.val) : evAllowed s (worldFn s n) k = true := by
  have same : (⟨k.val / 3, by omega⟩ : StallId) = n := Fin.ext h
  simp only [evAllowed, dif_pos (show k.val < 192 by omega), same, decide_true]

/-- A stall's error event raised (R265). -/
theorem raiseEv_error (s : State) (n : StallId) (al : Bool) :
    (evSrc (raiseEv s (evError n) al) (worldFn s n) (evError n)).cause = true :=
  (raiseEv_self al (evAllowed_stall s n (by simp [evError]; omega))).1

/-- A stall's notice event raised (R177). -/
theorem raiseEv_notice (s : State) (n : StallId) (al : Bool) :
    (evSrc (raiseEv s (evNotice n) al) (worldFn s n) (evNotice n)).cause = true :=
  (raiseEv_self al (evAllowed_stall s n (by simp [evNotice]; omega))).1

/-- With good routes a raise leaves the Halter as it was. -/
theorem settle_raiseEv {s : State} (q : Quiet s) (h : RoutesGood s) (k : EvId) (al : Bool) :
    settle (raiseEv s k al) = raiseEv s k al :=
  settle_of_quiet (by rw [(raiseEv_spec h k al).1]; exact q)

end Sys2Proof.HostLink

namespace Sys2Proof.HostLink
open Sys2Proof.Machine Sys2Proof.Safety Sys2Proof.Waking

/-! ### The link (R108, R125, R135, R150, R157) -/

/-- LINK_UP and LINK_RETRAIN with a mode that the Bridle supports (R108, R157). -/
theorem exec_linkMode {s : State} {r w : BitVec 4} (mode : linkMode r w = true) :
    (s.link.up = false → s.boot.phase ≠ .reset →
      exec (.linkUp r w) s = .next { s with link := { s.link with
        up := true, rate := r, width := w, lost := false,
        retrains := if s.link.lost then satInc s.link.retrains else s.link.retrains } }) ∧
    (s.link.up = true → exec (.linkRetrain r w) s =
      .next { s with link := { s.link with rate := r, width := w, retrains := satInc s.link.retrains } }) := by
  refine ⟨fun down phase => ?_, fun up => ?_⟩
  · exact if_neg (by simp [down, phase, mode])
  · exact if_neg (by simp [up, mode])

/-- LINK_PROTOCOL_ERROR by the kind of its error (R135). -/
theorem exec_linkProtocolError (e : LinkErr) (s : State) :
    (∀ i, linkCor e = some i → exec (.linkProtocolError e) s = .next (setAerCor (setAerCor s .pf0 i) .pf1 i)) ∧
    (linkCor e = none → exec (.linkProtocolError e) s = .next (settle (raiseHs (setAer2 s (linkBit e)) 81 none))) := by
  refine ⟨fun i h => ?_, fun h => ?_⟩
  · show execLinkProtocolError e s = _
    unfold execLinkProtocolError
    rw [h]
  · show execLinkProtocolError e s = _
    unfold execLinkProtocolError
    rw [h]

/-- A correctable error logged on both functions (R135). -/
theorem setAerCor_both (s : State) (i : Nat) (f : Fn) :
    fnState (setAerCor (setAerCor s .pf0 i) .pf1 i) f = { fnState s f with aerCor := putBit (fnState s f).aerCor i true } := by
  unfold setAerCor
  cases f with
  | pf0 => rw [fnState_setFn_other _ (by decide), fnState_setFn]
  | pf1 => rw [fnState_setFn, fnState_setFn_other _ (by decide)]

/-- POSTED_WRITE_SEND of a function that has a write waiting (R262, R614). -/
theorem exec_postedWriteSend {s : State} {f : Fn} {w : Pw} {l : List Pw} (hf : (fnState s f).flr = false)
    (hw : takeOldest f s.link.pwb = some (w, l)) :
    exec (.postedWriteSend f) s = .next (pumpReads (emit { s with link := { s.link with pwb := l } } (.write w))) := by
  show execPostedWriteSend f s = _
  unfold execPostedWriteSend
  rw [hf, hw]
  rfl

/-- The write sent, and only host reads with it (R614). -/
theorem postedWriteSend_sends {s : State} {f : Fn} {w : Pw} {l : List Pw} (hf : (fnState s f).flr = false)
    (hw : takeOldest f s.link.pwb = some (w, l)) :
    Ends (.postedWriteSend f) s fun t => t.link.pwb = l ∧
      (∃ rs : List Rd, t.linkOut = s.linkOut ++ .write w :: rs.map .read ∧ t.link.reads = s.link.reads ++ rs) ∧
      t = { s with linkOut := t.linkOut, link := { s.link with pwb := l, reads := t.link.reads, readQ := t.link.readQ } } ∧
      (s.link.readQ = [] → t.link.readQ = [] ∧ t.link.reads = s.link.reads) := by
  refine ⟨_, exec_postedWriteSend hf hw, ?_⟩
  have idle (empty : s.link.readQ = []) := pumpReads_of_empty (s := emit { s with link := { s.link with pwb := l } } (.write w)) empty
  obtain ⟨rs, waiting, -, -, e⟩ := pumpReads_sends (emit { s with link := { s.link with pwb := l } } (.write w))
  refine ⟨by rw [e]; rfl, ⟨rs, ?_, by rw [e]; rfl⟩, by rw [e]; rfl, fun empty => ?_⟩
  · rw [e]
    exact List.append_assoc _ _ _
  · rw [idle empty]
    exact ⟨empty, rfl⟩

/-- PWB_STALL_TIMEOUT of a buffer that holds a write (R634). -/
theorem exec_pwbStallTimeout {s : State} (h : s.link.pwb ≠ []) :
    exec .pwbStallTimeout s = .next (settle (raiseHs { s with link := { s.link with pwbStalled := true } } 81 none)) :=
  if_neg (by simpa using h)

/-- LTR_SEND with work, and with neither work nor DMA (R125). -/
theorem exec_ltrSend (s : State) :
    (ringsWork s = true → exec .ltrSend s = .next (emit s (.ltr s.link.ltrActive))) ∧
    (ringsWork s = false → s.link.reads = [] → s.link.pwb = [] → exec .ltrSend s = .next (emit s (.ltr s.link.ltrIdle))) := by
  refine ⟨fun work => if_pos work, fun idle reads writes => ?_⟩
  exact (if_neg (by rw [idle]; decide)).trans (if_pos (by rw [reads, writes]; rfl))

/-- BRD_STOP_CTL with RESUME, written by PF1 while STOPPED (R151). -/
theorem exec_brdStopCtlResume {s : State} (hw : WritesServed s .pf1) (v : BitVec 32) (stopped : s.link.stopState = 2) :
    exec (.brdStopCtlResume .pf1 v) s = .next (acceptKept { s with link := { s.link with stopState := 0 } } fun _ => true) := by
  have b0 : bit (v.setWidth 64 ||| 1 : BitVec 64) 0 = true := by simp [bit]
  show Host.Outcome.next (gateW s .pf1 _) = _
  rw [gateW_served hw, wrStopCtl, onPf1, b0, if_pos rfl, stopResume, if_pos stopped]

/-- The last admitted request of a graceful stop has ended (R150). -/
theorem gracefulStopStopped_stops {s : State} (stopping : s.link.stopState = 1) (none : s.reqs = []) (q : Quiet s)
    (routes : RoutesGood s) :
    Ends .gracefulStopStopped s fun t => t = { s with link := { s.link with stopState := 2 }, evt := t.evt, fns := t.fns } ∧
      (evSrc t .pf1 292).cause = true := by
  have ended : stopEnd s = raiseEv { s with link := { s.link with stopState := 2 } } 292 :=
    if_pos ⟨stopping, by rw [none]; rfl⟩
  refine ⟨_, rfl, ?_⟩
  rw [ended, settle_raiseEv (s := { s with link := { s.link with stopState := 2 } }) q routes]
  exact ⟨(raiseEv_spec (s := { s with link := { s.link with stopState := 2 } }) routes 292 false).1,
    (raiseEv_device _ false (by decide) (by decide)).1⟩

/-- Settles O12: each command by its own equation; the reads that follow a write are those of `pumpReads_sends`. -/
theorem linkEventsAct : Obligations.LinkEventsAct := by
  intro s
  refine ⟨fun down phase r w mode => (exec_linkMode mode).1 down phase, fun up r w mode => (exec_linkMode mode).2 up,
    fun e h => (exec_linkProtocolError e s).2 h, fun e i h => ⟨_, (exec_linkProtocolError e s).1 i h, rfl, setAerCor_both s i⟩,
    fun f w hd hf => ?_, fun f => rfl, fun f w l hf hw => postedWriteSend_sends hf hw,
    exec_pwbStallTimeout, (exec_ltrSend s).1, (exec_ltrSend s).2, fun hw v stopped => exec_brdStopCtlResume hw v stopped,
    gracefulStopStopped_stops⟩
  show Host.Outcome.next (gateBar s f _) = _
  rw [gateBar_open hd hf]

/-! ### The I2C target (R144-R149) -/

/-- A read command is answered where the target answers and no data byte was written, else not acknowledged (R147). -/
theorem i2cRead_eq {s : State} (acts : i2cActs s = true) (cmd : Byte) (resp : List Byte) (n : Nat) :
    i2cRead s ⟨0, n⟩ cmd resp = .next (answer s (.bytes (i2cBytes s cmd resp n))) ∧
    ∀ w, 0 < w → i2cRead s ⟨w, n⟩ cmd resp = .next (answer s .nak) := by
  refine ⟨?_, fun w hw => ?_⟩
  · rw [i2cRead, if_pos ⟨acts, rfl⟩]
  · rw [i2cRead, if_neg fun h => Nat.ne_of_gt hw h.2]

/-- I2C_ID and I2C_STATE as the commands read them (R147). -/
theorem exec_i2cIdState (s : State) (x : I2cRead) :
    exec (.i2cId x) s = i2cRead s x 0x00 [0x9B, 0x1E, 0x48, 0x64, 0xB0, 0x01, i2cAddress s, 0] ∧
    (s.tkr.sensed = true → exec (.i2cState x) s =
      i2cRead s x 0x10 [BitVec.ofNat 8 (lcCode s), if s.tkr.debugOpen then 1 else 0,
        if s.boot.keysLocked then 1 else 0, (phaseCode s.boot.phase).setWidth 8]) := by
  refine ⟨rfl, fun sensed => ?_⟩
  show execI2cState x s = _
  rw [execI2cState, sensed, if_pos rfl]

/-- I2C_STOP and I2C_UNKNOWN_COMMAND of a target that answers (R147, R149). -/
theorem exec_i2cWrites {s : State} (acts : i2cActs s = true) :
    (∀ d, exec (.i2cStop d) s = .next (answer (if d = [0x53, 0x54] then stopAccept s else s) .ok)) ∧
    ∀ c, c ∉ i2cCodes → exec (.i2cUnknownCommand c) s = .next (answer s .nak) := by
  refine ⟨fun d => if_neg (by rw [acts]; decide), fun c hc => ?_⟩
  show execI2cUnknownCommand c s = _
  rw [execI2cUnknownCommand, if_neg fun h => hc h.2]

/-- TELEMETRY_REFRESH (R148). -/
theorem exec_telemetryRefresh {s : State} (acts : i2cActs s = true) (v p : BitVec 16) :
    exec (.telemetryRefresh v p) s = .next { s with link :=
      { s.link with telTemp := s.tmp.temp, telVdd := v, telPower := p, telClk := s.boot.clkRate.setWidth 8,
                    telThrottle := s.pwr.level.setWidth 8, telStalls := BitVec.ofNat 16 (busyStalls s) } } :=
  if_neg (by rw [acts]; decide)

/-! ### The TAP (R768, R778, R779) -/

/-- An instruction that acts as BYPASS. -/
theorem tapBypass_acts {s : State} (acts : tapActs s = true) (code : Byte) :
    tapBypass s code = { s with jtag := { s.jtag with ir := code, pinsHeld := false, pinsHighZ := false }, resp := .ok } := by
  rw [tapBypass, if_pos acts]
  rfl

/-- IDCODE, SAMPLE/PRELOAD and the reset of a TAP that operates. -/
theorem exec_tapSelects {s : State} (acts : tapActs s = true) :
    exec .idcode s = .next (answer (tapSelect s 0x01) (.value 0x16448A5B)) ∧
    (∀ p c, exec (.samplePreload p c) s = .next (answer
      { s with jtag := { s.jtag with ir := 0x02, scan := c, pinsHeld := false, pinsHighZ := false } } (.value (p.setWidth 64)))) ∧
    exec .tapReset s = .next (tapSelect s 0x01) :=
  ⟨congrArg _ (if_pos acts), fun _ _ => congrArg _ (if_pos acts), congrArg _ (if_pos acts)⟩

/-- EXTEST, HIGHZ and CLAMP in board test (R768). -/
theorem exec_tapPins_test {s : State} (acts : tapActs s = true) (test : s.boot.testMode = true) :
    (∀ p c, exec (.extest p c) s = .next (answer
      { s with jtag := { s.jtag with ir := 0x00, scan := c, pinsHeld := true, pinsHighZ := false } } (.value (p.setWidth 64)))) ∧
    exec .highz s = .next (answer { s with jtag := { s.jtag with ir := 0x03, pinsHeld := false, pinsHighZ := true } } .ok) ∧
    exec .clamp s = .next (answer { s with jtag := { s.jtag with ir := 0x04, pinsHeld := true, pinsHighZ := false } } .ok) := by
  have go {a b c : Host.Outcome State Fault Refusal} : (if !s.boot.testMode then a else if !tapActs s then b else c) = c := by
    rw [test, acts]
    rfl
  exact ⟨fun _ _ => go, go, go⟩

/-- Without board test they act as BYPASS (R779). -/
theorem exec_tapPins_bypass {s : State} (test : s.boot.testMode = false) :
    (∀ p c, exec (.extest p c) s = .next (tapBypass s 0x00)) ∧ exec .highz s = .next (tapBypass s 0x03) ∧
    exec .clamp s = .next (tapBypass s 0x04) := by
  have go {a b : Host.Outcome State Fault Refusal} : (if !s.boot.testMode then a else b) = a := by
    rw [test]
    rfl
  exact ⟨fun _ _ => go, go, go⟩

/-- Settles O15: on I2C every read command is `i2cRead`; a TAP that operates takes each instruction by its own equation. -/
theorem sidebandPortsAnswer : Obligations.SidebandPortsAnswer := by
  refine ⟨fun s powered phase => ?_, fun s acts => ?_⟩
  · have acts : i2cActs s = true := by simp [i2cActs, powered, phase]
    obtain ⟨stops, unknown⟩ := exec_i2cWrites acts
    have reads (cmd : Byte) (resp : List Byte) (n : Nat) := (i2cRead_eq acts cmd resp n).1
    have naks {w : Nat} (hw : 0 < w) (cmd : Byte) (resp : List Byte) (n : Nat) := (i2cRead_eq acts cmd resp n).2 w hw
    refine ⟨fun n => ?_, fun n sensed => ?_, fun n => reads _ _ n, fun n => reads _ _ n, fun n => reads _ _ n,
      fun w n hw => ⟨naks hw _ _ n, naks hw _ _ n, naks hw _ _ n, naks hw _ _ n, naks hw _ _ n⟩, stops _,
      fun d hd => ?_, unknown, exec_telemetryRefresh acts⟩
    · rw [(exec_i2cIdState s _).1, reads]
    · rw [(exec_i2cIdState s _).2 sensed, reads]
    · rw [stops, if_neg hd]
  · intro bypassed selected
    obtain ⟨id, sample, reset⟩ := exec_tapSelects acts
    have bypass (code : Byte) : tapBypass s code = bypassed code := tapBypass_acts acts code
    refine ⟨id, sample, reset, fun c hc => ?_, fun c hc => ?_, fun test => exec_tapPins_test acts test, fun test => ?_⟩
    · show Host.Outcome.next (tapBypass s (if c ∈ tapCodes then 0xFF else c)) = _
      rw [if_neg hc, bypass]
    · show Host.Outcome.next (tapBypass s (if c ∈ tapCodes then 0xFF else c)) = _
      rw [if_pos hc, bypass]
    · obtain ⟨extest, highz, clamp⟩ := exec_tapPins_bypass test
      exact ⟨fun p c => by rw [extest, bypass], by rw [highz, bypass], by rw [clamp, bypass]⟩

end Sys2Proof.HostLink

namespace Sys2Proof.HostLink
open Sys2Proof.Machine Sys2Proof.Safety Sys2Proof.Waking

/-! ### Doorbell pages (R121, R155, R222) -/

/-- A write of a live page acts (R121). -/
theorem pageWrite_live {s : State} {f : Fn} {r : RingId} {n : StallId} (h : PageLive s f r n)
    (k : State → StallId → State) : pageWrite s f r k = k s n := by
  obtain ⟨hd, hf, notReset, notFailed, owner, world⟩ := h
  rw [pageWrite, gateBar_open hd hf, if_neg (by simp [notReset, notFailed]), owner]
  exact if_pos world

/-- A write of a page whose ring belongs to no stall of the function's world counts a stray (R121). -/
theorem pageWrite_stray {s : State} {f : Fn} {r : RingId} (hd : (fnState s f).d3hot = false) (hf : (fnState s f).flr = false)
    (notReset : s.boot.phase ≠ .reset) (notFailed : s.boot.phase ≠ .bootFailed)
    (h : ∀ n, s.rings[r].owner = some n → worldFn s n ≠ f) (k : State → StallId → State) :
    pageWrite s f r k = setFn s f fun y => { y with stray := satInc y.stray } := by
  rw [pageWrite, gateBar_open hd hf, if_neg (by simp [notReset, notFailed])]
  split
  next n owner => exact if_neg (h n owner)
  next => rfl

/-- A tail written to a disabled ring, or one of a stall under reset, is ignored (R178, R222). -/
theorem tailWrite_idle {s : State} {r : RingId} {n : StallId} (h : s.rings[r].enable = false ∨ s.stalls[n].state = .resetting)
    (t : BitVec 16) : tailWrite s r n t = s :=
  if_pos (by rcases h with h | h <;> simp [h, -Fin.getElem_fin])

/-- A ring with a tail written, kept until it is taken as a doorbell (R151, R284). -/
def tailWritten (t : BitVec 16) (y : Ring) : Ring := { y with tail := t, kept := true }

/-- A ring that is served by its page: enabled, and its stall not under reset. -/
theorem tailWrite_served {s : State} {r : RingId} {n : StallId} (en : s.rings[r].enable = true)
    (st : s.stalls[n].state ≠ .resetting) (t : BitVec 16) : tailWrite s r n t =
      if t.toNat < ringSize s.rings[r] ∧
          ringDist s.rings[r] s.rings[r].head s.rings[r].fetch ≤ ringDist s.rings[r] s.rings[r].head t then
        (if keepsTail s n then setRing s r (tailWritten t) else acceptTail (setRing s r (tailWritten t)) r)
      else raiseEv (setRing s r fun y => { y with tailErr := true }) (evError n) :=
  if_neg (by simp [en, st, -Fin.getElem_fin])

/-- A change that leaves the element as it is leaves the table as it is. -/
theorem upd_of_fixed {α : Type} {n : Nat} {v : Vector α n} {i : Fin n} {f : α → α} (h : f v[i] = v[i]) : upd v i f = v := by
  rw [upd, h]
  exact Vector.set_getElem_self _

/-- A change of a ring that leaves it as it is. -/
theorem setRing_of_fixed {s : State} {r : RingId} {g : Ring → Ring} (h : g s.rings[r] = s.rings[r]) : setRing s r g = s := by
  rw [setRing, upd_of_fixed h]

/-- A change of a stall that leaves it as it is. -/
theorem setStall_of_fixed {s : State} {n : StallId} {g : Stall → Stall} (h : g s.stalls[n] = s.stalls[n]) :
    setStall s n g = s := by
  rw [setStall, upd_of_fixed h]

/-- A ring whose tail has been taken as a doorbell. -/
def tailTaken (y : Ring) : Ring := { y with kept := false, debited := y.tail }

/-- A tail accepted on a stall's ring: the doorbell is taken, and of an Alarm ring's stall tokens are debited (R284, R288). -/
def tailAccepted (s : State) (r : RingId) (n : StallId) (budgets : List (BitVec 16 × Nat)) (tokens : BitVec 6) : State :=
  setStall (setRing (setRing s r tailTaken) r fun y => { y with budgets := budgets }) n fun y => { y with tokens := tokens }

/-- See `tailAccepted`. -/
theorem acceptTail_eq {s : State} {r : RingId} {n : StallId} (owner : s.rings[r].owner = some n) :
    ∃ budgets tokens, acceptTail s r = tailAccepted s r n budgets tokens ∧
      (s.rings[r].cls ≠ 2 → tokens = s.stalls[n].tokens) := by
  have taken : (setRing s r tailTaken).rings[r] = tailTaken s.rings[r] := upd_self _ _ _
  have keepRing : setRing (setRing s r tailTaken) r (fun y => { y with budgets := s.rings[r].budgets }) = setRing s r tailTaken :=
    setRing_of_fixed (by rw [taken]; rfl)
  have keepTokens (b : List (BitVec 16 × Nat)) :
      tailAccepted s r n b s.stalls[n].tokens = setRing (setRing s r tailTaken) r fun y => { y with budgets := b } :=
    setStall_of_fixed rfl
  have accept : acceptTail s r = acceptTail s r := rfl
  conv_rhs at accept => unfold acceptTail
  simp only [owner] at accept
  split at accept
  next =>
    exact ⟨_, _, accept.trans ((keepTokens _).trans keepRing).symm, fun _ => rfl⟩
  next alarm =>
    split at accept
    · exact ⟨_, _, accept.trans (keepTokens _).symm, fun _ => rfl⟩
    · exact ⟨_, _, accept, fun h => absurd h alarm⟩

/-- The ring of an accepted tail. -/
theorem tailAccepted_ring (s : State) (r : RingId) (n : StallId) (budgets : List (BitVec 16 × Nat)) (tokens : BitVec 6) :
    (tailAccepted s r n budgets tokens).rings[r] = { tailTaken s.rings[r] with budgets := budgets } ∧
    ∀ k : RingId, k ≠ r → (tailAccepted s r n budgets tokens).rings[k] = s.rings[k] := by
  unfold tailAccepted
  rw [setStall_rings, setRing_rings, setRing_rings]
  exact ⟨by rw [upd_self, upd_self], fun k hk => by rw [upd_other _ _ hk.symm, upd_other _ _ hk.symm]⟩

/-- The stalls after an accepted tail that spends no token. -/
theorem tailAccepted_stalls {s : State} {n : StallId} {tokens : BitVec 6} (h : tokens = s.stalls[n].tokens) (r : RingId)
    (budgets : List (BitVec 16 × Nat)) : (tailAccepted s r n budgets tokens).stalls = s.stalls := by
  subst h
  unfold tailAccepted
  rw [setStall_of_fixed rfl]
  rfl

/-- An accepted tail tells the Halter nothing. -/
theorem settle_tailAccepted {s : State} (q : Quiet s) (r : RingId) (n : StallId) (budgets : List (BitVec 16 × Nat))
    (tokens : BitVec 6) : settle (tailAccepted s r n budgets tokens) = tailAccepted s r n budgets tokens :=
  settle_of_quiet (s := tailAccepted s r n budgets tokens) q

/-- BRD_DB_TAIL_WRITE of a live page (R222). -/
theorem exec_brdDbTailWrite_live {s : State} {f : Fn} {r : RingId} {n : StallId} (h : PageLive s f r n) (v : BitVec 32) :
    exec (.brdDbTailWrite f r v) s = .next (settle (tailWrite s r n (field v 0 16))) := by
  show Host.Outcome.next (settle (pageWrite s f r _)) = _
  rw [pageWrite_live h]

/-- A tail that is serviced at once (R222). -/
theorem exec_brdDbTailWrite_serviced {s : State} {f : Fn} {r : RingId} {n : StallId} (q : Quiet s) (live : PageLive s f r n)
    (en : s.rings[r].enable = true) (st : s.stalls[n].state ≠ .resetting) (v : BitVec 32) {tail : BitVec 16}
    (ht : tail = field v 0 16) (fits : tail.toNat < ringSize s.rings[r])
    (behind : ringDist s.rings[r] s.rings[r].head s.rings[r].fetch ≤ ringDist s.rings[r] s.rings[r].head tail)
    (services : keepsTail s n = false) :
    Ends (.brdDbTailWrite f r v) s fun t => t.rings[r].tail = tail ∧ t.rings[r].kept = false ∧
      t.rings[r].debited = tail ∧ (∀ k : RingId, k ≠ r → t.rings[k] = s.rings[k]) ∧
      (s.rings[r].cls ≠ 2 → t.stalls = s.stalls) ∧ t.dram = s.dram ∧ t.mgr = s.mgr ∧ t.reqs = s.reqs := by
  subst ht
  have done := exec_brdDbTailWrite_live live v
  have written : (setRing s r (tailWritten (field v 0 16))).rings[r] = tailWritten (field v 0 16) s.rings[r] := upd_self _ _ _
  obtain ⟨-, -, -, -, owner, -⟩ := live
  obtain ⟨budgets, tokens, accepted, plain⟩ :=
    acceptTail_eq (s := setRing s r (tailWritten (field v 0 16))) (n := n) (by rw [written]; exact owner)
  obtain ⟨own, others⟩ := tailAccepted_ring (setRing s r (tailWritten (field v 0 16))) r n budgets tokens
  rw [written] at own plain
  rw [tailWrite_served en st, if_pos ⟨fits, behind⟩, services, if_neg Bool.false_ne_true, accepted,
    settle_tailAccepted (s := setRing s r (tailWritten (field v 0 16))) q] at done
  exact ⟨_, done, by rw [own]; rfl, by rw [own]; rfl, by rw [own]; rfl, fun k hk => (others k hk).trans (upd_other _ _ hk.symm),
    fun h => tailAccepted_stalls (plain h) r budgets, rfl, rfl, rfl⟩

/-- Settles O16: a page is live or stray; on a live page the tail is ignored, kept, accepted or refused. -/
theorem doorbellsAct : Obligations.DoorbellsAct := by
  intro s f r n v q live x tail kept
  have done := exec_brdDbTailWrite_live live v
  obtain ⟨-, -, notReset, notFailed, owner, -⟩ := id live
  refine ⟨fun en st => ⟨fun fits behind => ⟨fun keeps => ?_, fun services =>
      exec_brdDbTailWrite_serviced q live en st v rfl fits behind services⟩, fun bad => ?_⟩, fun idle => ?_, ?_,
    fun g k hd hf stray => ?_⟩
  · rw [done, tailWrite_served en st, if_pos ⟨fits, behind⟩, if_pos keeps]
    exact congrArg _ (settle_of_quiet (s := kept) q)
  · have refused : ¬ (tail.toNat < ringSize x ∧ ringDist x x.head x.fetch ≤ ringDist x x.head tail) := by omega
    rw [done, tailWrite_served en st, if_neg refused]
  · rw [done, tailWrite_idle idle, settle_of_quiet q]
  · show Host.Outcome.next (pageWrite s f r _) = _
    rw [pageWrite_live live]
    rfl
  · show Host.Outcome.next (settle (pageWrite s g k _)) = _
    rw [pageWrite_stray hd hf notReset notFailed stray]
    exact congrArg _ (settle_of_quiet (s := setFn s g _) q)

end Sys2Proof.HostLink

namespace Sys2Proof.HostLink
open Sys2Proof.Machine Sys2Proof.Safety Sys2Proof.Waking

/-! ### BAR4 with a bad route entry -/

/-- A Paddock Table entry that grants the host's window every page. -/
def windowEntry : PkEntry :=
  { PkEntry.reset with valid := true, limit := BitVec.allOnes 22, win := true, rd := true, wr := true }

/-- A ready device with its table installed and the groups of its trained channels OFF, and a parity error on record in PF1's
route entry of EV314 (R744). -/
def badWakeRoute : State :=
  setEv { State.reset with
    boot := { Boot.reset with phase := .ready, perst := false, cfgOpen := true }
    mcs := Vector.replicate 4 { Mc.reset with state := .selfRefresh, density := 6, trained := true }
    pdk := { Pdk.reset with live := Pdk.reset.live.set 255 windowEntry } } .pf1 314 fun e => { e with bad := true }

/-- The table grants the window's last byte there. -/
theorem badWakeRoute_granted : pkCheck badWakeRoute none [{ addr := 0xFFFFFFF, len := 1, need := .rd }] = .ok := by
  decide +kernel

/-- The byte waits for its group, and nothing else keeps the access. -/
theorem badWakeRoute_premises : Quiet badWakeRoute ∧ (fnState badWakeRoute .pf0).d3hot = false ∧
    (fnState badWakeRoute .pf0).flr = false ∧ badWakeRoute.boot.phase ≠ .bootFailed ∧ notFilled badWakeRoute 0xFFFFFFF = false ∧
    accessHeld badWakeRoute 0xFFFFFFF = true := by
  unfold Quiet
  decide +kernel

/-- The read of that byte ends with the assertion that the raise made taken by the Halter. -/
theorem badWakeRoute_read :
    ∃ t, exec (.bar4Access 0xFFFFFFF (.read 1)) badWakeRoute = .next t ∧ t.hlt.inbox.map (·.src) = [] :=
  ⟨_, rfl, by decide +kernel⟩

/-- The wake of the group alone leaves that assertion, of HS81, before the Halter. -/
theorem badWakeRoute_demandWake (t : State) (h : t = answer { badWakeRoute with mgr := { badWakeRoute.mgr with
      held := badWakeRoute.mgr.held ++ [{ addr := 0xFFFFFFF, acc := .read 1, epoch := badWakeRoute.pdk.epoch }] } } .deferred) :
    (demandWake t (chanOf 0xFFFFFFF)).hlt.inbox.map (·.src) = [81] := by
  subst h
  decide +kernel

/-- Refutes O44: the statement has a held access end with the state that the group's wake leaves, with any routes; but the
wake raises EV314, which meets a route entry with bad parity by asserting HS81 (R744), and the Halter takes the assertion in
the same command, as `badWakeRoute` shows. -/
theorem not_windowAccessesAct : ¬ Obligations.WindowAccessesAct := by
  intro h
  obtain ⟨quiet, d3, flr, phase, filled, held⟩ := badWakeRoute_premises
  obtain ⟨reads, -⟩ := h badWakeRoute 0xFFFFFFF quiet d3 flr phase
  obtain ⟨-, wakes, -⟩ := reads 1 badWakeRoute_granted
  obtain ⟨t, ends, taken⟩ := badWakeRoute_read
  rw [wakes filled held] at ends
  cases ends
  have left := badWakeRoute_demandWake _ rfl
  exact absurd (left.symm.trans taken) (by decide)

end Sys2Proof.HostLink

namespace Sys2Proof.HostLink
open Sys2Proof.Machine Sys2Proof.Safety Sys2Proof.Waking

/-! ### Halves of 64-bit words -/

/-- The lowest bits of a word. -/
theorem field_low {w n : Nat} {v : BitVec w} (h : n ≤ w) : field v 0 n = v.setWidth n := by
  refine BitVec.eq_of_getLsbD_eq fun i hi => ?_
  simp [field, hi, Nat.lt_of_lt_of_le hi h]

/-- A word carried in a wider one. -/
theorem field_setWidth_low (v : BitVec 32) : field (v.setWidth 64) 0 32 = v := by
  rw [field_low (by decide), BitVec.setWidth_setWidth_of_le v (by decide), BitVec.setWidth_eq]

/-- The bits of the low half. -/
theorem low32_getLsbD (i : Nat) : low32.getLsbD i = decide (i < 32) := by
  have mask : low32 = (BitVec.allOnes 32).setWidth 64 := by decide
  rw [mask, BitVec.getLsbD_setWidth, BitVec.getLsbD_allOnes]
  simp only [Bool.and_eq_right_iff_imp, decide_eq_true_eq]
  omega

/-- A register put together from its two halves. -/
theorem halves_join (v : BitVec 64) : v &&& low32 ||| v >>> 32 <<< 32 = v := by
  refine BitVec.eq_of_getLsbD_eq fun i hi => ?_
  rw [BitVec.getLsbD_or, BitVec.getLsbD_and, low32_getLsbD, BitVec.getLsbD_shiftLeft, BitVec.getLsbD_ushiftRight]
  rcases Nat.lt_or_ge i 32 with low | high
  · simp [low]
  · simp [high, hi, Nat.not_lt.2 high]

/-! ### Offsets of BAR0 (R114, R117) -/

/-- Where a register or a half of one is, the offset is a multiple of 4. -/
theorem aligned_of_halfAt {f : Fn} {off : Nat} (h : halfAt f off ≠ .none) : off % 4 = 0 := by
  by_contra c
  exact h (if_pos c)

/-- A read in the window of a measurement register changes the bank alone. -/
theorem mrRead_bank (s : State) (f : Fn) (off : BitVec 20) : mrRead s f off = { s with mrb := (mrRead s f off).mrb } := by
  have fold (l : List MrExt) (t : State) :
      l.foldl (fun s x => mrExtend s x.mr (leBytes 48 x.input.toNat)) t =
        { t with mrb := (l.foldl (fun s x => mrExtend s x.mr (leBytes 48 x.input.toNat)) t).mrb } := by
    induction l generalizing t with
    | nil => rfl
    | cons x l ih => exact ih _
  unfold mrRead
  split
  · exact fold _ _
  · rfl

/-- What a read leaves as it finds it: the functions' registers and the stalls. -/
theorem mrRead_fns (s : State) (f : Fn) (off : BitVec 20) : (mrRead s f off).fns = s.fns := by rw [mrRead_bank]

/-! ### Writes of BAR0 (R114-R116, R756) -/

/-- An access that is not aligned (R114). -/
theorem barWrite_misaligned {s : State} {f : Fn} (hw : WritesServed s f) {off : BitVec 20} {wide : Bool} (v : BitVec 64)
    (h : off.toNat % (if wide then 8 else 4) ≠ 0) : barWrite s f off wide v = s := by
  obtain ⟨hd, hf, -⟩ := hw
  rw [barWrite, gateBar_open hd hf, if_pos h]

/-- An aligned write in HELD or READY (R114, R116). -/
theorem barWrite_served {s : State} {f : Fn} (hw : WritesServed s f) {off : BitVec 20} {wide : Bool} (v : BitVec 64)
    (h : off.toNat % (if wide then 8 else 4) = 0) :
    barWrite s f off wide v = settle (if wide then write8 s f off v else write4 s f off (field v 0 32)) := by
  obtain ⟨hd, hf, hp⟩ := hw
  rw [barWrite, gateBar_open hd hf, if_neg (not_not.2 h), if_pos hp]

/-- A 4-byte write as its own commands carry it. -/
theorem barWrite_four {s : State} {f : Fn} (hw : WritesServed s f) {off : BitVec 20} (v : BitVec 32) (h : off.toNat % 4 = 0) :
    barWrite s f off false (v.setWidth 64) = settle (write4 s f off v) := by
  rw [barWrite_served hw _ h, field_setWidth_low]
  rfl

/-- A 4-byte write by what is at its offset, but for a high half. -/
theorem write4_eq (s : State) (f : Fn) (off : BitVec 20) (v : BitVec 32) :
    (halfAt f off.toNat = .none → write4 s f off v = s) ∧
    (∀ r, halfAt f off.toNat = .whole r → write4 s f off v = writeReg s f r (v.setWidth 64) low32) ∧
    (∀ r, halfAt f off.toNat = .low r → write4 s f off v = holdLow s f off v) := by
  unfold write4
  exact ⟨fun h => by rw [h], fun r h => by rw [h], fun r h => by rw [h]⟩

/-- A 4-byte write of a high half, with the low half held and without it (R756). -/
theorem write4_high {s : State} {f : Fn} {off : BitVec 20} {r : Reg} (h : halfAt f off.toNat = .high r) (v : BitVec 32) :
    (∀ lo, heldLow s f (off - 4) = some lo → write4 s f off v =
      writeReg (dropLow s f (off - 4)) f r (v.setWidth 64 <<< 32 ||| lo.setWidth 64) (BitVec.allOnes 64)) ∧
    (heldLow s f (off - 4) = none → write4 s f off v =
      if highReadOnly r then s else writeReg s f r (v.setWidth 64 <<< 32 ||| (readReg s f r &&& low32)) high32) := by
  unfold write4
  exact ⟨fun lo hl => by simp only [h, hl], fun hl => by simp only [h, hl]⟩

/-- An 8-byte write of a 64-bit register (R116). -/
theorem write8_low {s : State} {f : Fn} {off : BitVec 20} {r : Reg} (h : halfAt f off.toNat = .low r) (v : BitVec 64) :
    write8 s f off v = writeReg (dropLow s f off) f r v (BitVec.allOnes 64) := by
  unfold write8
  rw [h]

/-! ### Reads of BAR0 (R114-R116, R756) -/

/-- A read that is not aligned (R114). -/
theorem barRead_misaligned {s : State} {f : Fn} (hw : WritesServed s f) {off : BitVec 20} {wide : Bool}
    (h : off.toNat % (if wide then 8 else 4) ≠ 0) : barRead s f off wide = answer s (.value 0) := by
  obtain ⟨hd, hf, -⟩ := hw
  rw [barRead, gateBar_open hd hf, if_pos h]

/-- An aligned read in HELD or READY. -/
theorem barRead_served {s : State} {f : Fn} (hw : WritesServed s f) {off : BitVec 20} {wide : Bool}
    (h : off.toNat % (if wide then 8 else 4) = 0) :
    barRead s f off wide = if wide then read8 (mrRead s f off) f off else read4 (mrRead s f off) f off := by
  obtain ⟨hd, hf, hp⟩ := hw
  have notFailed : s.boot.phase ≠ .bootFailed := by rcases hp with hp | hp <;> rw [hp] <;> decide
  rw [barRead, gateBar_open hd hf, if_neg (not_not.2 h), if_neg fun c => notFailed c.1]

/-- Only the SRAM lap is used up by a read. -/
theorem readTaken_of_ne {r : Reg} (h : ∀ i, r ≠ .scbLap i) (s : State) : readTaken s r = s := if_neg (h 4)

/-- A 4-byte read of a whole register (R757). -/
theorem read4_whole {s : State} {f : Fn} {off : BitVec 20} {r : Reg} (h : halfAt f off.toNat = .whole r)
    (plain : ∀ n, r ≠ .stlStatus n) : read4 s f off = answer s (.value (readReg s f r)) := by
  unfold read4
  rw [h]
  show readEffect _ f r = _
  unfold readEffect
  split
  · exact absurd rfl (plain _)
  · rfl

/-- A 4-byte read of a low half captures the high half (R756). -/
theorem read4_low {s : State} {f : Fn} {off : BitVec 20} {r : Reg} (h : halfAt f off.toNat = .low r)
    (plain : ∀ i, r ≠ .scbLap i) : read4 s f off = setFn (answer s (.value (readReg s f r &&& low32))) f
      fun x => { x with captured := some (off, field (readReg s f r) 32 32) } := by
  unfold read4
  rw [h]
  dsimp only
  rw [readTaken_of_ne plain]

/-- A 4-byte read of a high half: what the function captured, or with nothing captured the register's (R756). -/
theorem read4_high {s : State} {f : Fn} {off : BitVec 20} {r : Reg} (h : halfAt f off.toNat = .high r) :
    (∀ w, (fnState s f).captured = some (off - 4, w) → read4 s f off =
      setFn (answer s (.value (w.setWidth 64))) f fun x => { x with captured := none }) ∧
    ((fnState s f).captured = none → (∀ i, r ≠ .scbLap i) → read4 s f off = answer s (.value (readReg s f r >>> 32))) := by
  unfold read4
  refine ⟨fun w hc => ?_, fun hc plain => ?_⟩
  · simp only [h, hc, if_true]
  · simp only [h, hc, readTaken_of_ne plain]

/-- An 8-byte read of a 64-bit register (R116). -/
theorem read8_low {s : State} {f : Fn} {off : BitVec 20} {r : Reg} (h : halfAt f off.toNat = .low r)
    (next : halfAt f (off + 4).toNat = .high r) (plain : ∀ i, r ≠ .scbLap i) :
    read8 s f off = answer s (.value (readReg s f r)) := by
  have low : peek4 s f off = readReg s f r &&& low32 := by unfold peek4; rw [h]
  have high : peek4 s f (off + 4) = readReg s f r >>> 32 := by unfold peek4; rw [next]
  have lowEffect (t : State) : peekEffect t f off = t := by
    unfold peekEffect
    rw [h]
    exact readTaken_of_ne plain t
  have highEffect (t : State) : peekEffect t f (off + 4) = t := by unfold peekEffect; rw [next]
  unfold read8
  dsimp only
  rw [lowEffect, highEffect, low, high, halves_join]

/-! ### Doorbell pages (R120, R121) -/

/-- The offset in its page. -/
theorem field_page (off : BitVec 20) : (field off 0 12).toNat = off.toNat % 4096 := by
  simp [field]

/-- A write of a doorbell page at the tail and at the status (R121). -/
theorem exec_registerWrite_page {s : State} {f : Fn} {off : BitVec 20} {wide : Bool} (v : BitVec 64)
    (h : off.toNat % (if wide then 8 else 4) = 0) :
    (off.toNat % 4096 = 0x000 →
      exec (.registerWrite f true off wide v) s = exec (.brdDbTailWrite f (pageRing off) (v.setWidth 32)) s) ∧
    (off.toNat % 4096 = 0x010 →
      exec (.registerWrite f true off wide v) s = exec (.fetchErrClear f (pageRing off) (v.setWidth 32)) s) := by
  have tail : field v 0 16 = field (v.setWidth 32) 0 16 := by
    rw [field_low (by decide), field_low (by decide), BitVec.setWidth_setWidth_of_le v (by decide)]
  refine ⟨fun at0 => ?_, fun at16 => ?_⟩
  · show Host.Outcome.next (pageStore s f off wide v) =
      .next (settle (pageWrite s f (pageRing off) fun s n => tailWrite s (pageRing off) n (field (v.setWidth 32) 0 16)))
    rw [pageStore, if_neg (not_not.2 h), field_page, at0, tail]
    rfl
  · show Host.Outcome.next (pageStore s f off wide v) =
      .next (pageWrite s f (pageRing off) fun s _ => statusWrite s (pageRing off) (v.setWidth 32))
    rw [pageStore, if_neg (not_not.2 h), field_page, at16, field_low (by decide)]
    rfl

/-- A read of a doorbell page (R120, R121). -/
theorem pageRead_eq {s : State} {f : Fn} (hw : WritesServed s f) (off : BitVec 20) (wide : Bool) :
    (off.toNat % (if wide then 8 else 4) ≠ 0 → pageRead s f off wide = answer s (.value 0)) ∧
    (off.toNat % (if wide then 8 else 4) = 0 →
      (∀ n, s.rings[pageRing off].owner = some n → worldFn s n = f →
        pageRead s f off wide = answer s (.value (pageWord s (pageRing off) n (field off 0 12)))) ∧
      ((∀ n, s.rings[pageRing off].owner = some n → worldFn s n ≠ f) → pageRead s f off wide = answer s (.value 0))) := by
  obtain ⟨hd, hf, -⟩ := hw
  rw [pageRead, gateBar_open hd hf]
  refine ⟨fun h => by simp only [if_pos h], fun h => ⟨fun n owner world => ?_, fun stray => ?_⟩⟩
  · simp only [if_neg (not_not.2 h), owner, if_pos world]
  · simp only [if_neg (not_not.2 h)]
    split
    next n owner => rw [if_neg (stray n owner)]
    next => rfl

/-! ### BAR0 -/

/-- The low half of a 64-bit register, or the whole of it by 8 bytes (R115, R116, R756). -/
theorem lowHalf_accesses {s : State} {f : Fn} {off : BitVec 20} (q : Quiet s) (hw : WritesServed s f) {r : Reg}
    (h : halfAt f off.toNat = .low r) :
    (∀ v : BitVec 32, exec (.lowHalfWrite f off v) s = .next (holdLow s f off v)) ∧
    (∀ v : BitVec 64, off.toNat % 8 = 0 → exec (.registerWrite f false off true v) s =
      .next (settle (writeReg (dropLow s f off) f r v (BitVec.allOnes 64)))) ∧
    ((∀ i, r ≠ .scbLap i) →
      exec (.lowHalfRead f false off false) s =
        .next (setFn (answer (mrRead s f off) (.value (readReg (mrRead s f off) f r &&& low32))) f
          fun x => { x with captured := some (off, field (readReg (mrRead s f off) f r) 32 32) }) ∧
      (off.toNat % 8 = 0 → halfAt f (off + 4).toNat = .high r → exec (.lowHalfRead f false off true) s =
        .next (answer (mrRead s f off) (.value (readReg (mrRead s f off) f r))))) := by
  have aligned : off.toNat % 4 = 0 := aligned_of_halfAt (f := f) (by rw [h]; simp)
  refine ⟨fun v => ?_, fun v al => ?_, fun plain => ⟨?_, fun al next => ?_⟩⟩
  · show Host.Outcome.next (barWrite s f off false (v.setWidth 64)) = _
    rw [barWrite_four hw v aligned, (write4_eq s f off v).2.2 r h]
    exact congrArg _ (settle_of_quiet (s := holdLow s f off v) q)
  · show Host.Outcome.next (barWrite s f off true v) = _
    rw [barWrite_served hw v al, if_pos rfl, write8_low h]
  · show Host.Outcome.next (barRead s f off false) = _
    rw [barRead_served hw aligned, if_neg Bool.false_ne_true, read4_low h plain]
  · show Host.Outcome.next (barRead s f off true) = _
    rw [barRead_served hw al, if_pos rfl, read8_low h next plain]

/-- The high half of a 64-bit register (R115, R756). -/
theorem highHalf_accesses {s : State} {f : Fn} {off : BitVec 20} (q : Quiet s) (hw : WritesServed s f) {r : Reg}
    (h : halfAt f off.toNat = .high r) (v : BitVec 32) :
    (∀ lo, heldLow s f (off - 4) = some lo → exec (.highHalfWrite f off v) s =
      .next (settle (writeReg (dropLow s f (off - 4)) f r (v.setWidth 64 <<< 32 ||| lo.setWidth 64) (BitVec.allOnes 64)))) ∧
    (heldLow s f (off - 4) = none → highReadOnly r = false → exec (.highHalfWrite f off v) s =
      .next (settle (writeReg s f r (v.setWidth 64 <<< 32 ||| (readReg s f r &&& low32)) high32))) ∧
    (heldLow s f (off - 4) = none → highReadOnly r = true → exec (.highHalfWrite f off v) s = .next s) ∧
    (∀ w, (fnState s f).captured = some (off - 4, w) → exec (.lowHalfRead f false off false) s =
      .next (setFn (answer (mrRead s f off) (.value (w.setWidth 64))) f fun x => { x with captured := none })) ∧
    ((fnState s f).captured = none → (∀ i, r ≠ .scbLap i) → exec (.lowHalfRead f false off false) s =
      .next (answer (mrRead s f off) (.value (readReg (mrRead s f off) f r >>> 32)))) := by
  have aligned : off.toNat % 4 = 0 := aligned_of_halfAt (f := f) (by rw [h]; simp)
  have writes : exec (.highHalfWrite f off v) s = .next (settle (write4 s f off v)) := congrArg _ (barWrite_four hw v aligned)
  have reads : exec (.lowHalfRead f false off false) s = .next (read4 (mrRead s f off) f off) := congrArg _ (barRead_served hw aligned)
  have fns : fnState (mrRead s f off) f = fnState s f := by unfold fnState; rw [mrRead_fns]
  obtain ⟨held, merged⟩ := write4_high h v (s := s)
  obtain ⟨taken, shown⟩ := read4_high h (s := mrRead s f off)
  refine ⟨fun lo hl => by rw [writes, held lo hl], fun hl rw => by rw [writes, merged hl, rw, if_neg Bool.false_ne_true],
    fun hl ro => by rw [writes, merged hl, ro, if_pos rfl, settle_of_quiet q], fun w hc => ?_, fun hc plain => ?_⟩
  · rw [reads, taken w (fns ▸ hc)]
  · rw [reads, shown (fns ▸ hc) plain]

/-- A 32-bit register, and an offset where no register is (R114). -/
theorem whole_accesses {s : State} {f : Fn} {off : BitVec 20} (q : Quiet s) (hw : WritesServed s f) (v : BitVec 64) :
    (∀ r, halfAt f off.toNat = .whole r →
      exec (.registerWrite f false off false v) s = .next (settle (writeReg s f r ((v.setWidth 32).setWidth 64) low32)) ∧
      ((∀ n, r ≠ .stlStatus n) → exec (.lowHalfRead f false off false) s =
        .next (answer (mrRead s f off) (.value (readReg (mrRead s f off) f r))))) ∧
    (halfAt f off.toNat = .none → off.toNat % 4 = 0 → exec (.registerWrite f false off false v) s = .next s ∧
      exec (.lowHalfRead f false off false) s = .next (answer (mrRead s f off) (.value 0))) := by
  have writes (al : off.toNat % 4 = 0) : exec (.registerWrite f false off false v) s = .next (settle (write4 s f off (field v 0 32))) :=
    congrArg _ (barWrite_served hw v al)
  have reads (al : off.toNat % 4 = 0) : exec (.lowHalfRead f false off false) s = .next (read4 (mrRead s f off) f off) :=
    congrArg _ (barRead_served hw al)
  refine ⟨fun r h => ?_, fun h al => ⟨?_, ?_⟩⟩
  · have al : off.toNat % 4 = 0 := aligned_of_halfAt (f := f) (by rw [h]; simp)
    exact ⟨by rw [writes al, (write4_eq s f off _).2.1 r h, field_low (by decide)], fun plain => by rw [reads al, read4_whole h plain]⟩
  · rw [writes al, (write4_eq s f off _).1 h, settle_of_quiet q]
  · rw [reads al]
    unfold read4
    rw [h]

/-- Settles O54: an access by what is at its offset, in BAR0 and in the doorbell pages. -/
theorem registerAccessesAct : Obligations.RegisterAccessesAct := by
  intro s f off q hw u reads
  refine ⟨fun r h => ?_, fun r v h => ?_, fun r v h => ?_, fun h al v => ?_, fun wide v h => ?_, fun wide v h => ?_⟩
  · obtain ⟨held, whole, plainReads⟩ := lowHalf_accesses q hw h
    refine ⟨held, whole, fun plain => ?_⟩
    obtain ⟨four, eight⟩ := plainReads plain
    refine ⟨⟨_, four, rfl, ?_, rfl⟩, fun al next => ⟨_, eight al next, rfl⟩⟩
    rw [fnState_setFn]
  · obtain ⟨held, merged, readOnly, captured, fresh⟩ := highHalf_accesses q hw h v
    refine ⟨held, merged, readOnly, fun w hc => ⟨_, captured w hc, rfl, ?_⟩, fun hc plain => ⟨_, fresh hc plain, rfl⟩⟩
    rw [fnState_setFn]
  · obtain ⟨writes, shows⟩ := (whole_accesses q hw v).1 r h
    exact ⟨writes, fun plain => ⟨_, shows plain, rfl⟩⟩
  · obtain ⟨writes, shows⟩ := (whole_accesses q hw v).2 h al
    exact ⟨writes, ⟨_, shows, rfl⟩⟩
  · obtain ⟨hd, hf, -⟩ := id hw
    have pageIgnored : pageStore s f off wide v = s := by rw [pageStore, if_pos h, gateBar_open hd hf]
    exact ⟨congrArg _ (barWrite_misaligned hw v h), congrArg _ pageIgnored, congrArg _ (barRead_misaligned hw h),
      congrArg _ ((pageRead_eq hw off wide).1 h)⟩
  · obtain ⟨tail, status⟩ := exec_registerWrite_page (s := s) (f := f) v h
    obtain ⟨live, stray⟩ := (pageRead_eq hw off wide).2 h
    exact ⟨tail, status, fun n owner world => congrArg _ (live n owner world), fun none => congrArg _ (stray none)⟩

end Sys2Proof.HostLink

namespace Sys2Proof.HostLink
open Sys2Proof.Machine Sys2Proof.Safety Sys2Proof.Waking

/-! ### A raise on its entry (R736, R737, R744) -/

/-- What is true of a source's entry once the source is raised on that function alone is true of it after the whole raise:
the raise on the other function leaves the entry. -/
theorem raiseEv_own {s : State} {f : Fn} {k : EvId} {al : Bool} {P : EvSrc → Prop}
    (h : ∀ u, evSrc u f k = evSrc s f k → evAllowed u f k = evAllowed s f k → P (evSrc (raiseOn u f k al) f k)) :
    P (evSrc (raiseEv s k al) f k) := by
  cases f with
  | pf0 =>
    have after : evSrc (raiseEv s k al) .pf0 k = evSrc (raiseOn s .pf0 k al) .pf0 k := raiseOn_other _ al (by simp)
    exact after ▸ h s rfl rfl
  | pf1 => exact h (raiseOn s .pf0 k al) (raiseOn_other s al (by simp)) (raiseOn_allowed s .pf0 .pf1 k k al)

/-- An entry changed, read again. -/
theorem evSrc_setEv_self (s : State) (f : Fn) (k : EvId) (g : EvSrc → EvSrc) : evSrc (setEv s f k g) f k = g (evSrc s f k) := by
  rw [evSrc_setEv, if_pos ⟨rfl, rfl⟩]

/-- The other entries after a change of one. -/
theorem evSrc_setEv_other (s : State) {f g : Fn} {k j : EvId} (h : ¬ (f = g ∧ k = j)) (u : EvSrc → EvSrc) :
    evSrc (setEv s f k u) g j = evSrc s g j := by
  rw [evSrc_setEv, if_neg h]

/-- A function's entries are not among what its Event Router holds beside them. -/
theorem evSrc_setEvFn (s : State) (f g : Fn) (j : EvId) {u : EvtFn → EvtFn} (h : ∀ e, (u e).src = e.src) :
    evSrc (setEvFn s f u) g j = evSrc s g j := by
  show ((upd s.evt.fns (fnIx f) u)[fnIx g]).src[j] = _
  rw [upd_get]
  split
  · simp only [h]
    rfl
  · rfl

/-- A message is left pending by a raise of an enabled entry with good parity (R736). -/
theorem raiseOn_pending {s : State} {f : Fn} {k : EvId} {al : Bool} (ha : evAllowed s f k = true) (good : (evSrc s f k).bad = false) :
    (evSrc (raiseOn s f k al) f k).pending = ((evSrc s f k).pending || (evSrc s f k).en) := by
  unfold raiseOn
  rw [ha, if_neg (by decide)]
  dsimp only
  rw [evSrc_setEv_self, good, if_neg Bool.false_ne_true]
  split
  next en => rw [noteEv_self, evSrc_setEv_self, en, Bool.or_true]
  next en => rw [evSrc_setEv_self, Bool.eq_false_iff.2 en, Bool.or_false]

/-- A raise on a function that does not take the source (R732). -/
theorem raiseOn_of_not_allowed {s : State} {f : Fn} {k : EvId} (ha : evAllowed s f k = false) (al : Bool) : raiseOn s f k al = s :=
  if_pos (by rw [ha]; rfl)

/-- A raise met by an entry with bad parity sends nothing and reports it (R744). -/
theorem raiseOn_of_bad {s : State} {f : Fn} {k : EvId} (ha : evAllowed s f k = true) (bad : (evSrc s f k).bad = true) (al : Bool) :
    raiseOn s f k al = raiseHs (setEvFn (setEv s f k fun e => { e with cause := true, raises := satInc e.raises }) f
      fun x => { x with parity := true, parSrc := BitVec.ofNat 9 k.val }) 81 none := by
  unfold raiseOn
  rw [ha, if_neg (by decide)]
  dsimp only
  rw [evSrc_setEv_self, bad, if_pos rfl]

/-! ### Parity errors recorded -/

/-- A parity error of a function's route entries is recorded, and HS81 asserted (R744). -/
def ParityReported (f : Fn) (s : State) : Prop := (s.evt.fns[fnIx f]).parity = true ∧ ∃ a ∈ s.hlt.inbox, a.src = 81

/-- An entry's change leaves what is recorded. -/
theorem setEv_parity (s : State) (f g : Fn) (k : EvId) (u : EvSrc → EvSrc) :
    ((setEv s f k u).evt.fns[fnIx g]).parity = (s.evt.fns[fnIx g]).parity := by
  show ((upd s.evt.fns (fnIx f) _)[fnIx g]).parity = _
  rw [upd_get]
  split <;> rfl

/-- Noting a message leaves what is recorded. -/
theorem noteEv_parity (s : State) (f g : Fn) (k : EvId) :
    ((noteEv s f k).evt.fns[fnIx g]).parity = (s.evt.fns[fnIx g]).parity := by
  have pend : ((pendNoted s f k).evt.fns[fnIx g]).parity = (s.evt.fns[fnIx g]).parity := by
    unfold pendNoted
    split <;> rfl
  rw [noteEv_eq, ← pend]
  unfold sinceNoted
  split
  · rfl
  · exact setEv_parity _ f g k _

/-- The record made by a parity error stands in every later one. -/
theorem parityReported_report (s : State) (f : Fn) (p : BitVec 9) :
    ParityReported f (raiseHs (setEvFn s f fun x => { x with parity := true, parSrc := p }) 81 none) := by
  refine ⟨?_, _, List.mem_append_right _ (List.mem_singleton_self _), rfl⟩
  show ((upd s.evt.fns (fnIx f) _)[fnIx f]).parity = true
  rw [upd_self]

/-- A record stands through a change that leaves it and adds to the Halter's input. -/
theorem ParityReported.trans {f : Fn} {s t : State} (h : ParityReported f s)
    (parity : (s.evt.fns[fnIx f]).parity = true → (t.evt.fns[fnIx f]).parity = true) (inbox : s.hlt.inbox ⊆ t.hlt.inbox) :
    ParityReported f t := by
  obtain ⟨recorded, a, ha, src⟩ := h
  exact ⟨parity recorded, a, inbox ha, src⟩

/-- A record stands through a raise. -/
theorem raiseOn_parityReported {s : State} {g : Fn} (h : ParityReported g s) (f : Fn) (k : EvId) (al : Bool) :
    ParityReported g (raiseOn s f k al) := by
  have counted : ParityReported g (setEv s f k fun e => { e with cause := true, raises := satInc e.raises }) :=
    h.trans (fun p => by rw [setEv_parity]; exact p) (List.Subset.refl _)
  unfold raiseOn
  split
  · exact h
  · dsimp only
    split
    · refine counted.trans (fun p => ?_) (List.subset_append_left _ _)
      show ((upd (setEv s f k _).evt.fns (fnIx f) _)[fnIx g]).parity = true
      rw [upd_get]
      split
      · rfl
      · exact p
    · split
      · refine counted.trans (fun p => by rw [noteEv_parity, setEv_parity]; exact p) ?_
        rw [noteEv_only]
        exact List.Subset.refl _
      · exact counted

/-- EVENT_RAISE that finds a parity error in a function's entry (R744). -/
theorem raiseEv_found {s : State} {f : Fn} {k : EvId} (ha : evAllowed s f k = true) :
    let u := raiseEv (setEv s f k fun e => { e with bad := true }) k
    (evSrc u f k).bad = true ∧ (evSrc u f k).cause = true ∧ (evSrc u f k).pending = (evSrc s f k).pending ∧ ParityReported f u := by
  intro u
  have found : (evSrc (setEv s f k fun e => { e with bad := true }) f k) = { evSrc s f k with bad := true } := evSrc_setEv_self _ _ _ _
  have taken : evAllowed (setEv s f k fun e => { e with bad := true }) f k = true := (evAllowed_congr rfl rfl f k).trans ha
  have entry : evSrc u f k = { evSrc s f k with bad := true, cause := true, raises := satInc (evSrc s f k).raises } :=
    raiseEv_own (P := fun e => e = _) fun v hv hav => by
      rw [raiseOn_of_bad (hav.trans taken) (by rw [hv, found])]
      show evSrc (setEvFn _ f _) f k = _
      rw [evSrc_setEvFn (u := fun x => { x with parity := true, parSrc := BitVec.ofNat 9 k.val }) (h := fun _ => rfl),
        evSrc_setEv_self, hv, found]
  refine ⟨by rw [entry], by rw [entry], by rw [entry], ?_⟩
  have reports (v : State) (hv : evSrc v f k = { evSrc s f k with bad := true }) (hav : evAllowed v f k = true) :
      ParityReported f (raiseOn v f k false) := by
    rw [raiseOn_of_bad hav (by rw [hv])]
    exact parityReported_report _ f _
  cases f with
  | pf0 => exact raiseOn_parityReported (reports _ found taken) .pf1 k false
  | pf1 =>
    exact reports _ ((raiseOn_other _ false (by simp)).trans found) ((raiseOn_allowed _ .pf0 .pf1 k k false).trans taken)

end Sys2Proof.HostLink

namespace Sys2Proof.HostLink
open Sys2Proof.Machine Sys2Proof.Safety Sys2Proof.Waking

/-! ### Selection (R740, R741, R744) -/

/-- A change made to each entry of a list of a function's sources. -/
theorem foldl_setEv {l : List EvId} (nodup : l.Nodup) (s : State) (f : Fn) (u : EvSrc → EvSrc) (j : EvId) :
    evSrc (l.foldl (fun s j => setEv s f j u) s) f j = if j ∈ l then u (evSrc s f j) else evSrc s f j := by
  induction l generalizing s with
  | nil => rfl
  | cons a l ih =>
    obtain ⟨notIn, nodup⟩ := List.nodup_cons.1 nodup
    rw [List.foldl_cons, ih nodup]
    by_cases same : j = a
    · subst same
      rw [if_neg notIn, if_pos List.mem_cons_self, evSrc_setEv_self]
    · rw [evSrc_setEv_other s (fun c => same c.2.symm)]
      simp only [List.mem_cons, same, false_or]

/-- The pending bits of vectors are no part of a route entry. -/
theorem dropPend_entry (s : State) (f g : Fn) (v : BitVec 10) (j : EvId) : evSrc (dropPend s f v) g j = evSrc s g j := by
  unfold dropPend
  split <;> rfl

/-- The eligible messages of a source's vector. -/
def sharing (s : State) (f : Fn) (k : EvId) : List EvId :=
  (List.finRange 320).filter fun j => evEligible s f j && decide ((evSrc s f j).vector = (evSrc s f k).vector)

/-- Their entries once they are delivered, the message counted. -/
def delivered (s : State) (f : Fn) (k : EvId) : State :=
  setEvFn ((sharing s f k).foldl (fun s j => setEv s f j evDelivered) s) f fun x => { x with msgs := satInc x.msgs }

/-- A message entered where there is room (R741). -/
theorem evEnter_room {s : State} {f : Fn} {k : EvId} (room : pwbRoom s (msixWrite s f (evSrc s f k).vector) = true) :
    evEnter s f k = dropPend (post (delivered s f k) (msixWrite s f (evSrc s f k).vector)) f (evSrc s f k).vector :=
  if_neg (by rw [room]; decide)

/-- A message entered without room (R740). -/
theorem evEnter_full {s : State} {f : Fn} {k : EvId} (full : pwbRoom s (msixWrite s f (evSrc s f k).vector) = false) :
    evEnter s f k = s :=
  if_pos (by rw [full]; rfl)

/-- What is delivered changes route entries alone. -/
theorem delivered_only (s : State) (f : Fn) (k : EvId) : EvOnly s (delivered s f k) :=
  (EvOnly.foldl (fun s j => setEv_only s f j evDelivered) (sharing s f k) s).trans rfl

/-- A write entered in the host posted-write buffer beside it. -/
theorem post_only {s t : State} (h : EvOnly s t) (w : Pw) : EvOnly (post s w) (post t w) := by
  unfold EvOnly at h ⊢
  rw [h]
  rfl

/-- The entries after a message is entered: of its vector every eligible one is delivered (R741). -/
theorem evEnter_entry {s : State} {f : Fn} {k : EvId} (room : pwbRoom s (msixWrite s f (evSrc s f k).vector) = true) (j : EvId) :
    evSrc (evEnter s f k) f j =
      if evEligible s f j = true ∧ (evSrc s f j).vector = (evSrc s f k).vector then evDelivered (evSrc s f j) else evSrc s f j := by
  have nodup : (sharing s f k).Nodup := (List.nodup_finRange 320).filter _
  have entry : evSrc (post (delivered s f k) (msixWrite s f (evSrc s f k).vector)) f j = evSrc (delivered s f k) f j := rfl
  rw [evEnter_room room, dropPend_entry, entry, delivered, evSrc_setEvFn _ _ _ _ (by intro _; rfl), foldl_setEv nodup]
  simp only [sharing, List.mem_filter, List.mem_finRange, true_and, Bool.and_eq_true, decide_eq_true_eq]

/-- A message entered after changes of the Event Router alone: they, the functions' link state and the posted-write buffer
are all that has changed. -/
theorem evEnter_only {s u : State} (h : EvOnly s u) {f : Fn} {k : EvId}
    (room : pwbRoom u (msixWrite u f (evSrc u f k).vector) = true) :
    evEnter u f k = { s with evt := (evEnter u f k).evt, fns := (evEnter u f k).fns
                             link := { s.link with pwb := pwInsert s.link.pwb (msixWrite u f (evSrc u f k).vector) } } := by
  have only : EvOnly (post s (msixWrite u f (evSrc u f k).vector)) (evEnter u f k) := by
    rw [evEnter_room room]
    exact (post_only (h.trans (delivered_only u f k)) _).trans (dropPend_only _ _ _)
  exact only

/-- EVENT_SELECTION without a parity error found, by what is picked. The match on what was found is reduced before the
states are put in, so that the kernel does not run the selection. -/
theorem exec_eventSelection (s : State) (f : Fn) :
    (∀ k, evPick (noteAllEv s) f = some k → exec (.eventSelection f none) s = .next (settle (evEnter (noteAllEv s) f k))) ∧
    (evPick (noteAllEv s) f = none → exec (.eventSelection f none) s = .next (settle (noteAllEv s))) := by
  show (∀ k, _ → execEventSelection f none s = _) ∧ (_ → execEventSelection f none s = _)
  unfold execEventSelection
  simp -zeta only []
  exact ⟨fun k h => by simp only [h], fun h => by simp only [h]⟩

/-- EVENT_SELECTION that finds a parity error, by what is picked. -/
theorem exec_eventSelection_found (s : State) (f : Fn) (j : EvId) :
    (∀ k, evPick (noteAllEv (evParity s f j)) f = some k →
      exec (.eventSelection f (some j)) s = .next (settle (evEnter (noteAllEv (evParity s f j)) f k))) ∧
    (evPick (noteAllEv (evParity s f j)) f = none →
      exec (.eventSelection f (some j)) s = .next (settle (noteAllEv (evParity s f j)))) := by
  show (∀ k, _ → execEventSelection f (some j) s = _) ∧ (_ → execEventSelection f (some j) s = _)
  unfold execEventSelection
  simp -zeta only []
  exact ⟨fun k h => by simp only [h], fun h => by simp only [h]⟩

/-- Noting messages tells the Halter nothing. -/
theorem settle_noteAllEv {s : State} (q : Quiet s) : settle (noteAllEv s) = noteAllEv s :=
  settle_of_quiet (by rw [noteAllEv_only]; exact q)

/-- A message entered tells the Halter nothing. -/
theorem settle_evEnter {s : State} (q : Quiet s) {f : Fn} {k : EvId} (room : pwbRoom s (msixWrite s f (evSrc s f k).vector) = true) :
    settle (evEnter s f k) = evEnter s f k :=
  settle_of_quiet (by rw [evEnter_only (EvOnly.refl s) room]; exact q)

/-! ### Parity errors found at selection (R743, R744) -/

/-- A discarded message is pending no more. -/
theorem evDiscard_pending (s : State) (f : Fn) (k : EvId) : (evSrc (evDiscard s f k) f k).pending = false := by
  unfold evDiscard
  split
  · rw [dropPend_entry, evSrc_setEv_self]
    rfl
  next h => exact Bool.eq_false_iff.2 h

/-- A discard leaves the parity of every entry, and what is not pending. -/
theorem evDiscard_keeps (s : State) (f g : Fn) (k j : EvId) :
    (evSrc (evDiscard s f k) g j).bad = (evSrc s g j).bad ∧
    ((evSrc s g j).pending = false → (evSrc (evDiscard s f k) g j).pending = false) := by
  unfold evDiscard
  split
  · rw [dropPend_entry, evSrc_setEv]
    split
    · exact ⟨rfl, fun _ => rfl⟩
    · exact ⟨rfl, id⟩
  · exact ⟨rfl, id⟩

/-- The pending bits of vectors are no part of what is recorded. -/
theorem dropPend_parity (s : State) (f g : Fn) (v : BitVec 10) :
    ((dropPend s f v).evt.fns[fnIx g]).parity = (s.evt.fns[fnIx g]).parity := by
  unfold dropPend
  split <;> rfl

/-- A discard leaves what is recorded. -/
theorem evDiscard_parity (s : State) (f g : Fn) (k : EvId) :
    ((evDiscard s f k).evt.fns[fnIx g]).parity = (s.evt.fns[fnIx g]).parity := by
  unfold evDiscard
  split
  · rw [dropPend_parity, setEv_parity]
  · rfl

/-- An entry found bad at selection: nothing is sent for it, and the error is reported. -/
structure Rejected (f : Fn) (k : EvId) (s : State) : Prop where
  bad : (evSrc s f k).bad = true
  dropped : (evSrc s f k).pending = false
  reported : ParityReported f s

/-- A parity error noted on an entry and in the function's status. -/
def parityFound (s : State) (f : Fn) (k : EvId) : State :=
  setEvFn (setEv s f k fun e => { e with bad := true }) f fun x => { x with parity := true, parSrc := BitVec.ofNat 9 k.val }

/-- A parity error found at selection: noted, its message discarded, and reported. -/
theorem evParity_eq (s : State) (f : Fn) (k : EvId) : evParity s f k = raiseHs (evDiscard (parityFound s f k) f k) 81 none := rfl

/-- Its entry, and the record. -/
theorem parityFound_marks (s : State) (f : Fn) (k : EvId) :
    (evSrc (parityFound s f k) f k).bad = true ∧ ((parityFound s f k).evt.fns[fnIx f]).parity = true := by
  unfold parityFound
  refine ⟨?_, ?_⟩
  · rw [evSrc_setEvFn _ _ _ _ (by intro _; rfl), evSrc_setEv_self]
  · show ((upd (setEv s f k _).evt.fns (fnIx f) _)[fnIx f]).parity = true
    rw [upd_self]

/-- An entry found bad is rejected once HS81 is asserted for it. -/
theorem rejected_raiseHs {s : State} {f : Fn} {k : EvId} (bad : (evSrc s f k).bad = true) (dropped : (evSrc s f k).pending = false)
    (recorded : (s.evt.fns[fnIx f]).parity = true) : Rejected f k (raiseHs s 81 none) :=
  ⟨bad, dropped, recorded, _, List.mem_append_right _ (List.mem_singleton_self _), rfl⟩

/-- A parity error found is one (R744). -/
theorem evParity_rejected (s : State) (f : Fn) (k : EvId) : Rejected f k (evParity s f k) := by
  obtain ⟨bad, recorded⟩ := parityFound_marks s f k
  obtain ⟨keeps, -⟩ := evDiscard_keeps (parityFound s f k) f f k k
  rw [evParity_eq]
  exact rejected_raiseHs (keeps.trans bad) (evDiscard_pending _ f k) ((evDiscard_parity _ f f k).trans recorded)

/-- Noting every message leaves what is recorded. -/
theorem noteAllEv_parity (s : State) (f : Fn) :
    ((noteAllEv s).evt.fns[fnIx f]).parity = (s.evt.fns[fnIx f]).parity := by
  have noteIf (t : State) (g : Fn) (j : EvId) (c : Bool) :
      ((if c then noteEv t g j else t).evt.fns[fnIx f]).parity = (t.evt.fns[fnIx f]).parity := by
    split
    · exact noteEv_parity t g f j
    · rfl
  unfold noteAllEv
  generalize List.finRange 320 = all
  refine foldl_keeps (g := fun t : State => (t.evt.fns[fnIx f]).parity) (fun t j => ?_) _ s
  exact (noteIf _ .pf1 j _).trans (noteIf t .pf0 j _)

/-- Noting messages leaves it. -/
theorem Rejected.noteAllEv {s : State} {f : Fn} {k : EvId} (h : Rejected f k s) : Rejected f k (noteAllEv s) := by
  have entry := (noteAllEv_noted s).entry f k
  refine ⟨by rw [entry]; exact h.bad, by rw [entry]; exact h.dropped,
    h.reported.trans (fun p => (noteAllEv_parity s f).trans p) ?_⟩
  rw [noteAllEv_only]
  exact List.Subset.refl _

/-- The parity record of a function while messages are delivered. -/
theorem delivered_parity (s : State) (f : Fn) (k : EvId) :
    ((delivered s f k).evt.fns[fnIx f]).parity = (s.evt.fns[fnIx f]).parity := by
  show ((upd ((sharing s f k).foldl (fun s j => setEv s f j evDelivered) s).evt.fns (fnIx f) _)[fnIx f]).parity = _
  rw [upd_self]
  exact foldl_keeps (g := fun t : State => (t.evt.fns[fnIx f]).parity) (fun t j => setEv_parity t f f j evDelivered) _ s

/-- A message entered leaves it. -/
theorem Rejected.evEnter {s : State} {f : Fn} {k : EvId} (h : Rejected f k s) (j : EvId) : Rejected f k (evEnter s f j) := by
  cases room : pwbRoom s (msixWrite s f (evSrc s f j).vector) with
  | false => rwa [evEnter_full room]
  | true =>
    have entry := evEnter_entry room k
    refine ⟨?_, ?_, h.reported.trans (fun p => ?_) (by rw [evEnter_only (EvOnly.refl s) room]; exact List.Subset.refl _)⟩
    · rw [entry]
      split <;> exact h.bad
    · rw [entry]
      split
      · rfl
      · exact h.dropped
    · have drop (t : State) (v : BitVec 10) : (dropPend t f v).evt = t.evt := by
        unfold dropPend
        split <;> rfl
      rw [evEnter_room room, drop]
      exact (delivered_parity s f j).trans p

/-- EVENT_SELECTION that finds a parity error sends nothing for it and reports it (R744). -/
theorem eventSelection_rejects (s : State) (f : Fn) (k : EvId) :
    ∃ u, exec (.eventSelection f (some k)) s = .next (settle u) ∧ Rejected f k u := by
  have noted := (evParity_rejected s f k).noteAllEv
  obtain ⟨picks, idle⟩ := exec_eventSelection_found s f k
  cases pick : evPick (noteAllEv (evParity s f k)) f with
  | some j => exact ⟨_, picks j pick, noted.evEnter j⟩
  | none => exact ⟨_, idle pick, noted⟩

end Sys2Proof.HostLink

namespace Sys2Proof.HostLink
open Sys2Proof.Machine Sys2Proof.Safety Sys2Proof.Waking

/-! ### Route entries (R738, R743, R746, R747) -/

/-- The fields that a route write gives an entry; a vector above 255 is ignored on PF1 (R746). -/
def routeFields (g : Fn) (v : BitVec 64) (e : EvSrc) : EvSrc :=
  { e with vector := if g = .pf1 ∧ 255 < (field v 0 10 : BitVec 10).toNat then e.vector else field v 0 10
           en := bit v 12, prio := field v 13 2, holdoff := field v 16 8, count := field v 24 8, bad := false }

/-- A route written: the entry's new fields, whatever is noted or dropped beside them, and nothing else. -/
structure RouteWritten (g : Fn) (k : EvId) (v : BitVec 64) (s t : State) : Prop where
  only : EvOnly s t
  others : ∀ j, j ≠ k → evSrc t g j = evSrc s g j
  entry : ∃ alarm since, evSrc t g k =
    { routeFields g v (evSrc s g k) with pending := (evSrc s g k).pending && bit v 12, alarm := alarm, since := since }

/-- The entry's fields set, and with EN 0 its message discarded. -/
theorem routeWritten_set (s : State) (g : Fn) (k : EvId) (v : BitVec 64) :
    RouteWritten g k v s (if bit v 12 then setEv s g k (routeFields g v) else setEv (setEv s g k (routeFields g v)) g k evClear) := by
  split
  next en =>
    refine ⟨setEv_only s g k _, fun j hj => evSrc_setEv_other s (fun c => hj c.2.symm) _, (evSrc s g k).alarm, (evSrc s g k).since, ?_⟩
    rw [evSrc_setEv_self, en, Bool.and_true]
    rfl
  next en =>
    refine ⟨(setEv_only s g k _).trans (setEv_only _ g k evClear), fun j hj => ?_, false, none, ?_⟩
    · rw [evSrc_setEv_other _ fun c => hj c.2.symm, evSrc_setEv_other _ fun c => hj c.2.symm]
    · rw [evSrc_setEv_self, evSrc_setEv_self, Bool.eq_false_iff.2 en, Bool.and_false]
      rfl

/-- Noting the message and dropping the pending bit of the old vector leave it so. -/
theorem RouteWritten.noted {g : Fn} {k : EvId} {v : BitVec 64} {s t : State} (h : RouteWritten g k v s t) (old : BitVec 10) :
    RouteWritten g k v s (dropPend (noteEv t g k) g old) := by
  obtain ⟨only, others, alarm, since, entry⟩ := h
  refine ⟨(only.trans (noteEv_only t g k)).trans (dropPend_only _ g old), fun j hj => ?_, alarm, sinceNow (pendNoted t g k) g k, ?_⟩
  · rw [dropPend_entry, noteEv_other t fun c => hj c.2.symm, others j hj]
  · rw [dropPend_entry, noteEv_self, entry]

/-- EVT_ROUTEk written (R746). -/
theorem routePut_written (s : State) (g : Fn) (k : EvId) (v : BitVec 64) : RouteWritten g k v s (routePut s g k v) :=
  (routeWritten_set s g k v).noted _

/-- An 8-byte write of a register, of a function whose writes are served (R115). -/
theorem gateW64_served {s : State} {f : Fn} (h : WritesServed s f) (off : Nat) (k : State → State) :
    gateW64 s f off k = k (dropLow s f (BitVec.ofNat 20 off)) := gateW_served h _

/-- EVT_ROUTE_WRITE, by the entry that it reaches. -/
theorem exec_evtRouteWrite {s : State} {f : Fn} (hw : WritesServed s f) (k : EvId) (al : Bool) (v : BitVec 64) :
    let low := dropLow s f (BitVec.ofNat 20 ((if al then 0x64000 else 0x60000) + 8 * k.val))
    (∀ g, routeTarget s f k al = some g → exec (.evtRouteWrite f k al v) s = .next (routePut low g k v)) ∧
    (routeTarget s f k al = none → exec (.evtRouteWrite f k al v) s = .next low) := by
  intro low
  have done : exec (.evtRouteWrite f k al v) s = .next (wrRoute low f k al v) := congrArg _ (gateW64_served hw _ _)
  have target : routeTarget low f k al = routeTarget s f k al := rfl
  unfold wrRoute at done
  refine ⟨fun g h => ?_, fun h => ?_⟩ <;> rw [done, target, h]

/-! ### The mirror mask (R743, R749) -/

/-- The mask with its low word written. -/
theorem mirrorMask_low (m : BitVec 96) (v : BitVec 64) :
    (m >>> 64 <<< 64 ||| v.setWidth 96).setWidth 64 = v ∧ (m >>> 64 <<< 64 ||| v.setWidth 96) >>> 64 = m >>> 64 := by
  constructor
  · refine BitVec.eq_of_getLsbD_eq fun i hi => ?_
    simp [hi]
  · refine BitVec.eq_of_getLsbD_eq fun i hi => ?_
    have high : v.getLsbD (64 + i) = false := BitVec.getLsbD_of_ge v _ (Nat.le_add_right 64 i)
    simp only [BitVec.getLsbD_ushiftRight, BitVec.getLsbD_or, BitVec.getLsbD_shiftLeft, BitVec.getLsbD_setWidth, high]
    by_cases h : 64 + i < 96
    · simp [h]
    · simp [h, BitVec.getLsbD_of_ge m (64 + i) (Nat.le_of_not_lt h)]

/-- The mask with its high word written. -/
theorem mirrorMask_high (m : BitVec 96) (v : BitVec 64) :
    let w := m &&& (BitVec.allOnes 64).setWidth 96 ||| (v.setWidth 32).setWidth 96 <<< 64
    w.setWidth 64 = m.setWidth 64 ∧ (w >>> 64).setWidth 32 = v.setWidth 32 := by
  intro w
  constructor
  · refine BitVec.eq_of_getLsbD_eq fun i hi => ?_
    have low : (BitVec.allOnes 64).getLsbD i = true := by rw [BitVec.getLsbD_allOnes, decide_eq_true hi]
    simp only [w, BitVec.getLsbD_setWidth, BitVec.getLsbD_or, BitVec.getLsbD_and, BitVec.getLsbD_shiftLeft, low]
    simp [hi, Nat.lt_trans hi (show 64 < 96 by decide)]
  · refine BitVec.eq_of_getLsbD_eq fun i hi => ?_
    have high : (BitVec.allOnes 64).getLsbD (64 + i) = false := BitVec.getLsbD_of_ge _ _ (Nat.le_add_right 64 i)
    have fits : 64 + i < 96 := by omega
    simp only [w, BitVec.getLsbD_setWidth, BitVec.getLsbD_or, BitVec.getLsbD_and, BitVec.getLsbD_shiftLeft,
      BitVec.getLsbD_ushiftRight, high]
    simp [hi, fits, Nat.lt_trans hi (show 32 < 96 by decide)]

/-- A discard leaves the mirror mask. -/
theorem evDiscard_nmMirror (s : State) (f : Fn) (k : EvId) : (evDiscard s f k).evt.nmMirror = s.evt.nmMirror := by
  unfold evDiscard dropPend
  split
  · split <;> rfl
  · rfl

/-- PF0 has no message pending for the mirror of a source that the mask does not permit. -/
def MirrorDropped (j : HsId) (s : State) : Prop := bit s.evt.nmMirror j.val = false → (evSrc s .pf0 (evMirror j)).pending = false

/-- What the mask no longer permits is discarded, and the mask stands (R743). -/
theorem mirrorDiscard_spec (s : State) : EvOnly s (mirrorDiscard s) ∧ (mirrorDiscard s).evt.nmMirror = s.evt.nmMirror ∧
    ∀ j, MirrorDropped j (mirrorDiscard s) := by
  have mask (t : State) (j : HsId) :
      (if bit t.evt.nmMirror j.val then t else evDiscard t .pf0 (evMirror j)).evt.nmMirror = t.evt.nmMirror := by
    split
    · rfl
    · exact evDiscard_nmMirror t .pf0 _
  refine ⟨EvOnly.foldl (fun t j => EvOnly.ite (EvOnly.refl t) (evDiscard_only t .pf0 _)) _ s,
    foldl_keeps (g := fun t : State => t.evt.nmMirror) (fun t j => mask t j) _ s, fun j => ?_⟩
  refine foldl_establishes (P := MirrorDropped) (fun t j => ?_) (fun t j i h => ?_) _ s j (List.mem_finRange j)
  · unfold MirrorDropped
    rw [mask]
    intro off
    rw [off, if_neg Bool.false_ne_true]
    exact evDiscard_pending t .pf0 _
  · unfold MirrorDropped
    rw [mask]
    intro off
    split
    · exact h off
    · exact (evDiscard_keeps t .pf0 .pf0 _ _).2 (h off)

/-- EVT_NM_MIRROR0 and 1 written by PF1 (R749). -/
theorem exec_evtNmMirrorWrite {s : State} (hw : WritesServed s .pf1) (v : BitVec 64) :
    let put (i : Fin 2) (m : BitVec 96) : State :=
      mirrorDiscard { dropLow s .pf1 (BitVec.ofNat 20 (0x61100 + 8 * i.val)) with evt := { s.evt with nmMirror := m } }
    exec (.evtNmMirrorWrite .pf1 0 v) s = .next (put 0 (s.evt.nmMirror >>> 64 <<< 64 ||| v.setWidth 96)) ∧
    exec (.evtNmMirrorWrite .pf1 1 v) s =
      .next (put 1 (s.evt.nmMirror &&& (BitVec.allOnes 64).setWidth 96 ||| (v.setWidth 32).setWidth 96 <<< 64)) :=
  ⟨congrArg _ (gateW64_served hw _ _), congrArg _ (gateW64_served hw _ _)⟩

/-- What such a write leaves. -/
theorem mirrorPut_spec (s : State) (off : BitVec 20) (m : BitVec 96) :
    let t := mirrorDiscard { dropLow s .pf1 off with evt := { s.evt with nmMirror := m } }
    t = { s with evt := t.evt, fns := t.fns } ∧ t.evt.nmMirror = m ∧ ∀ j, MirrorDropped j t :=
  mirrorDiscard_spec { dropLow s .pf1 off with evt := { s.evt with nmMirror := m } }

/-! ### Masks (R132) -/

/-- MSIX_UNMASK of a vector by a function whose writes are served. -/
theorem exec_msixUnmask_vector {s : State} {f : Fn} (hw : WritesServed s f) (v : BitVec 10) :
    ((f = .pf1 → v.toNat ≤ 255) → exec (.msixUnmask f (some v)) s = .next (noteAllEv
      (setFn s f fun x => { x with msix := upd x.msix (bvFin v) fun e => { e with ctl := putBit e.ctl 0 false } }))) ∧
    (f = .pf1 → 255 < v.toNat → exec (.msixUnmask f (some v)) s = .next (noteAllEv s)) := by
  refine ⟨fun small => ?_, fun secure large => ?_⟩
  · show Host.Outcome.next (noteAllEv (gateW s f _)) = _
    rw [gateW_served hw, if_neg fun c => Nat.not_lt.2 (small c.1) c.2]
  · show Host.Outcome.next (noteAllEv (gateW s f _)) = _
    rw [gateW_served hw, if_pos ⟨secure, large⟩]

/-- A function's state after messages are noted beside a change of it. -/
theorem noteAllEv_setFn (s : State) (f : Fn) (g : FnState → FnState) :
    let t := noteAllEv (setFn s f g)
    t = { s with evt := t.evt, fns := t.fns } ∧
    (fnState t f = { g (fnState s f) with msixPend := (fnState t f).msixPend }) ∧
    ∀ j : EvId, (evSrc t f j).pending = (evSrc s f j).pending := by
  intro t
  obtain ⟨only, fns, entry⟩ := noteAllEv_noted (setFn s f g)
  exact ⟨only, (fns f).trans (by rw [fnState_setFn]), fun j => by rw [entry]; rfl⟩

/-- A cleared bit reads 0. -/
theorem bit_putBit_false {w : Nat} (x : BitVec w) (i : Nat) : bit (putBit x i false) i = false := by
  unfold bit putBit
  rw [if_neg Bool.false_ne_true, BitVec.getLsbD_and]
  by_cases h : i < w <;> simp [h]

/-! ### Events -/

/-- HOLDOFF_EXPIRY (R739). -/
theorem holdoffExpiry_ends (s : State) (f : Fn) (k : EvId) :
    Ends (.holdoffExpiry f k) s fun t => t = { s with evt := t.evt, fns := t.fns } ∧
      (∀ j : EvId, j ≠ k → evSrc t f j = evSrc s f j) ∧
      evSrc t f k = { evSrc s f k with holding := false, since := (evSrc t f k).since } := by
  refine ⟨_, rfl, (setEv_only s f k _).trans (noteEv_only _ f k), fun j hj => ?_, ?_⟩
  · rw [noteEv_other _ fun c => hj c.2.symm, evSrc_setEv_other _ fun c => hj c.2.symm]
  · rw [noteEv_self, evSrc_setEv_self]

/-- EVENT_RAISE without a parity error found (R736). -/
theorem eventRaise_ends {s : State} (q : Quiet s) (routes : RoutesGood s) (f : Fn) (k : EvId) :
    (evAllowed s f k = true → Ends (.eventRaise k none) s fun t => t = { s with evt := t.evt, fns := t.fns } ∧
      (∀ j : EvId, j ≠ k → evSrc t f j = evSrc s f j) ∧ (evSrc t f k).cause = true ∧
      (evSrc t f k).raises = satInc (evSrc s f k).raises ∧
      (evSrc t f k).pending = ((evSrc s f k).pending || (evSrc s f k).en)) ∧
    (evAllowed s f k = false → Ends (.eventRaise k none) s fun t => evSrc t f k = evSrc s f k) := by
  have done : exec (.eventRaise k none) s = .next (raiseEv s k) := congrArg _ (settle_raiseEv q routes k false)
  refine ⟨fun taken => ?_, fun ignored => ⟨_, done, ?_⟩⟩
  · obtain ⟨cause, raises⟩ := raiseEv_self false taken
    have pending : (evSrc (raiseEv s k) f k).pending = ((evSrc s f k).pending || (evSrc s f k).en) :=
      raiseEv_own (P := fun e => e.pending = _) fun u hu hau => by
        rw [raiseOn_pending (hau.trans taken) (by rw [hu]; exact routes f k), hu]
    exact ⟨_, done, (raiseEv_spec routes k false).1, fun j hj => raiseEv_other s f false hj.symm, cause, raises, pending⟩
  · exact raiseEv_own (P := fun e => e = _) fun u hu hau => by rw [raiseOn_of_not_allowed (hau.trans ignored), hu]

/-- Settles O51: a raise, a selection, a route, the mirror mask and the masks, each by its own lemma. -/
theorem eventsAct : Obligations.EventsAct := by
  intro s f k q routes routing others
  obtain ⟨taken, ignored⟩ := eventRaise_ends q routes f k
  obtain ⟨picks, idle⟩ := exec_eventSelection s f
  refine ⟨taken, ignored, fun allowed => ⟨_, rfl, _, rfl, ?_⟩, holdoffExpiry_ends s f k, ⟨fun pick _ room => ?_,
    fun pick full => ?_, fun none => ?_⟩, ?_, fun hw al v => ⟨fun g reached => ?_, (exec_evtRouteWrite hw k al v).2⟩,
    fun hw v => ?_, fun hw i v => ?_, ?_, fun hw v => ⟨fun small => ?_, (exec_msixUnmask_vector hw v).2⟩⟩
  · exact raiseEv_found allowed
  · have quiet : Quiet (noteAllEv s) := by
      unfold Quiet
      rw [noteAllEv_only]
      exact q
    exact ⟨_, (picks k pick).trans (congrArg _ (settle_evEnter quiet room)), evEnter_only (noteAllEv_only s) room, evEnter_entry room⟩
  · rw [picks k pick, evEnter_full full, settle_noteAllEv q]
  · rw [idle none, settle_noteAllEv q]
  · obtain ⟨u, done, bad, dropped, recorded⟩ := eventSelection_rejects s f k
    exact ⟨_, done, u, rfl, bad, dropped, recorded⟩
  · obtain ⟨only, beside, alarm, since, entry⟩ := routePut_written
      (dropLow s f (BitVec.ofNat 20 ((if al then 0x64000 else 0x60000) + 8 * k.val))) g k v
    refine ⟨_, (exec_evtRouteWrite hw k al v).1 g reached, only, beside, ?_⟩
    rw [entry]
    exact ⟨rfl, rfl, rfl, rfl, rfl, rfl⟩
  · intro dropped
    obtain ⟨low, high⟩ := exec_evtNmMirrorWrite hw v
    obtain ⟨only₀, mask₀, dropped₀⟩ := mirrorPut_spec s (BitVec.ofNat 20 (0x61100 + 8 * (0 : Fin 2).val)) (s.evt.nmMirror >>> 64 <<< 64 ||| v.setWidth 96)
    obtain ⟨only₁, mask₁, dropped₁⟩ := mirrorPut_spec s (BitVec.ofNat 20 (0x61100 + 8 * (1 : Fin 2).val)) (s.evt.nmMirror &&& (BitVec.allOnes 64).setWidth 96 ||| (v.setWidth 32).setWidth 96 <<< 64)
    obtain ⟨lowWord, highKept⟩ := mirrorMask_low s.evt.nmMirror v
    obtain ⟨lowKept, highWord⟩ := mirrorMask_high s.evt.nmMirror v
    exact ⟨⟨_, low, only₀, by rw [mask₀, lowWord], by rw [mask₀, highKept], dropped₀⟩,
      ⟨_, high, only₁, by rw [mask₁, lowKept], by rw [mask₁, highWord], dropped₁⟩⟩
  · exact congrArg _ (gateW64_served hw _ _)
  · obtain ⟨only, own, pending⟩ := noteAllEv_setFn s f fun x => { x with functionMask := false }
    exact ⟨_, rfl, only, by rw [own], by rw [own], pending⟩
  · obtain ⟨only, own, pending⟩ := noteAllEv_setFn s f
      fun x => { x with msix := upd x.msix (bvFin v) fun e => { e with ctl := putBit e.ctl 0 false } }
    refine ⟨_, (exec_msixUnmask_vector hw v).1 small, only, ?_, by rw [own], fun j hj => ?_, pending⟩
    · rw [own]
      show bit ((upd (fnState s f).msix (bvFin v) _)[bvFin v]).ctl 0 = false
      rw [upd_self]
      exact bit_putBit_false _ 0
    · rw [own]
      exact upd_other _ _ hj.symm

end Sys2Proof.HostLink

namespace Sys2Proof.HostLink
open Sys2Proof.Machine Sys2Proof.Safety Sys2Proof.Waking

/-! ### A stall told of what happened to it (R118, R177) -/

/-- Two changes of an element one after the other. -/
theorem upd_upd {α : Type} {n : Nat} (v : Vector α n) (i : Fin n) (f g : α → α) :
    upd (upd v i f) i g = upd v i fun x => g (f x) := by
  refine Vector.ext fun j hj => ?_
  show (upd (upd v i f) i g)[(⟨j, hj⟩ : Fin n)] = (upd v i fun x => g (f x))[(⟨j, hj⟩ : Fin n)]
  rw [upd_get, upd_get, upd_get]
  split <;> rfl

/-- Two changes of a stall one after the other. -/
theorem setStall_setStall (s : State) (n : StallId) (f g : Stall → Stall) :
    setStall (setStall s n f) n g = setStall s n fun x => g (f x) :=
  congrArg (fun v => { s with stalls := v }) (upd_upd s.stalls n f g)

/-- A stall has a new state and is told so by its notice event; the other stalls stand. -/
structure StallTold (n : StallId) (y : Stall) (s t : State) : Prop where
  only : t = { s with stalls := t.stalls, evt := t.evt, fns := t.fns }
  self : t.stalls[n] = y
  others : ∀ m : StallId, m ≠ n → t.stalls[m] = s.stalls[m]
  told : (evSrc t (worldFn s n) (evNotice n)).cause = true
  routes : RoutesGood t

/-- The Halter has nothing to do then. -/
theorem StallTold.settle {n : StallId} {y : Stall} {s t : State} (h : StallTold n y s t) (q : Quiet s) : settle t = t :=
  settle_of_quiet (by rw [h.only]; exact q)

/-- A change of a stall that leaves its world, with its notice. -/
theorem notice_setStall {s : State} (routes : RoutesGood s) (n : StallId) (c : BitVec 4) {g : Stall → Stall}
    (world : (g s.stalls[n]).secure = s.stalls[n].secure) :
    StallTold n { g s.stalls[n] with notice := c } s (notice (setStall s n g) n c) := by
  have good : RoutesGood (setStall s n fun x => { g x with notice := c }) := routes
  obtain ⟨only, routes'⟩ := raiseEv_spec good (evNotice n) false
  have told := raiseEv_notice (setStall s n fun x => { g x with notice := c }) n false
  have stall : (setStall s n fun x => { g x with notice := c }).stalls[n] = { g s.stalls[n] with notice := c } := upd_self _ _ _
  have sameWorld : worldFn (setStall s n fun x => { g x with notice := c }) n = worldFn s n := by
    unfold worldFn
    rw [stall, world]
  rw [notice, setStall_setStall]
  refine ⟨by rw [only]; rfl, by rw [only]; exact stall, fun m hm => ?_, sameWorld ▸ told, routes'⟩
  rw [only]
  exact upd_other _ _ hm.symm

/-- A refused configuration write (R177). -/
theorem stlRefuse_told {s : State} (routes : RoutesGood s) (n : StallId) {g : Stall → Stall}
    (world : (g s.stalls[n]).secure = s.stalls[n].secure) :
    StallTold n { g s.stalls[n] with notice := 3 } s (stlRefuse s n g) := notice_setStall routes n 3 world

/-- A command that is refused. -/
theorem refused_ends {c : Instr} {s : State} (q : Quiet s) (routes : RoutesGood s) {n : StallId} {g : Stall → Stall}
    (world : (g s.stalls[n]).secure = s.stalls[n].secure) (done : exec c s = .next (settle (stlRefuse s n g))) :
    ∃ t, exec c s = .next t ∧ StallTold n { g s.stalls[n] with notice := 3 } s t := by
  have told := stlRefuse_told routes n world
  exact ⟨_, by rw [done, told.settle q], told⟩

/-- Who may write a stall's window (R118). -/
theorem stlMay_eq (s : State) (n : StallId) :
    (∀ f, f = .pf1 ∨ s.stalls[n].secure = false → stlMay s f n = true) ∧
    (s.stalls[n].secure = true → stlMay s .pf0 n = false) := by
  unfold stlMay
  exact ⟨fun f h => by rcases h with h | h <;> rw [h] <;> simp, fun h => by rw [h]; decide⟩

/-! ### Fields of a written word -/

/-- A field of a 4-byte register, of the value carried in 8 bytes. -/
theorem field_setWidth (v : BitVec 32) {lo n : Nat} (h : lo + n ≤ 32) : field (v.setWidth 64) lo n = field v lo n := by
  refine BitVec.eq_of_getLsbD_eq fun i hi => ?_
  have fits : lo + i < 64 := by omega
  simp [field, hi, fits]

/-- A bit of it. -/
theorem bit_setWidth (v : BitVec 32) {i : Nat} (h : i < 32) : bit (v.setWidth 64) i = bit v i := by
  have fits : i < 64 := by omega
  simp [bit, fits]

/-! ### Rings and PASIDs (R172, R173) -/

/-- STL_RING_ADD (R172). -/
theorem exec_stlRingAdd {s : State} {f : Fn} {n : StallId} (q : Quiet s) (hw : WritesServed s f) (may : stlMay s f n = true)
    (v : BitVec 32) :
    let r : RingId := bvFin (field v 0 8)
    (s.rings[r].owner = none → s.stalls[n].state ≠ .resetting → (stallRings s n).length < 32 →
      exec (.stlRingAdd f n v) s = .next (setRing s r fun _ => { Ring.reset with owner := some n })) ∧
    (s.rings[r].owner ≠ none ∨ s.stalls[n].state = .resetting ∨ 32 ≤ (stallRings s n).length →
      exec (.stlRingAdd f n v) s = .next (settle (stlRefuse s n fun x => { x with ringRefused := true }))) := by
  intro r
  have done : exec (.stlRingAdd f n v) s = .next (settle (wrRingAdd s f n (v.setWidth 64))) := congrArg _ (gateW_served hw _)
  have ring : (bvFin (field (v.setWidth 64 : BitVec 64) 0 8) : RingId) = r := by rw [field_setWidth v (by decide)]
  rw [done, wrRingAdd, if_neg (by rw [may]; decide)]
  simp only [ring]
  refine ⟨fun free state few => ?_, fun bad => ?_⟩
  · rw [if_pos ⟨by rw [free]; rfl, state, few⟩]
    exact congrArg _ (settle_of_quiet (s := setRing s r _) q)
  · rw [if_neg]
    rintro ⟨free, state, few⟩
    rcases bad with bad | bad | bad
    · exact bad (Option.isNone_iff_eq_none.1 free)
    · exact state bad
    · exact absurd few (Nat.not_lt.2 bad)

/-- STL_RING_REMOVE (R172, R267). -/
theorem exec_stlRingRemove {s : State} {f : Fn} {n : StallId} (q : Quiet s) (hw : WritesServed s f) (may : stlMay s f n = true)
    (v : BitVec 32) :
    let r : RingId := bvFin (field v 0 8)
    (s.rings[r].owner = some n → drained s r = true → (∀ y ∈ s.stalls[n].aborted, y.ring ≠ r) →
      exec (.stlRingRemove f n v) s = .next (setRing s r fun _ => Ring.reset)) ∧
    (s.rings[r].owner ≠ some n ∨ drained s r = false ∨ (∃ y ∈ s.stalls[n].aborted, y.ring = r) →
      exec (.stlRingRemove f n v) s = .next (settle (stlRefuse s n fun x => { x with ringRefused := true }))) := by
  intro r
  have done : exec (.stlRingRemove f n v) s = .next (settle (wrRingRemove s f n (v.setWidth 64))) := congrArg _ (gateW_served hw _)
  have ring : (bvFin (field (v.setWidth 64 : BitVec 64) 0 8) : RingId) = r := by rw [field_setWidth v (by decide)]
  have aborted : (!(s.stalls[n].aborted.any fun y => decide (y.ring = r))) = true ↔ ∀ y ∈ s.stalls[n].aborted, y.ring ≠ r := by
    rw [Bool.not_eq_true', List.any_eq_false]
    simp only [decide_eq_true_eq, ne_eq]
  rw [done, wrRingRemove, if_neg (by rw [may]; decide)]
  simp only [ring]
  refine ⟨fun own dry none => ?_, fun bad => ?_⟩
  · rw [if_pos ⟨own, dry, aborted.2 none⟩]
    exact congrArg _ (settle_of_quiet (s := setRing s r _) q)
  · rw [if_neg]
    rintro ⟨own, dry, none⟩
    rcases bad with bad | bad | ⟨y, hy, bad⟩
    · exact bad own
    · rw [dry] at bad
      cases bad
    · exact aborted.1 none y hy bad

/-- STL_PASID_WRITE (R173). -/
theorem exec_stlPasidWrite {s : State} {f : Fn} {n : StallId} (q : Quiet s) (hw : WritesServed s f) (may : stlMay s f n = true)
    (k : Fin 8) (v : BitVec 32) :
    ((pasidUsed s n k = false ∨ bit v 31 = true ∧ field v 0 20 = s.stalls[n].pasid[k]) → exec (.stlPasidWrite f n k v) s =
      .next (setStall s n fun y => { y with pasid := y.pasid.set k (field v 0 20), pasidValid := y.pasidValid.set k (bit v 31) })) ∧
    (pasidUsed s n k = true → (bit v 31 = false ∨ field v 0 20 ≠ s.stalls[n].pasid[k]) → exec (.stlPasidWrite f n k v) s =
      .next (settle (stlRefuse s n fun x => { x with pasidInUse := true }))) := by
  have done : exec (.stlPasidWrite f n k v) s = .next (settle (wrPasid s f n k (v.setWidth 64))) := congrArg _ (gateW_served hw _)
  rw [done, wrPasid, if_neg (by rw [may]; decide), bit_setWidth v (by decide), field_setWidth v (by decide)]
  refine ⟨fun free => ?_, fun used changes => ?_⟩
  · rw [if_neg]
    · exact congrArg _ (settle_of_quiet (s := setStall s n _) q)
    · rintro ⟨used, changes⟩
      rcases free with free | ⟨valid, same⟩
      · rw [used] at free
        cases free
      · rcases changes with c | c
        · rw [valid] at c
          cases c
        · exact c same
  · rw [if_pos ⟨used, changes.imp (fun c => by rw [c]; rfl) id⟩]

/-- The resource commands of a stall that the function may not write (R118). -/
theorem resources_denied {s : State} {n : StallId} (q : Quiet s) (hw : WritesServed s .pf0) (denied : stlMay s .pf0 n = false)
    (v : BitVec 32) :
    exec (.stlRingAdd .pf0 n v) s = .next s ∧ exec (.stlRingRemove .pf0 n v) s = .next s ∧
    (∀ k, exec (.stlPasidWrite .pf0 n k v) s = .next s) ∧ exec (.stlMgrLinesWrite .pf0 n v) s = .next s := by
  have no : (!stlMay s .pf0 n) = true := by rw [denied]; rfl
  have add : wrRingAdd s .pf0 n (v.setWidth 64) = s := if_pos no
  have remove : wrRingRemove s .pf0 n (v.setWidth 64) = s := if_pos no
  have pasid (k : Fin 8) : wrPasid s .pf0 n k (v.setWidth 64) = s := if_pos no
  have lines : wrMgrLines s .pf0 n (v.setWidth 64) = s := if_pos no
  have ends {c : Instr} {k : State → State} (h : exec c s = .next (gateW s .pf0 fun s => settle (k s))) (e : k s = s) :
      exec c s = .next s := by
    rw [h, gateW_served hw, e, settle_of_quiet q]
  exact ⟨ends rfl add, ends rfl remove, fun k => ends rfl (pasid k), congrArg _ ((gateW_served hw _).trans lines)⟩

end Sys2Proof.HostLink

namespace Sys2Proof.HostLink
open Sys2Proof.Machine Sys2Proof.Safety Sys2Proof.Waking

/-! ### The world of a stall (R175) -/

/-- The routes of a stall's three events. -/
def stallEvents (n : StallId) : List EvId := [evDone n, evError n, evNotice n]

/-- An event's route is at its chip-reset value in both tables: EN 0 and vector 0. -/
def RouteCleared (k : EvId) (s : State) : Prop := ∀ g : Fn, (evSrc s g k).en = false ∧ (evSrc s g k).vector = 0

/-- A discard leaves an entry's route. -/
theorem evDiscard_route (s : State) (f g : Fn) (k j : EvId) :
    (evSrc (evDiscard s f k) g j).en = (evSrc s g j).en ∧ (evSrc (evDiscard s f k) g j).vector = (evSrc s g j).vector := by
  unfold evDiscard
  split
  · rw [dropPend_entry, evSrc_setEv]
    split <;> exact ⟨rfl, rfl⟩
  · exact ⟨rfl, rfl⟩

/-- One route returned to its chip-reset value, as STL_WORLD does (R175). -/
def routeCleared (s : State) (k : EvId) (clear : EvSrc → EvSrc) : State :=
  setEv (setEv (evDiscard (evDiscard s .pf0 k) .pf1 k) .pf0 k clear) .pf1 k clear

/-- Its entries. -/
theorem routeCleared_entry (s : State) (k : EvId) (clear : EvSrc → EvSrc) (g : Fn) (j : EvId) :
    evSrc (routeCleared s k clear) g j = 
      if k = j then clear (evSrc (evDiscard (evDiscard s .pf0 k) .pf1 k) g j) else evSrc (evDiscard (evDiscard s .pf0 k) .pf1 k) g j := by
  unfold routeCleared
  rw [evSrc_setEv, evSrc_setEv]
  cases g <;> by_cases h : k = j <;> simp [h]

/-- It is cleared, and a route cleared before stays so. -/
theorem routeCleared_clears {clear : EvSrc → EvSrc} (h : ∀ e, (clear e).en = false ∧ (clear e).vector = 0) (s : State) (k : EvId) :
    RouteCleared k (routeCleared s k clear) ∧ ∀ j, RouteCleared j s → RouteCleared j (routeCleared s k clear) := by
  refine ⟨fun g => ?_, fun j cleared g => ?_⟩
  · rw [routeCleared_entry, if_pos rfl]
    exact h _
  · rw [routeCleared_entry]
    split
    · exact h _
    · obtain ⟨en₁, vector₁⟩ := evDiscard_route (evDiscard s .pf0 k) .pf1 g k j
      obtain ⟨en₀, vector₀⟩ := evDiscard_route s .pf0 g k j
      rw [en₁, en₀, vector₁, vector₀]
      exact cleared g

/-- A route's reset touches the Event Router and pending bits alone. -/
theorem routeCleared_only (s : State) (k : EvId) (clear : EvSrc → EvSrc) : EvOnly s (routeCleared s k clear) := by
  have discarded := (evDiscard_only s .pf0 k).trans (evDiscard_only (evDiscard s .pf0 k) .pf1 k)
  unfold routeCleared
  exact (discarded.trans (setEv_only _ .pf0 k clear)).trans (setEv_only _ .pf1 k clear)

/-- What such a change leaves. -/
theorem evOnly_leaves {s t : State} (h : EvOnly s t) :
    t.stalls = s.stalls ∧ t.rings = s.rings ∧ t.dram = s.dram ∧ t.hlt = s.hlt ∧ t.reqs = s.reqs := by
  rw [h]
  exact ⟨rfl, rfl, rfl, rfl, rfl⟩

/-- A stall's three routes reset (R175). -/
theorem resetRoutes_spec (s : State) (n : StallId) :
    EvOnly s (resetRoutes s n) ∧ ∀ k ∈ stallEvents n, RouteCleared k (resetRoutes s n) := by
  refine ⟨EvOnly.foldl (fun t k => routeCleared_only t k _) _ s, ?_⟩
  have clears (t : State) (k : EvId) := routeCleared_clears (clear := fun e => { e with
    vector := 0, en := false, prio := 0, holdoff := 0, count := 0, bad := false, raises := 0, counted := 0, holding := false })
    (fun _ => ⟨rfl, rfl⟩) t k
  exact foldl_establishes (P := RouteCleared) (fun t k => (clears t k).1) (fun t k j => (clears t j).2 k) (stallEvents n) s

/-- STL_WORLD_WRITE by PF1 (R175). -/
theorem exec_stlWorldWrite {s : State} {n : StallId} (q : Quiet s) (hw : WritesServed s .pf1) (v : BitVec 32) :
    (s.stalls[n].state = .free → stallRings s n = [] → exec (.stlWorldWrite .pf1 n v) s =
      .next (setStall (resetRoutes s n) n fun x => { x with secure := bit v 0 })) ∧
    ((s.stalls[n].state ≠ .free ∨ stallRings s n ≠ []) → exec (.stlWorldWrite .pf1 n v) s =
      .next (settle (stlRefuse s n fun x => { x with worldRefused := true }))) := by
  have done : exec (.stlWorldWrite .pf1 n v) s = .next (settle (wrWorld s .pf1 n (v.setWidth 64))) := congrArg _ (gateW_served hw _)
  rw [done, wrWorld, bit_setWidth v (by decide)]
  refine ⟨fun free none => ?_, fun bad => ?_⟩
  · rw [if_pos ⟨free, by rw [none]; rfl⟩]
    refine congrArg _ (settle_of_quiet (s := setStall (resetRoutes s n) n _) ?_)
    obtain ⟨-, -, -, hlt, -⟩ := evOnly_leaves (resetRoutes_spec s n).1
    rw [setStall_hlt, hlt]
    exact q
  · rw [if_neg]
    rintro ⟨free, none⟩
    rcases bad with bad | bad
    · exact bad free
    · exact bad (List.isEmpty_iff.1 none)

/-- The world of a FREE stall without rings changed (R175). -/
theorem stlWorldWrite_changes {s : State} {n : StallId} (q : Quiet s) (hw : WritesServed s .pf1) (v : BitVec 32)
    (free : s.stalls[n].state = .free) (none : stallRings s n = []) :
    Ends (.stlWorldWrite .pf1 n v) s fun t => t.stalls[n] = { s.stalls[n] with secure := bit v 0 } ∧
      (∀ m : StallId, m ≠ n → t.stalls[m] = s.stalls[m]) ∧
      (∀ (g : Fn) (k : EvId), (k = evDone n ∨ k = evError n ∨ k = evNotice n) → (evSrc t g k).en = false ∧ (evSrc t g k).vector = 0) ∧
      t.dram = s.dram ∧ t.rings = s.rings := by
  have done := (exec_stlWorldWrite q hw v).1 free none
  obtain ⟨only, cleared⟩ := resetRoutes_spec s n
  generalize resetRoutes s n = u at done only cleared
  obtain ⟨stalls, rings, dram, -, -⟩ := evOnly_leaves only
  refine ⟨_, done, ?_, fun m hm => ?_, fun g k hk => ?_, dram, rings⟩
  · rw [setStall_stalls, upd_self, stalls]
  · rw [setStall_stalls, upd_other _ _ hm.symm, stalls]
  · have mem : k ∈ stallEvents n := by simpa only [stallEvents, List.mem_cons, List.not_mem_nil, or_false] using hk
    exact cleared k mem g

/-! ### Status, budgets and windows (R171, R204, R284, R285, R312) -/

/-- STL_STATUS_READ (R118, R204). -/
theorem exec_stlStatusRead {s : State} {f : Fn} (hd : (fnState s f).d3hot = false) (hf : (fnState s f).flr = false) (n : StallId) :
    (stlMay s f n = true → exec (.stlStatusRead f n) s =
      .next (setStall (answer s (.value (stlStatus s n))) n fun x => { x with notice := 0 })) ∧
    (stlMay s f n = false → exec (.stlStatusRead f n) s = .next (answer s (.value 0))) := by
  have done : exec (.stlStatusRead f n) s = .next
      (if stlMay s f n then setStall (answer s (.value (stlStatus s n))) n fun x => { x with notice := 0 }
       else answer s (.value 0)) := congrArg _ (gateBar_open hd hf _)
  exact ⟨fun may => done.trans (congrArg _ (if_pos may)), fun denied => done.trans (congrArg _ (if_neg (by rw [denied]; decide)))⟩

/-- A change of a stall's RATE leaves every BURST and every world. -/
theorem burstSum_setStall (s : State) (n : StallId) {g : Stall → Stall} (burst : ∀ x, (g x).burst = x.burst) (p : StallId → Bool) :
    burstSum (setStall s n g) n p = burstSum s n p := by
  have same (k : StallId) : (setStall s n g).stalls[k].burst = s.stalls[k].burst := by
    rw [setStall_stalls, upd_get]
    split
    · exact burst _
    · rfl
  unfold burstSum
  simp only [same]

/-- The budgets that the other stalls leave hold a BURST (R285, R312). -/
def BurstFits (s : State) (n : StallId) (b : BitVec 6) : Prop :=
  burstSum s n (fun _ => true) + b.toNat ≤ 32 ∧
  (s.stalls[n].secure = false → burstSum s n (fun k => !s.stalls[k].secure) + b.toNat ≤ s.disp.normalAlarmMax.toNat)

/-- The tokens that a stall keeps under a BURST: no more than it. -/
def tokensUnder (b : BitVec 6) (x : Stall) : BitVec 6 := if b.toNat < x.tokens.toNat then b else x.tokens

/-- See `tokensUnder`. -/
theorem tokensUnder_toNat (b : BitVec 6) (x : Stall) : (tokensUnder b x).toNat = min b.toNat x.tokens.toNat := by
  unfold tokensUnder
  split <;> omega

/-- DSP_ALARM_TB of a stall written by one that may (R285, R312). -/
theorem wrAlarmTb_eq {s : State} {f : Fn} {n : StallId} (may : stlMay s f n = true) (v : BitVec 64) :
    let b : BitVec 6 := field v 0 6
    let rated := setStall s n fun x => { x with rate := field v 8 16 }
    (32 < b.toNat → wrAlarmTb s f n v = rated) ∧
    (b.toNat ≤ 32 → ¬ BurstFits s n b → wrAlarmTb s f n v = { rated with disp := { s.disp with budgetRefused := true } }) ∧
    (b.toNat ≤ 32 → BurstFits s n b → wrAlarmTb s f n v =
      setStall rated n fun x => { x with burst := b, tokens := tokensUnder b x }) := by
  intro b rated
  have sums (p : StallId → Bool) : burstSum rated n p = burstSum s n p := burstSum_setStall s n (by intro _; rfl) p
  have secure (k : StallId) : rated.stalls[k].secure = s.stalls[k].secure := by
    rw [setStall_stalls, upd_get]
    split <;> rfl
  have refuses : (32 < burstSum rated n (fun _ => true) + b.toNat ∨ ((!rated.stalls[n].secure) = true ∧
      rated.disp.normalAlarmMax.toNat < burstSum rated n (fun k => !rated.stalls[k].secure) + b.toNat)) ↔ ¬ BurstFits s n b := by
    simp only [sums, secure, BurstFits, not_and_or, Nat.not_le, Classical.not_imp, Bool.not_eq_true']
    rfl
  rw [wrAlarmTb, if_neg (by rw [may]; decide)]
  refine ⟨fun large => if_pos large, fun small bad => ?_, fun small fits => ?_⟩
  · exact (if_neg (Nat.not_lt.2 small)).trans (if_pos (refuses.2 bad))
  · exact (if_neg (Nat.not_lt.2 small)).trans (if_neg fun c => refuses.1 c fits)

/-- DSP_ALARM_TB_WRITE by what is written (R285, R312). -/
theorem dspAlarmTbWrite_ends {s : State} {f : Fn} {n : StallId} (hw : WritesServed s f) (may : stlMay s f n = true) (v : BitVec 64) :
    let w := dropLow s f (BitVec.ofNat 20 (0x08400 + 8 * n.val))
    let b : BitVec 6 := field v 0 6
    let rated : Stall := { s.stalls[n] with rate := field v 8 16 }
    (b.toNat ≤ 32 → BurstFits s n b → exec (.dspAlarmTbWrite f n v) s = .next { w with stalls := upd s.stalls n fun _ =>
      { rated with burst := b, tokens := tokensUnder b s.stalls[n] } }) ∧
    (b.toNat ≤ 32 → ¬ BurstFits s n b → exec (.dspAlarmTbWrite f n v) s = .next { w with
      stalls := upd s.stalls n fun _ => rated, disp := { s.disp with budgetRefused := true } }) ∧
    (32 < b.toNat → exec (.dspAlarmTbWrite f n v) s = .next { w with stalls := upd s.stalls n fun _ => rated }) := by
  intro w b rated
  have done : exec (.dspAlarmTbWrite f n v) s = .next (wrAlarmTb w f n v) := congrArg _ (gateW64_served hw _ _)
  obtain ⟨large, refused, granted⟩ := wrAlarmTb_eq (s := w) (f := f) (n := n) may v
  have own (g : Stall → Stall) : upd s.stalls n g = upd s.stalls n fun _ => g s.stalls[n] := rfl
  refine ⟨fun small fits => ?_, fun small bad => ?_, fun big => ?_⟩
  · rw [done, granted small fits, setStall_setStall, setStall, own]
    rfl
  · rw [done, refused small bad, setStall, own]
    rfl
  · rw [done, large big, setStall, own]
    rfl

/-- A refill adds RATE tokens up to BURST (R284). -/
theorem refill_toNat (x : Stall) : (BitVec.ofNat 6 (min x.burst.toNat (x.tokens.toNat + x.rate.toNat))).toNat =
    min x.burst.toNat (x.tokens.toNat + x.rate.toNat) := by
  rw [BitVec.toNat_ofNat]
  exact Nat.mod_eq_of_lt (Nat.lt_of_le_of_lt (Nat.min_le_left _ _) x.burst.isLt)

/-! ### Resources -/

/-- Settles O46: each command done by its own equation, or refused as `refused_ends` states. -/
theorem stallResourcesAct : Obligations.StallResourcesAct := by
  intro s f n q routes x only
  obtain ⟨may, secureDenied⟩ := stlMay_eq s n
  refine ⟨fun hw mine v => ?_, fun hw v => ⟨fun free none => stlWorldWrite_changes q hw v free none, fun bad => ?_⟩,
    fun hw v => ?_, fun hw sec v => resources_denied q hw (secureDenied sec) v, fun le => congrArg _ (if_neg (Nat.not_lt.2 le)),
    fun gt => congrArg _ (if_pos gt), fun hd hf => ⟨fun mine => ?_, fun pf0 sec => ?_⟩, fun hw v => ?_, ?_, ?_⟩
  · intro r refused
    have refuses {c : Instr} (done : exec c s = .next (settle (stlRefuse s n fun x => { x with ringRefused := true }))) : refused c := by
      obtain ⟨t, ends, told⟩ := refused_ends q routes (by rfl) done
      exact ⟨t, ends, told.self, told.others, by rw [told.only], told.told⟩
    obtain ⟨adds, addRefused⟩ := exec_stlRingAdd q hw (may f mine) v
    obtain ⟨removes, removeRefused⟩ := exec_stlRingRemove q hw (may f mine) v
    refine ⟨adds, fun bad => refuses (addRefused bad), removes, fun bad => refuses (removeRefused bad),
      fun k => (exec_stlPasidWrite q hw (may f mine) k v).1, fun k used changes => ?_, ?_⟩
    · obtain ⟨t, ends, told⟩ := refused_ends q routes (by rfl) ((exec_stlPasidWrite q hw (may f mine) k v).2 used changes)
      exact ⟨t, ends, told.self, told.others, told.told⟩
    · refine congrArg _ ((gateW_served hw _).trans ?_)
      rw [wrMgrLines, if_neg (by rw [may f mine]; decide), field_setWidth v (by decide), field_setWidth v (by decide)]
  · obtain ⟨t, ends, told⟩ := refused_ends q routes (by rfl) ((exec_stlWorldWrite q hw v).2 bad)
    exact ⟨t, ends, told.self, told.others, told.told⟩
  · exact congrArg _ ((gateW_served hw _).trans (settle_of_quiet q))
  · exact ⟨_, (exec_stlStatusRead hd hf n).1 (may f mine), rfl, upd_self _ _ _, fun m hm => upd_other _ _ hm.symm⟩
  · subst pf0
    exact (exec_stlStatusRead hd hf n).2 (secureDenied sec)
  · intro w b fits
    refine ⟨fun mine => ?_, fun pf0 sec => ?_⟩
    · obtain ⟨granted, refused, large⟩ := dspAlarmTbWrite_ends hw (may f mine) v
      refine ⟨fun small fit => ?_, fun small bad => ?_, fun big => ?_⟩
      · refine ⟨_, granted small fit, rfl, fun m hm => upd_other _ _ hm.symm, ?_, ?_⟩
        · dsimp only
          rw [upd_self]
        · dsimp only
          rw [upd_self]
          exact tokensUnder_toNat b x
      · exact ⟨_, refused small bad, fun m hm => upd_other _ _ hm.symm, upd_self _ _ _, rfl⟩
      · exact ⟨_, large big, fun m hm => upd_other _ _ hm.symm, upd_self _ _ _, rfl⟩
    · subst pf0
      have denied : stlMay w .pf0 n = false := secureDenied sec
      have ignored : wrAlarmTb w .pf0 n v = w := if_pos (by rw [denied]; rfl)
      exact congrArg _ ((gateW64_served hw _ _).trans ignored)
  · refine ⟨_, rfl, rfl, fun m => ?_⟩
    dsimp only
    rw [vmap_get]
    exact ⟨rfl, refill_toNat _⟩
  · refine ⟨_, rfl, rfl, fun m => ?_⟩
    dsimp only
    rw [vmap_get]

end Sys2Proof.HostLink

namespace Sys2Proof.HostLink
open Sys2Proof.Machine Sys2Proof.Safety Sys2Proof.Waking

/-! ### What tells the Halter nothing -/

/-- With good routes the Halter stays as it was, and the routes stay good. -/
structure Calm (s t : State) : Prop where
  hlt : RoutesGood s → t.hlt = s.hlt
  routes : RoutesGood s → RoutesGood t

/-- What leaves the Halter and the Event Router. -/
theorem Calm.of_eq {s t : State} (hlt : t.hlt = s.hlt) (evt : t.evt = s.evt) : Calm s t :=
  ⟨fun _ => hlt, fun good => routesGood_congr evt good⟩

/-- Nothing changed. -/
theorem Calm.refl (s : State) : Calm s s := Calm.of_eq rfl rfl

/-- Two such changes one after the other. -/
theorem Calm.trans {s t u : State} (h : Calm s t) (g : Calm t u) : Calm s u :=
  ⟨fun good => (g.hlt (h.routes good)).trans (h.hlt good), fun good => g.routes (h.routes good)⟩

/-- An operation that is such a change, after one. -/
theorem Calm.andThen {s t : State} (f : State → State) (hf : ∀ u, Calm u (f u)) (h : Calm s t) : Calm s (f t) := h.trans (hf t)

/-- Either of two such changes. -/
theorem Calm.ite {s t u : State} {c : Prop} [Decidable c] (h : Calm s t) (g : Calm s u) : Calm s (if c then t else u) := by
  split <;> assumption

/-- Such a change for each element of a list. -/
theorem Calm.foldl {α : Type} {f : State → α → State} (hf : ∀ s a, Calm s (f s a)) (l : List α) (s : State) :
    Calm s (l.foldl f s) := by
  induction l generalizing s with
  | nil => exact Calm.refl s
  | cons a l ih => exact (hf s a).trans (ih _)

/-- The Halter's cycles do nothing then. -/
theorem Calm.settle {s t : State} (h : Calm s t) (q : Quiet s) (good : RoutesGood s) : settle t = t :=
  settle_of_quiet (by rw [h.hlt good]; exact q)

/-- A raise. -/
theorem raiseEv_calm (s : State) (k : EvId) (al : Bool) : Calm s (raiseEv s k al) :=
  ⟨fun good => by rw [(raiseEv_spec good k al).1], fun good => (raiseEv_spec good k al).2⟩

/-- A change of the Entropy Block's state. -/
theorem entEnter_calm (s : State) (st : EntState) : Calm s (entEnter s st) :=
  Calm.ite (Calm.refl s) (Calm.trans (t := { s with ent := { s.ent with state := st } }) (Calm.of_eq rfl rfl) (raiseEv_calm _ 302 false))

/-- The Entropy Block following its sources (R503, R504). -/
theorem entUpdate_calm (s : State) : Calm s (entUpdate s) := by
  have halt : Calm s (entEnter (entZero s) .halted) := Calm.trans (t := entZero s) (Calm.of_eq rfl rfl) (entEnter_calm _ .halted)
  have enter := entEnter_calm s
  unfold entUpdate
  dsimp only
  split
  · exact Calm.refl s
  · exact Calm.refl s
  · exact Calm.ite halt (Calm.refl s)
  · exact Calm.ite (Calm.refl s) (enter _)
  · exact Calm.ite halt (Calm.ite (enter _) (enter _))
  · exact Calm.ite halt (Calm.ite (enter _) (enter _))

/-- A source moved (R504). -/
theorem nsEnter_calm (s : State) (n : NsId) (st : NsState) : Calm s (nsEnter s n st) := by
  have set (g : Ns → Ns) : Calm s (setNs s n g) := Calm.of_eq rfl rfl
  unfold nsEnter
  refine Calm.ite (Calm.refl s) (Calm.andThen entUpdate entUpdate_calm ?_)
  split
  · exact Calm.andThen (raiseEv · 301) (raiseEv_calm · 301 false) (set _)
  · exact Calm.andThen (raiseEv · 301) (raiseEv_calm · 301 false) (set _)
  · exact Calm.andThen (raiseEv · 301) (raiseEv_calm · 301 false) (set _)
  · exact set _

/-- A raw capture ended. -/
theorem endCapture_calm (s : State) (p : Nat → Bool) : Calm s (endCapture s p) := by
  refine Calm.foldl (fun s n => ?_) _ s
  have set (g : Ns → Ns) : Calm s (setNs s n g) := Calm.of_eq rfl rfl
  split
  · exact Calm.ite (Calm.ite ((set _).trans (nsEnter_calm _ n _)) (set _)) (Calm.refl s)
  · exact Calm.refl s

/-- The rotation of known-answer tests. -/
theorem katNext_calm (s : State) : Calm s (katNext s) := by
  have choose (u : State) (i : Fin 3) : Calm u (katChoose u i) := by
    unfold katChoose
    split
    · exact Calm.refl u
    · exact Calm.of_eq rfl rfl
  refine Calm.foldl (fun s i => ?_) _ s
  exact Calm.ite (Calm.andThen (katChoose · i) (choose · i) (Calm.of_eq rfl rfl)) (Calm.refl s)

/-- Cooperative sets given up. -/
theorem dropCoop_calm (s : State) (p : CoopFor → Bool) : Calm s (dropCoop s p) := by
  have held (u : State) : Calm u (dropHeld u) := by
    unfold dropHeld
    exact Calm.andThen katNext katNext_calm (Calm.of_eq rfl rfl)
  unfold dropCoop
  refine Calm.trans (t := { s with disp := { s.disp with coopLate := s.disp.coopLate.filter fun c => !p c } }) (Calm.of_eq rfl rfl) ?_
  dsimp only
  split
  · exact Calm.ite (held _) (Calm.refl _)
  · exact Calm.refl _

/-- A stall's requests aborted. -/
theorem abortStall_calm (s : State) (n : StallId) : Calm s (abortStall s n) := by
  have units (u : State) (ids : List Nat) : Calm u (releaseUnits u ids) := by
    unfold releaseUnits
    exact Calm.of_eq rfl rfl
  have draws (u : State) (p : Nat → Bool) : Calm u (dropDraws u p) := Calm.of_eq rfl rfl
  have lines (u : State) (p : Resv → Bool) : Calm u (release u p) := Calm.of_eq rfl rfl
  have dropped : Calm s { s with reqs := s.reqs.filter fun q => decide (q.stall ≠ n)
                                 inters := s.inters.filter fun x => !(stallChains s n).contains x.chain
                                 quotas := s.quotas.filter fun x => decide (x.2.1 ≠ n) } := Calm.of_eq rfl rfl
  unfold abortStall
  exact dropped.trans (Calm.andThen (release · _) (lines · _) (Calm.andThen (dropCoop · _) (dropCoop_calm · _)
    (Calm.andThen (dropDraws · _) (draws · _) (Calm.andThen (endCapture · _) (endCapture_calm · _) (units _ _)))))

/-- The feed session ended. -/
theorem feedEnd_calm (s : State) (cause : BitVec 3) : Calm s (feedEnd s cause) := by
  have sweep (u : State) : Calm u (sweepDropped u) := by
    unfold sweepDropped
    exact Calm.of_eq rfl rfl
  have error : Calm s (feedError s 0 cause) := by
    unfold feedError
    exact Calm.andThen (raiseEv · 300) (raiseEv_calm · 300 false) (Calm.andThen sweepDropped sweep (Calm.of_eq rfl rfl))
  exact Calm.ite error (Calm.refl s)

/-! ### What only the Manger and memory see -/

/-- Only the Manger, the memory channels and the scrubber change. -/
def StoredOnly (s t : State) : Prop := t = { s with mgr := t.mgr, dram := t.dram, mcs := t.mcs, scb := t.scb }

/-- Two such changes one after the other. -/
theorem StoredOnly.trans {s t u : State} (h : StoredOnly s t) (g : StoredOnly t u) : StoredOnly s u := by
  unfold StoredOnly at *
  rw [g, h]

/-- What such a change leaves. -/
theorem StoredOnly.leaves {s t : State} (h : StoredOnly s t) : t.units = s.units ∧ t.hlt = s.hlt ∧ t.evt = s.evt := by
  rw [h]
  exact ⟨rfl, rfl, rfl⟩

/-- Either of two such changes. -/
theorem StoredOnly.ite {s t u : State} {c : Prop} [Decidable c] (h : StoredOnly s t) (g : StoredOnly s u) :
    StoredOnly s (if c then t else u) := by
  split <;> assumption

/-- Such a change for each element of a list. -/
theorem StoredOnly.foldl {α : Type} {f : State → α → State} (hf : ∀ s a, StoredOnly s (f s a)) (l : List α) (s : State) :
    StoredOnly s (l.foldl f s) := by
  induction l generalizing s with
  | nil => exact rfl
  | cons a l ih => exact (hf s a).trans (ih _)

/-- A line written back. -/
theorem writeBack_stored (s : State) (x : Line) : StoredOnly s (writeBack s x) :=
  StoredOnly.foldl (fun u k => by
    unfold writeBackSector pageWritten
    exact StoredOnly.ite rfl rfl) _ s

/-- The lines of a stall dropped or written back (R555). -/
theorem dropStallLines_stored (s : State) (n : StallId) : StoredOnly s (dropStallLines s n) := by
  have same (u : State) : StoredOnly u u := rfl
  have put (u : State) (x : Line) : StoredOnly u (putLine u x) := rfl
  have drop (u : State) (l : LineNo) : StoredOnly u (dropLine u l) := rfl
  refine StoredOnly.foldl (fun u x => ?_) _ s
  refine StoredOnly.ite ((writeBack_stored u x).trans (put _ _)) (StoredOnly.ite (StoredOnly.ite ?_ ?_) (same u))
  · exact (StoredOnly.ite (writeBack_stored u x) (same u)).trans (drop _ _)
  · exact (writeBack_stored u x).trans (put _ _)

/-! ### The key registers of a stall (R180) -/

/-- No key register holds a stall's key. -/
def NoKeyOf (n : StallId) (s : State) : Prop := ∀ (u : UnitId) (k : KeyReg), s.units[u].keyReg = some k → k.stall ≠ n

/-- The units stand. -/
theorem NoKeyOf.congr {n : StallId} {s t : State} (h : NoKeyOf n s) (units : t.units = s.units) : NoKeyOf n t := by
  unfold NoKeyOf
  rw [units]
  exact h

/-- The registers of a stall's keys zeroised. -/
theorem zeroKeyRegs_noKey (s : State) (n : StallId) : NoKeyOf n (zeroKeyRegs s fun k => decide (k.stall = n)) := by
  intro u k
  unfold zeroKeyRegs
  dsimp only
  rw [vmap_get]
  split
  next old held =>
    split
    · exact fun h => nomatch h
    next other =>
      rw [held]
      rintro ⟨⟩
      exact fun same => other (decide_eq_true same)
  next none =>
    rw [none]
    exact fun h => nomatch h

/-- A zeroised stall has no key register. -/
theorem zeroStall_noKey (s : State) (n : StallId) : NoKeyOf n (zeroStall s n) := by
  obtain ⟨units, -, -⟩ := (dropStallLines_stored (zeroEntries (zeroKeyRegs s fun k => decide (k.stall = n))
    fun e => decide (e.stall = n)) n).leaves
  exact (zeroKeyRegs_noKey s n).congr units

/-- Its keys zeroised and its lines dropped. -/
theorem zeroStall_calm (s : State) (n : StallId) : Calm s (zeroStall s n) := by
  have regs (u : State) (p : KeyReg → Bool) : Calm u (zeroKeyRegs u p) := by
    unfold zeroKeyRegs
    exact Calm.of_eq rfl rfl
  have entries (u : State) (p : Entry → Bool) : Calm u (zeroEntries u p) := by
    unfold zeroEntries
    exact Calm.of_eq rfl rfl
  have lines (u : State) : Calm u (dropStallLines u n) := by
    obtain ⟨-, hlt, evt⟩ := (dropStallLines_stored u n).leaves
    exact Calm.of_eq hlt evt
  exact ((regs s _).trans (entries _ _)).trans (lines _)

/-- The feed session ended leaves the units. -/
theorem feedEnd_units (s : State) (cause : BitVec 3) : (feedEnd s cause).units = s.units := by
  unfold feedEnd
  split
  · unfold feedError
    rw [raiseEv_only]
    rfl
  · rfl

/-- No work of any stall comes by it. -/
theorem feedEnd_work (s : State) (cause : BitVec 3) : WorkGone s (feedEnd s cause) := by
  unfold feedEnd
  split
  · unfold feedError
    exact WorkGone.andThen (raiseEv · 300) (fun v => (raiseEv_core v 300).work)
      (WorkGone.andThen sweepDropped sweepDropped_work (CoreKept.work ⟨rfl, rfl, rfl, rfl, rfl⟩))
  · exact (CoreKept.refl s).work

/-! ### A stall reset (R180, R201) -/

/-- A stall whose reset starts: its counts at 0, its admitted requests aborted. -/
def stallResetting (s : State) (n : StallId) (cause : BitVec 2) : State :=
  setStall s n fun x => { x with state := .resetting, resetCause := cause, aborted := stallReqs s n, vInteractive := 0, vBulk := 0,
                                 draws := 0, lastRing := Vector.replicate 7 255 }

/-- Its work dropped: requests, keys, lines and fetches. -/
def stallStopped (s : State) (n : StallId) : State :=
  dropFetches (zeroStall (abortStall s n) n) fun r => decide (s.rings[r].owner = some n)

/-- A reset of a stall that is active, quiescing or quiesced; a feed session with a key of the stall ends too (R429). -/
theorem startReset_eq {s : State} {n : StallId} (cause : BitVec 2)
    (h : s.stalls[n].state = .active ∨ s.stalls[n].state = .quiescing ∨ s.stalls[n].state = .quiesced) :
    ∃ t, startReset s n cause = t ∧ (t = stallStopped (stallResetting s n cause) n ∨
      t = feedEnd (stallStopped (stallResetting s n cause) n) 4) := by
  refine ⟨_, rfl, ?_⟩
  unfold startReset
  rcases h with h | h | h <;> rw [h] <;> exact ite_eq_or_eq _ _ _ |>.symm

/-- The work of a stall dropped: nothing comes, and nothing of the stall's is left. -/
theorem stallStopped_spec (s : State) (n : StallId) : WorkGone s (stallStopped s n) ∧ Calm s (stallStopped s n) ∧
    NoRequestOf n (stallStopped s n) ∧ NoEntryOf n (stallStopped s n) ∧ NoKeyOf n (stallStopped s n) := by
  have fetches := dropFetches_core (zeroStall (abortStall s n) n) fun r => decide (s.rings[r].owner = some n)
  have calm := (abortStall_calm s n).trans (zeroStall_calm (abortStall s n) n)
  exact ⟨(clearStall_work s n).trans fetches.work, calm.trans (Calm.of_eq rfl rfl),
    ((abortStall_noRequest s n).keeps (zeroStall_work _ n)).keeps fetches.work,
    (zeroStall_noEntry (abortStall s n) n).keeps fetches.work, (zeroStall_noKey (abortStall s n) n).congr rfl⟩

end Sys2Proof.HostLink

namespace Sys2Proof.HostLink
open Sys2Proof.Machine Sys2Proof.Safety Sys2Proof.Waking

/-! ### Tails accepted for a stall (R80, R176, R284) -/

/-- Tails of a stall's rings are accepted: rings change but no ring's owner, and of the stalls its tokens alone. -/
structure TailsTaken (n : StallId) (s t : State) : Prop where
  only : t = { s with stalls := t.stalls, rings := t.rings }
  owner : ∀ r : RingId, t.rings[r].owner = s.rings[r].owner
  self : t.stalls[n] = { s.stalls[n] with tokens := t.stalls[n].tokens }
  others : ∀ m : StallId, m ≠ n → t.stalls[m] = s.stalls[m]

/-- None. -/
theorem TailsTaken.refl (n : StallId) (s : State) : TailsTaken n s s := ⟨rfl, fun _ => rfl, rfl, fun _ _ => rfl⟩

/-- Some and then others. -/
theorem TailsTaken.trans {n : StallId} {s t u : State} (h : TailsTaken n s t) (g : TailsTaken n t u) : TailsTaken n s u := by
  refine ⟨by rw [g.only, h.only], fun r => (g.owner r).trans (h.owner r), ?_, fun m hm => (g.others m hm).trans (h.others m hm)⟩
  rw [g.self, h.self]

/-- One tail of the stall. -/
theorem acceptTail_taken {s : State} {r : RingId} {n : StallId} (owner : s.rings[r].owner = some n) :
    TailsTaken n s (acceptTail s r) := by
  obtain ⟨budgets, tokens, accepted, -⟩ := acceptTail_eq owner
  obtain ⟨own, others⟩ := tailAccepted_ring s r n budgets tokens
  have stall : (tailAccepted s r n budgets tokens).stalls = upd s.stalls n fun y => { y with tokens := tokens } := rfl
  rw [accepted]
  refine ⟨rfl, fun k => ?_, ?_, fun m hm => ?_⟩
  · by_cases same : k = r
    · subst same
      rw [own]
      rfl
    · rw [others k same]
  · rw [stall, upd_self]
  · rw [stall, upd_other _ _ hm.symm]

/-- The kept tails of the stall's rings. -/
theorem acceptKept_taken (s : State) (n : StallId) : TailsTaken n s (acceptKept s fun r => decide (s.rings[r].owner = some n)) := by
  have fold (l : List RingId) (t : State) (taken : TailsTaken n s t) : TailsTaken n s (l.foldl (fun t r =>
      if decide (s.rings[r].owner = some n) ∧ t.rings[r].kept ∧ !((t.rings[r].owner.map (keepsTail t)).getD true)
      then acceptTail t r else t) t) := by
    induction l generalizing t with
    | nil => exact taken
    | cons r l ih =>
      refine ih _ ?_
      dsimp only
      split
      next h => exact taken.trans (acceptTail_taken ((taken.owner r).trans (of_decide_eq_true h.1)))
      next => exact taken
  exact fold (List.finRange 256) s (TailsTaken.refl n s)

/-! ### The commands of a stall (R176, R180, R201, R203) -/

/-- A stall made active, and the tails of its rings accepted. -/
def stallActivated (s : State) (n : StallId) : State :=
  acceptKept (setStall s n fun x => { x with state := .active }) fun r => decide (s.rings[r].owner = some n)

/-- A command code that is not listed for the stall's state. -/
def commandRefused (s : State) (n : StallId) : State := stlRefuse s n fun x => { x with badCmd := true }

/-- STL_CMD with the codes of ENABLE, QUIESCE and RESUME. -/
theorem stlCommand_moves (s : State) (n : StallId) :
    stlCommand s n 1 = (if s.stalls[n].state = .free then stallActivated s n else commandRefused s n) ∧
    stlCommand s n 2 = (if s.stalls[n].state = .active then setStall s n fun x => { x with state := .quiescing } else commandRefused s n) ∧
    stlCommand s n 3 = (if s.stalls[n].state = .quiesced then stallActivated s n else commandRefused s n) := by
  unfold stlCommand
  dsimp only
  cases s.stalls[n].state <;> exact ⟨rfl, rfl, rfl⟩

/-- STL_CMD with the code of RESET. -/
theorem stlCommand_reset (s : State) (n : StallId) :
    ((s.stalls[n].state = .active ∨ s.stalls[n].state = .quiescing ∨ s.stalls[n].state = .quiesced) →
      stlCommand s n 4 = startReset s n 1) ∧
    (s.stalls[n].state = .resetting → stlCommand s n 4 = s) ∧ (s.stalls[n].state = .free → stlCommand s n 4 = commandRefused s n) := by
  unfold stlCommand
  dsimp only
  refine ⟨fun h => ?_, fun h => by rw [h]; rfl, fun h => by rw [h]; rfl⟩
  rcases h with h | h | h <;> rw [h] <;> rfl

/-- A stall returned to FREE: what configures and measures the domain stays, the rest returns to its reset value (R176). -/
def stallFreed (n : StallId) (x : Stall) : Stall :=
  { Stall.reset n with
    secure := x.secure, pinCl := x.pinCl, pinDl := x.pinDl, pinBn := x.pinBn, burst := x.burst, rate := x.rate, tokens := x.tokens
    bypass := x.bypass, domain := x.domain, kekGen := x.kekGen, importEn := x.importEn, vInteractive := x.vInteractive
    vBulk := x.vBulk, lastRing := x.lastRing, draws := x.draws, drbgNow := x.drbgNow }

/-- STL_CMD with the code of RELEASE. -/
theorem stlCommand_release (s : State) (n : StallId) :
    (s.stalls[n].state = .quiesced → stallRings s n = [] → stlCommand s n 5 = setStall s n (stallFreed n)) ∧
    ((s.stalls[n].state ≠ .quiesced ∨ stallRings s n ≠ []) → stlCommand s n 5 = commandRefused s n) := by
  unfold stlCommand
  dsimp only
  refine ⟨fun h none => ?_, fun bad => ?_⟩
  · rw [h, none]
    rfl
  · cases h : s.stalls[n].state with
    | quiesced =>
      have rings := bad.resolve_left (fun c => c h)
      exact if_neg fun c => rings (List.isEmpty_iff.1 c)
    | free => rfl
    | active => rfl
    | quiescing => rfl
    | resetting => rfl

/-- STL_CMD with a code that is not assigned (R203). -/
theorem stlCommand_unlisted (s : State) (n : StallId) {cmd : Nat} (h : cmd = 0 ∨ 6 ≤ cmd) : stlCommand s n cmd = commandRefused s n := by
  unfold stlCommand
  dsimp only
  rcases h with rfl | h
  · cases s.stalls[n].state <;> rfl
  · obtain ⟨k, rfl⟩ := Nat.exists_eq_add_of_le' h
    cases s.stalls[n].state <;> rfl

end Sys2Proof.HostLink

namespace Sys2Proof.HostLink
open Sys2Proof.Machine Sys2Proof.Safety Sys2Proof.Waking

/-! ### The end of a stall reset (R180, R629) -/

/-- Only events are raised and writes posted: the Event Router, the functions, the Halter and the link change. -/
def ToldOnly (s t : State) : Prop := t = { s with evt := t.evt, fns := t.fns, hlt := t.hlt, link := t.link }

/-- Nothing changed. -/
theorem ToldOnly.refl (s : State) : ToldOnly s s := rfl

/-- Two such changes one after the other. -/
theorem ToldOnly.trans {s t u : State} (h : ToldOnly s t) (g : ToldOnly t u) : ToldOnly s u := by
  unfold ToldOnly at *
  rw [g, h]

/-- Either of two such changes. -/
theorem ToldOnly.ite {s t u : State} {c : Prop} [Decidable c] (h : ToldOnly s t) (g : ToldOnly s u) : ToldOnly s (if c then t else u) := by
  split <;> assumption

/-- Such a change for each element of a list. -/
theorem ToldOnly.foldl {α : Type} {f : State → α → State} (hf : ∀ s a, ToldOnly s (f s a)) (l : List α) (s : State) :
    ToldOnly s (l.foldl f s) := by
  induction l generalizing s with
  | nil => exact ToldOnly.refl s
  | cons a l ih => exact (hf s a).trans (ih _)

/-- A raise is one. -/
theorem raiseEv_told (s : State) (k : EvId) (al : Bool) : ToldOnly s (raiseEv s k al) := by
  unfold ToldOnly
  rw [raiseEv_only s k al]

/-- What such a change leaves. -/
theorem ToldOnly.leaves {s t : State} (h : ToldOnly s t) : t.stalls = s.stalls ∧ t.rings = s.rings ∧ t.dram = s.dram := by
  rw [h]
  exact ⟨rfl, rfl, rfl⟩

/-- The events owed for a record. -/
theorem owedRaise_told (s : State) (n : StallId) (o : Bool × Bool × Bool) :
    ToldOnly s (owedRaise s n o) ∧ Calm s (owedRaise s n o) := by
  unfold owedRaise
  exact ⟨(ToldOnly.ite (raiseEv_told s (evDone n) _) (ToldOnly.refl s)).trans (ToldOnly.ite (raiseEv_told _ (evError n) _) (ToldOnly.refl _)),
    (Calm.ite (raiseEv_calm s (evDone n) _) (Calm.refl s)).trans (Calm.ite (raiseEv_calm _ (evError n) _) (Calm.refl _))⟩

/-- A ring at the end of its stall's reset: configured as it was, and at its start (R180 step 6, R629). -/
def ringEnded (x : Ring) : Ring :=
  { Ring.reset with owner := x.owner, base := x.base, cpl := x.cpl, hwb := x.hwb, enable := x.enable, sizeLog2 := x.sizeLog2
                    pasidIdx := x.pasidIdx, cls := x.cls, hwbEn := x.hwbEn, fetchBurst := x.fetchBurst }

/-- Its records, marker and head record told, and then it is so. -/
theorem endRing_eq (s : State) (n : StallId) (r : RingId) :
    ∃ t, ToldOnly s t ∧ Calm s t ∧ endRing s n r = setRing t r ringEnded := by
  have posted (u : State) (w : Pw) : ToldOnly u (post u w) ∧ Calm u (post u w) := ⟨rfl, Calm.of_eq rfl rfl⟩
  refine ⟨_, ?_, ?_, rfl⟩
  · refine (ToldOnly.foldl (fun u o => (owedRaise_told u n o).1) _ s).trans (ToldOnly.ite ?_ (ToldOnly.refl _))
    have records (u : State) (f : Fn) (l : List Req) : ToldOnly u (l.foldl (fun u q =>
        post u (recordWrite u f n r q.slot (abortRecord u q) false none)) u) := ToldOnly.foldl (fun u q => (posted u _).1) l u
    exact ((records _ _ _).trans (posted _ _).1).trans (ToldOnly.ite (posted _ _).1 (ToldOnly.refl _))
  · refine (Calm.foldl (fun u o => (owedRaise_told u n o).2) _ s).trans (Calm.ite ?_ (Calm.refl _))
    have records (u : State) (f : Fn) (l : List Req) : Calm u (l.foldl (fun u q =>
        post u (recordWrite u f n r q.slot (abortRecord u q) false none)) u) := Calm.foldl (fun u q => (posted u _).2) l u
    exact ((records _ _ _).trans (posted _ _).2).trans (Calm.ite (posted _ _).2 (Calm.refl _))

/-- Rings of a list ended, and nothing else but what they tell. -/
structure RingsEnded (l : List RingId) (s t : State) : Prop where
  stalls : t.stalls = s.stalls
  dram : t.dram = s.dram
  calm : Calm s t
  ended : ∀ r ∈ l, t.rings[r] = ringEnded s.rings[r]
  others : ∀ r, r ∉ l → t.rings[r] = s.rings[r]

/-- Every ring of a list ended in turn. -/
theorem endRing_foldl (n : StallId) (l : List RingId) (s : State) : RingsEnded l s (l.foldl (fun s r => endRing s n r) s) := by
  induction l generalizing s with
  | nil => exact ⟨rfl, rfl, Calm.refl s, fun _ h => (List.not_mem_nil h).elim, fun _ _ => rfl⟩
  | cons a l ih =>
    obtain ⟨t, told, calm, e⟩ := endRing_eq s n a
    obtain ⟨stalls, rings, dram⟩ := told.leaves
    have one (r : RingId) : (endRing s n a).rings[r] = if a = r then ringEnded s.rings[r] else s.rings[r] := by
      rw [e, setRing_rings, upd_get, rings]
    have stalls₁ : (endRing s n a).stalls = s.stalls := by rw [e]; exact stalls
    have dram₁ : (endRing s n a).dram = s.dram := by rw [e]; exact dram
    have calm₁ : Calm s (endRing s n a) := by rw [e]; exact calm.trans (Calm.of_eq rfl rfl)
    obtain ⟨stalls', dram', calm', ended, others⟩ := ih (endRing s n a)
    refine ⟨stalls'.trans stalls₁, dram'.trans dram₁, calm₁.trans calm', fun r hr => ?_, fun r hr => ?_⟩
    · by_cases later : r ∈ l
      · refine (ended r later).trans ?_
        rw [one]
        split <;> rfl
      · refine (others r later).trans ?_
        rw [one, if_pos ((List.mem_cons.1 hr).resolve_right later).symm]
    · obtain ⟨notA, notL⟩ := not_or.1 fun c => hr (List.mem_cons.2 c)
      refine (others r notL).trans ?_
      rw [one, if_neg fun c => notA c.symm]

/-- The rings of a stall. -/
theorem mem_stallRings (s : State) (n : StallId) (r : RingId) : r ∈ stallRings s n ↔ s.rings[r].owner = some n := by
  unfold stallRings
  rw [List.mem_filter]
  exact ⟨fun h => of_decide_eq_true h.2, fun h => ⟨List.mem_finRange r, decide_eq_true h⟩⟩

/-- STALL_RESET_END of a stall under reset (R180, R629, R631). -/
theorem stallResetEnd_ends {s : State} {n : StallId} (q : Quiet s) (routes : RoutesGood s) (h : s.stalls[n].state = .resetting) :
    Ends (.stallResetEnd n) s fun t => t.stalls[n].state = .quiesced ∧ t.stalls[n].notice = 2 ∧
      t.stalls[n].aborted = [] ∧ (∀ r : RingId, s.rings[r].owner ≠ some n → t.rings[r] = s.rings[r]) ∧
      (∀ r : RingId, s.rings[r].owner = some n → t.rings[r].head = 0 ∧ t.rings[r].enable = s.rings[r].enable) ∧ t.dram = s.dram := by
  obtain ⟨stalls, dram, calm, ended, others⟩ := endRing_foldl n (stallRings s n) s
  have done : exec (.stallResetEnd n) s = .next (settle (notice (setStall ((stallRings s n).foldl (fun s r => endRing s n r) s) n
      fun x => { x with state := .quiesced, resetCause := 0, aborted := [], badCmd := false, ringRefused := false
                        pasidInUse := false, worldRefused := false }) n 2)) := if_neg (not_not.2 h)
  generalize (stallRings s n).foldl (fun s r => endRing s n r) s = u at done stalls dram calm ended others
  have told := notice_setStall (calm.routes routes) n 2 (g := fun x => { x with
    state := .quiesced, resetCause := 0, aborted := [], badCmd := false, ringRefused := false, pasidInUse := false
    worldRefused := false }) rfl
  rw [told.settle (by unfold Quiet; rw [calm.hlt routes]; exact q)] at done
  refine ⟨_, done, ?_⟩
  generalize notice _ n 2 = t at told
  obtain ⟨only, self, -, -, -⟩ := told
  have rings : t.rings = u.rings := by rw [only]
  rw [self, rings]
  refine ⟨rfl, rfl, rfl, fun r hr => others r fun c => hr ((mem_stallRings s n r).1 c), fun r hr => ?_, by rw [only]; exact dram⟩
  rw [ended r ((mem_stallRings s n r).2 hr)]
  exact ⟨rfl, rfl⟩

end Sys2Proof.HostLink

namespace Sys2Proof.HostLink
open Sys2Proof.Machine Sys2Proof.Safety Sys2Proof.Waking

/-! ### Stall commands -/

/-- An instruction that writes a stall's STL_CMD with a code. -/
def WritesCommand (c : Instr) (s : State) (f : Fn) (n : StallId) (code : Nat) : Prop :=
  exec c s = .next (gateW s f fun s => settle (wrStlCmd s f n code))

/-- Such a write by a function that may, and by one that may not (R118). -/
theorem WritesCommand.ends {c : Instr} {s : State} {f : Fn} {n : StallId} {code : Nat} (h : WritesCommand c s f n code)
    (hw : WritesServed s f) :
    (stlMay s f n = true → exec c s = .next (settle (stlCommand s n code))) ∧
    (stlMay s f n = false → Quiet s → exec c s = .next s) := by
  have done : exec c s = .next (settle (wrStlCmd s f n code)) := h.trans (congrArg _ (gateW_served hw _))
  refine ⟨fun may => ?_, fun denied q => ?_⟩
  · rw [done, wrStlCmd, if_pos may]
  · rw [done, wrStlCmd, if_neg (by rw [denied]; decide), settle_of_quiet q]

/-- A stall made active by a command (R176). -/
theorem activated_ends {c : Instr} {s : State} {n : StallId} (q : Quiet s) (done : exec c s = .next (settle (stallActivated s n))) :
    Ends c s fun t => t.stalls[n] = { s.stalls[n] with state := .active, tokens := t.stalls[n].tokens } ∧
      (∀ m : StallId, m ≠ n → t.stalls[m] = s.stalls[m]) ∧ t.dram = s.dram ∧ t.reqs = s.reqs := by
  obtain ⟨only, -, self, others⟩ : TailsTaken n (setStall s n fun x => { x with state := .active }) (stallActivated s n) :=
    acceptKept_taken (setStall s n fun x => { x with state := .active }) n
  generalize stallActivated s n = t at done only self others
  have quiet : Quiet t := by
    rw [only]
    exact q
  refine ⟨t, by rw [done, settle_of_quiet quiet], ?_, fun m hm => ?_, by rw [only]; rfl, by rw [only]; rfl⟩
  · rw [self, setStall_stalls, upd_self]
  · rw [others m hm, setStall_stalls, upd_other _ _ hm.symm]

/-- A command code that is not listed (R203). -/
theorem commandRefused_ends {c : Instr} {s : State} {n : StallId} (q : Quiet s) (routes : RoutesGood s)
    (done : exec c s = .next (settle (commandRefused s n))) :
    Ends c s fun t => t.stalls[n] = { s.stalls[n] with badCmd := true, notice := 3 } ∧
      (∀ m : StallId, m ≠ n → t.stalls[m] = s.stalls[m]) ∧ t.reqs = s.reqs ∧ (evSrc t (worldFn s n) (evNotice n)).cause = true := by
  obtain ⟨t, ends, told⟩ := refused_ends (g := fun x => { x with badCmd := true }) q routes rfl done
  exact ⟨t, ends, told.self, told.others, by rw [told.only], told.told⟩

/-- A reset that a command starts (R180, R201). -/
theorem resetStarted_ends {c : Instr} {s : State} {n : StallId} (q : Quiet s) (routes : RoutesGood s)
    (state : s.stalls[n].state = .active ∨ s.stalls[n].state = .quiescing ∨ s.stalls[n].state = .quiesced)
    (done : exec c s = .next (settle (startReset s n 1))) :
    Ends c s fun t => t.stalls[n].state = .resetting ∧ t.stalls[n].resetCause = 1 ∧
      t.stalls[n].aborted = s.reqs.filter (fun q => decide (q.stall = n)) ∧ (∀ m : StallId, m ≠ n → t.stalls[m] = s.stalls[m]) ∧
      (∀ q ∈ t.reqs, q.stall ≠ n) ∧ (∀ h : Handle, t.tkr.store[h].kind ≠ 0 → t.tkr.store[h].stall ≠ n) ∧
      (∀ (u : UnitId) (k : KeyReg), t.units[u].keyReg = some k → k.stall ≠ n) := by
  obtain ⟨t, starts, cases⟩ := startReset_eq 1 state
  obtain ⟨work, calm, noRequest, noEntry, noKey⟩ := stallStopped_spec (stallResetting s n 1) n
  have own : (stallResetting s n 1).stalls[n].state = .resetting ∧ (stallResetting s n 1).stalls[n].resetCause = 1 ∧
      (stallResetting s n 1).stalls[n].aborted = stallReqs s n := by
    unfold stallResetting
    rw [setStall_stalls, upd_self]
    exact ⟨rfl, rfl, rfl⟩
  have others (m : StallId) (hm : m ≠ n) : (stallResetting s n 1).stalls[m] = s.stalls[m] := upd_other _ _ hm.symm
  have all : t.stalls = (stallResetting s n 1).stalls ∧ Calm (stallResetting s n 1) t ∧ NoRequestOf n t ∧ NoEntryOf n t ∧ NoKeyOf n t := by
    rcases cases with rfl | rfl
    · exact ⟨work.stalls, calm, noRequest, noEntry, noKey⟩
    · have ended := feedEnd_work (stallStopped (stallResetting s n 1) n) 4
      exact ⟨ended.stalls.trans work.stalls, calm.trans (feedEnd_calm _ 4), noRequest.keeps ended, noEntry.keeps ended,
        noKey.congr (feedEnd_units _ 4)⟩
  obtain ⟨stalls, calm, noRequest, noEntry, noKey⟩ := all
  have settled : settle t = t := calm.settle q routes
  obtain ⟨resetting, cause, aborted⟩ := own
  refine ⟨t, by rw [done, starts, settled], ?_, ?_, ?_, fun m hm => ?_, noRequest, noEntry, noKey⟩
  · rw [stalls, resetting]
  · rw [stalls, cause]
  · rw [stalls, aborted]
    rfl
  · rw [stalls, others m hm]

/-- QUIESCE_COMPLETE (R176). -/
theorem quiesceComplete_ends {s : State} (q : Quiet s) (routes : RoutesGood s) (n : StallId) :
    (s.stalls[n].state = .quiescing → (∀ q ∈ s.reqs, q.stall ≠ n) → Ends (.quiesceComplete n) s fun t =>
      t.stalls[n] = { s.stalls[n] with state := .quiesced, notice := 1 } ∧ (∀ m : StallId, m ≠ n → t.stalls[m] = s.stalls[m]) ∧
      (evSrc t (worldFn s n) (evNotice n)).cause = true) ∧
    ((s.stalls[n].state ≠ .quiescing ∨ ∃ q ∈ s.reqs, q.stall = n) → exec (.quiesceComplete n) s = .next s) := by
  have empty : (stallReqs s n).isEmpty = true ↔ ∀ q ∈ s.reqs, q.stall ≠ n := by
    unfold stallReqs
    simp only [List.isEmpty_iff, List.filter_eq_nil_iff, decide_eq_true_eq, ne_eq]
  have done : exec (.quiesceComplete n) s = .next (settle (quiesceCheck s n)) := rfl
  refine ⟨fun state none => ?_, fun stays => ?_⟩
  · have told := notice_setStall routes n 1 (g := fun x => { x with state := .quiesced }) rfl
    rw [quiesceCheck, if_pos ⟨state, empty.2 none⟩, told.settle q] at done
    exact ⟨_, done, told.self, told.others, told.told⟩
  · rw [done, quiesceCheck, if_neg, settle_of_quiet q]
    rintro ⟨state, none⟩
    rcases stays with c | ⟨y, hy, c⟩
    · exact c state
    · exact empty.1 none y hy c

/-- Settles O45: each command of a stall by its code and the stall's state. -/
theorem stallCommandsAct : Obligations.StallCommandsAct := by
  intro s f n q routes x only
  obtain ⟨mayWrite, secureDenied⟩ := stlMay_eq s n
  obtain ⟨completes, stays⟩ := quiesceComplete_ends q routes n
  refine ⟨fun hw mine => ?_, completes, stays, fun state => stallResetEnd_ends q routes state, fun state => if_pos state,
    fun hw sec => ?_⟩
  · intro bad activates
    have ends {c : Instr} {code : Nat} (h : WritesCommand c s f n code) : exec c s = .next (settle (stlCommand s n code)) :=
      (h.ends hw).1 (mayWrite f mine)
    have refuses {c : Instr} {code : Nat} (h : WritesCommand c s f n code) (e : stlCommand s n code = commandRefused s n) : bad c :=
      commandRefused_ends q routes (by rw [ends h, e])
    have starts {c : Instr} {code : Nat} (h : WritesCommand c s f n code) (e : stlCommand s n code = stallActivated s n) : activates c :=
      activated_ends q (by rw [ends h, e])
    have enable : WritesCommand (.stlCmdEnable f n) s f n 1 := rfl
    have quiesce : WritesCommand (.stlCmdQuiesce f n) s f n 2 := rfl
    have resume : WritesCommand (.stlCmdResume f n) s f n 3 := rfl
    have reset : WritesCommand (.stlCmdReset f n) s f n 4 := rfl
    have release : WritesCommand (.stlCmdRelease f n) s f n 5 := rfl
    have invalid (cmd : BitVec 4) : WritesCommand (.stlCmdInvalid f n cmd) s f n cmd.toNat := rfl
    obtain ⟨enables, quiesces, resumes⟩ := stlCommand_moves s n
    obtain ⟨resets, merged, resetRefused⟩ := stlCommand_reset s n
    obtain ⟨releases, releaseRefused⟩ := stlCommand_release s n
    refine ⟨fun h => starts enable (enables.trans (if_pos h)), fun h => refuses enable (enables.trans (if_neg h)), fun h => ?_,
      fun h => refuses quiesce (quiesces.trans (if_neg h)), fun h => starts resume (resumes.trans (if_pos h)),
      fun h => refuses resume (resumes.trans (if_neg h)), fun h => resetStarted_ends q routes h (by rw [ends reset, resets h]),
      fun h => by rw [ends reset, merged h, settle_of_quiet q], fun h => refuses reset (resetRefused h), fun h none => ?_,
      fun h => refuses release (releaseRefused h), fun cmd h => refuses (invalid cmd) (stlCommand_unlisted s n ?_)⟩
    · rw [ends quiesce, quiesces, if_pos h]
      exact congrArg _ (settle_of_quiet (s := setStall s n _) q)
    · have freed : exec (.stlCmdRelease f n) s = .next (setStall s n (stallFreed n)) := by
        rw [ends release, releases h none]
        exact congrArg _ (settle_of_quiet (s := setStall s n _) q)
      have own : (setStall s n (stallFreed n)).stalls[n] = stallFreed n s.stalls[n] := upd_self _ _ _
      refine ⟨_, freed, rfl, fun m hm => upd_other _ _ hm.symm, ?_⟩
      rw [own]
      exact ⟨rfl, rfl, rfl⟩
    · exact h.imp (fun h => by rw [h]; rfl) id
  · have denied {c : Instr} {code : Nat} (h : WritesCommand c s .pf0 n code) : exec c s = .next s :=
      (h.ends hw).2 (secureDenied sec) q
    exact ⟨denied (code := 1) rfl, denied (code := 2) rfl, denied (code := 3) rfl, denied (code := 4) rfl, denied (code := 5) rfl,
      fun cmd => denied (code := cmd.toNat) rfl⟩

end Sys2Proof.HostLink

namespace Sys2Proof.HostLink
open Sys2Proof.Machine Sys2Proof.Safety Sys2Proof.Waking

/-! ### Host reads on the link (R124, R618, R791) -/

/-- A read that has ended is outstanding no more, but as one of its number that waits to be sent. -/
structure ReadEnded (i : Nat) (waiting : List Rd) (s : State) : Prop where
  fresh : i < s.nextId
  reads : ∀ x ∈ s.link.reads, x.id = i → x ∈ waiting
  queue : ∀ x ∈ s.link.readQ, x.id = i → x ∈ waiting

/-- Reads are named, sent or left waiting: only the link and the next number change, and a read that has ended stays so. -/
structure ReadsMove (s t : State) : Prop where
  only : t = { s with link := t.link, linkOut := t.linkOut, nextId := t.nextId }
  timedOut : t.link.timedOut = s.link.timedOut
  ended : ∀ i waiting, ReadEnded i waiting s → ReadEnded i waiting t

/-- Nothing changed. -/
theorem ReadsMove.refl (s : State) : ReadsMove s s := ⟨rfl, rfl, fun _ _ h => h⟩

/-- Two such changes one after the other. -/
theorem ReadsMove.trans {s t u : State} (h : ReadsMove s t) (g : ReadsMove t u) : ReadsMove s u :=
  ⟨by rw [g.only, h.only], g.timedOut.trans h.timedOut, fun i w e => g.ended i w (h.ended i w e)⟩

/-- Either of two such changes. -/
theorem ReadsMove.ite {s t u : State} {c : Prop} [Decidable c] (h : ReadsMove s t) (g : ReadsMove s u) :
    ReadsMove s (if c then t else u) := by
  split <;> assumption

/-- Waiting reads sent. -/
theorem pumpReads_moves (s : State) : ReadsMove s (pumpReads s) := by
  obtain ⟨rs, waiting, sent, left, e⟩ := pumpReads_sends s
  rw [e]
  refine ⟨rfl, rfl, fun i w h => ⟨h.fresh, fun x hx id => ?_, fun x hx id => h.queue x (left x hx) id⟩⟩
  rcases List.mem_append.1 hx with hx | hx
  · exact h.reads x hx id
  · exact h.queue x (sent x hx) id

/-- A read named and sent or left waiting. -/
theorem issueRead_moves (s : State) (f : Fn) (n : StallId) (ring : RingId) (what : ReadFor) (spans : List (Nat × Nat))
    (pasid : BitVec 20) (alarm : Bool) : ReadsMove s (issueRead s f n ring what spans pasid alarm) := by
  refine ReadsMove.trans (t := { s with nextId := s.nextId + 1, link := { s.link with
    readQ := s.link.readQ ++ [newRead s f n ring what spans pasid alarm] } })
    ⟨rfl, rfl, fun i w h => ⟨Nat.lt_succ_of_lt h.fresh, h.reads, fun x hx id => ?_⟩⟩ (pumpReads_moves _)
  rcases List.mem_append.1 hx with hx | hx
  · exact h.queue x hx id
  · rw [List.mem_singleton.1 hx] at id
    exact absurd id (Nat.ne_of_gt h.fresh)

/-- One of a request's reads, or none, after others. -/
theorem ReadsMove.issue {s u : State} (h : ReadsMove s u) (q : Req) (w : ReadFor) (sp : List (Nat × Nat)) (c : Prop) [Decidable c] :
    ReadsMove s (if c then issueRead u (worldFn u q.stall) q.stall q.ring w sp q.pasid q.alarm else u) ∧
    ReadsMove s (if c then u else issueRead u (worldFn u q.stall) q.stall q.ring w sp q.pasid q.alarm) :=
  ⟨ReadsMove.ite (h.trans (issueRead_moves u _ _ _ _ _ _ _)) h, ReadsMove.ite h (h.trans (issueRead_moves u _ _ _ _ _ _ _))⟩

/-- The next reads of a request: its AUX block, its blob, the next entry of a scatter list, its source. -/
theorem issueReads_moves (s : State) (q : Req) : ReadsMove s (issueReads s q) := by
  have aux := ((ReadsMove.refl s).issue q (.aux q.id) [(q.desc.aux, q.desc.auxLen)]
    (q.desc.auxLen ≠ 0 ∧ q.aux.isNone ∧ !reading s (fun w => decide (w = .aux q.id)))).1
  unfold issueReads
  refine ReadsMove.ite (ReadsMove.refl s) ?_
  extract_lets a b c
  have blob : ReadsMove s b := by
    show ReadsMove s (match blobRest q with | some _ => _ | none => _)
    split
    · exact (aux.issue q _ _ _).2
    · exact aux
  have segment : ReadsMove s c := by
    show ReadsMove s (match q.walks with | [] => _ | _ :: _ => _)
    split
    · exact blob
    · exact (blob.issue q _ _ _).2
  split
  · exact (segment.issue q _ _ _).1
  · exact segment

end Sys2Proof.HostLink

namespace Sys2Proof.HostLink
open Sys2Proof.Machine Sys2Proof.Safety Sys2Proof.Waking

/-! ### Eligibility noted (R279, R301) -/

/-- The descriptor buffers, the link and the Halter stand. -/
structure BuffersKept (s t : State) : Prop where
  buf : ∀ r : RingId, t.rings[r].buf = s.rings[r].buf
  link : t.link = s.link
  nextId : t.nextId = s.nextId
  calm : Calm s t

/-- Nothing changed. -/
theorem BuffersKept.refl (s : State) : BuffersKept s s := ⟨fun _ => rfl, rfl, rfl, Calm.refl s⟩

/-- Two such changes one after the other. -/
theorem BuffersKept.trans {s t u : State} (h : BuffersKept s t) (g : BuffersKept t u) : BuffersKept s u :=
  ⟨fun r => (g.buf r).trans (h.buf r), g.link.trans h.link, g.nextId.trans h.nextId, h.calm.trans g.calm⟩

/-- Either of two such changes. -/
theorem BuffersKept.ite {s t u : State} {c : Prop} [Decidable c] (h : BuffersKept s t) (g : BuffersKept s u) :
    BuffersKept s (if c then t else u) := by
  split <;> assumption

/-- Such a change for each element of a list. -/
theorem BuffersKept.foldl {α : Type} {f : State → α → State} (hf : ∀ s a, BuffersKept s (f s a)) (l : List α) (s : State) :
    BuffersKept s (l.foldl f s) := by
  induction l generalizing s with
  | nil => exact BuffersKept.refl s
  | cons a l ih => exact (hf s a).trans (ih _)

/-- One ring's candidate. -/
theorem noteRing_kept (s : State) (r : RingId) : BuffersKept s (noteRing s r) := by
  unfold noteRing
  split
  · exact BuffersKept.refl s
  · refine BuffersKept.ite (BuffersKept.refl s) ⟨fun k => ?_, rfl, rfl, Calm.of_eq rfl rfl⟩
    rw [setStall_rings, setRing_rings, upd_get]
    split <;> rfl

/-- A raise leaves the rings, the link and the next number. -/
theorem raiseEv_kept (s : State) (k : EvId) (al : Bool) : BuffersKept s (raiseEv s k al) := by
  refine ⟨fun r => ?_, ?_, ?_, raiseEv_calm s k al⟩
  · rw [raiseEv_only s k al]
  · rw [raiseEv_only s k al]
  · rw [raiseEv_only s k al]

/-- The starved pools. -/
theorem noteStarved_kept (s : State) : BuffersKept s (noteStarved s) := by
  have raised (u : State) (c : Bool) : BuffersKept u (if c then raiseEv u 296 else u) :=
    BuffersKept.ite (raiseEv_kept u 296 false) (BuffersKept.refl u)
  unfold noteStarved
  extract_lets c d b disp s₀ s₁ s₂
  have start : BuffersKept s s₀ := ⟨fun _ => rfl, rfl, rfl, Calm.of_eq rfl rfl⟩
  exact ((start.trans (raised s₀ c.2)).trans (raised s₁ d.2)).trans (raised s₂ b.2)

/-- Every ring's candidate, and the starved pools. -/
theorem noteEligible_kept (s : State) : BuffersKept s (noteEligible s) :=
  (BuffersKept.foldl (fun u r => BuffersKept.ite (BuffersKept.refl u) (noteRing_kept u r)) _ s).trans (noteStarved_kept _)

/-! ### The deciding answer to a read (R154, R162, R791) -/

/-- A read has ended: it is outstanding no more, and beside it only the late reads kept and the functions' AER have changed. -/
structure ReadTaken (i : Nat) (s u : State) : Prop where
  only : u = { s with link := { s.link with reads := u.link.reads, timedOut := u.link.timedOut }, fns := u.fns }
  gone : ∀ x ∈ u.link.reads, x.id ≠ i
  log : ∀ f, (fnState u f).errLog = (fnState s f).errLog

/-- An error logged in AER leaves a function's DMA error log. -/
theorem setAer_log (s : State) (f g : Fn) (b : Nat) : (fnState (setAer s f b) g).errLog = (fnState s g).errLog := by
  unfold setAer
  by_cases h : g = f
  · subst h
    rw [fnState_setFn]
  · rw [fnState_setFn_other s h]

/-- A read that has ended is outstanding no more. -/
theorem endRead_gone (s : State) (i : Nat) : ∀ x ∈ (endRead s i).link.reads, x.id ≠ i :=
  fun _ hx => of_decide_eq_true (List.mem_filter.1 hx).2

/-- The answers that decide a read, each with what it leaves first. -/
theorem endRead_taken (s : State) (i : Nat) (rd : Rd) :
    ReadTaken i s (endRead s i) ∧ ReadTaken i s (setAer (endRead s i) rd.fn 1) ∧
    ReadTaken i s (setAer { endRead s i with link := { (endRead s i).link with timedOut := s.link.timedOut ++ [rd] } } rd.fn 3) := by
  have gone := endRead_gone s i
  exact ⟨⟨rfl, gone, fun _ => rfl⟩, ⟨rfl, gone, fun f => setAer_log _ rd.fn f 1⟩, ⟨rfl, gone, fun f => setAer_log _ rd.fn f 3⟩⟩

/-- The answers by what they are, to a read of a function that is not under FLR. -/
theorem exec_readAnswers {s : State} {i : Nat} {rd : Rd} (found : findRead s i = some rd) (flr : (fnState s rd.fn).flr = false) :
    (∀ bs, exec (.hostReadCompletion i (.data bs)) s = .next (settle (pumpReads (deliver (endRead s i) rd bs)))) ∧
    exec (.hostReadCompletion i .ur) s = .next (settle (pumpReads (readFailed (endRead s i) rd 1))) ∧
    exec (.hostReadCompletion i .ca) s = .next (settle (pumpReads (readFailed (endRead s i) rd 2))) ∧
    exec (.hostReadCompletion i .poisoned) s = .next (settle (pumpReads (readFailed (setAer (endRead s i) rd.fn 1) rd 4))) ∧
    exec (.completionTimeout i) s = .next (settle (pumpReads (readFailed
      (setAer { endRead s i with link := { (endRead s i).link with timedOut := s.link.timedOut ++ [rd] } } rd.fn 3) rd 3))) := by
  have served : ¬ (fnState (endRead s i) rd.fn).flr = true := by
    rw [show (fnState (endRead s i) rd.fn).flr = false from flr]
    exact Bool.false_ne_true
  have decides (ans : HostAnswer) : exec (.hostReadCompletion i ans) s = execHostReadCompletion i ans s := rfl
  have expires : exec (.completionTimeout i) s = execCompletionTimeout i s := rfl
  unfold execHostReadCompletion at decides
  unfold execCompletionTimeout at expires
  simp only [found, if_neg served] at decides expires
  exact ⟨fun bs => decides _, decides _, decides _, decides _, expires⟩

/-- What the DMA error log of a function holds of a read that failed (R162). -/
def dmaFailure (rd : Rd) (kind : BitVec 3) : ErrLog :=
  { ring := BitVec.ofNat 8 rd.ring.val, kind := kind, fetch := rd.what.isFetch, pasid := rd.pasid.getD 0, lost := 0, valid := true }

/-- The log is written when it is free (R154, R162). -/
theorem logDma_log {s : State} {rd : Rd} (free : (fnState s rd.fn).errLog.valid = false) (kind : BitVec 3) :
    (fnState (logDma s rd.fn rd.ring kind rd.what.isFetch rd.pasid) rd.fn).errLog = dmaFailure rd kind := by
  unfold logDma
  rw [fnState_setFn, if_neg (by rw [free]; decide)]
  rfl

/-- It leaves the function's AER. -/
theorem logDma_aer (s : State) (f : Fn) (ring : RingId) (kind : BitVec 3) (isFetch : Bool) (pasid : Option (BitVec 20)) :
    (fnState (logDma s f ring kind isFetch pasid) f).aerUnc = (fnState s f).aerUnc := by
  unfold logDma
  rw [fnState_setFn]
  split <;> rfl

/-- A raise leaves the DMA error logs. -/
theorem raiseEv_log (s : State) (k : EvId) (al : Bool) (f : Fn) : (fnState (raiseEv s k al) f).errLog = (fnState s f).errLog := by
  have one (u : State) (g : Fn) : (fnState (raiseOn u g k al) f).errLog = (fnState u f).errLog := by
    unfold raiseOn
    split
    · rfl
    · dsimp only
      split
      · rfl
      · split
        · rw [(noteEv_noted _ g k).fns]
          rfl
        · rfl
  exact (one _ .pf1).trans (one s .pf0)

end Sys2Proof.HostLink

namespace Sys2Proof.HostLink
open Sys2Proof.Machine Sys2Proof.Safety Sys2Proof.Waking

/-! ### Requests found after a change of one -/

/-- The first element that passes a test, after a change of the elements that pass it, when it still passes. -/
theorem find?_map_changed {α : Type} {p : α → Bool} {g : α → α} {l : List α} {x : α} (h : l.find? p = some x) (hg : p (g x) = true) :
    (l.map fun y => if p y then g y else y).find? p = some (g x) := by
  induction l with
  | nil => cases h
  | cons a l ih =>
    rw [List.find?_cons] at h
    rw [List.map_cons, List.find?_cons]
    cases pa : p a with
    | true =>
      simp only [pa, Option.some.injEq] at h
      subst h
      simp only [if_true, hg]
    | false =>
      simp only [pa] at h
      simp only [Bool.false_eq_true, if_false, pa]
      exact ih h

/-- A request found, changed, and found again. -/
theorem findReq_setReq {s : State} {i : Nat} {q : Req} {g : Req → Req} (h : findReq s i = some q) (hg : (g q).id = i) :
    findReq (setReq s i g) i = some (g q) := by
  have found := find?_map_changed (p := fun q : Req => decide (q.id = i)) (g := g) h (decide_eq_true hg)
  simpa only [findReq, setReq_reqs, decide_eq_true_eq] using found

/-- Where the requests stand, each is found as before. -/
theorem findReq_congr {s t : State} (reqs : t.reqs = s.reqs) (i : Nat) : findReq t i = findReq s i := by
  unfold findReq
  rw [reqs]

/-! ### Reads sent after an answer -/

/-- Once the reads that wait are sent, a read that was outstanding no more is so still. -/
theorem pumpReads_ended {s v : State} {i : Nat} (fresh : i < v.nextId) (queue : v.link.readQ = s.link.readQ)
    (gone : ∀ x ∈ v.link.reads, x.id ≠ i) : ∀ x ∈ (pumpReads v).link.reads, x.id = i → x ∈ s.link.readQ :=
  ((pumpReads_moves v).ended i s.link.readQ ⟨fresh, fun x hx id => absurd id (gone x hx), fun _ hx _ => queue ▸ hx⟩).reads

/-- The Halter hears nothing of reads that are sent. -/
theorem settle_pumpReads {s v : State} (q : Quiet s) (hlt : v.hlt = s.hlt) : settle (pumpReads v) = pumpReads v :=
  settle_of_quiet (by rw [(pumpReads_moves v).only]; exact (congrArg Hlt.inbox hlt).trans q)

/-! ### Reads that fail (R154, R155, R162) -/

/-- A fetch that failed at a slot: the ring stops there, its stall's error event is raised, reads go on under way. -/
structure FetchFailed (r : RingId) (slot : BitVec 16) (n : StallId) (s t : State) : Prop where
  stopped : t.rings[r].fetchErr = true ∧ t.rings[r].fetch = slot
  others : ∀ k : RingId, k ≠ r → t.rings[k] = s.rings[k]
  told : (evSrc t (worldFn s n) (evError n)).cause = true
  log : ∀ f, (fnState t f).errLog = (fnState s f).errLog
  reads : ∀ x ∈ t.link.reads, ∃ y ∈ s.link.reads, y.id = x.id
  queue : t.link.readQ = s.link.readQ
  kept : t.reqs = s.reqs ∧ t.nextId = s.nextId ∧ t.hlt = s.hlt

/-- The error event of a fetch that stopped raised. -/
theorem fetchFailed_raised {r : RingId} {slot : BitVec 16} {n : StallId} {s v : State} (good : RoutesGood s)
    (only : v = { s with link := v.link, rings := v.rings }) (stopped : v.rings[r].fetchErr = true ∧ v.rings[r].fetch = slot)
    (others : ∀ k : RingId, k ≠ r → v.rings[k] = s.rings[k]) (reads : ∀ x ∈ v.link.reads, ∃ y ∈ s.link.reads, y.id = x.id)
    (queue : v.link.readQ = s.link.readQ) : FetchFailed r slot n s (raiseEv v (evError n)) := by
  have evt : v.evt = s.evt := by rw [only]
  have world : worldFn v n = worldFn s n := by rw [only]; rfl
  have fns : v.fns = s.fns := by rw [only]
  have told := raiseEv_error v n false
  have log := raiseEv_log v (evError n) false
  obtain ⟨kept, -⟩ := raiseEv_spec (routesGood_congr evt good) (evError n) false
  generalize raiseEv v (evError n) = t at told log kept
  have rings : t.rings = v.rings := by rw [kept]
  have link : t.link = v.link := by rw [kept]
  refine ⟨by rw [rings]; exact stopped, fun k hk => by rw [rings]; exact others k hk, world ▸ told, fun f => ?_,
    by rw [link]; exact reads, by rw [link]; exact queue, by rw [kept, only], by rw [kept, only], by rw [kept, only]⟩
  rw [log, fnState, fns]
  rfl

/-- A failed fetch (R155). -/
theorem fetchFailed_spec {s : State} {r : RingId} {n : StallId} (good : RoutesGood s) (owner : s.rings[r].owner = some n)
    (slot : BitVec 16) : FetchFailed r slot n s (fetchFailed s r slot) := by
  unfold fetchFailed
  extract_lets x ahead later link s₁ s₂
  have own : s₂.rings[r].owner = some n := by
    show (upd s₁.rings r _)[r].owner = some n
    rw [upd_self]
    exact owner
  have raised : FetchFailed r slot n s (raiseEv s₂ (evError n)) := by
    refine fetchFailed_raised good rfl ?_ (fun k hk => upd_other _ _ hk.symm) (fun y hy => ?_) rfl
    · show (upd s₁.rings r _)[r].fetchErr = true ∧ (upd s₁.rings r _)[r].fetch = slot
      rw [upd_self]
      exact ⟨rfl, rfl⟩
    · obtain ⟨z, hz, rfl⟩ := List.mem_map.1 hy
      refine ⟨z, hz, ?_⟩
      split
      · split <;> rfl
      · rfl
  split
  next m h =>
    rw [own] at h
    cases h
    exact raised
  next h =>
    rw [own] at h
    cases h

/-- What the clauses on a failed read ask of the ended state beside its own outcome. -/
structure ReadFailed (i : Nat) (rd : Rd) (kind : BitVec 3) (s t : State) : Prop where
  ended : ∀ x ∈ t.link.reads, x.id = i → x ∈ s.link.readQ
  log : (fnState s rd.fn).errLog.valid = false → (fnState t rd.fn).errLog = dmaFailure rd kind

/-- A fetch read whose deciding answer is a failure. -/
theorem fetchRead_fails {s u : State} {i : Nat} {rd : Rd} {r : RingId} {slot : BitVec 16} {m : Nat} {n : StallId} (q : Quiet s)
    (good : RoutesGood s) (fresh : i < s.nextId) (taken : ReadTaken i s u) (what : rd.what = .fetch r slot m) (count : m ≠ 0)
    (owner : s.rings[r].owner = some n) (kind : BitVec 3) {c : Instr}
    (done : exec c s = .next (settle (pumpReads (readFailed u rd kind)))) :
    Ends c s fun t => ReadFailed i rd kind s t ∧ t.rings[r].fetchErr = true ∧ t.rings[r].fetch = slot ∧
      (evSrc t (worldFn s n) (evError n)).cause = true ∧ (∀ k : RingId, k ≠ r → t.rings[k] = s.rings[k]) ∧ t.reqs = s.reqs := by
  obtain ⟨only, gone, log⟩ := taken
  have evt : u.evt = s.evt := by rw [only]
  have rings : u.rings = s.rings := by rw [only]
  have stalls : u.stalls = s.stalls := by rw [only]
  have failed : readFailed u rd kind = fetchFailed (logDma u rd.fn rd.ring kind rd.what.isFetch rd.pasid) r slot := by
    unfold readFailed
    simp only [what, if_neg count]
  obtain ⟨⟨err, at_⟩, others, told, logs, reads, queue, reqs, nextId, hlt⟩ := fetchFailed_spec
    (s := logDma u rd.fn rd.ring kind rd.what.isFetch rd.pasid) (routesGood_congr evt good) (by rw [← owner, ← rings]; rfl) slot
  rw [← failed] at err at_ others told logs reads queue reqs nextId hlt
  generalize readFailed u rd kind = v at done err at_ others told logs reads queue reqs nextId hlt
  have hlt' : v.hlt = s.hlt := hlt.trans (show u.hlt = s.hlt by rw [only])
  have nextId' : v.nextId = s.nextId := nextId.trans (show u.nextId = s.nextId by rw [only])
  have queue' : v.link.readQ = s.link.readQ := queue.trans (show u.link.readQ = s.link.readQ by rw [only])
  have reqs' : v.reqs = s.reqs := reqs.trans (show u.reqs = s.reqs by rw [only])
  have world : worldFn u n = worldFn s n := by
    unfold worldFn
    rw [stalls]
  have ended := pumpReads_ended (s := s) (nextId' ▸ fresh) queue' fun x hx => by
    obtain ⟨y, hy, id⟩ := reads x hx
    exact id ▸ gone y hy
  have moved := (pumpReads_moves v).only
  rw [settle_pumpReads q hlt'] at done
  generalize pumpReads v = t at done ended moved
  have rings' : t.rings = v.rings := by rw [moved]
  have fns' : t.fns = v.fns := by rw [moved]
  have evt' : t.evt = v.evt := by rw [moved]
  refine ⟨t, done, ⟨ended, fun free => ?_⟩, by rw [rings']; exact err, by rw [rings']; exact at_, ?_, fun k hk => ?_,
    by rw [moved]; exact reqs'⟩
  · rw [fnState, fns']
    exact (logs rd.fn).trans (logDma_log (by rw [log]; exact free) kind)
  · rw [evSrc_congr evt', ← world]
    exact told
  · rw [rings', others k hk]
    exact congrArg (fun v : Vector Ring 256 => v[k]) rings

end Sys2Proof.HostLink

namespace Sys2Proof.HostLink
open Sys2Proof.Machine Sys2Proof.Safety Sys2Proof.Waking

/-! ### Reads of requests (R153, R154, R791) -/

/-- A read of a request: its AUX block, its source, its blob or a segment of its scatter lists. -/
def ReadsFor (rd : Rd) (j : Nat) : Prop := rd.what = .aux j ∨ rd.what = .source j ∨ rd.what = .blob j ∨ rd.what = .segment j

/-- The DMA status of a read's failure: poisoned data, or a DMA error (R154). -/
def failureStatus (kind : BitVec 3) : Byte := if kind = 4 then 0x70 else 0x31

/-- A request ended by its read's failure, which is logged (R154). -/
def requestFailed (s : State) (rd : Rd) (j : Nat) (kind : BitVec 3) : State :=
  setReq (failReq (logDma s rd.fn rd.ring kind rd.what.isFetch rd.pasid) j (failureStatus kind) 0) j fun q => { q with readFail := true }

/-- A failed read ends its request. -/
theorem readFailed_request {s : State} {rd : Rd} {j : Nat} {q : Req} (what : ReadsFor rd j) (found : findReq s j = some q)
    (open' : q.done = none) (kind : BitVec 3) : readFailed s rd kind = requestFailed s rd j kind := by
  have logged : findReq (logDma s rd.fn rd.ring kind rd.what.isFetch rd.pasid) j = some q := found
  have id : q.id = j := findReq_id found
  unfold readFailed requestFailed
  rcases what with h | h | h | h
  all_goals
    simp only [h] at logged ⊢
    simp only [ReadFor.req, Option.bind_some, logged, open', Option.isSome_none, Bool.false_eq_true, if_false, id]
    rfl

/-- A request ended by a failure, as it is found then. -/
theorem failReq_outcome {s : State} {j : Nat} {q : Req} (found : findReq s j = some q) (status : Byte) :
    (findReq (setReq (failReq s j status 0) j fun q => { q with readFail := true }) j).bind (·.done) =
      some { status := status, detail := 0, outLen := 0, result := 0 } := by
  have id : q.id = j := findReq_id found
  have ended : findReq (failReq s j status 0) j = some (endReq q status 0) := findReq_setReq found id
  rw [findReq_setReq (g := fun q => { q with readFail := true }) ended id]
  rfl

/-- A request's read whose deciding answer is a failure. -/
theorem requestRead_fails {s u : State} {i j : Nat} {rd : Rd} {y : Req} (q : Quiet s) (fresh : i < s.nextId) (taken : ReadTaken i s u)
    (what : ReadsFor rd j) (found : findReq s j = some y) (open' : y.done = none) (kind : BitVec 3) {c : Instr}
    (done : exec c s = .next (settle (pumpReads (readFailed u rd kind)))) :
    Ends c s fun t => ReadFailed i rd kind s t ∧ OutcomeIs t j (failureStatus kind) 0 0 0 ∧
      (fnState t rd.fn).aerUnc = (fnState u rd.fn).aerUnc ∧ t.link.timedOut = u.link.timedOut := by
  obtain ⟨only, gone, log⟩ := taken
  have reqs : u.reqs = s.reqs := by rw [only]
  have found' : findReq u j = some y := (findReq_congr reqs j).trans found
  have outcome : (findReq (requestFailed u rd j kind) j).bind (·.done) = _ :=
    failReq_outcome (s := logDma u rd.fn rd.ring kind rd.what.isFetch rd.pasid) found' (failureStatus kind)
  have logged (free : (fnState s rd.fn).errLog.valid = false) : (fnState (requestFailed u rd j kind) rd.fn).errLog = _ :=
    logDma_log (s := u) (rd := rd) (by rw [log]; exact free) kind
  have aer : (fnState (requestFailed u rd j kind) rd.fn).aerUnc = _ := logDma_aer u rd.fn rd.ring kind rd.what.isFetch rd.pasid
  have hlt : (requestFailed u rd j kind).hlt = s.hlt := show u.hlt = s.hlt by rw [only]
  have nextId : (requestFailed u rd j kind).nextId = s.nextId := show u.nextId = s.nextId by rw [only]
  have link : (requestFailed u rd j kind).link = u.link := rfl
  rw [readFailed_request what found' open'] at done
  generalize requestFailed u rd j kind = v at done outcome logged aer hlt nextId link
  have queue : v.link.readQ = s.link.readQ := by rw [link, only]
  rw [settle_pumpReads q hlt] at done
  refine ⟨_, done, ⟨pumpReads_ended (nextId ▸ fresh) queue (link ▸ gone), fun free => ?_⟩, ?_, ?_, ?_⟩
  · rw [fnState, (pumpReads_kept v).fns]
    exact logged free
  · unfold OutcomeIs
    rw [findReq_congr (pumpReads_kept v).reqs]
    exact outcome
  · rw [fnState, (pumpReads_kept v).fns]
    exact aer
  · rw [(pumpReads_moves v).timedOut, link]

/-- Data delivered to a request, and the reads that the request then names. -/
theorem deliver_request {s : State} {rd : Rd} {j : Nat} {q : Req} (what : ReadsFor rd j) (found : findReq s j = some q) (bs : List Byte)
    (kept : (readInto q rd.what bs).id = j) : ∃ v, v = setReq s j (fun q => readInto q rd.what bs) ∧
      findReq v j = some (readInto q rd.what bs) ∧ deliver s rd bs = issueReads v (readInto q rd.what bs) := by
  have taken := findReq_setReq (g := fun q => readInto q rd.what bs) found kept
  refine ⟨_, rfl, taken, ?_⟩
  unfold deliver
  rcases what with h | h | h | h
  all_goals
    rw [h] at taken ⊢
    simp only [ReadFor.req, taken]

/-- A request's read whose data arrives. -/
theorem requestRead_arrives {s : State} {i j : Nat} {rd : Rd} {y : Req} (q : Quiet s) (fresh : i < s.nextId) (what : ReadsFor rd j)
    (found : findReq s j = some y) (bs : List Byte) (kept : (readInto y rd.what bs).id = j) {c : Instr}
    (done : exec c s = .next (settle (pumpReads (deliver (endRead s i) rd bs)))) :
    Ends c s fun t => findReq t j = some (readInto y rd.what bs) ∧ (∀ x ∈ t.link.reads, x.id = i → x ∈ s.link.readQ) ∧ t.dram = s.dram := by
  obtain ⟨v, rfl, taken, delivers⟩ := deliver_request (s := endRead s i) what found bs kept
  have moves := (issueReads_moves (setReq (endRead s i) j fun q => readInto q rd.what bs) (readInto y rd.what bs)).trans
    (pumpReads_moves _)
  rw [← delivers] at moves
  have settled : settle (pumpReads (deliver (endRead s i) rd bs)) = pumpReads (deliver (endRead s i) rd bs) :=
    settle_of_quiet (by rw [moves.only]; exact q)
  rw [settled] at done
  generalize pumpReads (deliver (endRead s i) rd bs) = t at done moves
  refine ⟨t, done, ?_, ?_, by rw [moves.only]; rfl⟩
  · rw [findReq_congr (s := setReq (endRead s i) j fun q => readInto q rd.what bs) (by rw [moves.only]), taken]
  · exact (moves.ended i s.link.readQ ⟨fresh, fun x hx id => absurd id (endRead_gone s i x hx), fun _ hx _ => hx⟩).reads

/-- What an AUX read and a source read leave in a request that has not ended. -/
theorem readInto_open {y : Req} {j : Nat} (open' : y.done = none) (bs : List Byte) :
    (isFrag y.desc.opcode = false → readInto y (.aux j) bs = { y with aux := some (slice bs 0 y.desc.auxLen) }) ∧
    readInto y (.source j) bs = { y with src := some (slice bs 0 y.desc.srcLen) } := by
  unfold readInto
  simp only [open', Option.isSome_none, Bool.false_eq_true, if_false]
  exact ⟨fun plain => by simp only [plain, Bool.false_eq_true, if_false]; rfl, rfl⟩

/-! ### Fetch reads that arrive (R221) -/

/-- Descriptors that arrive are appended to the ring's buffer in the order of their slots. -/
theorem fetchArrived_buf (s : State) (r : RingId) (slot : BitVec 16) (m : Nat) (bs : List Byte) :
    ((fetchArrived s r slot m bs).rings[r].buf.map fun b => (b.slot, b.desc)) = (s.rings[r].buf.map fun b => (b.slot, b.desc)) ++
      (List.range m).map fun k => (ringNext s.rings[r] slot k, descOf (slice bs (64 * k) 64)) := by
  unfold fetchArrived
  extract_lets x one new
  rw [(noteEligible_kept _).buf, setRing_rings, upd_self]
  show (s.rings[r].buf ++ new).map _ = _
  rw [List.map_append]
  show _ ++ ((List.range m).map one).map _ = _
  rw [List.map_map]
  rfl

/-- A fetch read whose data arrives. -/
theorem fetchRead_arrives {s : State} {i : Nat} {rd : Rd} {r : RingId} {slot : BitVec 16} {m : Nat} (q : Quiet s) (good : RoutesGood s)
    (fresh : i < s.nextId) (what : rd.what = .fetch r slot m) (count : m ≠ 0) (bs : List Byte) {c : Instr}
    (done : exec c s = .next (settle (pumpReads (deliver (endRead s i) rd bs)))) :
    Ends c s fun t => (∀ x ∈ t.link.reads, x.id = i → x ∈ s.link.readQ) ∧ (t.rings[r].buf.map fun b => (b.slot, b.desc)) =
      (s.rings[r].buf.map fun b => (b.slot, b.desc)) ++
        (List.range m).map fun k => (ringNext s.rings[r] slot k, descOf (slice bs (64 * k) 64)) := by
  have delivers : deliver (endRead s i) rd bs = fetchArrived (endRead s i) r slot m bs := by
    unfold deliver
    simp only [what, if_neg count]
  have buf := fetchArrived_buf (endRead s i) r slot m bs
  have kept : BuffersKept _ (fetchArrived (endRead s i) r slot m bs) := noteEligible_kept _
  rw [delivers] at done
  generalize fetchArrived (endRead s i) r slot m bs = v at done buf kept
  obtain ⟨-, link, nextId, calm⟩ := kept
  rw [settle_pumpReads q (calm.hlt good)] at done
  have queue : v.link.readQ = s.link.readQ := by rw [link]; rfl
  have gone : ∀ x ∈ v.link.reads, x.id ≠ i := by rw [link]; exact endRead_gone s i
  refine ⟨_, done, pumpReads_ended (by rw [nextId]; exact fresh) queue gone, ?_⟩
  rw [(pumpReads_kept v).rings]
  exact buf

/-! ### Descriptor fetches and late answers (R124, R135, R227) -/

/-- DESCRIPTOR_FETCH_ISSUE of a ring that may be fetched and has room on the link (R227). -/
theorem exec_descriptorFetchIssue {s : State} {r : RingId} {n : StallId} (owner : s.rings[r].owner = some n)
    (may : fetchMay s r n = true) (count : fetchCount s r n ≠ 0) (rd : Rd)
    (named : rd = newRead s (worldFn s n) n r (.fetch r s.rings[r].fetch (fetchCount s r n))
      [(s.rings[r].base.toNat * 4096 + 64 * s.rings[r].fetch.toNat, 64 * fetchCount s r n)] (ringPasid s n s.rings[r])
      (decide (s.rings[r].cls = 2))) (room : readRoom s rd = true) :
    ∃ g : Ring → Ring, (∀ y, (g y).fetch = ringNext s.rings[r] s.rings[r].fetch (fetchCount s r n)) ∧
      exec (.descriptorFetchIssue r) s = .next (sendRead { setRing s r g with nextId := s.nextId + 1 } rd) := by
  subst named
  have done : exec (.descriptorFetchIssue r) s = .next (fetchIssue s r n) := by
    show execDescriptorFetchIssue r s = _
    unfold execDescriptorFetchIssue
    rw [owner]
  rw [done, fetchIssue]
  simp only [may, decide_eq_false count, room, Bool.not_true, Bool.or_self, Bool.false_eq_true, if_false]
  exact ⟨_, fun _ => rfl, rfl⟩

/-- A late read that has been answered: it is kept no more, and the answer is logged as an Unexpected Completion. -/
def lateLogged (s : State) (i : Nat) (f : Fn) : State :=
  setAer { s with link := { s.link with timedOut := s.link.timedOut.filter fun r => decide (r.id ≠ i) } } f 5

/-- Its function's registers. -/
theorem lateLogged_fn (s : State) (i : Nat) (f : Fn) :
    fnState (lateLogged s i f) f = { fnState s f with aerUnc := putBit (fnState s f).aerUnc 5 true } := fnState_setFn _ f _

/-- LATE_COMPLETION of a read of a function that is not under FLR (R135). -/
theorem exec_lateCompletion {s : State} {i : Nat} {rd : Rd}
    (found : s.link.timedOut.find? (fun x => decide (x.id = i)) = some rd) (flr : (fnState s rd.fn).flr = false) :
    exec (.lateCompletion i) s = .next (if bit (fnState s rd.fn).aerSev 5 then lateLogged s i rd.fn
      else setAerCor (lateLogged s i rd.fn) rd.fn 5) := by
  have severity : (fnState (lateLogged s i rd.fn) rd.fn).aerSev = (fnState s rd.fn).aerSev := by rw [lateLogged_fn]
  rw [← severity]
  show execLateCompletion i s = _
  unfold execLateCompletion
  simp only [found]
  exact congrArg _ (if_neg fun c => Bool.false_ne_true (flr.symm.trans c))

end Sys2Proof.HostLink

namespace Sys2Proof.HostLink
open Sys2Proof.Machine Sys2Proof.Safety Sys2Proof.Waking

/-! ### Host reads -/

/-- A set bit reads 1. -/
theorem bit_putBit_self {w : Nat} (x : BitVec w) {i : Nat} (h : i < w) : bit (putBit x i true) i = true := by
  rw [bit_putBit x h]
  simp

/-- A late answer is an Unexpected Completion, Advisory Non-Fatal unless its severity is fatal (R135). -/
theorem lateCompletion_ends {s : State} {i : Nat} {rd : Rd}
    (found : s.link.timedOut.find? (fun x => decide (x.id = i)) = some rd) (flr : (fnState s rd.fn).flr = false) :
    Ends (.lateCompletion i) s fun t => (∀ x ∈ t.link.timedOut, x.id ≠ i) ∧ t.reqs = s.reqs ∧ t.rings = s.rings ∧ t.dram = s.dram ∧
      bit (fnState t rd.fn).aerUnc 5 = true ∧
      (fnState t rd.fn).aerCor = if bit (fnState s rd.fn).aerSev 5 then (fnState s rd.fn).aerCor else putBit (fnState s rd.fn).aerCor 5 true := by
  have done := exec_lateCompletion found flr
  have gone : ∀ x ∈ (lateLogged s i rd.fn).link.timedOut, x.id ≠ i := fun _ hx => of_decide_eq_true (List.mem_filter.1 hx).2
  have logged := lateLogged_fn s i rd.fn
  by_cases fatal : bit (fnState s rd.fn).aerSev 5 = true
  · rw [if_pos fatal] at done
    refine ⟨_, done, gone, rfl, rfl, rfl, ?_, ?_⟩
    · rw [logged]
      exact bit_putBit_self _ (by decide)
    · rw [logged, if_pos fatal]
  · have both : fnState (setAerCor (lateLogged s i rd.fn) rd.fn 5) rd.fn =
        { fnState (lateLogged s i rd.fn) rd.fn with aerCor := putBit (fnState (lateLogged s i rd.fn) rd.fn).aerCor 5 true } :=
      fnState_setFn _ rd.fn _
    rw [if_neg fatal] at done
    refine ⟨_, done, gone, rfl, rfl, rfl, ?_, ?_⟩
    · rw [both, logged]
      exact bit_putBit_self _ (by decide)
    · rw [both, logged, if_neg fatal]

/-- Settles O18: a fetch issued, the answers to a read by what the read is for, and a late answer. -/
theorem hostReadsAct : Obligations.HostReadsAct := by
  intro s q
  refine ⟨fun r n owner may count => ?_, fun i rd fresh found flr => ?_, fun i rd found flr => lateCompletion_ends found flr⟩
  · intro x f rd room
    obtain ⟨g, fetch, done⟩ := exec_descriptorFetchIssue owner may count rd rfl room
    refine ⟨_, done, ?_, rfl, rfl, fun k hk => upd_other _ _ hk.symm, rfl, rfl⟩
    show (upd s.rings r g)[r].fetch = _
    rw [upd_self, fetch]
  · intro ended logged
    obtain ⟨data, ur, ca, poisoned, expired⟩ := exec_readAnswers found flr
    obtain ⟨plain, aer, late⟩ := endRead_taken s i rd
    refine ⟨fun r slot m what count => ⟨fun good bs => fetchRead_arrives q good fresh what count bs (data bs), fun good n owner => ?_⟩,
      fun j y hy open' => ?_⟩
    · intro stops
      have fails {u : State} {c : Instr} {kind : BitVec 3} (taken : ReadTaken i s u)
          (done : exec c s = .next (settle (pumpReads (readFailed u rd kind)))) : Ends c s fun t => stops t kind := by
        obtain ⟨t, ends, failed, err, at_, told, others, reqs⟩ := fetchRead_fails q good fresh taken what count owner kind done
        exact ⟨t, ends, err, at_, failed.log, failed.ended, told, others, reqs⟩
      exact ⟨fails plain ur, fails plain ca, fails aer poisoned, fails late expired⟩
    have named : y.id = j := findReq_id hy
    refine ⟨fun what bs plainAux => ?_, fun what bs => ?_, fun what => ?_⟩
    · have into := (readInto_open (j := j) open' bs).1 plainAux
      rw [← what] at into
      obtain ⟨t, ends, taken, gone, dram⟩ := requestRead_arrives q fresh (.inl what) hy bs (by rw [into]; exact named) (data bs)
      exact ⟨t, ends, by rw [taken, into]; rfl, gone, dram⟩
    · have into := (readInto_open (j := j) open' bs).2
      rw [← what] at into
      obtain ⟨t, ends, taken, gone, dram⟩ := requestRead_arrives q fresh (.inr (.inl what)) hy bs (by rw [into]; exact named) (data bs)
      exact ⟨t, ends, by rw [taken, into]; rfl, gone, dram⟩
    · have fails {u : State} {c : Instr} {kind : BitVec 3} (taken : ReadTaken i s u)
          (done : exec c s = .next (settle (pumpReads (readFailed u rd kind)))) := requestRead_fails q fresh taken what hy open' kind done
      have dma {c : Instr} {kind : BitVec 3} (other : failureStatus kind = 0x31)
          (done : exec c s = .next (settle (pumpReads (readFailed (endRead s i) rd kind)))) :
          Ends c s fun t => OutcomeIs t j 0x31 0 0 0 ∧ ended t ∧ logged t kind := by
        obtain ⟨t, ends, failed, outcome, -, -⟩ := fails plain done
        exact ⟨t, ends, other ▸ outcome, failed.ended, failed.log⟩
      refine ⟨dma rfl ur, dma rfl ca, ?_, ?_⟩
      · obtain ⟨t, ends, failed, outcome, unc, -⟩ := fails aer poisoned
        refine ⟨t, ends, outcome, ?_, failed.log⟩
        rw [unc, setAer, fnState_setFn]
        exact bit_putBit_self _ (by decide)
      · obtain ⟨t, ends, failed, outcome, unc, kept⟩ := fails late expired
        refine ⟨t, ends, outcome, ?_, kept, failed.ended, failed.log⟩
        rw [unc, setAer, fnState_setFn]
        exact bit_putBit_self _ (by decide)

end Sys2Proof.HostLink

namespace Sys2Proof.Protection
open Sys2Proof.Machine Sys2Proof.Safety

/-! ### The verdict of a page (R185-R188) -/

/-- An entry of the live bank matches a page for a requester (R185). -/
def Hit (s : State) (page : Nat) (who : Option StallId) (k : Fin 256) : Prop := pkHits s.pdk.live[k] page who = true

/-- A match that no other match exceeds in priority. -/
def TopHit (s : State) (page : Nat) (who : Option StallId) (k : Fin 256) : Prop :=
  Hit s page who k ∧ ∀ j, Hit s page who j → s.pdk.live[j].prio ≤ s.pdk.live[k].prio

/-- Two entries carry the same grant (R186). -/
def SameGrant (a b : PkEntry) : Prop := a.rd = b.rd ∧ a.wr = b.wr ∧ a.red = b.red ∧ a.type = b.type

/-- The model's test of that. -/
theorem sameGrant_iff (a b : PkEntry) : sameGrant a b = true ↔ SameGrant a b := by
  simp only [sameGrant, SameGrant, Bool.and_eq_true, decide_eq_true_eq, and_assoc]

/-- A page that exists: within the installed capacity, outside the table area, of a channel that is not fenced (R192). -/
def PageExists (s : State) (page : Nat) : Prop :=
  installed s (page * 4096) = true ∧ inTable s (page * 4096) = false ∧ s.mcs[chanOf (page * 4096)].state ≠ .fenced

/-- The matches of a page, ascending. -/
def hits (s : State) (page : Nat) (who : Option StallId) : List (Fin 256) :=
  (List.finRange 256).filter fun k => pkHits s.pdk.live[k] page who

/-- Their highest priority. -/
def topPriority (s : State) (page : Nat) (who : Option StallId) : Nat :=
  (hits s page who).foldl (fun m k => max m s.pdk.live[k].prio.toNat) 0

/-- The matches of that priority. -/
def topHits (s : State) (page : Nat) (who : Option StallId) : List (Fin 256) :=
  (hits s page who).filter fun k => decide (s.pdk.live[k].prio.toNat = topPriority s page who)

/-- What entries of equal priority say together (R187). -/
def verdictOf (live : Vector PkEntry 256) : List (Fin 256) → Verdict
  | [] => .denied
  | k :: t =>
    if t.all fun j => sameGrant live[k] live[j] then .grant live[k].rd live[k].wr live[k].red live[k].type else .conflict k.val

/-- The matches. -/
theorem mem_hits {s : State} {page : Nat} {who : Option StallId} {k : Fin 256} : k ∈ hits s page who ↔ Hit s page who k := by
  simp [hits, Hit]

/-- What bounds a running maximum. -/
theorem foldl_max_le_iff {α : Type} (f : α → Nat) (l : List α) (a b : Nat) :
    l.foldl (fun m k => max m (f k)) a ≤ b ↔ a ≤ b ∧ ∀ x ∈ l, f x ≤ b := by
  induction l generalizing a with
  | nil => simp
  | cons x l ih => simp [ih, and_assoc]

/-- The matches of the highest priority are those that none exceeds. -/
theorem mem_topHits {s : State} {page : Nat} {who : Option StallId} {k : Fin 256} :
    k ∈ topHits s page who ↔ TopHit s page who k := by
  have bound (b : Nat) : topPriority s page who ≤ b ↔ ∀ j, Hit s page who j → s.pdk.live[j].prio.toNat ≤ b := by
    simp only [topPriority, foldl_max_le_iff, Nat.zero_le, true_and, mem_hits]
  rw [topHits, List.mem_filter, mem_hits, decide_eq_true_eq]
  refine and_congr_right fun hit => ⟨fun top j hj => ?_, fun above => ?_⟩
  · rw [BitVec.le_def, top]
    exact (bound _).1 le_rfl j hj
  · exact le_antisymm ((bound _).1 le_rfl k hit) ((bound _).2 above)

/-- The rule for a page that exists, under the epoch in force. -/
theorem pkPage_eq {s : State} {page : Nat} (here : PageExists s page) (who : Option StallId) :
    pkPage s page who = verdictOf s.pdk.live (topHits s page who) := by
  obtain ⟨inst, table, fenced⟩ := here
  have inside : outside s (page * 4096) = false := by simp [outside, inst]
  have live : tableOf s s.pdk.epoch = s.pdk.live := if_pos rfl
  unfold pkPage pkPageAt
  rw [live, inside, table, decide_eq_false fenced, if_neg (by decide)]
  rfl

/-- A page that no entry matches is denied. -/
theorem pkPage_unmatched {s : State} {page : Nat} {who : Option StallId} (here : PageExists s page)
    (none : ∀ k, ¬ Hit s page who k) : pkPage s page who = .denied := by
  have empty : topHits s page who = [] := List.eq_nil_iff_forall_not_mem.2 fun k hk => none k (mem_topHits.1 hk).1
  rw [pkPage_eq here, empty]
  rfl

/-- Where the matches of the highest priority carry one grant, it applies. -/
theorem pkPage_grant {s : State} {page : Nat} {who : Option StallId} {k : Fin 256} (here : PageExists s page)
    (top : TopHit s page who k) (same : ∀ j, TopHit s page who j → SameGrant s.pdk.live[j] s.pdk.live[k]) :
    pkPage s page who = .grant s.pdk.live[k].rd s.pdk.live[k].wr s.pdk.live[k].red s.pdk.live[k].type := by
  rw [pkPage_eq here]
  have mem := mem_topHits.2 top
  cases h : topHits s page who with
  | nil => simp [h] at mem
  | cons i t =>
    have sameAs (j : Fin 256) (hj : j ∈ i :: t) : SameGrant s.pdk.live[j] s.pdk.live[k] := same j (mem_topHits.1 (h ▸ hj))
    obtain ⟨rd, wr, red, type⟩ := sameAs i List.mem_cons_self
    have all : (t.all fun j => sameGrant s.pdk.live[i] s.pdk.live[j]) = true := List.all_eq_true.2 fun j hj => by
      obtain ⟨rd', wr', red', type'⟩ := sameAs j (List.mem_cons_of_mem i hj)
      exact (sameGrant_iff _ _).2 ⟨rd.trans rd'.symm, wr.trans wr'.symm, red.trans red'.symm, type.trans type'.symm⟩
    rw [verdictOf, if_pos all, rd, wr, red, type]

/-- Where two matches of the highest priority carry different grants, they conflict. -/
theorem pkPage_conflict {s : State} {page : Nat} {who : Option StallId} {j k : Fin 256} (here : PageExists s page)
    (topJ : TopHit s page who j) (topK : TopHit s page who k) (differ : ¬ SameGrant s.pdk.live[j] s.pdk.live[k]) :
    ∃ e, pkPage s page who = .conflict e := by
  rw [pkPage_eq here]
  have memJ := mem_topHits.2 topJ
  have memK := mem_topHits.2 topK
  cases h : topHits s page who with
  | nil => simp [h] at memJ
  | cons i t =>
    refine ⟨i.val, if_neg fun all => differ ?_⟩
    have first (m : Fin 256) (hm : m ∈ topHits s page who) : SameGrant s.pdk.live[i] s.pdk.live[m] := by
      rw [h] at hm
      rcases List.mem_cons.1 hm with rfl | hm
      · exact ⟨rfl, rfl, rfl, rfl⟩
      · exact (sameGrant_iff _ _).1 (List.all_eq_true.1 all m hm)
    obtain ⟨rd, wr, red, type⟩ := first j memJ
    obtain ⟨rd', wr', red', type'⟩ := first k memK
    exact ⟨rd.symm.trans rd', wr.symm.trans wr', red.symm.trans red', type.symm.trans type'⟩

/-! ### The check of an access (R188, R189) -/

/-- The pages of ranges whose verdict does not give the right needed there. -/
def refusedPages (s : State) (who : Option StallId) (as : List Access) : List (Nat × Need) :=
  (as.flatMap fun a => (pagesOf a.addr a.len).map fun p => (p, a.need)).filter fun x => !(pkPage s x.1 who).gives x.2

/-- None of them is refused where each page gives its right. -/
theorem refusedPages_nil_iff {s : State} {who : Option StallId} {as : List Access} :
    refusedPages s who as = [] ↔ ∀ x ∈ as, ∀ p ∈ pagesOf x.addr x.len, (pkPage s p who).gives x.need = true := by
  simp only [refusedPages, List.filter_eq_nil_iff, List.mem_flatMap, List.mem_map, Bool.not_eq_true', Bool.not_eq_false]
  exact ⟨fun h x hx p hp => h (p, x.need) ⟨x, hx, p, hp, rfl⟩, fun h y ⟨x, hx, p, hp, hy⟩ => hy ▸ h x hx p hp⟩

/-- Only of no page at all there is no lowest. -/
theorem lowest_none_iff {α : Type} (f : α → Nat) (l : List α) : l.foldl (fun r x => lowerPage r (f x)) none = none ↔ l = [] := by
  have found (l : List α) (p : Nat) : l.foldl (fun r x => lowerPage r (f x)) (some p) ≠ none := by
    induction l generalizing p with
    | nil => exact Option.some_ne_none p
    | cons x l ih => exact ih _
  cases l with
  | nil => simp
  | cons x l => exact iff_of_false (found l (f x)) (List.cons_ne_nil x l)

/-- A check passes only where no page is refused. -/
theorem pkCheck_ok_iff_refused {s : State} {who : Option StallId} {as : List Access} :
    pkCheck s who as = .ok ↔ refusedPages s who as = [] := by
  unfold pkCheck pkCheckAt
  dsimp only
  split
  next p con =>
    change ((refusedPages s who as).filter _).foldl _ none = _ at con
    refine iff_of_false (fun ok => ?_) fun empty => ?_
    · split at ok <;> cases ok
    · rw [empty] at con
      cases con
  next =>
    split
    next p bad =>
      change (refusedPages s who as).foldl _ none = _ at bad
      refine iff_of_false (fun ok => by cases ok) fun empty => ?_
      rw [empty] at bad
      cases bad
    next bad => exact iff_of_true rfl ((lowest_none_iff (fun x : Nat × Need => x.1) _).1 bad)

/-- A check passes exactly where each page of each range gives the right needed there. -/
theorem pkCheck_ok_iff {s : State} {who : Option StallId} {as : List Access} :
    pkCheck s who as = .ok ↔ ∀ x ∈ as, ∀ p ∈ pagesOf x.addr x.len, (pkPage s p who).gives x.need = true :=
  pkCheck_ok_iff_refused.trans refusedPages_nil_iff

/-- A page that does not give the right turns the check of its range away. -/
theorem pkCheck_refused {s : State} {who : Option StallId} {a n p : Nat} {need : Need} (page : p ∈ pagesOf a n)
    (no : (pkPage s p who).gives need = false) : pkCheck s who [{ addr := a, len := n, need := need }] ≠ .ok := fun ok => by
  have gives := pkCheck_ok_iff.1 ok _ (List.mem_singleton_self _) p page
  rw [no] at gives
  cases gives

/-! ### The window (R127, R128, R187) -/

/-- The check of a window access, by the window's place in local memory. -/
def windowCheck (s : State) (off : BitVec 28) (acc : Bar4Acc) : PkResult :=
  pkCheck s none [{ addr := s.link.winBase.toNat * 0x10000000 + off.toNat, len := accLen acc, need := accNeed acc }]

/-- A window access that its check turns away is not performed (R128). -/
theorem exec_bar4Access_refused {s : State} {off : BitVec 28} {acc : Bar4Acc} (hd : (fnState s .pf0).d3hot = false)
    (hf : (fnState s .pf0).flr = false) (phase : s.boot.phase ≠ .bootFailed) (clean : ∀ bs, acc ≠ .write bs true)
    (no : windowCheck s off acc ≠ .ok) :
    exec (.bar4Access off acc) s = .next (settle (bar4Deny s acc (windowCheck s off acc))) := by
  have received : bar4Recv s (s.link.winBase.toNat * 0x10000000 + off.toNat) acc =
      (bar4Deny s acc (windowCheck s off acc), false) := by
    unfold windowCheck at no ⊢
    unfold bar4Recv
    split
    next bs => exact absurd rfl (clean bs)
    next =>
      split
      next ok => exact absurd ok no
      next => rfl
  show Host.Outcome.next (gateBar s .pf0 _) = _
  rw [gateBar_open hd hf, if_neg phase]
  dsimp only
  rw [received, if_neg Bool.false_ne_true]

/-- Local memory reads the same where the Manger and the channels' memory are the same. -/
theorem sameMemory_of_eq {s t : State} (dram : t.dram = s.dram) (mgr : t.mgr = s.mgr) : SameMemory s t := by
  intro a
  unfold coByte findLine
  rw [dram, mgr]
  exact ⟨rfl, rfl⟩

/-- A denial logged changes the log and the Halter's input alone (R187, R219). -/
theorem logDeny_eq (s : State) (who : Option StallId) (r : PkResult) :
    logDeny s who r = { s with pdk := (logDeny s who r).pdk, hlt := (logDeny s who r).hlt } := by
  cases r <;> rfl

/-- An access turned away leaves local memory as it reads. -/
theorem bar4Deny_memory (s : State) (acc : Bar4Acc) (r : PkResult) : SameMemory s (bar4Deny s acc r) := by
  cases acc <;> exact sameMemory_of_eq (by rw [bar4Deny, logDeny_eq]; rfl) (by rw [bar4Deny, logDeny_eq]; rfl)

/-- Settles O57: the verdict of a page by its matches of the highest priority, the check by its pages, and the window's
accesses by the check. -/
theorem paddockGrantsTheTopPriority : Obligations.PaddockGrantsTheTopPriority := by
  refine ⟨fun s page who inst table fenced => ?_, fun s who as => pkCheck_ok_iff, fun s off hd hf phase => ?_⟩
  · have here : PageExists s page := ⟨inst, table, fenced⟩
    refine ⟨pkPage_unmatched here, fun k top same => ?_, fun j k topJ topK differ => ?_⟩
    · have grant := pkPage_grant here top same
      exact ⟨grant, by rw [grant]; rfl, by rw [grant]; rfl, by rw [grant]; rfl⟩
    · obtain ⟨e, conflict⟩ := pkPage_conflict here topJ topK differ
      exact ⟨e, conflict, fun n => by rw [conflict]; rfl⟩
  · have refused {acc : Bar4Acc} := exec_bar4Access_refused (acc := acc) (off := off) hd hf phase
    refine ⟨fun n p e conflict => ?_, fun n p page no => ?_, fun bs p page no => ?_⟩
    · change windowCheck s off (.read n) = _ at conflict
      have done := refused (acc := .read n) (fun _ => by simp) (by rw [conflict]; simp)
      rw [conflict] at done
      exact ⟨_, done, rfl⟩
    · exact ⟨_, refused (acc := .read n) (fun _ => by simp) (pkCheck_refused page no), _, rfl, rfl, bar4Deny_memory s _ _⟩
    · exact ⟨_, refused (acc := .write bs false) (fun _ => by simp) (pkCheck_refused page no), _, rfl, bar4Deny_memory s _ _⟩

end Sys2Proof.Protection

namespace Sys2Proof.Protection
open Sys2Proof.Machine Sys2Proof.Safety Sys2Proof.Waking Sys2Proof.HostLink

/-! ### Commit, discard and refill (R194-R198) -/

/-- STAGE_ERR recorded: both banks stand (R197). -/
def stageErred (s : State) : State := { s with pdk := { s.pdk with stageErr := true } }

/-- PDK_EPOCH_COMMIT by PF1: refused while PENDING, held behind four undrained epochs, otherwise done (R194, R196, R197). -/
theorem exec_pdkEpochCommit {s : State} (hw : WritesServed s .pf1) :
    exec (.pdkEpochCommit .pf1) s = .next (if s.pdk.pending then stageErred s else if 4 ≤ (undrained s).length
      then { s with pdk := { s.pdk with pending := true, heldCommit := some (oldestUndrained s) } } else commit s) :=
  congrArg _ (gateW_served hw _)

/-- PDK_EPOCH_DISCARD by PF1: refused while PENDING, otherwise the live bank copied back (R197, R198). -/
theorem exec_pdkEpochDiscard {s : State} (hw : WritesServed s .pf1) :
    exec (.pdkEpochDiscard .pf1) s =
      .next (if s.pdk.pending then stageErred s else { s with pdk := { s.pdk with staged := s.pdk.live } }) :=
  congrArg _ (gateW_served hw _)

/-- HELD_COMMIT_APPLY waits for the epoch it is held for (R196). -/
theorem exec_heldCommitApply {s : State} {e : BitVec 16} (held : s.pdk.heldCommit = some e) :
    exec .heldCommitApply s = .next (if e ∈ undrained s then s else commit s) := by
  show execHeldCommitApply s = _
  rw [execHeldCommitApply, held]

/-! ### Staged entries (R193, R197, R215) -/

/-- A word of a staged entry written. -/
def entryStaged (s : State) (k : Fin 256) (w : PkWord) (v : BitVec 64) : State :=
  { s with pdk := { s.pdk with staged := upd s.pdk.staged k fun e => pkSet e w v } }

/-- PK_ENTRY_WRITE by PF1: refused while PENDING, otherwise one word of the staged entry (R193, R197). -/
theorem exec_pkEntryWrite {s : State} (hw : WritesServed s .pf1) (k : Fin 256) (w : PkWord) (v : BitVec 64) :
    exec (.pkEntryWrite .pf1 k w v) s = .next (if s.pdk.pending then stageErred (dropLow s .pf1 (BitVec.ofNat 20 (pkOff k w)))
      else entryStaged (dropLow s .pf1 (BitVec.ofNat 20 (pkOff k w))) k w v) :=
  congrArg _ (gateW64_served hw _ _)

/-- A word of a staged entry written while not PENDING: the other entries stand. -/
theorem pkEntryWrite_ends {s : State} (hw : WritesServed s .pf1) (idle : s.pdk.pending = false) (k : Fin 256) (w : PkWord)
    (v : BitVec 64) : Ends (.pkEntryWrite .pf1 k w v) s fun t =>
      t = { dropLow s .pf1 (BitVec.ofNat 20 (pkOff k w)) with pdk := { s.pdk with staged := t.pdk.staged } } ∧
      t.pdk.staged[k] = pkSet s.pdk.staged[k] w v ∧ ∀ j : Fin 256, j ≠ k → t.pdk.staged[j] = s.pdk.staged[j] := by
  have done := exec_pkEntryWrite hw k w v
  rw [idle, if_neg Bool.false_ne_true] at done
  exact ⟨_, done, rfl, upd_self _ _ _, fun j hj => upd_other _ _ hj.symm⟩

/-! ### The fence (R199, R200) -/

/-- PDK_PROT_FENCE_WRITE by PF1: ignored where the target is later than the epoch in force (R199). -/
theorem exec_pdkProtFenceWrite {s : State} (hw : WritesServed s .pf1) (v : BitVec 32) :
    exec (.pdkProtFenceWrite .pf1 v) s = .next (if earlier (field v 0 16) s.pdk.epoch then s else
      { s with pdk := { s.pdk with target := field v 0 16, irq := bit v 17, fenceDone := false, evaluating := true } }) := by
  show Host.Outcome.next (gateW s .pf1 _) = _
  rw [gateW_served hw, wrProtFence, field_setWidth v (by decide), bit_setWidth v (by decide)]

/-- The fence waits for each undrained epoch that is earlier than its target. -/
theorem fenceBlocked_iff (s : State) : fenceBlocked s = true ↔ ∃ e ∈ undrained s, earlier s.pdk.target e = true :=
  List.any_eq_true

/-- The fence with its DONE set. -/
def fenceEnded (s : State) : State := { s with pdk := { s.pdk with fenceDone := true, evaluating := false } }

/-- PROT_FENCE_DONE acts on a fence under way that nothing blocks. -/
theorem exec_protFenceDone (s : State) :
    ((s.pdk.evaluating = false ∨ fenceBlocked s = true) → exec .protFenceDone s = .next s) ∧
    (s.pdk.evaluating = true → fenceBlocked s = false →
      exec .protFenceDone s = .next (if s.pdk.irq then settle (raiseEv (fenceEnded s) 293) else fenceEnded s)) := by
  refine ⟨fun h => if_neg ?_, fun under free => if_pos ⟨under, by rw [free]; rfl⟩⟩
  rintro ⟨under, free⟩
  rcases h with h | h
  · rw [h] at under
    cases under
  · rw [h] at free
    cases free

/-- The interrupt of a fence with IRQ, all routes good: EV293 is raised on PF1 and the Event Router alone told (R200, R734). -/
theorem fenceEnded_told {s : State} (q : Quiet s) (routes : RoutesGood s) :
    EvOnly (fenceEnded s) (settle (raiseEv (fenceEnded s) 293)) ∧ (evSrc (settle (raiseEv (fenceEnded s) 293)) .pf1 293).cause = true := by
  have raised := raisedWhen (s := fenceEnded s) routes True 293 (by decide) (by decide)
  rw [if_pos trivial] at raised
  rw [settle_of_quiet (by rw [raised.only]; exact q)]
  exact ⟨raised.only, raised.cause trivial⟩

/-- PF0 reaches the table by none of its writes (R193, R217). -/
theorem pf0_changes_no_table {s : State} (hw : WritesServed s .pf0) :
    exec (.pdkEpochCommit .pf0) s = .next s ∧ exec (.pdkEpochDiscard .pf0) s = .next s ∧
    (∀ v, exec (.pdkProtFenceWrite .pf0 v) s = .next s) ∧
    ∀ k w v, exec (.pkEntryWrite .pf0 k w v) s = .next (dropLow s .pf0 (BitVec.ofNat 20 (pkOff k w))) :=
  ⟨congrArg _ (gateW_served hw _), congrArg _ (gateW_served hw _), fun _ => congrArg _ (gateW_served hw _),
    fun _ _ _ => congrArg _ (gateW64_served hw _ _)⟩

/-! ### Protection epochs -/

/-- Settles O47: each command of the table's epochs by PENDING, the undrained epochs and the fence under way. -/
theorem protectionEpochsAct : Obligations.ProtectionEpochsAct := by
  intro s q routes
  refine ⟨fun hw => ?_, pf0_changes_no_table, fun e held => ?_, fun unheld => ?_, fun pend unheld => ?_, fun h => ?_, fun under => ?_,
    fun idle => (exec_protFenceDone s).1 (.inl idle)⟩
  · have commits := exec_pdkEpochCommit hw
    have discards := exec_pdkEpochDiscard hw
    refine ⟨fun idle few => ?_, fun idle many => ?_, fun idle => ?_, fun pend => ⟨?_, ?_, fun k w v => ?_⟩, fun idle k v => ?_,
      fun v taken => ?_, fun v later => ?_⟩
    · rw [idle, if_neg Bool.false_ne_true, if_neg (Nat.not_le.2 few)] at commits
      exact ⟨_, commits, rfl, rfl, rfl, rfl, rfl⟩
    · rw [commits, idle, if_neg Bool.false_ne_true, if_pos many]
    · rw [discards, idle, if_neg Bool.false_ne_true]
    · rw [commits, if_pos pend]
      rfl
    · rw [discards, if_pos pend]
      rfl
    · rw [exec_pkEntryWrite hw, if_pos pend]
      rfl
    · have writes := pkEntryWrite_ends hw idle k
      exact ⟨writes .base v, writes .limit v, writes .mask v, writes .rights v⟩
    · rw [exec_pdkProtFenceWrite hw, taken, if_neg Bool.false_ne_true]
    · rw [exec_pdkProtFenceWrite hw, if_pos later]
  · have applies := exec_heldCommitApply held
    refine ⟨fun drained => ?_, fun waits => ?_⟩
    · rw [if_neg drained] at applies
      exact ⟨_, applies, rfl, rfl, rfl, rfl⟩
    · rw [applies, if_pos waits]
  · show execHeldCommitApply s = _
    rw [execHeldCommitApply, unheld]
  · exact congrArg _ (if_pos ⟨pend, unheld⟩)
  · refine congrArg _ (if_neg fun ⟨pend, unheld⟩ => ?_)
    rcases h with h | h
    · rw [h] at pend
      cases pend
    · exact h unheld
  · obtain ⟨waits, ends⟩ := exec_protFenceDone s
    refine ⟨fun free => ?_, fun e he early => waits (.inr ((fenceBlocked_iff s).2 ⟨e, he, early⟩))⟩
    have unblocked : fenceBlocked s = false := by
      rw [Bool.eq_false_iff, ne_eq, fenceBlocked_iff]
      rintro ⟨e, he, early⟩
      rw [free e he] at early
      cases early
    have done := ends under unblocked
    refine ⟨fun still => ?_, fun irq => ?_⟩
    · rw [done, still, if_neg Bool.false_ne_true]
      rfl
    · obtain ⟨only, told⟩ := fenceEnded_told q routes
      rw [irq, if_pos rfl] at done
      refine ⟨_, done, ?_, told, ?_, ?_⟩ <;> rw [only] <;> rfl

end Sys2Proof.Protection

namespace Sys2Proof.Rings
open Sys2Proof.Machine Sys2Proof.Safety Sys2Proof.Waking Sys2Proof.HostLink

/-! ### Fields of blocks of bytes -/

/-- Bytes spelt are as many as asked for. -/
@[simp] theorem leBytes_length (n x : Nat) : (leBytes n x).length = n := by
  induction n generalizing x with
  | zero => rfl
  | succ n ih => rw [leBytes, List.length_cons, ih]

/-- A number spelt in n bytes and read back keeps its n low bytes. -/
theorem leNat_leBytes (n x : Nat) : leNat (leBytes n x) = x % 256 ^ n := by
  induction n generalizing x with
  | zero => rw [pow_zero, Nat.mod_one]; rfl
  | succ n ih => rw [pow_succ', Nat.mod_mul, ← ih]; rfl

/-- A field beyond the first part of a block is one of the rest. -/
theorem fieldAt_beyond {a : List Byte} {off : Nat} (h : a.length ≤ off) (b : List Byte) (n : Nat) :
    fieldAt (a ++ b) off n = fieldAt b (off - a.length) n := by
  refine congrArg leNat (List.map_congr_left fun i _ => ?_)
  rw [List.getD_append_right _ _ _ _ (Nat.le_add_right_of_le h), Nat.sub_add_comm h]

/-- A field within the first part of a block is one of that part. -/
theorem fieldAt_within {a : List Byte} {off n : Nat} (h : off + n ≤ a.length) (b : List Byte) :
    fieldAt (a ++ b) off n = fieldAt a off n := by
  refine congrArg leNat (List.map_congr_left fun i hi => ?_)
  rw [List.getD_append _ _ _ _ (by rw [List.mem_range] at hi; omega)]

/-- A field beyond the first byte. -/
theorem fieldAt_cons_succ (b : Byte) (t : List Byte) (off n : Nat) : fieldAt (b :: t) (off + 1) n = fieldAt t off n := by
  refine congrArg leNat (List.map_congr_left fun i _ => ?_)
  rw [Nat.add_right_comm, List.getD_cons_succ]

/-- A field from the first byte on. -/
theorem fieldAt_cons_zero (b : Byte) (t : List Byte) (n : Nat) : fieldAt (b :: t) 0 (n + 1) = b.toNat + 256 * fieldAt t 0 n := by
  have rest := fieldAt_cons_succ b t 0 n
  unfold fieldAt slice at *
  rw [← rest, List.range_succ_eq_map, List.map_cons, leNat, List.map_map]
  simp only [Nat.zero_add, List.getD_cons_zero, Function.comp_def, Nat.add_comm]

/-- A field of no bytes. -/
theorem fieldAt_none (bs : List Byte) (off : Nat) : fieldAt bs off 0 = 0 := rfl

/-- A block read whole. -/
theorem fieldAt_all (bs : List Byte) : fieldAt bs 0 bs.length = leNat bs := by
  induction bs with
  | nil => rfl
  | cons b t ih => rw [List.length_cons, fieldAt_cons_zero, ih, leNat]

/-- A word spelt in all of its bytes reads back. -/
theorem fieldAt_word {w n : Nat} (h : 256 ^ n = 2 ^ w) (v : BitVec w) : fieldAt (leBytes n v.toNat) 0 n = v.toNat := by
  have all := fieldAt_all (leBytes n v.toNat)
  rw [leBytes_length] at all
  rw [all, leNat_leBytes, h, Nat.mod_eq_of_lt v.isLt]

/-! ### Completion records (R230) -/

/-- The fields of a record at their offsets, where OPCODE, FLAGS and UNIT fit their bytes. -/
theorem recordBytes_fields (tag : BitVec 32) (status detail : Byte) {opcode flags : Nat} (outLen result : BitVec 32)
    (index epoch : BitVec 16) {unit : Nat} (cycles : BitVec 32) (phase : Bool) (op : opcode < 256) (fl : flags < 256)
    (un : unit < 256) (b : List Byte) (hb : b = recordBytes tag status detail opcode flags outLen result index epoch unit cycles phase) :
    b.length = 32 ∧ fieldAt b 0x00 4 = tag.toNat ∧ fieldAt b 0x04 1 = status.toNat ∧ fieldAt b 0x05 1 = detail.toNat ∧
    fieldAt b 0x06 1 = opcode ∧ fieldAt b 0x07 1 = flags ∧ fieldAt b 0x08 4 = outLen.toNat ∧ fieldAt b 0x0C 4 = result.toNat ∧
    fieldAt b 0x10 2 = index.toNat ∧ fieldAt b 0x12 2 = epoch.toNat ∧ fieldAt b 0x14 1 = unit ∧ fieldAt b 0x15 3 = 0 ∧
    fieldAt b 0x18 4 = cycles.toNat ∧ fieldAt b 0x1C 3 = 0 ∧ fieldAt b 0x1F 1 = if phase then 0x80 else 0 := by
  have four := fieldAt_word (w := 32) (n := 4) (by decide)
  have two := fieldAt_word (w := 16) (n := 2) (by decide)
  have last : (if phase then 0x80#8 else 0#8).toNat = if phase then 0x80 else 0 := by cases phase <;> rfl
  subst hb
  simp [recordBytes, fieldAt_within, fieldAt_beyond, fieldAt_cons_zero, fieldAt_cons_succ, fieldAt_none, four, two, last,
    Nat.mod_eq_of_lt op, Nat.mod_eq_of_lt fl, Nat.mod_eq_of_lt un, -List.append_assoc, -List.cons_append]

/-- UNIT fits a byte, and names the unit of a request that ran on one, or 59. -/
theorem unitCode_spec (q : Req) : unitCode q < 256 ∧
    (q.skipped = false → q.started = true → ∀ u, q.unit = some u → unitCode q = u.val) ∧
    (q.skipped = true ∨ q.started = false → unitCode q = 59) := by
  unfold unitCode
  refine ⟨?_, fun kept started u unit => ?_, fun h => if_pos ?_⟩
  · split
    · decide
    · split
      · omega
      · split <;> decide
  · simp [kept, started, unit]
  · rcases h with h | h <;> simp [h]

/-- FLAGS fit a byte, and are built of the chain's two bits and SKIPPED. -/
theorem flagsOf_spec (q : Req) : flagsOf q < 256 ∧
    flagsOf q = (if 2 ≤ q.members then (if q.pos + 1 = q.members then 3 else 1) else 0) + (if q.skipped then 4 else 0) := by
  unfold flagsOf
  by_cases chain : 2 ≤ q.members <;> by_cases last : q.pos + 1 = q.members <;> cases q.skipped <;> simp [chain, last]

/-- CYCLES of a request that ran on a unit, and of one that did not. -/
theorem cyclesOf_spec (s : State) (q : Req) :
    (unitCode q ≠ 59 → (cyclesOf s q).toNat = min ((s.cycle - q.admitAt) / 16) 0xFFFFFFFF) ∧
    (unitCode q = 59 → (cyclesOf s q).toNat = 0) := by
  unfold cyclesOf
  refine ⟨fun ran => ?_, fun none => by rw [if_pos none]; rfl⟩
  rw [if_neg ran, satOf]
  split
  next fits => rw [BitVec.toNat_ofNat, Nat.mod_eq_of_lt fits, Nat.min_eq_left (by omega)]
  next wide => rw [BitVec.toNat_allOnes, Nat.min_eq_right (by omega)]

/-- Settles O55: the bytes of a record hold its fields, and UNIT, FLAGS and CYCLES are those of the request. -/
theorem completionRecordLayout : Obligations.CompletionRecordLayout := by
  intro s q d b
  obtain ⟨unit, ran, none⟩ := unitCode_spec q
  obtain ⟨flags, chain⟩ := flagsOf_spec q
  obtain ⟨cycles, zero⟩ := cyclesOf_spec s q
  obtain ⟨length, tag, status, detail, opcode, flag, outLen, result, index, epoch, unitAt, res15, cyclesAt, res1C, phase⟩ :=
    recordBytes_fields q.desc.tag d.status d.detail (opcode := q.desc.opcode) (if d.status = 0 ∨ d.status = 1 then d.outLen else 0)
      d.result q.slot q.epoch (cyclesOf s q) (phaseOf s.rings[q.ring] q.slot) (BitVec.isLt _) flags unit b rfl
  refine ⟨length, tag, status, detail, opcode, flag.trans chain, outLen.trans (apply_ite _ _ _ _), result, index, epoch,
    fun kept started u hu => ?_, fun h => ?_, res15, res1C, phase⟩
  · have named := ran kept started u hu
    exact ⟨unitAt.trans named, cyclesAt.trans (cycles (by omega))⟩
  · exact ⟨unitAt.trans (none h), cyclesAt.trans (zero (none h))⟩

end Sys2Proof.Rings

namespace Sys2Proof.Rings
open Sys2Proof.Machine Sys2Proof.Safety Sys2Proof.Waking Sys2Proof.HostLink

/-! ### What only the units see -/

/-- A state differs from another in the units alone. -/
def UnitsOnly (s t : State) : Prop := t = { s with units := t.units }

/-- Nothing changed. -/
theorem UnitsOnly.refl (s : State) : UnitsOnly s s := rfl

/-- Two such changes one after the other. -/
theorem UnitsOnly.trans {s t u : State} (h : UnitsOnly s t) (g : UnitsOnly t u) : UnitsOnly s u := by
  unfold UnitsOnly at *
  rw [g, h]

/-- Either of two such changes. -/
theorem UnitsOnly.ite {s t u : State} {c : Prop} [Decidable c] (h : UnitsOnly s t) (g : UnitsOnly s u) :
    UnitsOnly s (if c then t else u) := by
  split <;> assumption

/-- Such a change for each element of a list. -/
theorem UnitsOnly.foldl {α : Type} {f : State → α → State} (hf : ∀ s a, UnitsOnly s (f s a)) (l : List α) (s : State) :
    UnitsOnly s (l.foldl f s) := by
  induction l generalizing s with
  | nil => exact UnitsOnly.refl s
  | cons a l ih => exact (hf s a).trans (ih _)

/-- A change of a unit. -/
theorem setUnit_only (s : State) (u : UnitId) (g : UnitState → UnitState) : UnitsOnly s (setUnit s u g) := rfl

/-- A unit's crib used by a local source (R548). -/
theorem cribUsed_only (s : State) (q : Req) : UnitsOnly s (cribUsed s q) := by
  unfold cribUsed
  split
  · exact UnitsOnly.refl s
  · exact UnitsOnly.ite (UnitsOnly.refl s) (setUnit_only s _ _)

/-- The bytes of a lane counted (R404). -/
theorem countBytes_only (s : State) (q : Req) (n : Nat) : UnitsOnly s (countBytes s q n) := by
  unfold countBytes
  split
  · exact UnitsOnly.ite (setUnit_only s _ _) (UnitsOnly.refl s)
  · exact UnitsOnly.refl s

/-- Decryption round keys expanded (R396). -/
theorem expandDec_only (s : State) (q : Req) : UnitsOnly s (expandDec s q) := by
  unfold expandDec
  split
  · exact UnitsOnly.ite (setUnit_only s _ _) (UnitsOnly.refl s)
  · exact UnitsOnly.refl s

/-! ### Requests that end without output -/

/-- A request's outcome and stores after a change of it, wherever it is found. -/
theorem outcome_setReq {u : State} {i : Nat} {q : Req} {g : Req → Req} {status detail : Byte} (found : findReq u i = some q)
    (id : (g q).id = q.id) (outcome : (g q).done = some { status := status, detail := detail, outLen := 0, result := 0 })
    (stores : (g q).stores = []) : OutcomeIs (setReq u i g) i status detail 0 0 ∧ StoresOf (setReq u i g) i = [] := by
  have changed := findReq_setReq (g := g) found (id.trans (findReq_id found))
  unfold OutcomeIs StoresOf
  rw [changed]
  exact ⟨outcome, stores⟩

/-- A request ended with an error (R247). -/
theorem outcome_failReq {u : State} {i : Nat} {q : Req} (found : findReq u i = some q) (status detail : Byte) :
    OutcomeIs (failReq u i status detail) i status detail 0 0 ∧ StoresOf (failReq u i status detail) i = [] :=
  outcome_setReq found rfl rfl rfl

/-- A command that settles a state in which the request has ended so. -/
theorem fails_of_settled {c : Instr} {s t : State} {i : Nat} {status detail : Byte} (q : Quiet s) (done : exec c s = .next (settle t))
    (hlt : t.hlt = s.hlt) (ended : OutcomeIs t i status detail 0 0 ∧ StoresOf t i = []) : Fails c s i status detail :=
  ⟨t, by rw [done, settle_of_quiet (by rw [hlt]; exact q)], ended⟩

/-! ### Cipher requests (R374, R379, R387) -/

/-- A request that is ready was found, and has its opcode. -/
theorem readyReq_found {s : State} {i op : Nat} {q : Req} (h : readyReq s i op = some q) :
    findReq s i = some q ∧ q.desc.opcode = op := by
  unfold readyReq at h
  split at h
  · cases h
  next y found =>
    dsimp only at h
    split at h
    next ready =>
      cases h
      simp only [Bool.and_eq_true, decide_eq_true_eq] at ready
      exact ⟨found, by tauto⟩
    next => cases h

/-- Every cipher row runs the cipher operation of its opcode. -/
theorem exec_cipherRow {c : Instr} {op i : Nat} (row : (c, op) ∈ cipherRows i) (s : State) : exec c s = runOp s i op cipherRun := by
  simp only [cipherRows, List.mem_cons, List.not_mem_nil, or_false, Prod.mk.injEq] at row
  rcases row with h | h | h | h | h | h | h | h | h | h | h | h | h | h | h | h | h | h <;> obtain ⟨rfl, rfl⟩ := h <;> rfl

/-- An opcode of a cipher row has a destination. -/
theorem hasDst_cipherRow {c : Instr} {op i : Nat} (row : (c, op) ∈ cipherRows i) {d : Desc} (h : d.opcode = op) : hasDst d = true := by
  have cipher : op ≤ 0x0E ∨ (0x10 ≤ op ∧ op ≤ 0x12) := by
    simp only [cipherRows, List.mem_cons, List.not_mem_nil, or_false, Prod.mk.injEq] at row
    omega
  unfold hasDst opForm
  rw [h, if_pos cipher]
  rfl

/-- An operation on the source of a request that runs. -/
theorem runOp_runsOn {s : State} {i op : Nat} {q : Req} {src : List Byte} (runs : RunsOn s i op q src)
    (k : State → Req → List Byte → State) : runOp s i op k = .next (settle (k (cribUsed s q) q src)) := by
  obtain ⟨ready, bytes⟩ := runs
  unfold runOp
  simp only [ready, bytes]

/-- The bytes that a cipher operation writes are as many as its output, and choosing them touches no request and no Halter. -/
theorem cipherBytes_spec (s : State) (q : Req) (bs : List Byte) :
    (cipherBytes s q bs).2.length = bs.length ∧ (cipherBytes s q bs).1.reqs = s.reqs ∧ (cipherBytes s q bs).1.hlt = s.hlt := by
  unfold cipherBytes
  split
  · exact ⟨by rw [freeBytes, List.length_map, List.length_range], rfl, rfl⟩
  · exact ⟨rfl, rfl, rfl⟩

/-- An output that does not fit its destination is not written (R387). -/
theorem cipherOut_short {s : State} {q : Req} {bs : List Byte} (dst : hasDst q.desc = true)
    (short : tooLongOut q.desc bs.length = true) (result : Nat) :
    cipherOut s q bs result = failReq (cipherBytes s q bs).1 q.id 0x32 (shortDetail q.desc) := by
  obtain ⟨length, -, -⟩ := cipherBytes_spec s q bs
  unfold cipherOut output
  simp only [length, dst, short, Bool.and_self, if_true]

/-- The refusals of a cipher operation, and its operation where no tag is compared. -/
theorem cipherRun_refusals (s : State) (q : Req) (src : List Byte) :
    let halves := (q.desc.opcode = 0x05 ∨ q.desc.opcode = 0x06) ∧ xtsHalvesEqual (keyOf q) = true
    (halves → cipherRun s q src = failReq s q.id 0x20 0x01) ∧
    (¬ halves → cipherAuxOk q.desc (auxOf q) = false → cipherRun s q src = failReq s q.id 0x30 0x09) ∧
    (¬ halves → cipherAuxOk q.desc (auxOf q) = true → ctrWraps q.desc (auxOf q) = true →
      cipherRun s q src = setReq s q.id fun x => { endReq x 0x30 0x09 with started := false }) ∧
    (¬ halves → cipherAuxOk q.desc (auxOf q) = true → ctrWraps q.desc (auxOf q) = false → aeadEnc q.desc.opcode = false →
      aeadDec q.desc.opcode = false → cipherRun s q src =
        cipherOut (expandDec (countBytes s q q.desc.srcLen) q) q (modeOut q src) (cipherResult q.desc (auxOf q))) := by
  intro halves
  unfold cipherRun
  refine ⟨fun equal => if_pos equal, fun differ aux => ?_, fun differ aux wraps => ?_, fun differ aux counts enc dec => ?_⟩
  · rw [if_neg differ, aux]
    rfl
  · rw [if_neg differ, aux, wraps]
    rfl
  · rw [if_neg differ, aux, counts]
    simp only [enc, dec, Bool.not_true, Bool.false_eq_true, if_false]

/-- Settles O26: each refusal is one of the cipher operation's, and ends the request as found. -/
theorem cipherRequestsRefuse : Obligations.CipherRequestsRefuse := by
  intro s i op q src quiet runs c row halves
  obtain ⟨found, opcode⟩ := readyReq_found runs.1
  have id : q.id = i := findReq_id found
  have done : exec c s = .next (settle (cipherRun (cribUsed s q) q src)) := (exec_cipherRow row s).trans (runOp_runsOn runs cipherRun)
  have used := cribUsed_only s q
  have still : findReq (cribUsed s q) i = some q := (findReq_congr (by rw [used]) i).trans found
  have hlt : (cribUsed s q).hlt = s.hlt := by rw [used]
  obtain ⟨equal, aux, wraps, short⟩ := cipherRun_refusals (cribUsed s q) q src
  rw [opcode, id] at equal aux wraps
  rw [opcode] at short
  refine ⟨fun h => ?_, fun h bad => ?_, fun ok ctr wrap => ?_, fun h ok enc dec counts long => ?_⟩
  · rw [equal h] at done
    exact fails_of_settled quiet done hlt (outcome_failReq still _ _)
  · rw [aux h bad] at done
    exact fails_of_settled quiet done hlt (outcome_failReq still _ _)
  · have differ : ¬ halves := fun h => by omega
    have wrapped : ctrWraps q.desc (auxOf q) = true := by
      unfold ctrWraps
      rw [opcode, ctr, decide_eq_true wrap]
      rfl
    rw [wraps differ ok wrapped] at done
    exact fails_of_settled quiet done hlt (outcome_setReq still rfl rfl rfl)
  · have lane := (countBytes_only (cribUsed s q) q q.desc.srcLen).trans (expandDec_only _ q)
    rw [short h ok counts enc dec, cipherOut_short (hasDst_cipherRow row opcode) long, id] at done
    obtain ⟨-, reqs, hlt'⟩ := cipherBytes_spec (expandDec (countBytes (cribUsed s q) q q.desc.srcLen) q) q (modeOut q src)
    refine fails_of_settled quiet done ?_ (outcome_failReq ((findReq_congr (reqs.trans (by rw [lane])) i).trans still) _ _)
    exact hlt'.trans ((show _ = (cribUsed s q).hlt by rw [lane]).trans hlt)

end Sys2Proof.Rings

namespace Sys2Proof.Rings
open Sys2Proof.Machine Sys2Proof.Safety Sys2Proof.Waking Sys2Proof.HostLink

/-! ### Reservations released (R257, R392, R474) -/

/-- INTERMEDIATE_ZEROISE of a chain of which no request is left (R257). -/
theorem exec_intermediateZeroise {s : State} {i : Nat} (empty : (s.reqs.any fun q => decide (q.chain = i)) = false) :
    exec (.intermediateZeroise i) s = .next { s with
      inters := s.inters.filter fun x => decide (x.chain ≠ i)
      quotas := s.quotas.filter fun x => decide (x.1 ≠ i)
      mgr := { s.mgr with resv := s.mgr.resv.filter fun x => !decide (x.who = .chain i) } } :=
  if_neg (by rw [empty]; exact Bool.false_ne_true)

/-- The lines of a request that has its record released (R392, R474). -/
theorem exec_linesZeroise {s : State} {i : Nat} (gone : findReq s i = none) :
    exec (.vbrLinesZeroise i) s = .next (release s fun x => decide (x.who = .vbr i)) ∧
    exec (.coopLinesZeroise i) s = .next (release s fun x => decide (x.who = .coop i)) := by
  have left : ¬ (findReq s i).isSome = true := by rw [gone]; exact Bool.false_ne_true
  exact ⟨if_neg left, if_neg left⟩

/-! ### FENCE and NOP (R245, R246) -/

/-- Does a FENCE wait for a request: an earlier one of its stall, on its ring, or on any with IMM bit 0 (R245)? -/
def fenceWaits (q : Req) (i : Nat) (o : Req) : Bool :=
  decide (o.id < i) && decide (o.stall = q.stall) && (decide (o.ring = q.ring) || bit q.desc.imm 0)

/-- FENCE ends once nothing is left that it waits for (R245). -/
theorem exec_fence {s : State} {i : Nat} {q : Req} (found : findReq s i = some q) (open' : q.done = none)
    (op : q.desc.opcode = 0xF0) :
    exec (.fence i) s = .next (if s.reqs.any (fenceWaits q i) then s else finish s i 0 0 0 0 []) := by
  show execFence i s = _
  unfold execFence
  simp only [found, op, open', ne_eq, not_true_eq_false, Option.isSome_none, Bool.false_eq_true, or_self, if_false]
  rfl

/-- NOP ends at once (R246). -/
theorem exec_nop {s : State} {i : Nat} {q : Req} (found : findReq s i = some q) (open' : q.done = none)
    (op : q.desc.opcode = 0xF1) : exec (.nop i) s = .next (finish s i 0 0 0 0 []) := by
  show execNop i s = _
  unfold execNop
  simp only [found, op, open', ne_eq, not_true_eq_false, Option.isSome_none, Bool.false_eq_true, or_self, if_false]

/-- Settles O23: each release filters what it releases, and FENCE waits for exactly the requests of `fenceWaits`. -/
theorem reservationsAndFences : Obligations.ReservationsAndFences := by
  intro s i
  refine ⟨fun empty => ⟨_, exec_intermediateZeroise empty, ?_, ?_, ?_, ?_, rfl⟩, exec_linesZeroise, fun q found open' => ⟨fun op => ?_,
    fun op => ⟨_, exec_nop found open' op, outcome_setReq found rfl rfl rfl⟩⟩⟩
  · exact fun x hx => of_decide_eq_true (List.mem_filter.1 hx).2
  · exact fun x hx => by simpa using (List.mem_filter.1 hx).2
  · exact fun x hx other => List.mem_filter.2 ⟨hx, decide_eq_true other⟩
  · exact fun x hx other => List.mem_filter.2 ⟨hx, by simpa using other⟩
  · have ends := exec_fence found open' op
    refine ⟨fun free => ⟨_, ends.trans (congrArg _ (if_neg ?_)), outcome_setReq found rfl rfl rfl⟩, fun o ho before stall ring => ?_⟩
    · simp only [List.any_eq_true, not_exists, not_and]
      intro o ho waits
      simp only [fenceWaits, Bool.and_eq_true, Bool.or_eq_true, decide_eq_true_eq] at waits
      obtain ⟨⟨before, stall⟩, scope⟩ := waits
      obtain ⟨ring, imm⟩ := free o ho before stall
      rcases scope with scope | scope
      · exact ring scope
      · rw [imm] at scope
        cases scope
    · refine ends.trans (congrArg _ (if_pos (List.any_eq_true.2 ⟨o, ho, ?_⟩)))
      simp [fenceWaits, before, stall, ring]

end Sys2Proof.Rings

namespace Sys2Proof.Rings
open Sys2Proof.Machine Sys2Proof.Safety Sys2Proof.Waking Sys2Proof.HostLink

/-! ### What only the Dispatcher's own state and the units see -/

/-- A state differs from another in the Dispatcher's own state and the units alone. -/
def DispatchOnly (s t : State) : Prop := t = { s with disp := t.disp, units := t.units }

/-- Nothing changed. -/
theorem DispatchOnly.refl (s : State) : DispatchOnly s s := rfl

/-- Two such changes one after the other. -/
theorem DispatchOnly.trans {s t u : State} (h : DispatchOnly s t) (g : DispatchOnly t u) : DispatchOnly s u := by
  unfold DispatchOnly at *
  rw [g, h]

/-- An operation that is such a change, after one. -/
theorem DispatchOnly.andThen {s t : State} (f : State → State) (hf : ∀ u, DispatchOnly u (f u)) (h : DispatchOnly s t) :
    DispatchOnly s (f t) :=
  h.trans (hf t)

/-- Either of two such changes. -/
theorem DispatchOnly.ite {s t u : State} {c : Prop} [Decidable c] (h : DispatchOnly s t) (g : DispatchOnly s u) :
    DispatchOnly s (if c then t else u) := by
  split <;> assumption

/-- Such a change for each element of a list. -/
theorem DispatchOnly.foldl {α : Type} {f : State → α → State} (hf : ∀ s a, DispatchOnly s (f s a)) (l : List α) (s : State) :
    DispatchOnly s (l.foldl f s) := by
  induction l generalizing s with
  | nil => exact DispatchOnly.refl s
  | cons a l ih => exact (hf s a).trans (ih _)

/-- A change of the units alone is one. -/
theorem UnitsOnly.dispatch {s t : State} (h : UnitsOnly s t) : DispatchOnly s t := by
  unfold DispatchOnly
  rw [h]

/-- The rotation of known-answer tests goes on: of the Dispatcher's state what is held stands, and of a unit only its due test
changes (R295). -/
structure RotationOnly (s t : State) : Prop where
  only : DispatchOnly s t
  coop : t.disp.coop = s.disp.coop
  late : t.disp.coopLate = s.disp.coopLate
  units : ∀ u : UnitId, t.units[u] = { s.units[u] with testDue := t.units[u].testDue }

/-- Nothing changed. -/
theorem RotationOnly.refl (s : State) : RotationOnly s s := ⟨rfl, rfl, rfl, fun _ => rfl⟩

/-- Two such changes one after the other. -/
theorem RotationOnly.trans {s t u : State} (h : RotationOnly s t) (g : RotationOnly t u) : RotationOnly s u :=
  ⟨h.only.trans g.only, g.coop.trans h.coop, g.late.trans h.late, fun v => by rw [g.units v, h.units v]⟩

/-- A unit chosen for a known-answer test (R295). -/
theorem katChoose_rotates (s : State) (i : Fin 3) : RotationOnly s (katChoose s i) := by
  unfold katChoose
  split
  · exact RotationOnly.refl s
  · refine ⟨rfl, rfl, rfl, fun v => ?_⟩
    rw [setUnit_units, upd_get]
    split <;> rfl

/-- The rotation of known-answer tests. -/
theorem katNext_rotates (s : State) : RotationOnly s (katNext s) := by
  have one (u : State) (i : Fin 3) : RotationOnly u (if u.disp.rotUnit[i].isNone && decide (u.disp.rotDue[i] ≠ 0) && (rotPick u i).isSome
      then katChoose { u with disp := { u.disp with rotDue := u.disp.rotDue.set i (u.disp.rotDue[i] - 1) } } i else u) := by
    split
    · exact RotationOnly.trans (by exact ⟨rfl, rfl, rfl, fun _ => rfl⟩) (katChoose_rotates _ i)
    · exact RotationOnly.refl u
  unfold katNext
  generalize List.finRange 3 = l
  induction l generalizing s with
  | nil => exact RotationOnly.refl s
  | cons i l ih => exact (one s i).trans (ih _)

/-- Held units let go (R278). -/
theorem dropHeld_only (s : State) : DispatchOnly s (dropHeld s) := by
  unfold dropHeld
  exact DispatchOnly.andThen katNext (fun u => (katNext_rotates u).only) rfl

/-- Cooperative sets given up. -/
theorem dropCoop_only (s : State) (p : CoopFor → Bool) : DispatchOnly s (dropCoop s p) := by
  unfold dropCoop
  refine DispatchOnly.trans (t := { s with disp := { s.disp with coopLate := s.disp.coopLate.filter fun c => !p c } }) rfl ?_
  dsimp only
  split
  · exact DispatchOnly.ite (dropHeld_only _) (DispatchOnly.refl _)
  · exact DispatchOnly.refl _

/-! ### Ring registers (R224-R226, R267-R271) -/

/-- Two changes of a ring one after the other. -/
theorem setRing_setRing (s : State) (r : RingId) (f g : Ring → Ring) :
    setRing (setRing s r f) r g = setRing s r fun x => g (f x) :=
  congrArg (fun v => { s with rings := v }) (upd_upd s.rings r f g)

/-- The rings after a change of one. -/
theorem setRing_ring (s : State) (r : RingId) (g : Ring → Ring) :
    (setRing s r g).rings[r] = g s.rings[r] ∧ ∀ k : RingId, k ≠ r → (setRing s r g).rings[k] = s.rings[k] :=
  ⟨upd_self _ _ _, fun _ hk => upd_other _ _ hk.symm⟩

/-- Who may write a ring's registers (R267). -/
theorem ringWr_owned {s : State} {f : Fn} {r : RingId} {n : StallId} (owner : s.rings[r].owner = some n)
    (may : f = .pf1 ∨ s.stalls[n].secure = false) : ringWr s f r = true := by
  unfold ringWr
  rw [owner]
  exact (stlMay_eq s n).1 f may

/-- Bit 0 of a word written with ENABLE 1 and with ENABLE 0. -/
theorem bit_enable (v : BitVec 64) : bit (v ||| 1) 0 = true ∧ bit (v &&& ~~~1) 0 = false := by
  simp [bit]

section
variable {s : State} {f : Fn} {r : RingId} (may : ringWr s f r = true)
include may

/-- An address register of a disabled ring is written (R225, R268, R269). -/
theorem wrRingAddr_disabled (off : s.rings[r].enable = false) (v : BitVec 64) :
    wrRingAddr s f r .base v = setRing s r (fun _ => { s.rings[r] with base := field v 12 52 }) ∧
    wrRingAddr s f r .cpl v = setRing s r (fun _ => { s.rings[r] with cpl := field v 12 52 }) ∧
    wrRingAddr s f r .hwb v = setRing s r (fun _ => { s.rings[r] with hwb := field v 3 61 }) := by
  have served : ¬ (!ringWr s f r) = true := by rw [may]; decide
  have open' : (!s.rings[r].enable) = true := by rw [off]; rfl
  exact ⟨(if_neg served).trans (if_pos open'), (if_neg served).trans (if_pos open'), (if_neg served).trans (if_pos open')⟩

/-- An address register of an enabled ring is not changed: a change is refused with CFG_ERR (R225). -/
theorem wrRingAddr_enabled (on : s.rings[r].enable = true) (v : BitVec 64) :
    (field v 12 52 ≠ s.rings[r].base → wrRingAddr s f r .base v = setRing s r fun y => { y with cfgErr := true }) ∧
    (field v 12 52 ≠ s.rings[r].cpl → wrRingAddr s f r .cpl v = setRing s r fun y => { y with cfgErr := true }) ∧
    (field v 3 61 ≠ s.rings[r].hwb → wrRingAddr s f r .hwb v = setRing s r fun y => { y with cfgErr := true }) := by
  have served : ¬ (!ringWr s f r) = true := by rw [may]; decide
  have closed : ¬ (!s.rings[r].enable) = true := by rw [on]; decide
  have refused {y : Ring} (h : y ≠ s.rings[r]) : (if (!ringWr s f r) = true then s else if (!s.rings[r].enable) = true then
      setRing s r (fun _ => y) else if y = s.rings[r] then s else setRing s r fun z => { z with cfgErr := true }) =
      setRing s r fun z => { z with cfgErr := true } := by
    rw [if_neg served, if_neg closed, if_neg h]
  exact ⟨fun h => refused fun e => h (congrArg Ring.base e), fun h => refused fun e => h (congrArg Ring.cpl e),
    fun h => refused fun e => h (congrArg Ring.hwb e)⟩

/-- CTL of a disabled ring written with ENABLE 0 (R225, R270). -/
theorem wrRingCtl_configures (off : s.rings[r].enable = false) {v : BitVec 64} (stays : bit v 0 = false) :
    wrRingCtl s f r v = setRing s r (ctlSet · v) := by
  unfold wrRingCtl
  simp only [may, off, stays, Bool.not_true, Bool.not_false, Bool.false_eq_true, if_false, if_true]

/-- May a disabled ring be enabled with its fields as they then are: drained, its stall not under reset, its PASID entry
valid (R224)? -/
def MayEnable (s : State) (r : RingId) (n : StallId) (y : Ring) : Prop :=
  drained s r = true ∧ s.stalls[n].state ≠ .resetting ∧ s.stalls[n].pasidValid[y.pasidIdx] = true

/-- CTL of a disabled ring written with ENABLE 1: the ring starts, or gets CFG_ERR (R224). -/
theorem wrRingCtl_enables (off : s.rings[r].enable = false) {n : StallId} (owner : s.rings[r].owner = some n) {v : BitVec 64}
    (starts : bit v 0 = true) :
    (MayEnable s r n (ctlSet s.rings[r] v) → wrRingCtl s f r v = setRing (setRing s r (ctlSet · v)) r ringStart) ∧
    (¬ MayEnable s r n (ctlSet s.rings[r] v) →
      wrRingCtl s f r v = setRing (setRing s r (ctlSet · v)) r fun y => { y with cfgErr := true }) := by
  have ring : (setRing s r (ctlSet · v)).rings[r] = ctlSet s.rings[r] v := upd_self _ _ _
  have dry : drained (setRing s r (ctlSet · v)) r = drained s r := by
    unfold drained
    rw [ring]
    rfl
  have own : (ctlSet s.rings[r] v).owner = some n := owner
  unfold wrRingCtl MayEnable
  simp only [may, off, starts, ring, dry, own, Bool.not_true, Bool.false_eq_true, if_false]
  refine ⟨fun ⟨drain, state, pasid⟩ => if_pos ?_, fun bad => if_neg fun ok => bad ?_⟩
  · simp only [Bool.and_eq_true, decide_eq_true_eq]
    exact ⟨drain, state, pasid⟩
  · simp only [Bool.and_eq_true, decide_eq_true_eq] at ok
    exact ok

/-- CTL of an enabled ring written with ENABLE 0: the ring stops, perhaps with CFG_ERR (R225, R226). -/
theorem wrRingCtl_stops (on : s.rings[r].enable = true) {v : BitVec 64} (stops : bit v 0 = false) :
    ∃ e : Bool, wrRingCtl s f r v = ringStop (setRing s r fun y => { y with cfgErr := e }) r := by
  unfold wrRingCtl
  simp only [may, on, stops, Bool.not_true, Bool.false_eq_true, if_false, if_true]
  split
  · exact ⟨true, rfl⟩
  · exact ⟨s.rings[r].cfgErr, by rw [setRing_of_fixed (g := fun y => { y with cfgErr := s.rings[r].cfgErr }) rfl]⟩

end

/-- A ring that stops: what was fetched and not admitted is discarded, and nothing else of the rings, the requests, the stalls
and memory changes (R226). -/
theorem ringStop_spec (s : State) (r : RingId) :
    (ringStop s r).rings[r] =
      { s.rings[r] with enable := false, kept := false, buf := [], budgets := [], overlong := none, virtS := none } ∧
    (∀ k : RingId, k ≠ r → (ringStop s r).rings[k] = s.rings[k]) ∧
    (ringStop s r).reqs = s.reqs ∧ (ringStop s r).stalls = s.stalls ∧ (ringStop s r).dram = s.dram := by
  have only := dropCoop_only (dropFetches s fun k => decide (k = r)) (CoopFor.onRing fun k => decide (k = r))
  unfold ringStop
  extract_lets u
  rw [show u = { dropFetches s (fun k => decide (k = r)) with disp := u.disp, units := u.units } from only]
  exact ⟨upd_self _ _ _, fun _ hk => upd_other _ _ hk.symm, rfl, rfl, rfl⟩

/-- DSP_RING_CFG_WRITE reaches the ring's register, and drops the low half that the function holds of it (R115, R225). -/
theorem exec_dspRingCfgWrite {s : State} {f : Fn} (served : WritesServed s f) (r : RingId) (reg : RingReg) (w : BitVec 64) :
    exec (.dspRingCfgWrite f r reg w) s = .next (wrRingReg (dropLow s f (BitVec.ofNat 20 (ringOff r reg))) f r reg w) :=
  congrArg _ (gateW64_served served _ _)

/-- What a configuration write that changes the ring alone leaves. -/
theorem ringWritten_ends {s : State} {f : Fn} {r : RingId} {c : Instr} {off : BitVec 20} {g : Ring → Ring}
    (done : exec c s = .next (setRing (dropLow s f off) r g)) :
    Ends c s fun t => t = { s with rings := t.rings, fns := t.fns } ∧ t.rings[r] = g s.rings[r] ∧
      ∀ k : RingId, k ≠ r → t.rings[k] = s.rings[k] :=
  ⟨_, done, rfl, setRing_ring (dropLow s f off) r g⟩

/-- Settles O17: each register write by what it does to a ring disabled or enabled. -/
theorem ringRegistersAct : Obligations.RingRegistersAct := by
  intro s f r n served owner may writes
  have wr : ringWr s f r = true := ringWr_owned owner may
  have low (off : BitVec 20) : ringWr (dropLow s f off) f r = true := ringWr_owned (s := dropLow s f off) owner may
  have cfg := exec_dspRingCfgWrite served r
  refine ⟨fun disabled v => ?_, fun enabled v => ?_⟩
  · intro y
    have addr (off : BitVec 20) := wrRingAddr_disabled (low off) disabled
    have enables : exec (.dspRingEnable f r v) s = .next (wrRingCtl s f r (v.setWidth 64 ||| 1)) := congrArg _ (gateW_served served _)
    obtain ⟨starts, refused⟩ := wrRingCtl_enables wr disabled owner (bit_enable (v.setWidth 64)).1
    refine ⟨fun drain state pasid => ?_, fun bad => ?_, fun w => ?_, fun w => ?_, fun w => ?_, fun w stays => ?_⟩
    · rw [starts ⟨drain, state, pasid⟩, setRing_setRing] at enables
      obtain ⟨ring, others⟩ := setRing_ring s r fun x => ringStart (ctlSet x (v.setWidth 64 ||| 1))
      exact ⟨_, enables, ring, congrArg Ring.enable ring, congrArg Ring.head ring, congrArg Ring.fetch ring,
        congrArg Ring.tail ring, congrArg Ring.lap ring, others, rfl, rfl⟩
    · have not : ¬ MayEnable s r n y := by
        rintro ⟨drain, state, pasid⟩
        rcases bad with bad | bad | bad
        · exact absurd (drain.symm.trans bad) (by decide)
        · exact state bad
        · exact absurd (pasid.symm.trans bad) (by decide)
      rw [refused not, setRing_setRing] at enables
      exact ⟨_, enables, (setRing_ring s r _).1⟩
    · exact ringWritten_ends ((cfg .base w).trans (congrArg _ (addr _ w).1))
    · exact ringWritten_ends ((cfg .cpl w).trans (congrArg _ (addr _ w).2.1))
    · exact ringWritten_ends ((cfg .hwb w).trans (congrArg _ (addr _ w).2.2))
    · exact ringWritten_ends ((cfg .ctl w).trans (congrArg _ (wrRingCtl_configures (low _) disabled stays)))
  · have addr (off : BitVec 20) := wrRingAddr_enabled (low off) enabled
    have disables : exec (.dspRingDisable f r v) s = .next (wrRingCtl s f r (v.setWidth 64 &&& ~~~1)) :=
      congrArg _ (gateW_served served _)
    refine ⟨?_, fun w h => ?_, fun w h => ?_, fun w h => ?_⟩
    · obtain ⟨e, stops⟩ := wrRingCtl_stops wr enabled (bit_enable (v.setWidth 64)).2
      obtain ⟨ring, others, reqs, stalls, dram⟩ := ringStop_spec (setRing s r fun y => { y with cfgErr := e }) r
      obtain ⟨marked, unmarked⟩ := setRing_ring s r fun y => { y with cfgErr := e }
      rw [marked] at ring
      rw [stops] at disables
      exact ⟨_, disables, congrArg Ring.enable ring, congrArg Ring.buf ring, congrArg Ring.budgets ring,
        (congrArg Ring.head ring).trans rfl, (congrArg Ring.base ring).trans rfl, reqs, fun k hk => (others k hk).trans (unmarked k hk), stalls, dram⟩
    · exact ringWritten_ends ((cfg .base w).trans (congrArg _ ((addr _ w).1 h)))
    · exact ringWritten_ends ((cfg .cpl w).trans (congrArg _ ((addr _ w).2.1 h)))
    · exact ringWritten_ends ((cfg .hwb w).trans (congrArg _ ((addr _ w).2.2 h)))

end Sys2Proof.Rings

namespace Sys2Proof.Rings
open Sys2Proof.Machine Sys2Proof.Safety Sys2Proof.Waking Sys2Proof.HostLink

/-! ### Preemption and resumption (R291-R293) -/

/-- PREEMPT_SUSPEND of the lane that a blocked Alarm candidate preempts (R292). -/
theorem exec_preemptSuspend {s x : State} {u : UnitId} {c : Cand} {n : StallId} {g : List BufD} {i : Nat} {rv : Bool}
    (noted : noteEligible s = x) (en : x.disp.preemptEn = true) (lane : unitPool u ≠ .bignum)
    (interval : intervalOk x (unitPool u) = true) (waits : memberWaits x (unitPool u) = false)
    (first : firstBlocked x (unitPool u) = some c) (preempted : preemptLane x (unitPool u) c.stall = some u)
    (cand : eligible x c.ring = some (n, g)) (run : x.units[u].run = some i) (slots : takeSlots x n true g.length = some rv) :
    exec (.preemptSuspend u) s = .next (settle (admitOn (setUnit x u fun y =>
      { y with run := none, suspended := some i, keyReg := none }) c.ring n g rv [u])) := by
  subst noted
  show execPreemptSuspend u s = _
  unfold execPreemptSuspend
  simp only [en, decide_eq_false lane, interval, waits, first, preempted, cand, run, slots, Bool.not_true, Bool.or_self,
    Bool.false_eq_true, ne_eq, not_true_eq_false, if_false]

/-- A load of a unit's key register puts the key there and changes nothing else (R347). -/
theorem loadReg_eq (s : State) (u : UnitId) (n : StallId) (d : Desc) (k : Key) (tag : List Byte) :
    ∃ r : KeyReg, r.key = k ∧ loadReg s u n d k tag = setUnit s u fun x => { x with keyReg := some r } := ⟨_, rfl, rfl⟩

/-- Two changes of a unit one after the other. -/
theorem setUnit_setUnit (s : State) (u : UnitId) (f g : UnitState → UnitState) :
    setUnit (setUnit s u f) u g = setUnit s u fun x => g (f x) :=
  congrArg (fun v => { s with units := v }) (upd_upd s.units u f g)

/-- A lane whose suspended request runs again, with a key register (R292). -/
def resumed (i : Nat) (r : Option KeyReg) (x : UnitState) : UnitState :=
  { x with run := some i, suspended := none, keyReg := r }

/-- SUSPENDED_RESUME of a lane whose Alarm request has gone: its key is loaded again (R292). -/
theorem exec_suspendedResume {s : State} {u : UnitId} {i : Nat} {q : Req} (suspended : s.units[u].suspended = some i)
    (idle : s.units[u].run = none) (good : s.units[u].fenced = false) (found : findReq s i = some q) :
    ∃ r : Option KeyReg, (r.map (·.key)) = q.key ∧ exec (.suspendedResume u) s = .next (setUnit s u (resumed i r)) := by
  have still : findReq (setUnit s u (resumed i none)) i = some q := found
  have done : exec (.suspendedResume u) s = execSuspendedResume u s := rfl
  unfold execSuspendedResume at done
  simp only [suspended, idle, good, Bool.not_true, Bool.or_self, Bool.false_eq_true, if_false] at done
  unfold resumed at still
  simp only [still] at done
  cases key : q.key with
  | none =>
    simp only [key] at done
    exact ⟨none, rfl, done⟩
  | some k =>
    obtain ⟨r, rfl, loads⟩ := loadReg_eq (setUnit s u (resumed i none)) u q.stall q.desc k q.keyTag
    unfold resumed at loads
    simp only [key, loads, setUnit_setUnit] at done
    exact ⟨some r, rfl, done⟩

/-! ### Requests started without a key (R255, R276) -/

/-- What reads named, sent or left waiting leave. -/
theorem readsMove_leaves {s t : State} (h : ReadsMove s t) :
    t.reqs = s.reqs ∧ t.units = s.units ∧ t.rings = s.rings ∧ t.hlt = s.hlt ∧ t.dram = s.dram := by
  rw [h.only]
  exact ⟨rfl, rfl, rfl, rfl, rfl⟩

/-- A request as it starts on a unit: it keeps its number, its descriptor, its slot and its ring. -/
structure StartedOn (u : UnitId) (q y : Req) : Prop where
  id : y.id = q.id
  started : y.started = true
  unit : y.unit = some u
  desc : y.desc = q.desc
  slot : y.slot = q.slot
  ring : y.ring = q.ring

/-- A unit that runs a request of its own. -/
def occupied (i : Nat) (u : UnitId) (x : UnitState) : UnitState :=
  { x with run := some i, held := false, coop := false, lead := BitVec.ofNat 3 (u.val - 48) }

/-- A request without a key as it starts on one unit. -/
def plainStart (q : Req) (u : UnitId) : Req :=
  startSpans { q with started := true, unit := some u, coop := [], key := none, handle := none, blob := none, granted := false,
                      effect := q.effect || false }

/-- A request without a key starts on one unit: it ends there when its lists are misaligned, or its reads follow (R242, R255). -/
theorem startReq_plain_eq {s : State} {q : Req} (u : UnitId) (key : q.desc.keySrc = 0) :
    startReq s q [u] =
      if listMisaligned q.desc then
        setReq (setUnit s u (occupied q.id u)) q.id fun _ => endReq (plainStart q u) 0x30 0x04
      else issueReads (setReq (setUnit s u (occupied q.id u)) q.id fun _ => plainStart q u) (plainStart q u) := by
  have clear : clearOther s [u] q.stall q.desc = s := by
    show (if holdsKey s u q.stall q.desc then s else if q.desc.keySrc = 0 then s else zeroKeyReg s u) = s
    rw [if_pos key, ite_self]
  have src : q.desc.keySrc.toNat = 0 := by rw [key]; rfl
  unfold startReq
  simp only [src, clear]
  rfl

/-- A request without a key starts on one unit: the unit runs it, and its reads follow (R255, R276). -/
theorem startReq_plain {s : State} {q : Req} (u : UnitId) (key : q.desc.keySrc = 0) : ∃ y, StartedOn u q y ∧
    ReadsMove (setReq (setUnit s u (occupied q.id u)) q.id fun _ => y) (startReq s q [u]) := by
  rw [startReq_plain_eq u key]
  split
  · exact ⟨endReq (plainStart q u) 0x30 0x04, ⟨rfl, rfl, rfl, rfl, rfl, rfl⟩, ReadsMove.refl _⟩
  · exact ⟨plainStart q u, ⟨rfl, rfl, rfl, rfl, rfl, rfl⟩, issueReads_moves _ _⟩

/-! ### Chain members (R255) -/

/-- A chain's next member that waits for its units, with none served before it in its pool (R255, R281). -/
structure MemberDue (s : State) (i : Nat) (q : Req) (p : Pool) : Prop where
  found : findReq s i = some q
  later : q.pos ≠ 0
  waits : q.started = false
  open' : q.done = none
  next : memberNext s q = true
  pool : opPool q.desc.opcode = some p
  engine : noEngine s q.stall q.desc = false
  interval : intervalOk s p = true
  first : memberAhead s q p = false

/-- A member of a pool without units starts at once when the pool takes it (R255, R509). -/
theorem MemberDue.unitless {s : State} {i : Nat} {q : Req} {p : Pool} (h : MemberDue s i q p) (kind : unitPoolKind p = false)
    (takes : poolTakes s p q.desc = true) : exec (.chainMemberStart i) s = .next (settle (placeMember s q p [])) := by
  obtain ⟨found, later, waits, open', next, pool, engine, interval, first⟩ := h
  show execChainMemberStart i s = _
  unfold execChainMemberStart memberMay
  simp [found, later, waits, open', next, pool, engine, interval, first, kind, takes]

/-- A member that needs one unit starts on the one chosen (R255, R276). -/
theorem MemberDue.onUnit {s : State} {i : Nat} {q : Req} {p : Pool} (h : MemberDue s i q p) (kind : unitPoolKind p = true)
    (one : unitsNeeded s q.desc ≤ 1) {u : UnitId} (unit : chooseUnit s q.stall q.alarm p q.desc = some u) :
    exec (.chainMemberStart i) s = .next (settle (placeMember s q p [u])) := by
  obtain ⟨found, later, waits, open', next, pool, engine, interval, first⟩ := h
  show execChainMemberStart i s = _
  unfold execChainMemberStart memberMay
  simp [found, later, waits, open', next, pool, engine, interval, first, kind, Nat.not_lt.2 one, unit]

/-- A member that needs several units begins to hold them, ahead of a candidate that would (R255, R277, R278). -/
theorem MemberDue.holds {s : State} {i : Nat} {q : Req} {p : Pool} (h : MemberDue s i q p) (kind : unitPoolKind p = true)
    (several : 1 < unitsNeeded s q.desc) (free : s.disp.coop = none) (early : s.disp.coopLate ≠ some (.member i)) :
    exec (.chainMemberStart i) s = .next (coopHold (dropHeld s) (.member i)) := by
  obtain ⟨found, later, waits, open', next, pool, engine, interval, first⟩ := h
  have id := findReq_id found
  show execChainMemberStart i s = _
  unfold execChainMemberStart memberMay
  simp [found, later, waits, open', next, pool, engine, interval, first, kind, several, free, early, id]

/-- A member without a key on its unit. -/
theorem placeMember_starts {s : State} {i : Nat} {q : Req} (found : findReq s i = some q) (p : Pool) (u : UnitId)
    (key : q.desc.keySrc = 0) : (placeMember s q p [u]).hlt = s.hlt ∧ (placeMember s q p [u]).dram = s.dram ∧
      (placeMember s q p [u]).units[u].run = some q.id ∧
      ∃ y, StartedOn u q y ∧ findReq (placeMember s q p [u]) q.id = some y := by
  obtain ⟨y, on, moves⟩ := startReq_plain (s := notePlaced s p q.stall q.ring) u key
  have placed : placeMember s q p [u] = startReq (notePlaced s p q.stall q.ring) q [u] := rfl
  rw [← placed] at moves
  have start : findReq (setUnit (notePlaced s p q.stall q.ring) u (occupied q.id u)) q.id = some q := by
    rw [findReq_id found]
    exact found
  obtain ⟨reqs, units, -, hlt, dram⟩ := readsMove_leaves moves
  refine ⟨hlt, dram, ?_, y, on, (findReq_congr reqs q.id).trans (findReq_setReq start on.id)⟩
  rw [units, setReq_units, setUnit_units, upd_self]
  rfl

/-! ### Cooperative holds (R278, R473) -/

/-- While something holds units, the units alone change as free ones are held for it (R278). -/
theorem coopGrab_holder {s : State} {x : StallId × Bool × Desc} (holder : coopHolder s = some x) : UnitsOnly s (coopGrab s) := by
  obtain ⟨n, alarm, d⟩ := x
  unfold coopGrab
  rw [holder]
  exact UnitsOnly.foldl (fun _ _ => setUnit_only _ _ _) _ s

/-- A member that waits for its units is what holds units, once it is said to. -/
theorem coopHolder_member {s : State} {i : Nat} {q : Req} (coop : s.disp.coop = some (.member i)) (found : findReq s i = some q)
    (waits : q.started = false) (open' : q.done = none) : coopHolder s = some (q.stall, q.alarm, q.desc) := by
  unfold coopHolder
  simp only [coop, found, waits, open', Option.isSome_none, Bool.or_self, Bool.false_eq_true, if_false]

/-- A member that waits for its units holds them once it begins to (R278). -/
theorem coopHold_member {s : State} {i : Nat} {q : Req} (found : findReq s i = some q) (waits : q.started = false)
    (open' : q.done = none) : (coopHold s (.member i)).disp.coop = some (.member i) := by
  have grabs {v : State} (coop : v.disp.coop = some (.member i)) (found : findReq v i = some q) :
      (coopGrab v).disp.coop = some (.member i) := by
    rw [coopGrab_holder (coopHolder_member coop found waits open')]
    exact coop
  exact grabs rfl found

/-- COOP_HOLD_COMPLETE of a candidate's set (R278). -/
theorem exec_coopHoldComplete_ring {s x : State} {r : RingId} {n : StallId} {b : BufD} {g : List BufD} {rv : Bool}
    (noted : coopGrab (noteEligible s) = x) (coop : x.disp.coop = some (.ring r)) (cand : eligible x r = some (n, b :: g))
    (enough : unitsNeeded x b.desc ≤ (heldUnits x).length) (ok : (ruling x n (b :: g)).1 = .ok)
    (slots : takeSlots x n (inBudget x.rings[r] (b :: g)) (g.length + 1) = some rv) (interval : intervalOk x .bignum = true) :
    exec .coopHoldComplete s = .next (settle (dropHeld (admitOn x r n (b :: g) rv (heldUnits x)))) := by
  subst noted
  show execCoopHoldComplete s = _
  unfold execCoopHoldComplete
  simp [coop, cand, Nat.not_lt.2 enough, ok, slots, interval, -Fin.getElem_fin]

/-- COOP_HOLD_COMPLETE of a member's set (R278). -/
theorem exec_coopHoldComplete_member {s x : State} {i : Nat} {q : Req}
    (noted : coopGrab (noteEligible s) = x) (coop : x.disp.coop = some (.member i)) (found : findReq x i = some q)
    (enough : unitsNeeded x q.desc ≤ (heldUnits x).length) (interval : intervalOk x .bignum = true) :
    exec .coopHoldComplete s = .next (settle (dropHeld (placeMember x q .bignum (heldUnits x)))) := by
  subst noted
  show execCoopHoldComplete s = _
  unfold execCoopHoldComplete
  simp [coop, found, Nat.not_lt.2 enough, interval]

/-- A hold given up, with the candidate or member that is to wait until enough units can take it (R473). -/
theorem exec_coopHoldTimeout (s : State) :
    Ends .coopHoldTimeout s fun t => DispatchOnly s t ∧ t.disp.coop = none ∧
      (∀ c, s.disp.coop = some c → t.disp.coopLate = some c) ∧
      ∀ u : UnitId, t.units[u] = { s.units[u] with held := false, testDue := t.units[u].testDue } := by
  have rotates := katNext_rotates { s with disp := { s.disp with coop := none }, units := vmap (fun x => { x with held := false }) s.units }
  have dropped : dropHeld s = katNext _ := rfl
  rw [← dropped] at rotates
  refine ⟨_, rfl, ?_, rotates.coop, fun c coop => ?_, fun u => ?_⟩
  · have only := dropHeld_only s
    exact DispatchOnly.trans only rfl
  · simp [coop]
  · have unit := rotates.units u
    rw [vmap_get] at unit
    exact unit

/-- Settles O20: each command by its own equation; a member without a key runs on its unit, and one that waits for several
holds them. -/
theorem placementsOnUnits : Obligations.PlacementsOnUnits := by
  intro s
  refine ⟨fun u c n g i rv en lane interval waits first preempted cand run slots =>
      exec_preemptSuspend rfl en lane interval waits first preempted cand run slots,
    fun u i q suspended idle good found => ?_, fun i q p found later waits open' next pool engine interval first => ?_,
    fun r n b g rv coop cand enough ok slots interval => exec_coopHoldComplete_ring rfl coop cand enough ok slots interval,
    fun i q coop found enough interval => exec_coopHoldComplete_member rfl coop found enough interval, exec_coopHoldTimeout s⟩
  · obtain ⟨r, key, done⟩ := exec_suspendedResume suspended idle good found
    have self : (setUnit s u (resumed i r)).units[u] = resumed i r s.units[u] := upd_self _ _ _
    refine ⟨_, done, rfl, (congrArg UnitState.run self).trans rfl, (congrArg UnitState.suspended self).trans rfl, ?_,
      fun v hv => upd_other _ _ hv.symm⟩
    rw [self]
    exact key
  · have due : MemberDue s i q p := ⟨found, later, waits, open', next, pool, engine, interval, first⟩
    refine ⟨due.unitless, fun kind one u unit => ⟨due.onUnit kind one unit, fun quiet key => ?_⟩, fun kind several free early _ =>
      ⟨due.holds kind several free early, ?_⟩⟩
    · obtain ⟨hlt, dram, run, y, on, placed⟩ := placeMember_starts found p u key
      have done := due.onUnit kind one unit
      rw [settle_of_quiet (by rw [hlt]; exact quiet)] at done
      exact ⟨_, done, run, by rw [placed, Option.map_some, on.started, on.unit], dram⟩
    · refine coopHold_member (q := q) ?_ waits open'
      exact (findReq_congr (dropHeld_core s).reqs i).trans found

end Sys2Proof.Rings

namespace Sys2Proof.Rings
open Sys2Proof.Machine Sys2Proof.Safety Sys2Proof.Waking Sys2Proof.HostLink

/-! ### What a store to local memory can change -/

/-- Only the Manger, the memory channels, the scrubber and the stalls' counts change. -/
def PutOnly (s t : State) : Prop := t = { s with mgr := t.mgr, dram := t.dram, mcs := t.mcs, scb := t.scb, stalls := t.stalls }

/-- Two such changes one after the other. -/
theorem PutOnly.trans {s t u : State} (h : PutOnly s t) (g : PutOnly t u) : PutOnly s u := by
  unfold PutOnly at *
  rw [g, h]

/-- Either of two such changes. -/
theorem PutOnly.ite {s t u : State} {c : Prop} [Decidable c] (h : PutOnly s t) (g : PutOnly s u) :
    PutOnly s (if c then t else u) := by
  split <;> assumption

/-- A change of the Manger and the channels alone is one. -/
theorem PutOnly.of_stored {s t : State} (h : StoredOnly s t) : PutOnly s t := by
  unfold PutOnly
  rw [h]

/-- Bytes written straight to the channel. -/
theorem channelPut_only (s : State) (ws : List (Nat × Byte)) : PutOnly s (channelPut s ws) := by
  have page (c : Bool) (a : Nat) : PutOnly s (if c then s else pageWritten s a) := by split <;> rfl
  exact PutOnly.ite rfl ((page ws.isEmpty _).trans rfl)

/-- Bytes of sectors that a line does not hold. -/
theorem mergeRest_only (s : State) (x : Line) (ws : List (Nat × Byte)) : PutOnly s (mergeRest s x ws) := by
  have page (c : Bool) (a : Nat) : PutOnly s (if c then pageWritten s a else s) := by split <;> rfl
  exact (page (ws.any fun w => !bit (x.valid ||| wholeSectors ws) (w.1 % 512 / 64)) _).trans rfl

/-- Writes accepted by a home slice (R531, R619). -/
theorem slicePut_only (s : State) (b : By) (l : LineNo) (ws : List (Nat × Byte)) : PutOnly s (slicePut s b l ws) := by
  have put (u : State) (x : Line) : PutOnly u (putLine u x) := rfl
  have counted : PutOnly s (if mayAllocate s b l then s else countBypass s b.who) := by
    refine PutOnly.ite rfl ?_
    unfold countBypass
    split <;> rfl
  unfold slicePut
  refine PutOnly.ite rfl ?_
  split
  · rename_i x _
    split
    · exact put _ _
    · exact put _ _
    · exact put _ _
    · refine PutOnly.ite rfl ((mergeRest_only s x ws).trans ?_)
      exact PutOnly.ite ((PutOnly.of_stored (writeBack_stored _ _)).trans (put _ _)) (put _ _)
  · exact PutOnly.ite (counted.trans (channelPut_only _ ws)) ((mergeRest_only s _ ws).trans (put _ _))

/-- A run of bytes written to local memory. -/
theorem localPut_only (s : State) (b : By) (a : Nat) (bs : List Byte) : PutOnly s (localPut s b a bs) := by
  unfold localPut
  dsimp only
  generalize List.range _ = l
  induction l generalizing s with
  | nil => exact rfl
  | cons i l ih => exact (slicePut_only s b _ _).trans (ih _)

/-- A tally bumped leaves the requests (R350). -/
theorem bump_reqs (s : State) (n : StallId) (a : Nat) : (bump s n a).reqs = s.reqs := by
  have only : PutOnly s (bump s n a) := localPut_only s _ a _
  rw [only]

/-! ### Candidates served (R249, R275-R278) -/

section
variable {u : State} {r : RingId} {n : StallId} {g : List BufD} {rv : Bool} (cand : eligible u r = some (n, g))
  (slots : takeSlots u n (inBudget u.rings[r] g) g.length = some rv)
include cand slots

/-- A candidate that fails a check is rejected (R249). -/
theorem serve_rejects (bad : (ruling u n g).1 ≠ .ok) : serve u r = reject u r n g (ruling u n g).1 (ruling u n g).2 rv := by
  unfold serve
  simp only [cand, slots, ne_eq, bad, not_false_eq_true, if_true]

/-- A candidate whose opcode has no pool is admitted at once. -/
theorem serve_poolless (ok : (ruling u n g).1 = .ok) {b : BufD} (head : g.head? = some b) (pool : opPool b.desc.opcode = none) :
    serve u r = admitOn u r n g rv [] := by
  unfold serve
  simp only [cand, slots, ok, head, pool, ne_eq, not_true_eq_false, if_false, Option.map_some, Option.bind_some]

section
variable (ok : (ruling u n g).1 = .ok) {p : Pool} {b : BufD} (head : g.head? = some b) (pool : opPool b.desc.opcode = some p)
  (first : (firstOf u p).map (·.ring) = some r) (interval : intervalOk u p = true) (waits : memberWaits u p = false)
include ok head pool first interval waits

/-- A candidate of a pool without units is admitted when the pool serves it first (R275, R277). -/
theorem serve_unitless (kind : unitPoolKind p = false) : serve u r = admitOn u r n g rv [] := by
  unfold serve
  simp [cand, slots, ok, head, pool, first, interval, waits, kind, -Fin.getElem_fin]

/-- A candidate that needs one unit is admitted on the one chosen (R276). -/
theorem serve_onUnit (kind : unitPoolKind p = true) (one : unitsNeeded u b.desc ≤ 1) {x : UnitId}
    (unit : chooseUnit u n (inBudget u.rings[r] g) p b.desc = some x) : serve u r = admitOn u r n g rv [x] := by
  unfold serve
  simp [cand, slots, ok, head, pool, first, interval, waits, kind, Nat.not_lt.2 one, unit, -Fin.getElem_fin]

end
end

/-! ### A candidate of one descriptor that reserves no lines -/

/-- It makes no reservation (R254, R391, R473). -/
theorem reserveAll_single {s : State} {n : StallId} {b : BufD} {q : Req} (desc : q.desc = b.desc) (lines : linesNeeded [b] = 0) :
    reserveAll s n [q] = s := by
  have sum : linesNeeded [b] = 0 + ((if b.desc.dstSel = 3 then b.desc.interLines else 0) + vbrLines b.desc + coopLines b.desc) := rfl
  have inter : (0 + if q.desc.dstSel = 3 then q.desc.interLines else 0) = 0 := by rw [desc]; omega
  have vbr : vbrLines q.desc = 0 := by rw [desc]; omega
  have coop : coopLines q.desc = 0 := by rw [desc]; omega
  unfold reserveAll
  simp [inter, vbr, coop]


section
variable {u : State} {r : RingId} {n : StallId} {b : BufD} {rv : Bool} (lines : linesNeeded [b] = 0)
include lines

/-- A candidate of one descriptor that needs one unit starts there. -/
theorem admitOn_single {p : Pool} (pool : opPool b.desc.opcode = some p) (x : UnitId) :
    admitOn u r n [b] rv [x] =
      startReq (notePlaced (takeCandidate u r [b] [mkReq u r n [b] 0 b rv]) p n r) (mkReq u r n [b] 0 b rv) [x] := by
  have free := reserveAll_single (s := takeCandidate u r [b] [mkReq u r n [b] 0 b rv]) (n := n) (q := mkReq u r n [b] 0 b rv)
    (b := b) rfl lines
  have reqs : mkReqs u r n [b] rv = [mkReq u r n [b] 0 b rv] := rfl
  unfold admitOn
  simp only [reqs, free, List.head?_cons, Option.bind_some, pool]

/-- NOP is admitted, and that is all (R246). -/
theorem admitOn_nop (nop : b.desc.opcode = 0xF1) :
    admitOn u r n [b] rv [] = takeCandidate u r [b] [mkReq u r n [b] 0 b rv] := by
  have free := reserveAll_single (s := takeCandidate u r [b] [mkReq u r n [b] 0 b rv]) (n := n) (q := mkReq u r n [b] 0 b rv)
    (b := b) rfl lines
  have pool : opPool b.desc.opcode = none := by rw [nop]; rfl
  have other : (mkReq u r n [b] 0 b rv).desc.opcode ≠ 0xF0 := by
    show b.desc.opcode ≠ 0xF0
    rw [nop]
    decide
  have reqs : mkReqs u r n [b] rv = [mkReq u r n [b] 0 b rv] := rfl
  unfold admitOn
  simp only [reqs, free, List.head?_cons, Option.bind_some, pool, if_neg other]

/-- A candidate of one descriptor without a key, admitted on a unit: the unit runs it (R249, R276). -/
theorem admitOn_starts {p : Pool} (pool : opPool b.desc.opcode = some p) (key : b.desc.keySrc = 0) (x : UnitId) :
    let t := admitOn u r n [b] rv [x]
    t.hlt = u.hlt ∧ t.rings[r].adm = ringNext u.rings[r] u.rings[r].adm 1 ∧ t.units[x].run = some u.nextId ∧
      t.reqs.length = u.reqs.length + 1 ∧
      ∃ q ∈ t.reqs, q.id = u.nextId ∧ q.started = true ∧ q.unit = some x ∧ q.desc = b.desc ∧ q.slot = b.slot ∧ q.ring = r := by
  dsimp only
  rw [admitOn_single lines pool x]
  generalize hq : mkReq u r n [b] 0 b rv = q
  have qid : q.id = u.nextId := by subst hq; rfl
  have slot : q.slot = b.slot ∧ q.ring = r ∧ q.desc = b.desc := by subst hq; exact ⟨rfl, rfl, rfl⟩
  obtain ⟨slot, ring, desc⟩ := slot
  obtain ⟨y, on, moves⟩ := startReq_plain (s := notePlaced (takeCandidate u r [b] [q]) p n r) (q := q) x (by rw [desc]; exact key)
  obtain ⟨reqs, units, rings, hlt, -⟩ := readsMove_leaves moves
  have changed : (startReq (notePlaced (takeCandidate u r [b] [q]) p n r) q [x]).reqs =
      (u.reqs ++ [q]).map fun z => if z.id = q.id then y else z := reqs
  refine ⟨hlt, ?_, ?_, ?_, y, ?_, ?_⟩
  · rw [rings]
    exact congrArg Ring.adm (upd_self u.rings r _)
  · rw [units, setReq_units, setUnit_units, upd_self, ← qid]
    rfl
  · rw [changed, List.length_map, List.length_append, List.length_singleton]
  · rw [changed, List.map_append, List.mem_append]
    exact .inr (by simp)
  · exact ⟨on.id.trans qid, on.started, on.unit, on.desc.trans desc, on.slot.trans slot, on.ring.trans ring⟩

end

/-! ### Rejections (R249, R350, R795) -/

/-- A denial logged leaves the requests (R188). -/
theorem logDeny_reqs (s : State) (who : Option StallId) (k : PkResult) : (logDeny s who k).reqs = s.reqs := by
  cases k <;> rfl

/-- The event that a ruling raises leaves the requests. -/
theorem rulingEvent_reqs (s : State) (g : List BufD) (v : Ruling) : (rulingEvent s g v).reqs = s.reqs := by
  have short (d : Desc) : (coopShort s d).reqs = s.reqs := by
    unfold coopShort
    split
    · rw [raiseEv_only s 295 false]
    · rfl
  unfold rulingEvent
  split
  · split
    · exact short _
    · rfl
  · rfl

/-- A rejected candidate's members join the admitted requests, each with its record. -/
theorem reject_reqs (s : State) (r : RingId) (n : StallId) (g : List BufD) (v : Ruling) (log : PkResult) (rv : Bool) :
    (reject s r n g v log rv).reqs = s.reqs ++ (mkReqs s r n g rv).map fun q => spentMark v (rejected v q) := by
  have spent : (match spentTally s n g v with
      | some a => bump s n a
      | none => s).reqs = s.reqs := by
    split
    · exact bump_reqs s n _
    · rfl
  refine congrArg (· ++ _) ?_
  exact (rulingEvent_reqs _ g v).trans ((logDeny_reqs _ _ log).trans spent)

/-! ### Chains that are too long (R795) -/

/-- One element made of each of a list's, by its place. -/
theorem filterMap_range_get {α β : Type} (f : Nat → α → β) (l : List α) :
    ((List.range l.length).filterMap fun k => (l[k]?).map (f k)) = l.mapIdx f := by
  induction l generalizing f with
  | nil => rfl
  | cons a l ih =>
    have tail := ih fun k => f (k + 1)
    rw [List.length_cons, List.range_succ_eq_map, List.mapIdx_cons, ← tail]
    simp [List.filterMap_map]

/-- The record of a member of a chain that is too long. -/
theorem overlongReq_spec (s : State) (r : RingId) (n : StallId) (chain first k : Nat) (b : BufD) (rv : Bool) :
    let q := overlongReq s r n chain first k b rv
    q.ring = r ∧ q.stall = n ∧ q.skipped = decide (q.pos ≠ 0) ∧
      ∃ e, q.done = some e ∧ e.status = 0x30 ∧ e.detail = if q.pos = 0 then 0x05 else 0 := by
  unfold overlongReq
  by_cases head : first + k = 0
  · simp only [head, if_true]
    exact ⟨rfl, rfl, by simp [endReq, mkReq], _, rfl, rfl, rfl⟩
  · simp only [if_neg head]
    exact ⟨rfl, rfl, (decide_eq_true head).symm, _, rfl, rfl, (if_neg head).symm⟩

/-- CHAIN_OVERLENGTH_REJECT of a run of members: each leaves the descriptor buffer with its record (R795). -/
theorem exec_chainOverlengthReject {s : State} {r : RingId} {n : StallId} {rv : Bool} (owner : s.rings[r].owner = some n)
    (members : overlongRun s.rings[r] ≠ []) (may : overlongMay s r (overlongRun s.rings[r]) = true)
    (slots : takeSlots s n (inBudget s.rings[r] (overlongRun s.rings[r])) (overlongRun s.rings[r]).length = some rv) :
    ∃ (chain first : Nat) (y : Ring → Ring), exec (.chainOverlengthReject r) s = .next (setRing (takeCandidate s r (overlongRun s.rings[r])
      ((overlongRun s.rings[r]).mapIdx fun k b => overlongReq s r n chain first k b rv)) r y) := by
  have done : exec (.chainOverlengthReject r) s = execChainOverlengthReject r s := rfl
  have nonempty : (overlongRun s.rings[r]).isEmpty = false := by simpa using members
  unfold execChainOverlengthReject at done
  simp only [owner, nonempty, may, slots, Bool.not_true, Bool.or_self, Bool.false_eq_true, if_false, filterMap_range_get] at done
  exact ⟨_, _, _, done⟩

/-! ### What noting and holding leave -/

/-- Holding units changes the Dispatcher's state and the units alone (R278). -/
theorem coopGrab_only (s : State) : DispatchOnly s (coopGrab s) := by
  unfold coopGrab
  split
  · exact DispatchOnly.foldl (fun _ _ => (setUnit_only _ _ _).dispatch) _ s
  · exact DispatchOnly.ite (DispatchOnly.refl s) (dropHeld_only s)

/-- Noting eligibility and holding units store nothing (R278, R279, R301). -/
theorem noted_dram (s : State) : (coopGrab (noteEligible s)).dram = s.dram := by
  have grab (u : State) : (coopGrab u).dram = u.dram := by
    rw [coopGrab_only u]
  have ring (u : State) (r : RingId) : (noteRing u r).dram = u.dram := by
    unfold noteRing
    split
    · rfl
    · dsimp only
      split <;> rfl
  have raised (u : State) (c : Bool) : (if c then raiseEv u 296 else u).dram = u.dram := by
    cases c
    · rfl
    · show (raiseEv u 296).dram = _
      rw [raiseEv_only u 296 false]
  have starved (u : State) : (noteStarved u).dram = u.dram := by
    unfold noteStarved
    extract_lets
    exact (raised _ _).trans ((raised _ _).trans (raised _ _))
  have all : (noteEligible s).dram = s.dram := by
    unfold noteEligible
    rw [starved]
    refine foldl_keeps (g := State.dram) (fun u r => ?_) _ s
    split
    · rfl
    · exact ring u r
  exact (grab (noteEligible s)).trans all

/-- CANDIDATE_ADMISSION serves the ring after noting. -/
theorem exec_candidateAdmission {s u : State} (noted : coopGrab (noteEligible s) = u) (r : RingId) :
    exec (.candidateAdmission r) s = .next (settle (serve u r)) := by
  subst noted
  rfl

/-- Settles O19: `serve` in the four ways a candidate can go, and the run of a chain that is too long. -/
theorem admissionTakesTheCandidate : Obligations.AdmissionTakesTheCandidate := by
  intro s r n
  refine ⟨fun g rv => ?_, fun rv => ?_⟩
  · dsimp only
    have dram := noted_dram s
    generalize noted : coopGrab (noteEligible s) = u at dram ⊢
    intro cand slots
    have done := exec_candidateAdmission noted r
    refine ⟨fun p ok pool first interval waits => ?_, fun ok b one nop lines quiet => ?_, fun bad => ⟨?_, reject_reqs u r n g _ _ rv⟩⟩
    · obtain ⟨b, head, pool⟩ := Option.bind_eq_some_iff.1 pool
      refine ⟨fun kind => ?_, fun kind b' x head' needs unit => ?_⟩
      · rw [done, serve_unitless cand slots ok head pool first interval waits kind]
      · obtain rfl : b' = b := Option.some.inj (head'.symm.trans head)
        rw [serve_onUnit cand slots ok head pool first interval waits kind needs unit] at done
        refine ⟨done, fun quiet one lines key => ?_⟩
        subst one
        obtain ⟨hlt, starts⟩ := admitOn_starts (u := u) (r := r) (n := n) (rv := rv) lines pool key x
        rw [settle_of_quiet (by rw [hlt]; exact quiet)] at done
        exact ⟨_, done, starts⟩
    · subst one
      have pool : opPool b.desc.opcode = none := by rw [nop]; rfl
      rw [serve_poolless cand slots ok rfl pool, admitOn_nop lines nop, settle_of_quiet (by exact quiet)] at done
      exact ⟨_, done, rfl, congrArg Ring.adm (upd_self u.rings r _), dram⟩
    · rw [done, serve_rejects cand slots bad]
  · dsimp only
    intro owner nonempty may slots
    obtain ⟨chain, first, y, done⟩ := exec_chainOverlengthReject owner nonempty may slots
    refine ⟨_, done, ?_, fun q hq => ?_, rfl, rfl, rfl⟩
    · show (s.reqs ++ List.mapIdx _ _).length = _
      rw [List.length_append, List.length_mapIdx]
    · have mem : q ∈ s.reqs ++ (overlongRun s.rings[r]).mapIdx fun k b => overlongReq s r n chain first k b rv := hq
      refine (List.mem_append.1 mem).imp_right fun made => ?_
      obtain ⟨k, b, -, rfl⟩ := List.mem_mapIdx.1 made
      exact overlongReq_spec s r n chain first k _ rv

end Sys2Proof.Rings

namespace Sys2Proof.Rings
open Sys2Proof.Machine Sys2Proof.Safety Sys2Proof.Waking Sys2Proof.HostLink

/-! ### A blob's key taken, refused, or in doubt (R315, R333, R348) -/

/-- What a unit's register holds after a load of a register. -/
theorem loadReg_holds (s : State) (v u : UnitId) (n : StallId) (d : Desc) (k : Key) (tag : List Byte) :
    ((loadReg s v n d k tag).units[u].keyReg.map (·.key)) = if v = u then some k else s.units[u].keyReg.map (·.key) := by
  obtain ⟨r, rfl, loads⟩ := loadReg_eq s v n d k tag
  rw [loads, setUnit_units, upd_get]
  split <;> rfl

/-- Registers loaded one after the other: every unit of the list holds the key, and nothing else than units changes. -/
theorem loadRegs_spec (n : StallId) (d : Desc) (k : Key) (tag : List Byte) (us : List UnitId) (s : State) :
    let t := us.foldl (fun s u => loadReg s u n d k tag) s
    UnitsOnly s t ∧ ∀ u : UnitId, u ∈ us ∨ (s.units[u].keyReg.map (·.key)) = some k → (t.units[u].keyReg.map (·.key)) = some k := by
  refine ⟨UnitsOnly.foldl (fun _ _ => setUnit_only _ _ _) us s, ?_⟩
  induction us generalizing s with
  | nil => exact fun u h => h.resolve_left List.not_mem_nil
  | cons v us ih =>
    intro u h
    refine ih (loadReg s v n d k tag) u ?_
    rw [loadReg_holds]
    by_cases same : v = u
    · exact .inr (if_pos same)
    · rw [if_neg same]
      exact h.imp_left fun mem => (List.mem_cons.1 mem).resolve_left (Ne.symm same)

/-- A key is loaded on every unit of its request, and nothing else than units changes (R347). -/
theorem loadUnits_spec (s : State) (q : Req) (k : Key) (tag : List Byte) : UnitsOnly s (loadUnits s q k tag) ∧
    ∀ u ∈ q.unit.toList ++ q.coop, ((loadUnits s q k tag).units[u].keyReg.map (·.key)) = some k := by
  obtain ⟨only, holds⟩ := loadRegs_spec q.stall q.desc k tag (q.unit.toList ++ q.coop).dedup s
  exact ⟨only, fun u hu => holds u (.inl (List.mem_dedup.2 hu))⟩

/-- A blob's key without a tally that its request may use. -/
structure Usable (s : State) (q : Req) (k : Key) : Prop where
  attr : attrErr s q.stall q.desc k.attr (decide (k.tallyAddr ≠ 0)) = none
  size : ¬ (q.desc.opcode = 0x71 ∧ q.members = 1 ∧ 256 < klen k.attr)
  tally : k.tallyAddr = 0

/-- A request that has its blob's key. -/
def keyed (k : Key) (tag : List Byte) (x : Req) : Req :=
  { x with key := some k, keyTag := tag, granted := true, effect := x.effect || decide (k.tallyAddr ≠ 0) }

/-- A blob's key used: it is loaded and noted with the request (R325, R350). -/
theorem useBlobKey_eq {s : State} {q : Req} {k : Key} (h : Usable s q k) (tag : List Byte) :
    useBlobKey s q k tag = setReq (loadUnits s q k tag) q.id (keyed k tag) := by
  obtain ⟨attr, size, tally⟩ := h
  have grant : grantUse s q.stall q.epoch q.tally k = (s, none) := if_pos tally
  unfold useBlobKey
  simp only [attr, if_neg size, grant]
  rfl

/-- A command that uses a blob's key: the request and each of its units have it. -/
theorem takes_of_uses {c : Instr} {s : State} {i : Nat} {q : Req} {k : Key} {tag : List Byte} (quiet : Quiet s)
    (found : findReq s i = some q) (may : Usable s q k) (done : exec c s = .next (settle (useBlobKey s q k tag))) :
    Ends c s fun t => (findReq t i).bind (·.key) = some k ∧
      (∀ u ∈ q.unit.toList ++ q.coop, (t.units[u].keyReg.map (·.key)) = some k) ∧ t.dram = s.dram ∧ t.mgr = s.mgr := by
  obtain ⟨only, holds⟩ := loadUnits_spec s q k tag
  rw [useBlobKey_eq may, findReq_id found] at done
  generalize loadUnits s q k tag = u at only holds done
  have same : findReq u i = some q := by
    rw [only]
    exact found
  have changed := findReq_setReq (g := keyed k tag) same (by exact (findReq_id found : q.id = i))
  rw [settle_of_quiet (by rw [only]; exact quiet)] at done
  refine ⟨_, done, by rw [changed]; rfl, holds, ?_, ?_⟩ <;> rw [only] <;> rfl

section
variable {s : State} {i : Nat} {q : Req} (found : findReq s i = some q)
  (due : (!q.started || q.done.isSome || q.key.isSome || decide (q.desc.keySrc ≠ 2) || !blobReady q) = false)
include found due

/-- A register that holds the key under the blob's TAG is used again (R348). -/
theorem exec_blobUnwrapDone_reused (agree : Bool) {k : Key} (reused : reusedKey s q = some k) :
    exec (.blobUnwrapDone i agree) s = .next (settle (useBlobKey s q k (blobTagOf q))) := by
  show execBlobUnwrapDone i agree s = _
  unfold execBlobUnwrapDone
  simp only [found, due, reused, Bool.false_eq_true, if_false]

section
variable (fresh : reusedKey s q = none)
include fresh

/-- A blob whose tag verifies gives its key (R333). -/
theorem exec_blobUnwrapDone_key {k : Key} {tag : List Byte} (opens : unwrapBlob s q.stall (q.blob.getD []) = .key k tag) :
    exec (.blobUnwrapDone i true) s = .next (settle (useBlobKey s q k tag)) := by
  show execBlobUnwrapDone i true s = _
  unfold execBlobUnwrapDone
  simp only [found, due, fresh, opens, Bool.not_true, Bool.false_eq_true, if_false]

/-- A bad blob ends its request (R333). -/
theorem exec_blobUnwrapDone_bad {dt : Byte} (bad : unwrapBlob s q.stall (q.blob.getD []) = .bad dt) :
    exec (.blobUnwrapDone i true) s = .next (failReq s i 0x21 dt) := by
  show execBlobUnwrapDone i true s = _
  unfold execBlobUnwrapDone
  simp only [found, due, fresh, bad, Bool.not_true, Bool.false_eq_true, if_false]

/-- Cores that disagree end the request INTERNAL with HS79 (R315). -/
theorem exec_blobUnwrapDone_mismatch :
    exec (.blobUnwrapDone i false) s = .next (settle (raiseHs (failReq s i 0x7F 0) 79 none)) := by
  show execBlobUnwrapDone i false s = .next (settle (coreMismatch s i))
  unfold execBlobUnwrapDone
  simp only [found, due, fresh, Bool.not_false, Bool.false_eq_true, if_true, if_false]

end
end

/-! ### Stores posted (R262, R619) -/

/-- No byte is raced where no other chain has written (R262). -/
theorem racedBytes_alone {s : State} {q : Req} (alone : ∀ o ∈ s.reqs, o.chain ≠ q.chain → o.wrote = []) (a : Nat) (bs : List Byte) :
    racedBytes s q a bs = bs := by
  have silent : (s.reqs.filter fun o => decide (o.chain ≠ q.chain)).flatMap (·.wrote) = [] := by
    refine List.flatMap_eq_nil_iff.2 fun o ho => ?_
    obtain ⟨mem, other⟩ := List.mem_filter.1 ho
    exact alone o mem (of_decide_eq_true other)
  unfold racedBytes
  simp only [silent, List.isEmpty_nil, if_true]

/-- A store to local memory keeps its request, noted. -/
theorem localStore_found {s : State} {i : Nat} {q : Req} (found : findReq s i = some q) (a : Nat) (bs : List Byte) :
    findReq (localStore s q a bs) i = some { q with wrote := q.wrote ++ [(a, bs.length)] } := by
  obtain rfl := findReq_id found
  have put (bs' : List Byte) : findReq (setReq (localPut s (byReq q) a bs') q.id fun x => { x with wrote := x.wrote ++ [(a, bs.length)] })
      q.id = some { q with wrote := q.wrote ++ [(a, bs.length)] } := by
    refine findReq_setReq (q := q) (g := fun x => { x with wrote := x.wrote ++ [(a, bs.length)] }) ?_ rfl
    rw [localPut_only]
    exact found
  unfold localStore
  dsimp only
  split <;> exact put _

/-- A store to local memory of a chain that is alone is its write (R619). -/
theorem localStore_alone {s : State} {q : Req} (alone : ∀ o ∈ s.reqs, o.chain ≠ q.chain → o.wrote = []) (a : Nat) (bs : List Byte) :
    (localStore s q a bs).dram = (localPut s (byReq q) a bs).dram ∧ (localStore s q a bs).mgr = (localPut s (byReq q) a bs).mgr := by
  unfold localStore
  simp only [racedBytes_alone alone, if_true]
  exact ⟨rfl, rfl⟩

section
variable {s : State} {i : Nat} {q : Req} {d : Done} {x : Store} {l : List Store} (found : findReq s i = some q)
  (done : q.done = some d) (stores : q.stores = x :: l) (waits : vbrWaits q d = false)
include found done stores waits

/-- SLICE_WRITE of a store to local memory that the Manger takes. -/
theorem exec_sliceWrite_local {a : Nat} (dest : x.dest = .locl a) (taken : accessHeld s a = false) :
    exec (.sliceWrite i) s = .next (setReq (localStore s q a x.bytes) i fun y => { y with stores := l }) := by
  show execSliceWrite i s = _
  unfold execSliceWrite
  simp only [found, done, stores, waits, dest, postStore, taken, Bool.false_eq_true, if_false]

/-- SLICE_WRITE of a store to an intermediate. -/
theorem exec_sliceWrite_inter {j : Fin 8} {off : Nat} (dest : x.dest = .inter j off) :
    exec (.sliceWrite i) s = .next (setReq (interPut s q.chain j off x.bytes) i fun y => { y with stores := l }) := by
  show execSliceWrite i s = _
  unfold execSliceWrite
  simp only [found, done, stores, waits, dest, postStore, Bool.false_eq_true, if_false]

end

/-- VBR_RELEASE of a request whose tag has matched (R392). -/
theorem exec_vbrRelease {s : State} {i : Nat} {q : Req} {d : Done} (found : findReq s i = some q) (done : q.done = some d)
    (waits : vbrWaits q d = true) :
    exec (.vbrRelease i) s = .next (freeUnits (setReq s i fun y => { y with released := true }) i) := by
  show execVbrRelease i s = _
  unfold execVbrRelease
  simp only [found, done, waits, if_true]

/-! ### Events owed for records (R250, R613) -/

/-- Events owed raised. -/
theorem owedRaise_only (s : State) (n : StallId) (o : Bool × Bool × Bool) : RaiseOnly s (owedRaise s n o) := by
  unfold owedRaise
  exact (RaiseOnly.ite (raiseEv_only s (evDone n) _) (RaiseOnly.refl s)).trans
    (RaiseOnly.ite (raiseEv_only _ (evError n) _) (RaiseOnly.refl _))

/-- A list of events owed raised. -/
theorem owedRaises_only (n : StallId) (l : List (Bool × Bool × Bool)) (s : State) :
    RaiseOnly s (l.foldl (fun s o => owedRaise s n o) s) := by
  induction l generalizing s with
  | nil => exact RaiseOnly.refl s
  | cons o l ih => exact (owedRaise_only s n o).trans (ih _)

/-- A completion event owed is raised on the function of the stall's world (R265). -/
theorem owedRaise_done (s : State) (n : StallId) {o : Bool × Bool × Bool} (owed : o.1 = true) :
    (evSrc (owedRaise s n o) (worldFn s n) (evDone n)).cause = true := by
  have raised : (evSrc (raiseEv s (evDone n) o.2.2) (worldFn s n) (evDone n)).cause = true :=
    (raiseEv_self o.2.2 (evAllowed_stall s n (by simp [evDone]))).1
  have other : evError n ≠ evDone n := fun h => by simpa [evError, evDone] using congrArg Fin.val h
  unfold owedRaise
  rw [if_pos owed]
  dsimp only
  split
  · rw [raiseEv_other _ _ _ other]
    exact raised
  · exact raised

/-! ### Records committed (R250, R613) -/

/-- HEAD advanced keeps the count of records and the ring's settings. -/
theorem advanceHead_keeps (n : Nat) (x : Ring) : (advanceHead n x).posted = x.posted ∧ (advanceHead n x).hwbEn = x.hwbEn := by
  induction n generalizing x with
  | zero => exact ⟨rfl, rfl⟩
  | succ n ih =>
    unfold advanceHead
    split
    · exact ih _
    · exact ⟨rfl, rfl⟩

/-- A ring once a request's record has posted. -/
def ringPosted (q : Req) (x : Ring) : Ring :=
  { slotPosted x q.slot q.desc.tag with fence := if x.fence = some q.id then none else x.fence }

/-- It has one record more, and its settings. -/
theorem ringPosted_spec (q : Req) (x : Ring) : (ringPosted q x).posted = x.posted + 1 ∧ (ringPosted q x).hwbEn = x.hwbEn :=
  advanceHead_keeps _ _

/-- A request gone from the Entropy Block and the admitted requests, and its slot posted. -/
def requestGone (s : State) (q : Req) : State :=
  let u := dropDraws s fun i => decide (i = q.id)
  setRing { u with reqs := u.reqs.filter fun o => decide (o.id ≠ q.id) } q.ring (ringPosted q)

/-- The state once a request's record has posted, before HEAD is told. -/
def recorded (s : State) (q : Req) (d : Done) : State :=
  sweepDropped (skipLater (requestGone (freeUnits (dropNoReuse (countReq s q d) q) q.id) q) q d)

/-- HEAD told to the ring's register, or left to its head record, whose events then wait (R232, R250). -/
def headTold (s : State) (q : Req) (d : Done) (before : BitVec 16) : State :=
  if s.rings[q.ring].hwbEn ∧ s.rings[q.ring].head ≠ before then setRing s q.ring fun x => { x with owed := x.owed ++ [owedOf q d] }
  else owedRaise (if s.rings[q.ring].hwbEn then s else setRing s q.ring fun x => { x with dbHead := x.head, headDue := false })
    q.stall (owedOf q d)

/-- A record committed, in these two parts. -/
theorem committed_eq (s : State) (q : Req) (d : Done) : ∃ before, committed s q d = headTold (recorded s q d) q d before := ⟨_, rfl⟩

/-- What a record leaves, and the ring that it is for. -/
structure Recorded (q : Req) (s t : State) : Prop where
  link : t.link = s.link
  stalls : t.stalls = s.stalls
  dram : t.dram = s.dram
  hlt : t.hlt = s.hlt
  evt : t.evt = s.evt
  ring : t.rings[q.ring] = ringPosted q s.rings[q.ring]
  others : ∀ k : RingId, k ≠ q.ring → t.rings[k] = s.rings[k]
  gone : findReq t q.id = none

/-- What a request's going does. -/
theorem requestGone_spec (s : State) (q : Req) : Recorded q s (requestGone s q) := by
  have rings : (requestGone s q).rings = upd s.rings q.ring (ringPosted q) := rfl
  have reqs : (requestGone s q).reqs = s.reqs.filter fun o => decide (o.id ≠ q.id) := rfl
  refine ⟨rfl, rfl, rfl, rfl, rfl, by rw [rings, upd_self], fun k hk => by rw [rings, upd_other _ _ hk.symm], ?_⟩
  unfold findReq
  rw [reqs]
  refine List.find?_eq_none.2 fun o ho => ?_
  simpa using (List.mem_filter.1 ho).2

/-- What a change of units before it, of requests that keep their numbers and of the Tack Room after it leaves. -/
theorem Recorded.between {q : Req} {s u v w : State} (before : UnitsOnly s u) (h : Recorded q u v)
    (after : w = { v with reqs := w.reqs, tkr := w.tkr }) (gone : findReq w q.id = none) : Recorded q s w := by
  obtain ⟨link, stalls, dram, hlt, evt, ring, others, -⟩ := h
  rw [before] at link stalls dram hlt evt ring others
  refine ⟨?_, ?_, ?_, ?_, ?_, ?_, fun k hk => ?_, gone⟩ <;> rw [after]
  · exact link
  · exact stalls
  · exact dram
  · exact hlt
  · exact evt
  · exact ring
  · exact others k hk

/-- The skipped members of a chain keep their numbers (R256). -/
theorem skipLater_gone {s : State} {q : Req} (gone : findReq s q.id = none) (d : Done) :
    skipLater s q d = { s with reqs := (skipLater s q d).reqs } ∧ findReq (skipLater s q d) q.id = none := by
  unfold skipLater
  split
  · exact ⟨rfl, gone⟩
  · refine ⟨rfl, List.find?_eq_none.2 fun y hy => ?_⟩
    obtain ⟨o, ho, rfl⟩ := List.mem_map.1 hy
    have kept := List.find?_eq_none.1 gone o ho
    split <;> exact kept

/-- What a record's posting does. -/
theorem recorded_spec (s : State) (q : Req) (d : Done) : Recorded q s (recorded s q d) := by
  have counted : UnitsOnly s (countReq s q d) := by
    unfold countReq
    split
    · exact UnitsOnly.ite (UnitsOnly.refl s) (setUnit_only _ _ _)
    · exact UnitsOnly.refl s
  have dropped : UnitsOnly s (dropNoReuse (countReq s q d) q) :=
    counted.trans (UnitsOnly.foldl (fun _ _ => UnitsOnly.ite (setUnit_only _ _ _) (UnitsOnly.refl _)) _ _)
  have freed : UnitsOnly s (freeUnits (dropNoReuse (countReq s q d) q) q.id) := dropped.trans rfl
  unfold recorded
  generalize freeUnits _ q.id = u at freed ⊢
  have spec := requestGone_spec u q
  obtain ⟨only, gone⟩ := skipLater_gone spec.gone d
  generalize skipLater (requestGone u q) q d = v at only gone ⊢
  have swept : sweepDropped v = { v with tkr := (sweepDropped v).tkr } := by
    unfold sweepDropped
    rfl
  generalize sweepDropped v = w at swept ⊢
  refine Recorded.between freed spec ?_ ((findReq_congr (by rw [swept]) _).trans gone)
  rw [swept, only]

/-- What telling HEAD leaves. -/
structure HeadOnly (r : RingId) (s t : State) : Prop where
  link : t.link = s.link
  stalls : t.stalls = s.stalls
  dram : t.dram = s.dram
  reqs : t.reqs = s.reqs
  posted : t.rings[r].posted = s.rings[r].posted
  others : ∀ k : RingId, k ≠ r → t.rings[k] = s.rings[k]
  calm : Calm s t

/-- Nothing changed. -/
theorem HeadOnly.refl (r : RingId) (s : State) : HeadOnly r s s := ⟨rfl, rfl, rfl, rfl, rfl, fun _ _ => rfl, Calm.refl s⟩

/-- Two such changes one after the other. -/
theorem HeadOnly.trans {r : RingId} {s t u : State} (h : HeadOnly r s t) (g : HeadOnly r t u) : HeadOnly r s u :=
  ⟨g.link.trans h.link, g.stalls.trans h.stalls, g.dram.trans h.dram, g.reqs.trans h.reqs, g.posted.trans h.posted,
    fun k hk => (g.others k hk).trans (h.others k hk), h.calm.trans g.calm⟩

/-- A change of the ring that keeps its count of records. -/
theorem setRing_head (s : State) (r : RingId) {g : Ring → Ring} (posted : ∀ x, (g x).posted = x.posted) : HeadOnly r s (setRing s r g) := by
  obtain ⟨self, others⟩ := setRing_ring s r g
  exact ⟨rfl, rfl, rfl, rfl, by rw [self, posted], others, Calm.of_eq rfl rfl⟩

/-- Events owed raised. -/
theorem owedRaise_head (s : State) (r : RingId) (n : StallId) (o : Bool × Bool × Bool) : HeadOnly r s (owedRaise s n o) := by
  have calm := (owedRaise_told s n o).2
  have only := owedRaise_only s n o
  generalize owedRaise s n o = t at calm only
  refine ⟨?_, ?_, ?_, ?_, ?_, fun k _ => ?_, calm⟩ <;> rw [only]

/-- What HEAD told does. -/
theorem headTold_only (s : State) (q : Req) (d : Done) (before : BitVec 16) : HeadOnly q.ring s (headTold s q d before) := by
  unfold headTold
  split
  · exact setRing_head s q.ring fun _ => rfl
  · refine HeadOnly.trans ?_ (owedRaise_head _ q.ring q.stall (owedOf q d))
    split
    · exact HeadOnly.refl q.ring s
    · exact setRing_head s q.ring fun _ => rfl

/-- Without a head record a request with NOTIFY raises its stall's completion event at once (R250, R265). -/
theorem headTold_notifies {s : State} {q : Req} (d : Done) (before : BitVec 16) (off : s.rings[q.ring].hwbEn = false)
    (notify : q.desc.notify = true) : (evSrc (headTold s q d before) (worldFn s q.stall) (evDone q.stall)).cause = true := by
  unfold headTold
  rw [if_neg (by simp [off, -Fin.getElem_fin]), if_neg (by simp [off, -Fin.getElem_fin])]
  exact owedRaise_done (setRing s q.ring _) q.stall (by simp [owedOf, notify])

/-- What a committed record does. -/
theorem committed_spec {s : State} {q : Req} (d : Done) (good : RoutesGood s) :
    let t := committed s q d
    (t.hlt = s.hlt ∧ t.link = s.link ∧ findReq t q.id = none) ∧ t.rings[q.ring].posted = s.rings[q.ring].posted + 1 ∧
      (∀ k : RingId, k ≠ q.ring → t.rings[k] = s.rings[k]) ∧
      (q.desc.notify = true → s.rings[q.ring].hwbEn = false → (evSrc t (worldFn s q.stall) (evDone q.stall)).cause = true) ∧
      t.dram = s.dram ∧ t.stalls = s.stalls := by
  obtain ⟨before, parts⟩ := committed_eq s q d
  rw [parts]
  have told := headTold_only (recorded s q d) q d before
  have notifies := headTold_notifies (s := recorded s q d) (q := q) d before
  obtain ⟨link, stalls, dram, hlt, evt, ring, others, gone⟩ := recorded_spec s q d
  generalize recorded s q d = u at *
  obtain ⟨posted, hwbEn⟩ := ringPosted_spec q s.rings[q.ring]
  have world : worldFn u q.stall = worldFn s q.stall := by
    unfold worldFn
    rw [stalls]
  rw [ring, hwbEn, world] at notifies
  refine ⟨⟨(told.calm.hlt (routesGood_congr evt good)).trans hlt, told.link.trans link, (findReq_congr told.reqs _).trans gone⟩, ?_,
    fun k hk => (told.others k hk).trans (others k hk), fun notify off => notifies off notify, told.dram.trans dram,
    told.stalls.trans stalls⟩
  rw [told.posted, ring, posted]

/-- REQUEST_COMPLETE of a request without stores, its record having room (R613). -/
theorem exec_requestComplete {s : State} {i : Nat} {q : Req} {d : Done} (found : findReq s i = some q) (done : q.done = some d)
    (stores : q.stores = []) (next : memberNext s q = true) (waits : vbrWaits q d = false)
    (room : pwbRoom s (recordWrite s (worldFn s q.stall) q.stall q.ring q.slot (recordOf s q d) q.alarm (some i)) = true) :
    exec (.requestComplete i) s = .next (coopGrab (settle (committed (post (setReq s i fun x => { x with stores := [] })
      (recordWrite s (worldFn s q.stall) q.stall q.ring q.slot (recordOf s q d) q.alarm (some i))) q d))) := by
  have id := findReq_id found
  subst id
  have whole : complete s q d = committed (post (setReq s q.id fun x => { x with stores := [] })
      (recordWrite s (worldFn s q.stall) q.stall q.ring q.slot (recordOf s q d) q.alarm (some q.id))) q d := by
    unfold complete
    simp only [next, waits, stores, postStores, Bool.not_true, Bool.or_self, Bool.false_eq_true, if_false, List.isEmpty_nil]
    exact if_pos room
  show execRequestComplete q.id s = _
  unfold execRequestComplete
  simp only [found, done, whole]

/-! ### Head records (R232, R613) -/

/-- A ring once its head record has posted. -/
def headPosted (x : Ring) : Ring := { x with dbHead := x.head, headDue := false, owed := [] }

/-- HEAD_RECORD_WRITE of a ring whose head record is due and has room. -/
theorem exec_headRecordWrite {s : State} {r : RingId} {n : StallId} {w : Pw} (owner : s.rings[r].owner = some n)
    (due : s.rings[r].headDue = true) (en : s.rings[r].hwbEn = true)
    (hw : headWrite s (worldFn s n) n r (headBytes s.rings[r].head (headPhase s.rings[r]) s.rings[r].posted)
      (s.rings[r].owed.any fun o => o.2.2) = w) (room : pwbRoom s w = true) :
    exec (.headRecordWrite r) s =
      .next (settle (s.rings[r].owed.foldl (fun s o => owedRaise s n o) (post (setRing s r headPosted) w))) := by
  subst hw
  have told : setRing (writeHead s (worldFn s n) n r (s.rings[r].owed.any fun o => o.2.2)) r (fun y => { y with owed := [] }) =
      post (setRing s r headPosted) (headWrite s (worldFn s n) n r
        (headBytes s.rings[r].head (headPhase s.rings[r]) s.rings[r].posted) (s.rings[r].owed.any fun o => o.2.2)) := by
    have posted (u : State) (w : Pw) (g : Ring → Ring) : setRing (post u w) r g = post (setRing u r g) w := rfl
    unfold writeHead
    simp only [en, if_true, posted, setRing_setRing]
    rfl
  show execHeadRecordWrite r s = _
  unfold execHeadRecordWrite
  simp only [owner, due, room, told, Bool.not_true, Bool.or_self, Bool.false_eq_true, if_false]

/-- What HEAD_RECORD_WRITE does. -/
theorem headRecordWrite_spec {s : State} {r : RingId} {n : StallId} {w : Pw} (quiet : Quiet s) (good : RoutesGood s)
    (done : exec (.headRecordWrite r) s =
      .next (settle (s.rings[r].owed.foldl (fun s o => owedRaise s n o) (post (setRing s r headPosted) w)))) :
    Ends (.headRecordWrite r) s fun t => t.link.pwb = pwInsert s.link.pwb w ∧ t.rings[r] = headPosted s.rings[r] ∧
      (∀ k : RingId, k ≠ r → t.rings[k] = s.rings[k]) ∧ t.reqs = s.reqs ∧ t.dram = s.dram := by
  obtain ⟨self, others⟩ := setRing_ring s r headPosted
  have only := owedRaises_only n s.rings[r].owed (post (setRing s r headPosted) w)
  have calm : Calm s (s.rings[r].owed.foldl (fun s o => owedRaise s n o) (post (setRing s r headPosted) w)) :=
    Calm.trans (t := post (setRing s r headPosted) w) (Calm.of_eq rfl rfl) (Calm.foldl (fun u o => (owedRaise_told u n o).2) _ _)
  rw [calm.settle quiet good] at done
  generalize s.rings[r].owed.foldl (fun s o => owedRaise s n o) (post (setRing s r headPosted) w) = t at only done
  refine ⟨t, done, ?_, ?_, fun k hk => ?_, ?_, ?_⟩ <;> rw [only]
  · rfl
  · exact self
  · exact others k hk
  · rfl
  · rfl

/-- Settles O22: each command by its own equation. -/
theorem requestsPostAndComplete : Obligations.RequestsPostAndComplete := by
  intro s i q quiet found
  have id := findReq_id found
  refine ⟨fun started open' keyless src ready => ?_, fun d x l done stores waits => ⟨fun a dest taken => ?_, fun j off dest =>
      exec_sliceWrite_inter found done stores waits dest⟩, fun d done waits => exec_vbrRelease found done waits, ?_, ?_⟩
  · have due : (!q.started || q.done.isSome || q.key.isSome || decide (q.desc.keySrc ≠ 2) || !blobReady q) = false := by
      simp [started, open', keyless, src, ready]
    refine ⟨fun agree k reused attr size tally => ?_, fun fresh => ⟨fun k tag opens attr size tally => ?_, fun dt bad => ?_,
      exec_blobUnwrapDone_mismatch found due fresh⟩⟩
    · exact takes_of_uses quiet found ⟨attr, size, tally⟩ (exec_blobUnwrapDone_reused found due agree reused)
    · exact takes_of_uses quiet found ⟨attr, size, tally⟩ (exec_blobUnwrapDone_key found due fresh opens)
    · exact ⟨_, exec_blobUnwrapDone_bad found due fresh bad, outcome_failReq found 0x21 dt⟩
  · have noted := localStore_found found a x.bytes
    have left := findReq_setReq (g := fun y => { y with stores := l }) noted id
    refine ⟨_, exec_sliceWrite_local found done stores waits dest taken, ?_, fun alone => localStore_alone alone a x.bytes⟩
    unfold StoresOf
    rw [left]
    rfl
  · intro d done good stores next waits f w room
    have run := exec_requestComplete found done stores next waits room
    obtain ⟨⟨hlt, link, gone⟩, rest⟩ := committed_spec (s := post (setReq s i fun x => { x with stores := [] }) w) (q := q) d good
    rw [settle_of_quiet (by rw [hlt]; exact quiet)] at run
    generalize committed _ q d = u at *
    have grabs := coopGrab_only u
    refine ⟨_, run, ?_⟩
    generalize coopGrab u = t at grabs ⊢
    subst id
    rw [grabs]
    exact ⟨congrArg Link.pwb link, gone, rest⟩
  · intro r n good owner due en x w room
    exact headRecordWrite_spec quiet good (exec_headRecordWrite owner due en rfl room)

end Sys2Proof.Rings

namespace Sys2Proof.Rings
open Sys2Proof.Machine Sys2Proof.Safety Sys2Proof.Waking Sys2Proof.HostLink

/-! ### Tests that are due (R295) -/

/-- KAT_DUE of a pool of units in READY. -/
theorem exec_katDue {s : State} {p : Pool} {i : Fin 3} (rotates : rotIx p = some i) (ready : s.boot.phase = .ready) :
    exec (.katDue p) s = .next (katDue (coopGrab s) i) := by
  show execKatDue p s = _
  unfold execKatDue
  simp only [rotates, ready, ne_eq, not_true_eq_false, if_false]

/-- While a unit of the pool is under test, the start waits. -/
theorem katDue_waits {s : State} {i : Fin 3} (under : s.disp.rotUnit[i] ≠ none) :
    katDue s i = { s with disp := { s.disp with rotDue := s.disp.rotDue.set i (s.disp.rotDue[i] + 1) } } :=
  if_pos (Option.isSome_iff_ne_none.2 under)

/-- With none under test, the unit next in turn is chosen. -/
theorem katDue_chooses {s : State} {i : Fin 3} {u : UnitId} (idle : s.disp.rotUnit[i] = none) (pick : rotPick s i = some u) :
    katDue s i = katChoose s i := by
  unfold katDue
  rw [idle, pick]
  rfl

/-- The unit chosen has its test due, its pool remembers it, and no other unit changes. -/
theorem katChoose_picked {s : State} {i : Fin 3} {u : UnitId} (pick : rotPick s i = some u) :
    (katChoose s i).units[u] = { s.units[u] with testDue := true } ∧ (katChoose s i).disp.rotUnit[i] = some u ∧
      ∀ v : UnitId, v ≠ u → (katChoose s i).units[v] = s.units[v] := by
  unfold katChoose
  rw [pick]
  exact ⟨upd_self _ _ _, Vector.getElem_set_self _, fun v hv => upd_other _ _ hv.symm⟩

/-- A change of the Dispatcher's state and the units leaves the requests and local memory. -/
theorem DispatchOnly.leaves {s t : State} (h : DispatchOnly s t) : t.reqs = s.reqs ∧ t.dram = s.dram := by
  rw [h]
  exact ⟨rfl, rfl⟩

/-! ### Tests that start and end (R296, R299) -/

/-- KAT_START of a unit whose test is due and on which nothing runs. -/
theorem exec_katStart {s : State} {u : UnitId} (due : s.units[u].testDue = true) (fresh : s.units[u].testing = false)
    (good : s.units[u].fenced = false) (idle : s.units[u].run = none) (alone : s.units[u].suspended = none)
    (free : s.units[u].held = false) (on : pdOn s (unitPd u) = true) (feed : u = dl15 → feedActive s = false) :
    exec (.katStart u) s = .next (setUnit s u fun x => { x with testDue := false, testing := true, keyReg := none }) := by
  have quiet : (decide (u.val = 47) && feedActive s) = false := by
    cases lane : decide (u.val = 47) with
    | false => rfl
    | true => exact feed (Fin.ext (of_decide_eq_true lane))
  show execKatStart u s = _
  unfold execKatStart
  simp only [due, fresh, good, idle, alone, free, on, quiet, Option.isSome_none, Bool.not_true, Bool.or_self, Bool.false_and,
    Bool.false_eq_true, if_false]

/-- What a test's end is seen by: the count of tests passed, and of each unit whether it is under test and whether fenced. -/
def testsSeen (s : State) : BitVec 32 × (UnitId → Bool × Bool) :=
  (s.disp.passes, fun v => (s.units[v].testing, s.units[v].fenced))

/-- A change of a unit that neither starts a test, nor ends one, nor fences. -/
theorem setUnit_testsSeen (s : State) (u : UnitId) {g : UnitState → UnitState}
    (keeps : ∀ x, ((g x).testing, (g x).fenced) = (x.testing, x.fenced)) : testsSeen (setUnit s u g) = testsSeen s := by
  refine congrArg (Prod.mk s.disp.passes) (funext fun v => ?_)
  rw [setUnit_units, upd_get]
  split
  · exact keeps s.units[v]
  · rfl

/-- A unit chosen. -/
theorem katChoose_testsSeen (s : State) (i : Fin 3) : testsSeen (katChoose s i) = testsSeen s := by
  unfold katChoose
  split
  · rfl
  · refine (setUnit_testsSeen _ _ ?_).trans rfl
    exact fun _ => rfl

/-- The rotation of known-answer tests. -/
theorem katNext_testsSeen (s : State) : testsSeen (katNext s) = testsSeen s := by
  refine foldl_keeps (g := testsSeen) (fun s i => ?_) _ s
  split
  · exact (katChoose_testsSeen _ i).trans rfl
  · rfl

/-- Units held, or let go (R278). -/
theorem coopGrab_testsSeen (s : State) : testsSeen (coopGrab s) = testsSeen s := by
  unfold coopGrab
  split
  · refine foldl_keeps (g := testsSeen) (fun s u => ?_) _ s
    exact setUnit_testsSeen s u fun _ => rfl
  · split
    · rfl
    · refine (katNext_testsSeen _).trans (congrArg (Prod.mk s.disp.passes) (funext fun v => ?_))
      rw [vmap_get]

/-- With nothing that waits, the rotation does nothing (R295). -/
theorem katNext_idle {s : State} (none : ∀ i : Fin 3, s.disp.rotDue[i] = 0) : katNext s = s := by
  refine List.foldl_fixed' (fun i => if_neg ?_) _
  simp [none i, -Fin.getElem_fin]

/-- With no cooperative operation, nothing is held for one (R278). -/
theorem coopGrab_idle {s : State} (none : s.disp.coop = none) : coopGrab s = s := by
  have holder : coopHolder s = Option.none := by
    unfold coopHolder
    rw [none]
  unfold coopGrab
  rw [holder, none]
  rfl

/-- A unit that has passed: of the units it alone changes, and its pass is counted. -/
theorem testPassed_spec (s : State) (u : UnitId) :
    (testPassed s u).units[u] = { s.units[u] with testing := false } ∧
      (∀ v : UnitId, v ≠ u → (testPassed s u).units[v] = s.units[v]) ∧
      (testPassed s u).disp.passes = satInc s.disp.passes ∧ (testPassed s u).disp.coop = s.disp.coop ∧
      (testPassed s u).disp.rotDue = s.disp.rotDue ∧ (testPassed s u).reqs = s.reqs := by
  unfold testPassed
  dsimp only
  split
  · exact ⟨upd_self _ _ _, fun v hv => upd_other _ _ hv.symm, rfl, rfl, rfl, rfl⟩
  next due =>
    refine ⟨(upd_self _ _ _).trans ?_, fun v hv => upd_other _ _ hv.symm, rfl, rfl, rfl, rfl⟩
    rw [← Bool.eq_false_iff.2 due]

/-- KAT_END of a test that passes: the unit rejoins its pool (R299). -/
theorem exec_katEnd_pass {s : State} {u : UnitId} (testing : s.units[u].testing = true) :
    exec (.katEnd u true) s = .next (katNext (coopGrab (testPassed s u))) := by
  show execKatEnd u true s = _
  unfold execKatEnd
  rw [testing]
  rfl

/-- KAT_END of a test that fails: in the boot self-tests a failed self-test, later a fence (R76, R299). -/
theorem exec_katEnd_fail {s : State} {u : UnitId} (testing : s.units[u].testing = true) :
    exec (.katEnd u false) s = .next (settle (if inSelfTest s then bootFenceUnit (endTest s u) u else feedFault (fenceUnit s u 6) u)) := by
  show execKatEnd u false s = _
  unfold execKatEnd
  rw [testing]
  exact (apply_ite (fun t => Host.Outcome.next (settle t)) _ _ _).symm

/-- What a passed test leaves, and with nothing that waits nothing else. -/
theorem katEnd_pass_ends {s : State} {u : UnitId} (testing : s.units[u].testing = true) :
    Ends (.katEnd u true) s fun t => t.units[u].testing = false ∧ t.units[u].fenced = s.units[u].fenced ∧
      t.disp.passes = satInc s.disp.passes ∧ t.reqs = s.reqs ∧
      (s.disp.coop = none → (∀ i : Fin 3, s.disp.rotDue[i] = 0) →
        t.units[u] = { s.units[u] with testing := false } ∧ ∀ v : UnitId, v ≠ u → t.units[v] = s.units[v]) := by
  obtain ⟨self, others, passes, coop, due, reqs⟩ := testPassed_spec s u
  have done := exec_katEnd_pass testing
  generalize testPassed s u = p at *
  have seen : testsSeen (katNext (coopGrab p)) = testsSeen p := (katNext_testsSeen _).trans (coopGrab_testsSeen p)
  have unit := congrFun (congrArg Prod.snd seen) u
  have left := ((coopGrab_only p).trans (katNext_rotates _).only).leaves
  refine ⟨_, done, (congrArg Prod.fst unit).trans (congrArg UnitState.testing self),
    (congrArg Prod.snd unit).trans ((congrArg UnitState.fenced self).trans rfl), (congrArg Prod.fst seen).trans passes, left.1.trans reqs,
    fun noCoop noDue => ?_⟩
  rw [coopGrab_idle (coop.trans noCoop), katNext_idle fun i => by rw [due, noDue i]]
  exact ⟨self, others⟩

/-! ### Units fenced at run time (R303, R349, R405) -/

/-- UNIT_FAULT_CHECK_FAIL of a unit that runs a request. -/
theorem exec_unitFaultCheckFail_running {s : State} {u : UnitId} (good : s.units[u].fenced = false)
    (running : s.units[u].run.isSome = true) (cause : BitVec 4) :
    exec (.unitFaultCheckFail u cause) s = .next (settle (feedFault (fenceUnit s u cause) u)) := by
  show execUnitFaultCheckFail u cause s = _
  unfold execUnitFaultCheckFail
  simp only [good, running, Bool.false_eq_true, if_false, true_or, or_true, if_true]

/-- A unit once fenced. -/
def fencedUnit (cause : BitVec 4) (x : UnitState) : UnitState :=
  noteFault { x with fenced := true, keyReg := none, seeded := false, mask := 0, held := false, testDue := false, testing := false } cause

/-- A request once a unit that may run it is fenced (R303, R399). -/
def fencedReq (u : UnitId) (x : UnitState) (q : Req) : Req :=
  if (x.run.toList ++ x.suspended.toList).contains q.id ∧ faultEnds u q then endReq q 0x41 0 else q

/-- A unit fenced with its requests ended, before the fence is told. -/
def fenceMarked (s : State) (u : UnitId) (cause : BitVec 4) : State :=
  { s with reqs := s.reqs.map (fencedReq u s.units[u]), units := upd s.units u (fencedUnit cause),
           disp := { s.disp with rotUnit := vmap (fun r => if r = some u then none else r) s.disp.rotUnit } }

/-- A Halter source raised. -/
theorem raiseHs_only (s : State) (k : HsId) (st : Option StallId) : RaiseOnly s (raiseHs s k st) := rfl

/-- A fence is told by events and by the unit's Halter source, and the rotation goes on (R295, R303). -/
theorem fenceUnit_told (s : State) (u : UnitId) (cause : BitVec 4) :
    ∃ t, RaiseOnly (fenceMarked s u cause) t ∧ fenceUnit s u cause = katNext t := by
  have marked (v : Vector UnitState 56) :
      upd (upd v u fun x => noteFault { x with fenced := true, keyReg := none, seeded := false, mask := 0, held := false } cause) u
        (fun x => { x with testDue := false, testing := false }) = upd v u (fencedUnit cause) := upd_upd v u _ _
  have told (w : State) (k : HsId) (st : Option StallId) : RaiseOnly w (raiseHs (raiseEv w 294) k st) :=
    (raiseEv_only w 294 false).trans (raiseHs_only _ k st)
  unfold fenceUnit endTest
  simp only [setUnit, marked]
  exact ⟨_, RaiseOnly.ite ((told _ _ _).trans (raiseEv_only _ 295 false)) (told _ _ _), rfl⟩

/-- What fencing a unit does to the requests and the units; a test of another unit may then be due (R295, R303). -/
theorem fenceUnit_spec (s : State) (u : UnitId) (cause : BitVec 4) :
    (fenceUnit s u cause).reqs = s.reqs.map (fencedReq u s.units[u]) ∧
      ∀ v : UnitId, (fenceUnit s u cause).units[v] =
        { (upd s.units u (fencedUnit cause))[v] with testDue := (fenceUnit s u cause).units[v].testDue } := by
  obtain ⟨t, raised, whole⟩ := fenceUnit_told s u cause
  have rotates := katNext_rotates t
  rw [← whole] at rotates
  have units : t.units = upd s.units u (fencedUnit cause) := by
    rw [raised]
    rfl
  refine ⟨rotates.only.leaves.1.trans ?_, fun v => (rotates.units v).trans ?_⟩
  · rw [raised]
    rfl
  · rw [units]

/-- A request found after a change of every request that keeps its number. -/
theorem findReq_of_map {s t : State} {g : Req → Req} (id : ∀ y, (g y).id = y.id) (reqs : t.reqs = s.reqs.map g) (i : Nat) :
    findReq t i = (findReq s i).map g := by
  unfold findReq
  rw [reqs, List.find?_map]
  congr 2
  funext y
  exact congrArg (fun n => decide (n = i)) (id y)

/-- A request keeps its number. -/
theorem fencedReq_id (u : UnitId) (x : UnitState) (q : Req) : (fencedReq u x q).id = q.id := by
  unfold fencedReq
  split <;> rfl

/-- The open request that a unit runs ends SELF_TEST_FAIL as the unit is fenced (R303). -/
theorem fenceUnit_outcome {s : State} {u : UnitId} {i : Nat} {q : Req} (cause : BitVec 4) (running : s.units[u].run = some i)
    (found : findReq s i = some q) (open' : q.done = none) : OutcomeIs (fenceUnit s u cause) i 0x41 0 0 0 := by
  have ends : fencedReq u s.units[u] q = endReq q 0x41 0 := by
    refine if_pos ⟨?_, ?_⟩
    · rw [running, findReq_id found]
      simp
    · unfold faultEnds
      rw [open']
  have left := findReq_of_map (fencedReq_id u s.units[u]) (fenceUnit_spec s u cause).1 i
  rw [found, Option.map_some, ends] at left
  unfold OutcomeIs
  rw [left]
  rfl

/-- A unit on which nothing runs takes no request with it. -/
theorem fenceUnit_idle {s : State} {u : UnitId} (cause : BitVec 4) (idle : s.units[u].run = none)
    (alone : s.units[u].suspended = none) : (fenceUnit s u cause).reqs = s.reqs := by
  rw [(fenceUnit_spec s u cause).1]
  refine (List.map_congr_left fun q _ => ?_).trans (List.map_id s.reqs)
  unfold fencedReq
  rw [idle, alone]
  exact if_neg (by simp)

/-- Settles O21: each command by its own equation; what waits in the rotation marks a due test and no more. -/
theorem knownAnswerTestsAct : Obligations.KnownAnswerTestsAct := by
  intro s u
  refine ⟨fun p i rotates ready => ?_, exec_katStart, fun testing => ⟨?_, fun run => ?_, fun boot => ?_⟩,
    exec_unitFaultCheckFail_running, fun cause => ?_⟩
  · intro x
    have due := exec_katDue rotates ready
    have grabs := coopGrab_only s
    refine ⟨fun idle pick => ?_, fun under => ?_⟩
    · rw [katDue_chooses idle pick] at due
      obtain ⟨self, chosen, others⟩ := katChoose_picked pick
      exact ⟨_, due, self, chosen, others, (grabs.trans (katChoose_rotates x i).only).leaves⟩
    · rw [katDue_waits under] at due
      exact ⟨_, due, rfl, Vector.getElem_set_self _, grabs.leaves.1⟩
  · obtain ⟨t, done, test, fence, passes, reqs, rest⟩ := katEnd_pass_ends testing
    exact ⟨t, done, test, fence, passes, reqs, fun _ => rest⟩
  · rw [exec_katEnd_fail testing, run]
    rfl
  · rw [exec_katEnd_fail testing, boot]
    rfl
  · obtain ⟨-, units⟩ := fenceUnit_spec s u cause
    have self := units u
    rw [upd_self] at self
    refine ⟨(congrArg UnitState.fenced self).trans rfl, (congrArg UnitState.keyReg self).trans rfl,
      (congrArg UnitState.faultCount self).trans rfl, (congrArg UnitState.faultCause self).trans rfl, fun v hv => ?_,
      fun i q running found open' => fenceUnit_outcome cause running found open', fenceUnit_idle cause⟩
    rw [units v, upd_other _ _ hv.symm]

end Sys2Proof.Rings

namespace Sys2Proof.TackRoom
open Sys2Proof.Machine Sys2Proof.Safety Sys2Proof.Waking Sys2Proof.HostLink Sys2Proof.Rings

/-! ### Requests that run and end -/

/-- A request that runs, in the state in which its operation finds it: only the units have changed. -/
structure Running (s u : State) (i : Nat) (q : Req) : Prop where
  units : UnitsOnly s u
  found : findReq u i = some q
  id : q.id = i

/-- The operation of a request that runs finds it in the state in which its unit's crib was used (R548). -/
theorem running_cribUsed {s : State} {i op : Nat} {q : Req} {src : List Byte} (runs : RunsOn s i op q src) :
    Running s (cribUsed s q) i q := by
  obtain ⟨found, -⟩ := readyReq_found runs.1
  have used := cribUsed_only s q
  exact ⟨used, (findReq_congr (by rw [used]) i).trans found, findReq_id found⟩

/-- What a running request's operation finds as it was. -/
theorem Running.leaves {s u : State} {i : Nat} {q : Req} (h : Running s u i q) :
    u.tkr = s.tkr ∧ u.reqs = s.reqs ∧ u.stalls = s.stalls ∧ u.hlt = s.hlt ∧ u.feed = s.feed ∧ u.inters = s.inters := by
  rw [h.units]
  exact ⟨rfl, rfl, rfl, rfl, rfl, rfl⟩

/-- A command whose operation, on a request that runs, leaves the Halter and ends with a property. -/
theorem ends_of_run {c : Instr} {s : State} {i op : Nat} {q : Req} {src : List Byte} {run : State → Req → List Byte → State}
    {p : State → Prop} (quiet : Quiet s) (row : exec c s = runOp s i op run) (runs : RunsOn s i op q src)
    (operates : ∀ u, Running s u i q → (run u q src).hlt = u.hlt ∧ p (run u q src)) : Ends c s p := by
  have running := running_cribUsed runs
  obtain ⟨hlt, ended⟩ := operates _ running
  obtain ⟨-, -, -, kept, -, -⟩ := running.leaves
  refine ⟨_, row.trans (runOp_runsOn runs run), ?_⟩
  rw [settle_of_quiet (by rw [hlt, kept]; exact quiet)]
  exact ended

/-- A command whose operation, on a request that runs, ends the request with an error. -/
theorem fails_of_run {c : Instr} {s : State} {i op : Nat} {q : Req} {src : List Byte} {run : State → Req → List Byte → State}
    {status detail : Byte} (quiet : Quiet s) (row : exec c s = runOp s i op run) (runs : RunsOn s i op q src)
    (refuses : ∀ u, Running s u i q → run u q src = failReq u q.id status detail) : Fails c s i status detail := by
  refine ends_of_run quiet row runs fun u running => ?_
  rw [refuses u running, running.id]
  exact ⟨rfl, outcome_failReq running.found status detail⟩

/-- A request's outcome and stores once it is set. -/
theorem outcome_finish {u : State} {i : Nat} {q : Req} (found : findReq u i = some q) (status detail : Byte) (outLen result : Nat)
    (stores : List Store) : OutcomeIs (finish u i status detail outLen result stores) i status detail outLen result ∧
      StoresOf (finish u i status detail outLen result stores) i = stores := by
  have changed : findReq (finish u i status detail outLen result stores) i = _ :=
    findReq_setReq found ((show _ = q.id from rfl).trans (findReq_id found))
  unfold OutcomeIs StoresOf
  rw [changed]
  exact ⟨rfl, rfl⟩

/-- A request that ends well with a RESULT and no output, after an effect on the device (R247). -/
def effected (u : State) (i result : Nat) : State :=
  finish (setReq u i fun x => { x with effect := true }) i 0 0 0 result []

/-- Its outcome. -/
theorem effected_outcome {u : State} {i : Nat} {q : Req} (found : findReq u i = some q) (result : Nat) :
    OutcomeIs (effected u i result) i 0 0 0 result :=
  (outcome_finish (findReq_setReq found ((show _ = q.id from rfl).trans (findReq_id found))) 0 0 0 result []).1

/-- Only the requests change with it. -/
theorem effected_leaves (u : State) (i result : Nat) :
    (effected u i result).tkr = u.tkr ∧ (effected u i result).hlt = u.hlt := ⟨rfl, rfl⟩

/-! ### The keyed-state store (R342-R346) -/

/-- A new entry goes to the next free handle, which is the RESULT (R344). -/
theorem storeEntry_free {s : State} {h : Handle} (free : nextFree s = some h) (q : Req) (e : Entry) :
    storeEntry s q e = effected (putEntry s h e) q.id h.val := by
  unfold storeEntry
  rw [free]
  rfl

/-- With no free handle the request waits (R345). -/
theorem storeEntry_full {s : State} (full : nextFree s = none) (q : Req) (e : Entry) : storeEntry s q e = s := by
  unfold storeEntry
  rw [full]

/-- The store after an entry was put in it. -/
theorem putEntry_store (s : State) (h : Handle) (e : Entry) :
    (putEntry s h e).tkr.store[h] = e ∧ ∀ j : Handle, j ≠ h → (putEntry s h e).tkr.store[j] = s.tkr.store[j] :=
  ⟨upd_self _ _ _, fun _ hj => upd_other _ _ hj.symm⟩

/-- A command that puts an entry in the store puts it at the next free handle and returns that, or waits. -/
theorem loads_of_run {c : Instr} {s : State} {i op : Nat} {q : Req} {src : List Byte} {run : State → Req → List Byte → State}
    {kind : BitVec 2} {k : Key} {value : List Byte} (quiet : Quiet s) (row : exec c s = runOp s i op run)
    (runs : RunsOn s i op q src) (stores : ∀ u, run u q src = storeEntry u q (newEntry u q kind k value)) :
    (∀ h, nextFree s = some h → Ends c s fun t => t.tkr.store[h] = newEntry s q kind k value ∧ OutcomeIs t i 0 0 0 h.val ∧
      (∀ j : Handle, j ≠ h → t.tkr.store[j] = s.tkr.store[j]) ∧ t.tkr.slots = s.tkr.slots) ∧
    (nextFree s = none → Ends c s fun t => t.reqs = s.reqs ∧ t.tkr = s.tkr) := by
  refine ⟨fun h free => ends_of_run quiet row runs fun u running => ?_, fun full => ends_of_run quiet row runs fun u running => ?_⟩
  · obtain ⟨tkr, reqs, stalls, -, -, -⟩ := running.leaves
    have same : newEntry u q kind k value = newEntry s q kind k value := by
      unfold newEntry
      rw [stalls]
    have here : nextFree u = some h := by
      unfold nextFree entryFree at free ⊢
      rw [tkr]
      exact free
    rw [stores, storeEntry_free here, same, running.id]
    obtain ⟨self, others⟩ := putEntry_store u h (newEntry s q kind k value)
    refine ⟨rfl, self, effected_outcome (by exact running.found) h.val, fun j hj => (others j hj).trans ?_, ?_⟩
    · rw [tkr]
    · show u.tkr.slots = _
      rw [tkr]
  · obtain ⟨tkr, reqs, -, -, -, -⟩ := running.leaves
    have here : nextFree u = none := by
      unfold nextFree entryFree at full ⊢
      rw [tkr]
      exact full
    rw [stores, storeEntry_full here]
    exact ⟨rfl, reqs, tkr⟩

/-- BLOB_UNWRAP of a chain makes a KEY intermediate (R253, R351). -/
theorem blobUnwrapRun_inter {s u : State} {i : Nat} {q : Req} {k : Key} (running : Running s u i q) (key : q.key = some k)
    (chain : q.desc.dstSel = 3) (fits : tooLongOut q.desc k.value.length = false) (src : List Byte) :
    blobUnwrapRun u q src = finish (putKeyInter u q k) i 0 0 k.value.length 0 [] := by
  unfold blobUnwrapRun outputKey
  simp only [key, if_pos chain, fits, Bool.false_eq_true, if_false, List.length_nil, Nat.zero_add, running.id]

/-- BLOB_UNWRAP outside a chain makes an entry of kind BLOB (R335, R344). -/
theorem blobUnwrapRun_entry {q : Req} {k : Key} (key : q.key = some k) (plain : q.desc.dstSel ≠ 3) (u : State) (src : List Byte) :
    blobUnwrapRun u q src = storeEntry u q (newEntry u q 1 k k.value) := by
  unfold blobUnwrapRun
  simp only [key, if_neg plain]

/-- KSTATE_LOAD with a key: a bad key AUX block is refused, and KTYPE chooses between HMAC and KMAC state (R336, R342). -/
theorem kstateLoadRun_keyed {q : Req} {k : Key} (key : q.key = some k) (u : State) (src : List Byte) :
    (keyAux q = none → kstateLoadRun u q src = failReq u q.id 0x30 0x09) ∧
    ∀ a, keyAux q = some a →
      (ktype k.attr = 8 → kstateLoadRun u q src = storeEntry u q (newEntry u q 2 k (prepared q.desc.alg k.value []))) ∧
      (ktype k.attr ≠ 8 → kstateLoadRun u q src = storeEntry u q (newEntry u q 3 k (prepared q.desc.alg k.value a.label))) := by
  unfold kstateLoadRun
  refine ⟨fun bad => ?_, fun a aux => ⟨fun hmac => ?_, fun kmac => ?_⟩⟩
  · simp only [key, bad]
  · simp only [key, aux, if_pos hmac]
  · simp only [key, aux, if_neg kmac]

/-- STORE_WAIT_EXPIRY of a load that finds the store full (R345). -/
theorem exec_storeWaitExpiry {s : State} {i : Nat} {q : Req} (ready : readyReq s i 0x71 = some q ∨ readyReq s i 0x74 = some q)
    (full : nextFree s = none) : exec (.storeWaitExpiry i) s = .next (failReq s i 0x20 0x08) := by
  refine if_pos ?_
  rcases ready with ready | ready <;> simp [ready, full]

/-! ### Drops (R344, R346) -/

/-- An entry that a new use may name: in use, of its stall, and not dropped (R344). -/
theorem findEntry_live {s : State} {n : StallId} {h : Handle} (used : s.tkr.store[h].kind ≠ 0) (mine : s.tkr.store[h].stall = n)
    (here : s.tkr.store[h].dropped = false) :
    findEntry s n h = .key s.tkr.store[h].key s.tkr.store[h].kind.toNat s.tkr.store[h].mode := by
  unfold findEntry heldEntry
  rw [here, if_neg Bool.false_ne_true]
  exact if_neg fun bad => bad.elim used fun other => other mine

/-- Any other is refused (R344). -/
theorem findEntry_refused {s : State} {n : StallId} {h : Handle}
    (bad : s.tkr.store[h].kind = 0 ∨ s.tkr.store[h].stall ≠ n ∨ s.tkr.store[h].dropped = true) :
    findEntry s n h = .none 0x21 0x05 := by
  unfold findEntry heldEntry
  split
  · rfl
  next here => exact if_pos (by tauto)

/-- An entry dropped, and zeroised where it has no user (R346). -/
def entryDropped (s : State) (h : Handle) : State :=
  sweepDropped { s with tkr := { s.tkr with store := upd s.tkr.store h fun e => { e with dropped := true } } }

/-- The sweep of dropped entries changes the store alone, and what it leaves of each entry (R346). -/
theorem sweepDropped_eq (s : State) : ∃ v : Vector Entry 2048, sweepDropped s = { s with tkr := { s.tkr with store := v } } ∧
    ∀ h : Handle, v[h] = if s.tkr.store[h].dropped && !entryUsers s h then Entry.reset else s.tkr.store[h] :=
  ⟨_, rfl, fun _ => vmapIdx_get _ _ _⟩

/-- What a drop leaves of its entry, and what it leaves alone. -/
theorem entryDropped_spec (s : State) (h : Handle) :
    (entryDropped s h).tkr.store[h] = (if entryUsers s h then { s.tkr.store[h] with dropped := true } else Entry.reset) ∧
    (entryDropped s h).tkr.slots = s.tkr.slots ∧ (entryDropped s h).reqs = s.reqs ∧ (entryDropped s h).hlt = s.hlt := by
  unfold entryDropped
  generalize marked : upd s.tkr.store h (fun e => { e with dropped := true }) = m
  have entry : m[h] = { s.tkr.store[h] with dropped := true } := by rw [← marked, upd_self]
  obtain ⟨v, swept, left⟩ := sweepDropped_eq { s with tkr := { s.tkr with store := m } }
  rw [swept]
  refine ⟨(left h).trans ?_, rfl, rfl, rfl⟩
  have users : entryUsers { s with tkr := { s.tkr with store := m } } h = entryUsers s h := rfl
  rw [users]
  dsimp only
  rw [entry]
  cases entryUsers s h <;> rfl

/-- KSTATE_DROP of the handle of IMM. -/
theorem kstateDropRun_handle {q : Req} {h : Handle} (handle : toFin 2048 (by decide) (field q.desc.imm 0 11).toNat = h) (u : State)
    (src : List Byte) :
    (∀ k kind mode, findEntry u q.stall h = .key k kind mode → kstateDropRun u q src = effected (entryDropped u h) q.id 0) ∧
    (∀ status detail, findEntry u q.stall h = .none status detail → kstateDropRun u q src = failReq u q.id status detail) := by
  unfold kstateDropRun
  refine ⟨fun k kind mode live => ?_, fun status detail refused => ?_⟩
  · simp only [handle, live]
    rfl
  · simp only [handle, refused]

/-- KSTATE_DROP (R346). -/
theorem kstateDrop_acts {s : State} {i : Nat} {q : Req} {src : List Byte} (quiet : Quiet s) (runs : RunsOn s i 0x75 q src) {h : Handle}
    (handle : toFin 2048 (by decide) (field q.desc.imm 0 11).toNat = h) :
    (s.tkr.store[h].kind ≠ 0 → s.tkr.store[h].stall = q.stall → s.tkr.store[h].dropped = false →
      Ends (.kstateDrop i) s fun t => OutcomeIs t i 0 0 0 0 ∧ t.tkr.slots = s.tkr.slots ∧
        t.tkr.store[h] = if entryUsers s h then { s.tkr.store[h] with dropped := true } else Entry.reset) ∧
    ((s.tkr.store[h].kind = 0 ∨ s.tkr.store[h].stall ≠ q.stall ∨ s.tkr.store[h].dropped = true) →
      Fails (.kstateDrop i) s i 0x21 0x05) := by
  have row : exec (.kstateDrop i) s = runOp s i 0x75 kstateDropRun := rfl
  refine ⟨fun used mine here => ends_of_run quiet row runs fun u running => ?_,
    fun bad => fails_of_run quiet row runs fun u running => ?_⟩
  · obtain ⟨tkr, reqs, -, -, feed, -⟩ := running.leaves
    have users : entryUsers u h = entryUsers s h := by
      unfold entryUsers feedActive
      rw [reqs, feed]
    obtain ⟨entry, slots, same, hlt⟩ := entryDropped_spec u h
    rw [tkr, users] at entry
    rw [tkr] at slots
    rw [(kstateDropRun_handle handle u src).1 _ _ _ (findEntry_live (by rw [tkr]; exact used) (by rw [tkr]; exact mine)
      (by rw [tkr]; exact here)), running.id]
    obtain ⟨room, halter⟩ := effected_leaves (entryDropped u h) i 0
    exact ⟨halter.trans hlt, effected_outcome ((findReq_congr same i).trans running.found) 0, by rw [room, slots], by rw [room, entry]⟩
  · obtain ⟨tkr, -, -, -, -, -⟩ := running.leaves
    exact (kstateDropRun_handle handle u src).2 _ _ (findEntry_refused (by rw [tkr]; exact bad))

/-! ### Tally bindings (R351, R352) -/

/-- The binding that TALLY_BIND makes for a slot. -/
def tallyBinding (k : SlotId) (a : KeyAux) : TBind :=
  { valid := true, slot := BitVec.ofNat 9 k.val, tallyAddr := a.tallyAddr, tallyLimit := a.tallyLimit }

/-- A binding put in the table. -/
def bindingPut (s : State) (j : Fin 64) (b : TBind) : State := { s with tkr := { s.tkr with tbind := s.tkr.tbind.set j b } }

/-- The refusals of TALLY_BIND, and the binding that it makes (R352). -/
theorem tallyBindRun_cases {q : Req} {k : SlotId} (slot : toFin 512 (by decide) q.desc.keyRef.toNat = k) (u : State) (src : List Byte) :
    (keyAux q = none → tallyBindRun u q src = failReq u q.id 0x30 0x09) ∧
    ∀ a, keyAux q = some a →
      (a.tallyAddr = 0 → tallyBindRun u q src = failReq u q.id 0x30 0x09) ∧
      (a.tallyAddr ≠ 0 → slotBind u k ≠ none → tallyBindRun u q src = failReq u q.id 0x20 0x0F) ∧
      (a.tallyAddr ≠ 0 → slotBind u k = none → vfind u.tkr.tbind (fun b => !b.valid) = [] →
        tallyBindRun u q src = failReq u q.id 0x20 0x0E) ∧
      (a.tallyAddr ≠ 0 → slotBind u k = none → ∀ j l, vfind u.tkr.tbind (fun b => !b.valid) = j :: l →
        tallyBindRun u q src = effected (bindingPut u j (tallyBinding k a)) q.id j.val) := by
  unfold tallyBindRun
  refine ⟨fun bad => ?_, fun a aux => ⟨fun zero => ?_, fun tally bound => ?_, fun tally unbound full => ?_,
    fun tally unbound j l free => ?_⟩⟩
  · simp only [bad]
  · simp only [aux, if_pos zero]
  · simp only [aux, if_neg tally, slot, if_pos (Option.isSome_iff_ne_none.2 bound)]
  · simp only [aux, if_neg tally, slot, unbound, Option.isSome_none, Bool.false_eq_true, if_false, full]
  · simp only [aux, if_neg tally, slot, unbound, Option.isSome_none, Bool.false_eq_true, if_false, free]
    rfl

/-- A table in which no element passes a test. -/
theorem vfind_eq_nil {α : Type} {n : Nat} {v : Vector α n} {p : α → Bool} (h : ∀ i : Fin n, p v[i] = false) : vfind v p = [] := by
  unfold vfind
  exact List.filter_eq_nil_iff.2 fun i _ => by rw [h i]; exact Bool.false_ne_true

/-- TALLY_BIND (R352). -/
theorem tallyBind_acts {s : State} {i : Nat} {q : Req} {src : List Byte} (quiet : Quiet s) (runs : RunsOn s i 0x76 q src) {k : SlotId}
    (slot : toFin 512 (by decide) q.desc.keyRef.toNat = k) :
    (keyAux q = none → Fails (.tallyBind i) s i 0x30 0x09) ∧
    ∀ a, keyAux q = some a →
      (a.tallyAddr = 0 → Fails (.tallyBind i) s i 0x30 0x09) ∧
      (a.tallyAddr ≠ 0 → slotBind s k ≠ none → Fails (.tallyBind i) s i 0x20 0x0F) ∧
      (a.tallyAddr ≠ 0 → slotBind s k = none → (∀ j : Fin 64, s.tkr.tbind[j].valid = true) → Fails (.tallyBind i) s i 0x20 0x0E) ∧
      (a.tallyAddr ≠ 0 → slotBind s k = none → ∀ j l, (vfind s.tkr.tbind fun b => !b.valid) = j :: l →
        Ends (.tallyBind i) s fun t => OutcomeIs t i 0 0 0 j.val ∧ t.tkr.tbind[j] = tallyBinding k a ∧
          ∀ m, m ≠ j → t.tkr.tbind[m] = s.tkr.tbind[m]) := by
  have row : exec (.tallyBind i) s = runOp s i 0x76 tallyBindRun := rfl
  have binding {u : State} (running : Running s u i q) : slotBind u k = slotBind s k := by
    unfold slotBind
    rw [running.leaves.1]
  refine ⟨fun bad => fails_of_run quiet row runs fun u _ => (tallyBindRun_cases slot u src).1 bad, fun a aux => ?_⟩
  have cases (u : State) := (tallyBindRun_cases slot u src).2 a aux
  refine ⟨fun zero => fails_of_run quiet row runs fun u _ => (cases u).1 zero,
    fun tally bound => fails_of_run quiet row runs fun u running => ?_,
    fun tally unbound full => fails_of_run quiet row runs fun u running => ?_,
    fun tally unbound j l free => ends_of_run quiet row runs fun u running => ?_⟩
  · obtain ⟨-, refused, -, -⟩ := cases u
    exact refused tally (by rw [binding running]; exact bound)
  · obtain ⟨-, -, refused, -⟩ := cases u
    refine refused tally ((binding running).trans unbound) ?_
    rw [running.leaves.1]
    exact vfind_eq_nil fun m => by rw [full m]; rfl
  · obtain ⟨-, -, -, binds⟩ := cases u
    obtain ⟨tkr, -, -, -, -, -⟩ := running.leaves
    rw [binds tally ((binding running).trans unbound) j l (by rw [tkr]; exact free), running.id]
    refine ⟨rfl, effected_outcome (by exact running.found) j.val, Vector.getElem_set_self _, fun m hm => ?_⟩
    have other : (bindingPut u j (tallyBinding k a)).tkr.tbind[m] = u.tkr.tbind[m] :=
      Vector.getElem_set_ne j.isLt m.isLt fun c => hm (Fin.ext c.symm)
    exact other.trans (by rw [tkr])

/-- Settles O38: each opcode by the equation of its operation on the state that a running request finds. -/
theorem keyedStateActs : Obligations.KeyedStateActs := by
  intro s i q src quiet loads
  refine ⟨fun runs k key => ⟨fun plain => ?_, fun chain fits => ?_⟩,
    fun runs k key => ⟨fun bad => ?_, fun a aux => ⟨fun hmac => ?_, fun kmac => ?_⟩⟩,
    fun runs full => ?_, fun runs => kstateDrop_acts quiet runs rfl, fun runs => tallyBind_acts quiet runs rfl⟩
  · exact loads_of_run quiet rfl runs fun u => blobUnwrapRun_entry key plain u src
  · refine ends_of_run quiet (show exec (.blobUnwrap i) s = runOp s i 0x71 blobUnwrapRun from rfl) runs fun u running => ?_
    rw [blobUnwrapRun_inter running key chain fits]
    obtain ⟨outcome, stores⟩ := outcome_finish (u := putKeyInter u q k) running.found 0 0 k.value.length 0 []
    exact ⟨rfl, outcome, stores, running.leaves.1, List.mem_append_right _ (List.mem_singleton_self _)⟩
  · exact fails_of_run quiet (show exec (.kstateLoad i) s = runOp s i 0x74 kstateLoadRun from rfl) runs
      fun u _ => (kstateLoadRun_keyed key u src).1 bad
  · exact loads_of_run quiet rfl runs fun u => ((kstateLoadRun_keyed key u src).2 a aux).1 hmac
  · exact loads_of_run quiet rfl runs fun u => ((kstateLoadRun_keyed key u src).2 a aux).2 kmac
  · have ready : readyReq s i 0x71 = some q ∨ readyReq s i 0x74 = some q := runs.imp And.left And.left
    have found : findReq s i = some q := ready.elim (fun h => (readyReq_found h).1) fun h => (readyReq_found h).1
    exact ⟨_, exec_storeWaitExpiry ready full, outcome_failReq found 0x20 0x08⟩

end Sys2Proof.TackRoom

namespace Sys2Proof.TackRoom
open Sys2Proof.Machine Sys2Proof.Safety Sys2Proof.Waking Sys2Proof.HostLink Sys2Proof.Rings

/-! ### Fields of the command words (R354, R368) -/

/-- Below GO, TKR_PROG_CTL is as it is written (R368). -/
theorem field_go (v : BitVec 32) {lo n : Nat} (h : lo + n ≤ 31) : field (v.setWidth 64 ||| 0x80000000) lo n = field v lo n := by
  have go : (0x80000000 : BitVec 64) = BitVec.twoPow 64 31 := by decide
  refine BitVec.eq_of_getLsbD_eq fun i hi => ?_
  have fits : lo + i < 64 := by omega
  have below : lo + i ≠ 31 := by omega
  simp [field, go, hi, fits, below]

/-- The word of TKR_LC_CMD that carries a command in its low bits (R354). -/
def lcCommand (v : BitVec 32) (c : BitVec 4) : BitVec 64 := (v.setWidth 64 &&& ~~~0xF) ||| c.setWidth 64

/-- Its key and its command. -/
theorem lcCommand_fields (v : BitVec 32) (c : BitVec 4) :
    field (lcCommand v c) 16 16 = field v 16 16 ∧ field (lcCommand v c) 0 4 = c := by
  have low (i : Nat) : (0xF : BitVec 64).getLsbD i = decide (i < 4) := by
    rw [show (0xF : BitVec 64) = BitVec.ofNat 64 (2 ^ 4 - 1) by decide, BitVec.getLsbD_ofNat, Nat.testBit_two_pow_sub_one]
    by_cases h : i < 4
    · have fits : i < 64 := by omega
      simp [h, fits]
    · simp [h]
  refine ⟨BitVec.eq_of_getLsbD_eq fun i hi => ?_, BitVec.eq_of_getLsbD_eq fun i hi => ?_⟩
  · have fits : 16 + i < 64 := by omega
    have above : ¬ 16 + i < 4 := by omega
    have none : c.getLsbD (16 + i) = false := BitVec.getLsbD_of_ge _ _ (by omega)
    simp only [field, lcCommand, BitVec.getLsbD_extractLsb', BitVec.getLsbD_or, BitVec.getLsbD_and, BitVec.getLsbD_not,
      BitVec.getLsbD_setWidth, low, hi, fits, above, none]
    simp
  · have fits : i < 64 := by omega
    simp only [field, lcCommand, BitVec.getLsbD_extractLsb', BitVec.getLsbD_or, BitVec.getLsbD_and, BitVec.getLsbD_not,
      BitVec.getLsbD_setWidth, low, hi, fits, Nat.zero_add]
    simp

/-! ### Slot programming starts (R319, R320) -/

/-- No sequence and no transition runs. -/
def ProgFree (s : State) : Prop := s.tkr.progBusy = none ∧ s.tkr.lcBusy = none

/-- A slot that may be programmed: not TS0, and unprogrammed (R319). -/
def SlotBlank (s : State) (k : SlotId) : Prop := k ≠ 0 ∧ s.tkr.slots[k].state = .unprogrammed

/-- A part that takes slots: SEEDED or OWNED, with debug closed (R319, R358). -/
def ProgAllowed (s : State) : Prop := (lcCode s = 1 ∨ lcCode s = 2) ∧ s.tkr.debugOpen = false

/-- The tests of GO, in the model's words. -/
theorem progGo_tests (s : State) (k : SlotId) :
    ((s.tkr.progBusy.isSome || s.tkr.lcBusy.isSome) = true ↔ ¬ ProgFree s) ∧
    ((k.val = 0 ∨ s.tkr.slots[k].state ≠ .unprogrammed) ↔ ¬ SlotBlank s k) ∧
    (((lcCode s ≠ 1 ∧ lcCode s ≠ 2) ∨ s.tkr.debugOpen = true) ↔ ¬ ProgAllowed s) := by
  unfold ProgFree SlotBlank ProgAllowed
  refine ⟨?_, ?_, ?_⟩
  · rw [Bool.or_eq_true, Option.isSome_iff_ne_none, Option.isSome_iff_ne_none, not_and_or]
  · rw [Fin.ne_iff_vne, not_and_or, not_ne_iff]
    rfl
  · rw [not_and_or, not_or, Bool.not_eq_false]

/-- GO refused with its code of ERR, each test after those before it (R319). -/
theorem progGo_refuses {s : State} {k : SlotId} (slot : (bvFin s.tkr.progSlot : SlotId) = k) (agree : Bool) :
    (¬ ProgFree s → progGo s agree = progErr s 6) ∧
    (ProgFree s → ¬ SlotBlank s k → progGo s agree = progErr s 1) ∧
    (ProgFree s → SlotBlank s k → ¬ ProgAllowed s → progGo s agree = progErr s 2) ∧
    (ProgFree s → SlotBlank s k → ProgAllowed s → slotAttrBad s.tkr.progAttr = true → progGo s agree = progErr s 3) := by
  obtain ⟨busy, taken, barred⟩ := progGo_tests s k
  unfold progGo
  simp only [slot]
  refine ⟨fun h => ?_, fun free h => ?_, fun free blank h => ?_, fun free blank allowed bad => ?_⟩
  · rw [if_pos (busy.2 h)]
  · rw [if_neg (busy.not_left.2 free), if_pos (taken.2 h)]
  · rw [if_neg (busy.not_left.2 free), if_neg (taken.not_left.2 blank), if_pos (barred.2 h)]
  · rw [if_neg (busy.not_left.2 free), if_neg (taken.not_left.2 blank), if_neg (barred.not_left.2 allowed), if_pos bad]

/-- A GO that nothing refuses. -/
structure ProgGood (s : State) (k : SlotId) : Prop where
  free : ProgFree s
  blank : SlotBlank s k
  allowed : ProgAllowed s
  attr : slotAttrBad s.tkr.progAttr = false

/-- What it starts: a sequence that draws its value, or one with a blob's value, if the two cores agree on that (R315, R320). -/
theorem progGo_good {s : State} {k : SlotId} (slot : (bvFin s.tkr.progSlot : SlotId) = k) (good : ProgGood s k) :
    (s.tkr.progSource = 0 → ∀ agree, progGo s agree = progStart s k none) ∧
    (s.tkr.progSource ≠ 0 →
      (∀ w, progBlobValue s = some w → progGo s true = progStart s k (some (BitVec.ofNat 256 (leNat w)))) ∧
      (progBlobValue s = none → progGo s true = progErr s 4) ∧
      progGo s false = raiseHs (progErr s 4) 79 none) := by
  obtain ⟨busy, taken, barred⟩ := progGo_tests s k
  obtain ⟨free, blank, allowed, attr⟩ := good
  unfold progGo
  simp only [slot, if_neg (busy.not_left.2 free), if_neg (taken.not_left.2 blank), if_neg (barred.not_left.2 allowed), attr,
    Bool.false_eq_true, if_false]
  refine ⟨fun drawn _ => if_pos drawn, fun blob => ⟨fun w value => ?_, fun none => ?_, if_neg blob⟩⟩
  · simp only [if_neg blob, value, Bool.not_true, Bool.false_eq_true, if_false]
  · simp only [if_neg blob, none, Bool.not_true, Bool.false_eq_true, if_false]

/-- TKR_PROG_CTL with its slot, stall and source taken (R368). -/
def progChosen (s : State) (v : BitVec 32) : State :=
  { s with tkr := { s.tkr with
    progSlot := field v 0 9, progStall := field v 16 6,
    progSource := if 2 ≤ (field v 9 2 : BitVec 2).toNat then s.tkr.progSource else field v 9 2 } }

/-- TKR_PROG_GO by PF1. -/
theorem exec_tkrProgGo {s : State} (served : WritesServed s .pf1) (v : BitVec 32) (agree : Bool) :
    exec (.tkrProgGo .pf1 ⟨v, agree⟩) s = .next (settle (progGo (progChosen s v) agree)) := by
  have done : exec (.tkrProgGo .pf1 ⟨v, agree⟩) s =
      .next (settle (wrProgCtl s .pf1 (v.setWidth 64 ||| 0x80000000) (BitVec.allOnes 64) agree)) := congrArg _ (gateW_served served _)
  have go : bit ((v.setWidth 64 ||| 0x80000000) &&& BitVec.allOnes 64) 31 = true := by simp [bit]
  rw [done]
  unfold wrProgCtl
  simp only [go, if_true, field_go v (show 0 + 9 ≤ 31 by decide), field_go v (show 9 + 2 ≤ 31 by decide),
    field_go v (show 16 + 6 ≤ 31 by decide)]
  rfl

/-- A sequence started on a slot: of the other slots none changes. -/
theorem progStart_slots (s : State) (k : SlotId) (w : Option (BitVec 256)) :
    (progStart s k w).tkr.slots[k] = { s.tkr.slots[k] with state := .programming } ∧
    ∀ j : SlotId, j ≠ k → (progStart s k w).tkr.slots[j] = s.tkr.slots[j] :=
  ⟨upd_self _ _ _, fun _ hj => upd_other _ _ hj.symm⟩

/-! ### Slot programming ends (R318, R321) -/

/-- A slot as it is programmed (R316). -/
def slotWritten (s : State) (v : BitVec 256) (st : SlotState) : Slot :=
  { value := v, attr := s.tkr.progWord, crc := crc32c (slotBytes v s.tkr.progWord), state := st }

/-- A sequence that has ended, with its slot, its code of ERR and its draw used up (R321). -/
def slotProgrammed (s : State) (k : SlotId) (x : Slot) (e : BitVec 4) : State :=
  { s with tkr := { s.tkr with slots := s.tkr.slots.set k x, progBusy := none, progValue := none, progDone := true, progErr := e },
           ent := { s.ent with granted := s.ent.granted.filter fun g => decide (g.1 ≠ .slotProgram) } }

/-- SLOT_PROGRAM_DONE of a sequence with its value. -/
theorem exec_slotProgramDone {s : State} {k : SlotId} {v : BitVec 256} (busy : s.tkr.progBusy = some k) (value : progValueNow s = some v) :
    exec (.slotProgramDone true) s = .next (settle (raiseEv (slotProgrammed s k (slotWritten s v .valid) 0) 299)) ∧
    exec (.slotProgramDone false) s =
      .next (settle (raiseEv (raiseHs (slotProgrammed s k (slotWritten s v .bad) 5) 79 none) 299)) := by
  have unfolded (ok : Bool) : exec (.slotProgramDone ok) s = execSlotProgramDone ok s := rfl
  rw [unfolded, unfolded]
  unfold execSlotProgramDone
  simp only [busy, value]
  exact ⟨rfl, rfl⟩

/-- What an ended sequence leaves, told by EV299. -/
structure SlotDone (s : State) (k : SlotId) (x : Slot) (e : BitVec 4) (t : State) : Prop where
  slot : t.tkr.slots[k] = x
  err : t.tkr.progErr = e
  others : ∀ j : SlotId, j ≠ k → t.tkr.slots[j] = s.tkr.slots[j]
  idle : t.tkr.progBusy = none
  done : t.tkr.progDone = true
  told : (evSrc t .pf1 299).cause = true

/-- The raise of EV299 leaves the ended sequence and the Halter. -/
theorem slotDone_raised {s u : State} {k : SlotId} {x : Slot} {e : BitVec 4} (tkr : u.tkr = (slotProgrammed s k x e).tkr)
    (good : RoutesGood u) : SlotDone s k x e (raiseEv u 299) ∧ (raiseEv u 299).hlt = u.hlt := by
  obtain ⟨only, -⟩ := raiseEv_spec good 299 false
  obtain ⟨cause, -⟩ := raiseEv_device u (k := 299) false (by decide) (by decide)
  generalize raiseEv u 299 = t at only cause
  have same : t.tkr = (slotProgrammed s k x e).tkr := by rw [only, tkr]
  refine ⟨⟨?_, by rw [same]; rfl, fun j hj => ?_, by rw [same]; rfl, by rw [same]; rfl, cause⟩, by rw [only]⟩
  · rw [same]
    exact Vector.getElem_set_self _
  · rw [same]
    exact Vector.getElem_set_ne k.isLt j.isLt fun c => hj (Fin.ext c.symm)

end Sys2Proof.TackRoom

namespace Sys2Proof.TackRoom
open Sys2Proof.Machine Sys2Proof.Safety Sys2Proof.Waking Sys2Proof.HostLink Sys2Proof.Rings

/-! ### Life-cycle commands (R354, R355) -/

/-- A sequence or a transition runs. -/
def RoomBusy (s : State) : Prop := s.tkr.lcBusy ≠ none ∨ s.tkr.progBusy ≠ none

/-- A transition started: RETIRE waits for the requests admitted so far (R354). -/
def lcStarted (s : State) (m : LcMove) : State := { s with tkr := { s.tkr with lcBusy := some m, lcFrom := s.nextId } }

/-- TKR_LC_CMD with its key, by the command that it carries (R354). -/
theorem wrLcCmd_keyed {s : State} {x : BitVec 64} (key : field x 16 16 = 0x7AC0) :
    (RoomBusy s → wrLcCmd s .pf1 x = tkrErr s) ∧
    (¬ RoomBusy s → (∀ m, lcStart s (field x 0 4).toNat = some m → wrLcCmd s .pf1 x = lcStarted s m) ∧
      (lcStart s (field x 0 4).toNat = none → wrLcCmd s .pf1 x = tkrErr s)) := by
  have test : (s.tkr.lcBusy.isSome || s.tkr.progBusy.isSome) = true ↔ RoomBusy s := by
    simp only [RoomBusy, Bool.or_eq_true, Option.isSome_iff_ne_none]
  unfold wrLcCmd
  simp only [key, ne_eq, not_true_eq_false, if_false]
  refine ⟨fun busy => if_pos (test.2 busy), fun idle => ⟨fun m starts => ?_, fun none => ?_⟩⟩
  · rw [if_neg (test.not.2 idle), starts]
    rfl
  · rw [if_neg (test.not.2 idle), none]

/-- Without its key it is ignored (R362). -/
theorem wrLcCmd_unkeyed {s : State} {x : BitVec 64} (key : field x 16 16 ≠ 0x7AC0) : wrLcCmd s .pf1 x = s := if_pos key

/-- RETIRE starts in every state but RETIRED, and no command but TAKE_OWNERSHIP and RETIRE does (R354). -/
theorem lcStart_commands (s : State) :
    (lcCode s ≠ 3 → lcStart s 2 = some .retire) ∧ (lcCode s = 3 → lcStart s 2 = none) ∧
    ∀ c, c ≠ 1 → c ≠ 2 → lcStart s c = none := by
  unfold lcStart
  refine ⟨fun h => ?_, fun h => by rw [h]; rfl, fun c one two => ?_⟩
  · generalize lcCode s = m at h
    match m with
    | 0 | 1 | 2 | _ + 4 => rfl
    | 3 => exact absurd rfl h
  · match c with
    | 0 | _ + 3 => rfl
    | 1 => exact absurd rfl one
    | 2 => exact absurd rfl two

/-- The three commands as PF1 writes them. -/
theorem exec_lcCommands {s : State} (served : WritesServed s .pf1) (v : BitVec 32) :
    exec (.tkrLcTakeOwnership .pf1 v) s = .next (wrLcCmd s .pf1 (lcCommand v 1)) ∧
    exec (.tkrLcRetire .pf1 v) s = .next (wrLcCmd s .pf1 (lcCommand v 2)) ∧
    exec (.tkrLcCmdInvalid .pf1 v) s = .next (wrLcCmd s .pf1 (v.setWidth 64)) :=
  ⟨congrArg _ (gateW_served served _), congrArg _ (gateW_served served _), congrArg _ (gateW_served served _)⟩

/-- Life-cycle commands with their key (R354). -/
theorem lcCommands_keyed {s : State} (served : WritesServed s .pf1) {v : BitVec 32} (key : field v 16 16 = 0x7AC0) :
    (RoomBusy s → exec (.tkrLcTakeOwnership .pf1 v) s = .next (tkrErr s) ∧ exec (.tkrLcRetire .pf1 v) s = .next (tkrErr s)) ∧
    (¬ RoomBusy s →
      (∀ m, lcStart s 1 = some m → exec (.tkrLcTakeOwnership .pf1 v) s = .next (lcStarted s m)) ∧
      (lcStart s 1 = none → exec (.tkrLcTakeOwnership .pf1 v) s = .next (tkrErr s)) ∧
      (lcCode s ≠ 3 → exec (.tkrLcRetire .pf1 v) s = .next (lcStarted s .retire)) ∧
      (lcCode s = 3 → exec (.tkrLcRetire .pf1 v) s = .next (tkrErr s))) ∧
    ((field v 0 4).toNat ≠ 1 → (field v 0 4).toNat ≠ 2 → exec (.tkrLcCmdInvalid .pf1 v) s = .next (tkrErr s)) := by
  obtain ⟨take, retire, invalid⟩ := exec_lcCommands served v
  obtain ⟨retires, retired, unlisted⟩ := lcStart_commands s
  have command (c : BitVec 4) := wrLcCmd_keyed (s := s) ((lcCommand_fields v c).1.trans key)
  simp only [(lcCommand_fields v _).2] at command
  obtain ⟨busyTake, idleTake⟩ := command 1
  obtain ⟨busyRetire, idleRetire⟩ := command 2
  obtain ⟨busyAny, idleAny⟩ := wrLcCmd_keyed (s := s) ((field_setWidth v (show 16 + 16 ≤ 32 by decide)).trans key)
  rw [field_setWidth v (show 0 + 4 ≤ 32 by decide)] at idleAny
  rw [take, retire, invalid]
  refine ⟨fun busy => ⟨congrArg _ (busyTake busy), congrArg _ (busyRetire busy)⟩, fun idle => ?_, fun one two => congrArg _ ?_⟩
  · obtain ⟨starts, refused⟩ := idleTake idle
    obtain ⟨startsRetire, refusedRetire⟩ := idleRetire idle
    exact ⟨fun m h => congrArg _ (starts m h), fun h => congrArg _ (refused h), fun h => congrArg _ (startsRetire _ (retires h)),
      fun h => congrArg _ (refusedRetire (retired h))⟩
  · by_cases busy : RoomBusy s
    · exact busyAny busy
    · exact (idleAny busy).2 (unlisted _ one two)

/-- Life-cycle commands without their key (R362). -/
theorem lcCommands_unkeyed {s : State} (served : WritesServed s .pf1) {v : BitVec 32} (key : field v 16 16 ≠ 0x7AC0) :
    exec (.tkrLcCmdInvalid .pf1 v) s = .next s ∧ exec (.tkrLcTakeOwnership .pf1 v) s = .next s ∧
    exec (.tkrLcRetire .pf1 v) s = .next s := by
  obtain ⟨take, retire, invalid⟩ := exec_lcCommands served v
  have command (c : BitVec 4) : wrLcCmd s .pf1 (lcCommand v c) = s := wrLcCmd_unkeyed (by rw [(lcCommand_fields v c).1]; exact key)
  rw [take, retire, invalid, command, command,
    wrLcCmd_unkeyed (by rw [field_setWidth v (show 16 + 16 ≤ 32 by decide)]; exact key)]
  exact ⟨rfl, rfl, rfl⟩

/-- PF0 changes nothing in the Tack Room (R362, R363, R368). -/
theorem pf0_changes_no_room {s : State} (quiet : Quiet s) (served : WritesServed s .pf0) (v : BitVec 32) :
    (∀ agree, exec (.tkrProgGo .pf0 ⟨v, agree⟩) s = .next s) ∧ exec (.tkrLcTakeOwnership .pf0 v) s = .next s ∧
    exec (.tkrLcRetire .pf0 v) s = .next s ∧ exec (.tkrLcCmdInvalid .pf0 v) s = .next s ∧ exec (.tkrCtlWrite .pf0 v) s = .next s :=
  ⟨fun _ => congrArg _ ((gateW_served served _).trans (settle_of_quiet quiet)), congrArg _ (gateW_served served _),
    congrArg _ (gateW_served served _), congrArg _ (gateW_served served _), congrArg _ (gateW_served served _)⟩

/-! ### Every key cleared (R358, R688) -/

/-- What clearing keys may touch besides units, requests, intermediates, the feed and events: of the Tack Room the store alone. -/
structure StoreOnly (s t : State) : Prop where
  tkr : ∃ v : Vector Entry 2048, t.tkr = { s.tkr with store := v }
  boot : t.boot = s.boot
  mrb : t.mrb = s.mrb
  calm : Calm s t

/-- What leaves the Tack Room, boot, the Measurement Bank, the Halter and events. -/
theorem StoreOnly.of_eq {s t : State} (tkr : t.tkr = s.tkr) (boot : t.boot = s.boot) (mrb : t.mrb = s.mrb) (hlt : t.hlt = s.hlt)
    (evt : t.evt = s.evt) : StoreOnly s t :=
  ⟨⟨s.tkr.store, tkr⟩, boot, mrb, Calm.of_eq hlt evt⟩

/-- Two such changes one after the other. -/
theorem StoreOnly.trans {s t u : State} (h : StoreOnly s t) (g : StoreOnly t u) : StoreOnly s u := by
  obtain ⟨⟨v, store⟩, boot, mrb, calm⟩ := h
  obtain ⟨⟨w, store'⟩, boot', mrb', calm'⟩ := g
  exact ⟨⟨w, by rw [store', store]⟩, boot'.trans boot, mrb'.trans mrb, calm.trans calm'⟩

/-- A store put in place of another. -/
theorem storeOnly_store (s : State) (v : Vector Entry 2048) : StoreOnly s { s with tkr := { s.tkr with store := v } } :=
  ⟨⟨v, rfl⟩, rfl, rfl, Calm.of_eq rfl rfl⟩

/-- A raise. -/
theorem raiseEv_storeOnly (s : State) (k : EvId) : StoreOnly s (raiseEv s k) := by
  have calm := raiseEv_calm s k false
  have raised := raiseEv_only s k false
  generalize raiseEv s k = t at calm raised ⊢
  refine ⟨⟨s.tkr.store, ?_⟩, ?_, ?_, calm⟩ <;> rw [raised]

/-- The sweep of dropped entries. -/
theorem sweepDropped_storeOnly (s : State) : StoreOnly s (sweepDropped s) := by
  obtain ⟨v, swept, -⟩ := sweepDropped_eq s
  rw [swept]
  exact storeOnly_store s v

/-- A feed session that fails (R424, R427). -/
theorem feedFail_storeOnly (s : State) (code : Byte) : StoreOnly s (feedFail s code) := by
  unfold feedFail feedError
  refine StoreOnly.trans (StoreOnly.trans ?_ (sweepDropped_storeOnly _)) (raiseEv_storeOnly _ 300)
  exact StoreOnly.of_eq rfl rfl rfl rfl rfl

/-- No key register, and no entry of the store. -/
def NoKeys (s : State) : Prop := (∀ u : UnitId, s.units[u].keyReg = none) ∧ ∀ h : Handle, s.tkr.store[h].kind = 0

/-- Every key register zeroised. -/
theorem zeroKeyRegs_all (s : State) : StoreOnly s (zeroKeyRegs s fun _ => true) ∧
    ∀ u : UnitId, (zeroKeyRegs s fun _ => true).units[u].keyReg = none := by
  unfold zeroKeyRegs
  refine ⟨StoreOnly.of_eq rfl rfl rfl rfl rfl, fun u => ?_⟩
  dsimp only
  rw [vmap_get]
  split
  · rfl
  next none => exact none

/-- Every entry of the store zeroised: no unit changes. -/
theorem zeroEntries_all (s : State) : StoreOnly s (zeroEntries s fun _ => true) ∧
    (zeroEntries s fun _ => true).units = s.units ∧ ∀ h : Handle, (zeroEntries s fun _ => true).tkr.store[h].kind = 0 := by
  have zeroed : ∃ v : Vector Entry 2048, zeroEntries s (fun _ => true) = { s with tkr := { s.tkr with store := v } } ∧
      ∀ h : Handle, v[h] = if s.tkr.store[h].kind ≠ 0 ∧ true then Entry.reset else s.tkr.store[h] := ⟨_, rfl, fun _ => vmap_get _ _ _⟩
  obtain ⟨v, only, entries⟩ := zeroed
  rw [only]
  refine ⟨storeOnly_store s v, rfl, fun h => (congrArg Entry.kind (entries h)).trans ?_⟩
  split
  · rfl
  next kept => exact Decidable.not_not.1 fun used => kept ⟨used, rfl⟩

/-- Every key of the device cleared. -/
theorem clearKeys_spec (s : State) : StoreOnly s (clearKeys s) ∧ NoKeys (clearKeys s) := by
  have fed : StoreOnly s (if feedActive s ∧ s.feed.key.isSome then feedFail s 0x7F else s) := by
    split
    · exact feedFail_storeOnly s 0x7F
    · exact StoreOnly.of_eq rfl rfl rfl rfl rfl
  unfold clearKeys
  generalize (if feedActive s ∧ s.feed.key.isSome then feedFail s 0x7F else s) = a at fed ⊢
  dsimp only
  obtain ⟨regs, registers⟩ := zeroKeyRegs_all a
  generalize zeroKeyRegs a (fun _ => true) = b at regs registers ⊢
  obtain ⟨entries, units, free⟩ := zeroEntries_all b
  generalize zeroEntries b (fun _ => true) = c at entries units free ⊢
  refine ⟨((fed.trans regs).trans entries).trans (StoreOnly.of_eq rfl rfl rfl rfl rfl), fun u => ?_, fun h => ?_⟩
  · show c.units[u].keyReg = none
    rw [units]
    exact registers u
  · show c.tkr.store[h].kind = 0
    exact free h

/-! ### Life-cycle transitions end (R353-R355) -/

/-- LC_TRANSITION_END of RETIRE waits for the requests admitted before it, and then clears every key (R354). -/
theorem exec_lcTransitionEnd_retire {s : State} (retiring : s.tkr.lcBusy = some .retire) (ok : Bool) :
    ((∃ q ∈ s.reqs, q.id < s.tkr.lcFrom) → exec (.lcTransitionEnd ok) s = .next s) ∧
    ((∀ q ∈ s.reqs, s.tkr.lcFrom ≤ q.id) → exec (.lcTransitionEnd ok) s = .next (settle (lcEnd (clearKeys s) 2))) := by
  have unfolded : exec (.lcTransitionEnd ok) s = execLcTransitionEnd ok s := rfl
  rw [unfolded]
  unfold execLcTransitionEnd
  simp only [retiring, List.any_eq_true, decide_eq_true_eq]
  exact ⟨fun waits => if_pos waits, fun drained => if_neg fun ⟨q, hq, before⟩ => Nat.not_lt.2 (drained q hq) before⟩

/-- LC_TRANSITION_END of a TAKE_OWNERSHIP that finds its copy in place (R355). -/
theorem exec_lcTransitionEnd_finishOwn {s : State} (finishing : s.tkr.lcBusy = some .finishOwn) (ok : Bool) :
    exec (.lcTransitionEnd ok) s = .next (settle (lcEnd s 1)) := by
  show execLcTransitionEnd ok s = _
  unfold execLcTransitionEnd
  simp only [finishing]

/-- A transition that ends without its byte: EV298. -/
def lcStopped (s : State) : State := raiseEv { s with tkr := { s.tkr with lcBusy := none } } 298

/-- LC_TRANSITION_END of a TAKE_OWNERSHIP that programs a copy (R354, R355). -/
theorem exec_lcTransitionEnd_own {s : State} {b : Bool} (owning : s.tkr.lcBusy = some (.own b)) :
    exec (.lcTransitionEnd true) s = .next (settle (lcEnd (ownCopy s b true) 1)) ∧
    exec (.lcTransitionEnd false) s = .next (settle (raiseHs (lcStopped (ownCopy s b false)) 79 none)) := by
  have unfolded (ok : Bool) : exec (.lcTransitionEnd ok) s = execLcTransitionEnd ok s := rfl
  rw [unfolded, unfolded]
  unfold execLcTransitionEnd
  simp only [owning]
  exact ⟨rfl, rfl⟩

/-- What a transition's end with its byte leaves, told by EV298. -/
structure LcEnded (s : State) (i : Fin 3) (t : State) : Prop where
  tkr : t.tkr = { s.tkr with lcWord := s.tkr.lcWord.set i 0xFF, lcBusy := none }
  units : t.units = s.units
  hlt : t.hlt = s.hlt
  told : (evSrc t .pf1 298).cause = true

/-- The byte itself. -/
theorem LcEnded.byte {s t : State} {i : Fin 3} (h : LcEnded s i t) : t.tkr.lcBusy = none ∧ t.tkr.lcWord[i] = 0xFF := by
  rw [h.tkr]
  exact ⟨rfl, Vector.getElem_set_self _⟩

/-- A byte programmed, with good routes. -/
theorem lcEnd_ended {s : State} (good : RoutesGood s) (i : Fin 3) : LcEnded s i (lcEnd s i) := by
  have only := lcEnd_only good i
  obtain ⟨told, -⟩ := raiseEv_device { s with tkr := { s.tkr with lcWord := s.tkr.lcWord.set i 0xFF, lcBusy := none } } (k := 298)
    false (by decide) (by decide)
  change (evSrc (lcEnd s i) .pf1 298).cause = true at told
  generalize lcEnd s i = t at only told
  refine ⟨?_, ?_, ?_, told⟩ <;> rw [only]

/-- A transition's end with its byte, where the Halter is quiet. -/
theorem lcEnd_settles {c : Instr} {s u : State} {i : Fin 3} (quiet : Quiet u) (good : RoutesGood u)
    (done : exec c s = .next (settle (lcEnd u i))) : Ends c s (LcEnded u i) := by
  have ended := lcEnd_ended good i
  rw [settle_of_quiet (by rw [ended.hlt]; exact quiet)] at done
  exact ⟨_, done, ended⟩

/-- The owner copies once one is programmed well (R355). -/
theorem ownCopy_good (s : State) (b : Bool) :
    (if b then (ownCopy s b true).tkr.ownerB else (ownCopy s b true).tkr.ownerA) = ownGood s := by
  cases b <;> rfl

/-- Programming a copy leaves the life-cycle word, the Halter and events. -/
theorem ownCopy_leaves (s : State) (b ok : Bool) :
    (ownCopy s b ok).tkr.lcWord = s.tkr.lcWord ∧ (ownCopy s b ok).hlt = s.hlt ∧ (ownCopy s b ok).evt = s.evt := by
  cases b <;> cases ok <;> exact ⟨rfl, rfl, rfl⟩

/-- A transition that ends without its byte leaves the life-cycle word. -/
theorem lcStopped_spec (s : State) : (lcStopped s).tkr.lcBusy = none ∧ (lcStopped s).tkr.lcWord = s.tkr.lcWord ∧
    (evSrc (lcStopped s) .pf1 298).cause = true := by
  have raised := raiseEv_only { s with tkr := { s.tkr with lcBusy := none } } 298 false
  obtain ⟨told, -⟩ := raiseEv_device { s with tkr := { s.tkr with lcBusy := none } } (k := 298) false (by decide) (by decide)
  unfold lcStopped
  generalize raiseEv { s with tkr := { s.tkr with lcBusy := none } } 298 = t at raised told ⊢
  refine ⟨?_, ?_, told⟩ <;> rw [raised]

/-! ### TKR_DOMAIN, TKR_CTL and key idling (R349, R358, R363) -/

/-- TKR_DOMAIN as PF1 writes it: taken for a stall that is FREE or QUIESCED (R358). -/
theorem wrDomain_states (s : State) (n : StallId) (v : BitVec 64) :
    ((s.stalls[n].state = .free ∨ s.stalls[n].state = .quiesced) → wrDomain s .pf1 n v =
      setStall s n fun x => { x with domain := field v 0 32, kekGen := field v 32 24, importEn := bit v 56 }) ∧
    ((s.stalls[n].state ≠ .free ∧ s.stalls[n].state ≠ .quiesced) → wrDomain s .pf1 n v = tkrErr s) := by
  unfold wrDomain
  dsimp only
  cases s.stalls[n].state <;> simp

/-- TKR_DOMAIN_WRITE by PF1. -/
theorem exec_tkrDomainWrite {s : State} (served : WritesServed s .pf1) (n : StallId) (v : BitVec 64) :
    exec (.tkrDomainWrite .pf1 n v) s = .next (wrDomain (dropLow s .pf1 (BitVec.ofNat 20 (0x0C800 + 8 * n.val))) .pf1 n v) :=
  congrArg _ (gateW64_served served _ _)

/-- TKR_CTL with KEY_IDLE and STORE_WAIT taken (R363). -/
def ctlTaken (s : State) (x : BitVec 64) : State :=
  { s with tkr := { s.tkr with keyIdle := field x 0 16, storeWait := field x 16 16 } }

/-- TKR_CTL as PF1 writes it: a register not in use that was idle for KEY_IDLE is zeroised (R363). -/
theorem wrTkrCtl_spec (s : State) (x : BitVec 64) :
    let idle : BitVec 16 := field x 0 16
    let t := wrTkrCtl s .pf1 x
    t = { ctlTaken s x with units := t.units } ∧ ∀ u : UnitId, t.units[u] =
      if idle ≠ 0 ∧ keyIdleNow s.units[u] = true ∧ (s.units[u].keyReg.any fun k =>
        decide (1000 * idle.toNat ≤ atRate s.boot.clkRate (s.cycle - k.lastUse))) = true
      then { s.units[u] with keyReg := none } else s.units[u] := by
  intro idle t
  let late (y : UnitState) : Bool := keyIdleNow y &&
    (y.keyReg.map fun k => decide (1000 * idle.toNat ≤ atRate s.boot.clkRate (s.cycle - k.lastUse))).getD false
  have test (y : UnitState) : late y = true ↔ keyIdleNow y = true ∧ (y.keyReg.any fun k =>
      decide (1000 * idle.toNat ≤ atRate s.boot.clkRate (s.cycle - k.lastUse))) = true := by
    refine Bool.and_eq_true_iff.trans (and_congr_right' ?_)
    cases y.keyReg <;> exact Iff.rfl
  have taken : t = if idle = 0 then ctlTaken s x
      else { ctlTaken s x with units := vmap (fun y => if late y then { y with keyReg := none } else y) s.units } := rfl
  rw [taken]
  by_cases off : idle = 0
  · rw [if_pos off]
    exact ⟨rfl, fun u => (if_neg fun h => h.1 off).symm⟩
  · rw [if_neg off]
    refine ⟨rfl, fun u => ?_⟩
    dsimp only
    rw [vmap_get]
    exact if_congr ((test _).trans (and_iff_right off).symm) rfl rfl

/-- TKR_CTL_WRITE by PF1. -/
theorem exec_tkrCtlWrite {s : State} (served : WritesServed s .pf1) (v : BitVec 32) :
    exec (.tkrCtlWrite .pf1 v) s = .next (wrTkrCtl s .pf1 (v.setWidth 64)) := congrArg _ (gateW_served served _)

/-- KEY_IDLE_EXPIRY of a unit on which nothing runs and nothing is suspended (R349). -/
theorem exec_keyIdleExpiry {s : State} {u : UnitId} (on : s.tkr.keyIdle ≠ 0) (idle : s.units[u].run = none)
    (alone : s.units[u].suspended = none) :
    exec (.keyIdleExpiry u) s = .next (setUnit s u fun x => { x with keyReg := none }) :=
  congrArg _ (if_pos ⟨on, by rw [keyIdleNow, idle, alone]; rfl⟩)

end Sys2Proof.TackRoom

namespace Sys2Proof.TackRoom
open Sys2Proof.Machine Sys2Proof.Safety Sys2Proof.Waking Sys2Proof.HostLink Sys2Proof.Rings

/-! ### The debug nonce (R356, R780) -/

/-- An instruction of the TAP selected, with nothing else done. -/
def irSelected (s : State) (code : Byte) : State := { s with jtag := { s.jtag with ir := code } }

/-- The bytes of a nonce, from the entry drawn for it. -/
def nonceOf (e : BitVec 512) : List Byte := slice (leBytes 64 e.toNat) 0 32

/-- DBG_NONCE where the DBG_ instructions act (R356, R780). -/
theorem exec_dbgNonce {s : State} (acts : dbgActs s = true) (up : Bool) :
    ((4 ≤ s.tkr.fails.toNat ∨ s.boot.phase = .otp) →
      exec (.dbgNonce up) s = .next (answer (irSelected s 0x20) (.bytes (zeros 32)))) ∧
    (¬ (4 ≤ s.tkr.fails.toNat ∨ s.boot.phase = .otp) →
      (∀ e l, grantedTo s .debugNonce = e :: l → exec (.dbgNonce up) s = .next (nonceOut (irSelected s 0x20) e up)) ∧
      (grantedTo s .debugNonce = [] →
        (∀ e l, s.ent.queue = e :: l → exec (.dbgNonce up) s =
          .next (nonceOut { irSelected s 0x20 with ent := { s.ent with queue := l } } e up)) ∧
        (s.ent.queue = [] → exec (.dbgNonce up) s = .next (irSelected s 0x20)))) := by
  have unfolded : exec (.dbgNonce up) s = execDbgNonce up s := rfl
  have granted : grantedTo { s with jtag := { s.jtag with ir := 0x20 } } .debugNonce = grantedTo s .debugNonce := rfl
  rw [unfolded]
  unfold execDbgNonce
  simp only [acts, Bool.not_true, Bool.false_eq_true, if_false]
  refine ⟨fun shut => if_pos shut, fun open' => ⟨fun e l drawn => ?_, fun none => ⟨fun e l queue => ?_, fun queue => ?_⟩⟩⟩
  · simp only [if_neg open', granted, drawn]
    rfl
  · simp only [if_neg open', granted, none, queue]
    rfl
  · simp only [if_neg open', granted, none, queue]
    rfl

/-- With the entries granted to a consumer taken away, none is left. -/
theorem granted_removed (l : List (Consumer × List (BitVec 512))) (c : Consumer) :
    (l.filter fun g => decide (g.1 ≠ c)).find? (fun g => decide (g.1 = c)) = none := by
  rw [List.find?_eq_none]
  intro g hg
  simpa using (List.mem_filter.1 hg).2

/-- A nonce shifted out: the answer, the draw used up, and the nonce armed when Update-DR completes. -/
theorem nonceOut_spec (s : State) (e : BitVec 512) (up : Bool) :
    (nonceOut s e up).resp = .bytes (nonceOf e) ∧ grantedTo (nonceOut s e up) .debugNonce = [] ∧
    (nonceOut s e up).tkr = { s.tkr with nonce := if up then some (nonceOf e) else s.tkr.nonce } ∧
    (nonceOut s e up).ent.queue = s.ent.queue := by
  have bytes : slice (entryBytes [e]) 0 32 = nonceOf e := by
    unfold entryBytes nonceOf
    rw [List.flatMap_cons, List.flatMap_nil, List.append_nil]
  unfold nonceOut
  rw [bytes]
  have used : ((List.find? (fun g => decide (g.1 = .debugNonce)) (s.ent.granted.filter fun g => decide (g.1 ≠ .debugNonce))).map
      (·.2)).getD [] = [] := by
    rw [granted_removed]
    rfl
  cases up <;> exact ⟨rfl, used, rfl, rfl⟩

/-! ### Unlock (R356, R357) -/

/-- DBG_RESPONSE where the DBG_ instructions act (R356). -/
theorem exec_dbgResponse {s : State} (acts : dbgActs s = true) (resp : BitVec 768) :
    ((s.tkr.nonce = none ∨ 4 ≤ s.tkr.fails.toNat) → exec (.dbgResponse resp) s = .next (irSelected s 0x21)) ∧
    (∀ n, s.tkr.nonce = some n → s.tkr.fails.toNat < 4 →
      (debugOk s n (leBytes 96 resp.toNat) = false → exec (.dbgResponse resp) s =
        .next { irSelected s 0x21 with tkr := { s.tkr with fails := s.tkr.fails + 1, nonce := none } }) ∧
      (debugOk s n (leBytes 96 resp.toNat) = true → exec (.dbgResponse resp) s =
        .next (settle (debugUnlock { irSelected s 0x21 with tkr := { s.tkr with nonce := none } })))) := by
  have unfolded : exec (.dbgResponse resp) s = execDbgResponse resp s := rfl
  rw [unfolded]
  unfold execDbgResponse
  simp only [acts, Bool.not_true, Bool.false_eq_true, if_false]
  refine ⟨fun unarmed => ?_, fun n armed few => ?_⟩
  · rcases unarmed with none | many
    · simp only [none]
      rfl
    · cases s.tkr.nonce with
      | none => rfl
      | some n => exact if_pos many
  · have same : debugOk { s with jtag := { s.jtag with ir := 0x21 }, tkr := { s.tkr with nonce := none } } n (leBytes 96 resp.toNat) =
        debugOk s n (leBytes 96 resp.toNat) := rfl
    simp only [armed, if_neg (Nat.not_le.2 few), same]
    refine ⟨fun bad => ?_, fun good => ?_⟩
    · rw [if_neg (by rw [bad]; decide)]
      rfl
    · rw [if_pos good]
      rfl

/-- Debug opened, and its power domain woken (R357). -/
def debugOpened (s : State) : State :=
  setPd { s with tkr := { s.tkr with debugOpen := true } } 63 fun p => { p with state := if p.state = .off then .waking else p.state }

/-- Unlock clears every key, opens debug, is measured in MR1 and told by EV297 (R357). -/
theorem debugUnlock_eq (s : State) : debugUnlock s = raiseEv (extendMr1 (debugOpened (clearKeys s))) 297 := rfl

/-- What opening debug leaves alone. -/
theorem debugOpened_leaves (s : State) : (debugOpened s).tkr = { s.tkr with debugOpen := true } ∧ (debugOpened s).boot = s.boot ∧
    (debugOpened s).mrb = s.mrb ∧ (debugOpened s).units = s.units ∧ Calm s (debugOpened s) :=
  ⟨rfl, rfl, rfl, rfl, Calm.of_eq rfl rfl⟩

/-- The summary shows boot, the life cycle and debug (R45). -/
theorem summary16_congr {s t : State} (boot : t.boot = s.boot) (word : t.tkr.lcWord = s.tkr.lcWord)
    (debug : t.tkr.debugOpen = s.tkr.debugOpen) : summary16 t = summary16 s := by
  unfold summary16 lcCode
  rw [boot, word, debug]

/-- What a measured unlock leaves (R357). -/
structure Unlocked (s t : State) : Prop where
  debugOpen : t.tkr.debugOpen = true
  nonce : t.tkr.nonce = s.tkr.nonce
  noKeys : NoKeys t
  slots : t.tkr.slots = s.tkr.slots
  told : (evSrc t .pf1 297).cause = true
  measured : s.mrb.fenced = false → s.mrb.queue = [] → t.mrb.value[(1 : MrId)] = BitVec.ofNat 384 (leNat (sha384 (mrBytes s 1 ++
    slice (sha384 (summary16 { s with tkr := { s.tkr with debugOpen := true } })) 0 48)))
  hlt : t.hlt = s.hlt

/-- Unlock with good routes. -/
theorem debugUnlock_unlocked {s : State} (good : RoutesGood s) : Unlocked s (debugUnlock s) := by
  obtain ⟨⟨⟨v, cleared⟩, kept, bankKept, calmCleared⟩, registers, entries⟩ := clearKeys_spec s
  rw [debugUnlock_eq]
  generalize clearKeys s = c at cleared kept bankKept calmCleared registers entries ⊢
  obtain ⟨opened, boot, mrb, regs, calmOpened⟩ := debugOpened_leaves c
  generalize debugOpened c = u at opened boot mrb regs calmOpened ⊢
  have tkr : u.tkr = { s.tkr with store := v, debugOpen := true } := by rw [opened, cleared]
  have calm := calmCleared.trans calmOpened
  have extended := extendMr1_only u
  have value := extendMr1_empty (s := u)
  have bank : mrBytes u 1 = mrBytes s 1 := by
    unfold mrBytes
    rw [mrb, bankKept]
  have summary : summary16 u = summary16 { s with tkr := { s.tkr with debugOpen := true } } :=
    summary16_congr (boot.trans kept) (by rw [tkr]) (by rw [tkr])
  rw [bank, summary, mrb, bankKept] at value
  generalize extendMr1 u = w at extended value ⊢
  have routes : RoutesGood w := routesGood_congr (by rw [extended]) (calm.routes good)
  obtain ⟨only, -⟩ := raiseEv_spec routes 297 false
  obtain ⟨told, -⟩ := raiseEv_device w (k := 297) false (by decide) (by decide)
  generalize raiseEv w 297 = t at only told ⊢
  have room : t.tkr = u.tkr := by rw [only, extended]
  have units : t.units = u.units := by rw [only, extended]
  have hlt : t.hlt = u.hlt := by rw [only, extended]
  refine ⟨by rw [room, tkr], by rw [room, tkr], ?_, by rw [room, tkr], told, fun open' empty => ?_, hlt.trans (calm.hlt good)⟩
  · unfold NoKeys
    rw [units, room, regs, opened]
    exact ⟨registers, entries⟩
  · rw [evOnly_mrb only]
    exact (value open' empty).1

/-! ### The debug state (R780) -/

/-- The fields of the byte that DBG_STATE shifts out. -/
theorem dbgStateByte_fields (s : State) : bit (dbgStateByte s) 0 = s.tkr.debugOpen ∧
    field (dbgStateByte s) 1 2 = BitVec.ofNat 2 (lcCode s) ∧ field (dbgStateByte s) 3 3 = s.tkr.fails := by
  have fields : ∀ (b : Bool) (lc : BitVec 2) (n : BitVec 3), let x : Byte := (flag 0 b ||| place 1 lc ||| place 3 n).setWidth 8
      bit x 0 = b ∧ field x 1 2 = lc ∧ field x 3 3 = n := by decide
  exact fields _ _ _

/-- DBG_STATE where the DBG_ instructions act (R780). -/
theorem exec_dbgState {s : State} (acts : dbgActs s = true) :
    exec .dbgState s = .next (answer (irSelected s 0x22) (.bytes [dbgStateByte s])) := by
  show execDbgState s = _
  unfold execDbgState
  rw [acts]
  rfl

end Sys2Proof.TackRoom

namespace Sys2Proof.TackRoom
open Sys2Proof.Machine Sys2Proof.Safety Sys2Proof.Waking Sys2Proof.HostLink Sys2Proof.Rings

/-! ### Slots, the life cycle and debug as the host sees them -/

/-- A GO that sets a code of ERR and does no more. -/
theorem tkrProgGo_errs {s : State} (quiet : Quiet s) (served : WritesServed s .pf1) {v : BitVec 32} {agree : Bool} {e : BitVec 4}
    (errs : progGo (progChosen s v) agree = progErr (progChosen s v) e) :
    exec (.tkrProgGo .pf1 ⟨v, agree⟩) s = .next (progErr (progChosen s v) e) := by
  rw [exec_tkrProgGo served, errs, settle_of_quiet (s := progErr (progChosen s v) e) quiet]

/-- A GO that starts a sequence: nothing outside the Tack Room changes, and no other slot. -/
theorem tkrProgGo_starts {s : State} (quiet : Quiet s) (served : WritesServed s .pf1) {v : BitVec 32} {agree : Bool} {k : SlotId}
    {w : Option (BitVec 256)} (starts : progGo (progChosen s v) agree = progStart (progChosen s v) k w) :
    Ends (.tkrProgGo .pf1 ⟨v, agree⟩) s fun t => t = { s with tkr := t.tkr } ∧ t.tkr.progBusy = some k ∧ t.tkr.progErr = 0 ∧
      t.tkr.progValue = w ∧ t.tkr.progWord = s.tkr.progAttr ∧ t.tkr.slots[k] = { s.tkr.slots[k] with state := .programming } ∧
      ∀ j : SlotId, j ≠ k → t.tkr.slots[j] = s.tkr.slots[j] := by
  obtain ⟨self, others⟩ := progStart_slots (progChosen s v) k w
  refine ⟨progStart (progChosen s v) k w, ?_, rfl, rfl, rfl, rfl, rfl, self, others⟩
  rw [exec_tkrProgGo served, starts, settle_of_quiet (s := progStart (progChosen s v) k w) quiet]

/-- SLOT_PROGRAM_DONE, with its readback good and not (R321). -/
theorem slotProgramDone_ends {s : State} {k : SlotId} {v : BitVec 256} (quiet : Quiet s) (good : RoutesGood s)
    (busy : s.tkr.progBusy = some k) (value : progValueNow s = some v) :
    (Ends (.slotProgramDone true) s fun t => SlotDone s k (slotWritten s v .valid) 0 t ∧ t.hlt = s.hlt) ∧
    (Ends (.slotProgramDone false) s fun t => ∃ w, t = settle w ∧ SlotDone s k (slotWritten s v .bad) 5 w ∧
      w.hlt = (raiseHs s 79 none).hlt) := by
  obtain ⟨valid, bad⟩ := exec_slotProgramDone busy value
  have routes (u : State) (evt : u.evt = s.evt) : RoutesGood u := routesGood_congr evt good
  refine ⟨?_, ?_⟩
  · obtain ⟨done, hlt⟩ := slotDone_raised (u := slotProgrammed s k (slotWritten s v .valid) 0) rfl (routes _ rfl)
    rw [settle_of_quiet (by rw [hlt]; exact quiet)] at valid
    exact ⟨_, valid, done, hlt⟩
  · obtain ⟨done, hlt⟩ := slotDone_raised (u := raiseHs (slotProgrammed s k (slotWritten s v .bad) 5) 79 none) rfl (routes _ rfl)
    exact ⟨_, bad, _, rfl, done, hlt⟩

/-- RETIRE ends once the requests admitted before it are gone, with no key left (R354). -/
theorem retire_ends {s : State} (quiet : Quiet s) (good : RoutesGood s) (retiring : s.tkr.lcBusy = some .retire)
    (drained : ∀ q ∈ s.reqs, s.tkr.lcFrom ≤ q.id) (ok : Bool) : Ends (.lcTransitionEnd ok) s fun t =>
      t.tkr.lcBusy = none ∧ t.tkr.lcWord[(2 : Fin 3)] = 0xFF ∧ NoKeys t ∧ t.tkr.slots = s.tkr.slots ∧ (evSrc t .pf1 298).cause = true := by
  have done := (exec_lcTransitionEnd_retire retiring ok).2 drained
  obtain ⟨⟨⟨v, tkr⟩, -, -, calm⟩, noKeys⟩ := clearKeys_spec s
  generalize clearKeys s = c at done tkr calm noKeys
  obtain ⟨t, ends, ended⟩ := lcEnd_settles (by rw [Quiet, calm.hlt good]; exact quiet) (calm.routes good) done
  obtain ⟨idle, byte⟩ := ended.byte
  refine ⟨t, ends, idle, byte, ?_, by rw [ended.tkr, tkr], ended.told⟩
  unfold NoKeys
  rw [ended.units, ended.tkr]
  exact noKeys

/-- TAKE_OWNERSHIP ends with its copy and its byte programmed, or, where the readback of the copy fails, without its byte and
with HS79 (R354, R355). -/
theorem own_ends {s : State} {b : Bool} (quiet : Quiet s) (good : RoutesGood s) (owning : s.tkr.lcBusy = some (.own b)) :
    (Ends (.lcTransitionEnd true) s fun t => t.tkr.lcBusy = none ∧ t.tkr.lcWord[(1 : Fin 3)] = 0xFF ∧
      (if b then t.tkr.ownerB else t.tkr.ownerA) = ownGood s ∧ (evSrc t .pf1 298).cause = true) ∧
    (Ends (.lcTransitionEnd false) s fun t => ∃ w, t = settle (raiseHs w 79 none) ∧ w.tkr.lcBusy = none ∧
      w.tkr.lcWord = s.tkr.lcWord ∧ (evSrc w .pf1 298).cause = true) := by
  obtain ⟨copied, failed⟩ := exec_lcTransitionEnd_own owning
  refine ⟨?_, ?_⟩
  · obtain ⟨-, hlt, evt⟩ := ownCopy_leaves s b true
    obtain ⟨t, ends, ended⟩ := lcEnd_settles (by rw [Quiet, hlt]; exact quiet) (routesGood_congr evt good) copied
    obtain ⟨idle, byte⟩ := ended.byte
    refine ⟨t, ends, idle, byte, ?_, ended.told⟩
    rw [ended.tkr]
    exact ownCopy_good s b
  · obtain ⟨word, -, -⟩ := ownCopy_leaves s b false
    obtain ⟨idle, kept, told⟩ := lcStopped_spec (ownCopy s b false)
    exact ⟨_, failed, _, rfl, idle, kept.trans word, told⟩

/-- TKR_CTL_WRITE by PF1 (R363). -/
theorem tkrCtlWrite_ends {s : State} (served : WritesServed s .pf1) (v : BitVec 32) : Ends (.tkrCtlWrite .pf1 v) s fun t =>
    t = { s with tkr := { s.tkr with keyIdle := field v 0 16, storeWait := field v 16 16 }, units := t.units } ∧
    ∀ u : UnitId, t.units[u] =
      if field v 0 16 ≠ (0 : BitVec 16) ∧ keyIdleNow s.units[u] = true ∧ (s.units[u].keyReg.any fun k =>
        decide (1000 * (field v 0 16 : BitVec 16).toNat ≤ atRate s.boot.clkRate (s.cycle - k.lastUse))) = true
      then { s.units[u] with keyReg := none } else s.units[u] := by
  obtain ⟨whole, units⟩ := wrTkrCtl_spec s (v.setWidth 64)
  unfold ctlTaken at whole
  rw [field_setWidth v (show 0 + 16 ≤ 32 by decide), field_setWidth v (show 16 + 16 ≤ 32 by decide)] at whole
  rw [field_setWidth v (show 0 + 16 ≤ 32 by decide)] at units
  exact ⟨_, exec_tkrCtlWrite served v, whole, units⟩

/-- DBG_NONCE of a part that takes responses, with a draw granted or an entry in the queue (R356). -/
theorem dbgNonce_shifts {s : State} (acts : dbgActs s = true) (open' : ¬ (4 ≤ s.tkr.fails.toNat ∨ s.boot.phase = .otp)) (up : Bool)
    {e : BitVec 512} {l q : List (BitVec 512)}
    (draw : grantedTo s .debugNonce = e :: l ∧ s.ent.queue = q ∨ grantedTo s .debugNonce = [] ∧ s.ent.queue = e :: q) :
    Ends (.dbgNonce up) s fun t => (t.resp = .bytes (nonceOf e) ∧ grantedTo t .debugNonce = [] ∧
      t.tkr = { s.tkr with nonce := if up then some (nonceOf e) else s.tkr.nonce }) ∧ t.ent.queue = q := by
  obtain ⟨granted, waits⟩ := (exec_dbgNonce acts up).2 open'
  rcases draw with ⟨drawn, queue⟩ | ⟨none, queue⟩
  · obtain ⟨bytes, used, tkr, kept⟩ := nonceOut_spec (irSelected s 0x20) e up
    exact ⟨_, granted e l drawn, ⟨bytes, used, tkr⟩, kept.trans queue⟩
  · obtain ⟨bytes, used, tkr, kept⟩ := nonceOut_spec { irSelected s 0x20 with ent := { s.ent with queue := q } } e up
    exact ⟨_, (waits none).1 e q queue, ⟨bytes, used, tkr⟩, kept⟩

/-- DBG_RESPONSE that verifies (R356, R357). -/
theorem dbgResponse_unlocks {s : State} (quiet : Quiet s) (good : RoutesGood s) (acts : dbgActs s = true) {n : List Byte}
    {resp : BitVec 768} (armed : s.tkr.nonce = some n) (few : s.tkr.fails.toNat < 4)
    (verified : debugOk s n (leBytes 96 resp.toNat) = true) :
    Ends (.dbgResponse resp) s (Unlocked { irSelected s 0x21 with tkr := { s.tkr with nonce := none } }) := by
  have done := ((exec_dbgResponse acts resp).2 n armed few).2 verified
  have unlocked := debugUnlock_unlocked (s := { irSelected s 0x21 with tkr := { s.tkr with nonce := none } }) good
  rw [settle_of_quiet (by rw [unlocked.hlt]; exact quiet)] at done
  exact ⟨_, done, unlocked⟩

/-- Settles O39: each command by its own equation, and what it ends with by what its operation leaves. -/
theorem slotsLifeCycleAndDebugAct : Obligations.SlotsLifeCycleAndDebugAct := by
  refine ⟨fun s quiet routes => ⟨fun served v => ?_, fun k v busy value => ?_, fun served v key => lcCommands_keyed served key,
    fun served v key => lcCommands_unkeyed served key, fun served v => pf0_changes_no_room quiet served v,
    fun retiring ok => ⟨(exec_lcTransitionEnd_retire retiring ok).1, fun drained => ?_⟩, fun finishing ok => ?_,
    fun b owning => own_ends quiet routes owning, fun served n v => ?_, fun served v => tkrCtlWrite_ends served v,
    fun u on idle alone => exec_keyIdleExpiry on idle alone⟩, fun s quiet routes acts => ?_⟩
  · intro k u free blank lc good ends starts
    have slot : (bvFin (progChosen s v).tkr.progSlot : SlotId) = k := rfl
    have refuses (agree : Bool) := progGo_refuses slot agree
    have errs {agree : Bool} {e : BitVec 4} (h : progGo (progChosen s v) agree = progErr (progChosen s v) e) : ends agree e :=
      tkrProgGo_errs quiet served h
    have sets := progGo_good slot
    refine ⟨fun agree => ?_, fun h blob => ?_⟩
    · obtain ⟨busy, taken, barred, attr⟩ := refuses agree
      exact ⟨fun h => errs (busy h), fun h g => errs (taken h g), fun h g f => errs (barred h g f),
        fun h g f bad => errs (attr h g f bad),
        fun ⟨h, g, f, ok⟩ drawn => tkrProgGo_starts quiet served ((sets ⟨h, g, f, ok⟩).1 drawn agree)⟩
    · obtain ⟨h, g, f, ok⟩ := h
      obtain ⟨value, none, mismatch⟩ := (sets ⟨h, g, f, ok⟩).2 blob
      exact ⟨fun w hw => tkrProgGo_starts quiet served (value w hw), fun hw => errs (none hw),
        by rw [exec_tkrProgGo served, mismatch]; rfl⟩
  · intro slot done
    have ended {t : State} {st : SlotState} {e : BitVec 4} (h : SlotDone s k (slotWritten s v st) e t) : done t st e :=
      ⟨h.slot, h.err, h.others, h.idle, h.done, h.told⟩
    obtain ⟨⟨t, valid, finished, hlt⟩, ⟨x, bad, w, whole, failed, told⟩⟩ := slotProgramDone_ends quiet routes busy value
    exact ⟨⟨t, valid, ended finished, hlt⟩, ⟨x, bad, w, whole, ended failed, told⟩⟩
  · obtain ⟨t, ends, idle, byte, ⟨registers, entries⟩, rest⟩ := retire_ends quiet routes retiring drained ok
    exact ⟨t, ends, idle, byte, registers, entries, rest⟩
  · obtain ⟨t, ends, ended⟩ := lcEnd_settles quiet routes (exec_lcTransitionEnd_finishOwn finishing ok)
    obtain ⟨idle, byte⟩ := ended.byte
    exact ⟨t, ends, idle, byte, by rw [ended.tkr], by rw [ended.tkr], ended.told⟩
  · intro w
    obtain ⟨taken, refused⟩ := wrDomain_states w n v
    have done := exec_tkrDomainWrite served n v
    exact ⟨fun h => done.trans (congrArg _ (taken h)), fun h => done.trans (congrArg _ (refused h))⟩
  · intro j nonce
    refine ⟨fun few phase up => ?_, fun shut up => (exec_dbgNonce acts up).1 shut, fun resp => (exec_dbgResponse acts resp).1,
      fun n resp armed few => ⟨((exec_dbgResponse acts resp).2 n armed few).1, fun verified _ => ?_⟩, exec_dbgState acts,
      dbgStateByte_fields s⟩
    · intro shifts
      have open' : ¬ (4 ≤ s.tkr.fails.toNat ∨ s.boot.phase = .otp) := fun h => h.elim (Nat.not_le.2 few) phase
      exact ⟨fun e l drawn => dbgNonce_shifts acts open' up (.inl ⟨drawn, rfl⟩),
        fun e l none queue => dbgNonce_shifts (l := []) acts open' up (.inr ⟨none, queue⟩),
        fun none queue => (((exec_dbgNonce acts up).2 open').2 none).2 queue⟩
    · obtain ⟨t, ends, opened, disarmed, ⟨registers, entries⟩, slots, told, measured, -⟩ :=
        dbgResponse_unlocks quiet routes acts armed few verified
      refine ⟨t, ends, opened, disarmed, registers, entries, slots, told, fun open' empty => (measured open' empty).trans ?_⟩
      rw [summary16_congr (s := { s with tkr := { s.tkr with debugOpen := true } }) rfl rfl rfl]
      rfl

end Sys2Proof.TackRoom

namespace Sys2Proof.Ciphers
open Sys2Proof.Machine Sys2Proof.Safety Sys2Proof.Waking Sys2Proof.HostLink Sys2Proof.Rings Sys2Proof.TackRoom

/-! ### The output of a cipher operation (R387, R388) -/

/-- The bytes that stand for an output: the output, or free ones where it overlaps its source (R388). -/
def writtenBytes (s : State) (q : Req) (bs : List Byte) : List Byte :=
  if cipherOverlaps q bs.length then freeBytes s bs.length else bs

/-- They are the bytes that a cipher operation stores. -/
theorem cipherBytes_written (s : State) (q : Req) (bs : List Byte) : (cipherBytes s q bs).2 = writtenBytes s q bs :=
  apply_ite Prod.snd ..

/-- Choosing them leaves what the stores of an output depend on. -/
theorem storesOf_cipherBytes (s : State) (q : Req) (bs xs : List Byte) : storesOf (cipherBytes s q bs).1 q xs = storesOf s q xs := by
  unfold cipherBytes
  split <;> rfl

/-- Free bytes, drawn bytes and stores depend on nothing of the units. -/
theorem outputs_unitsOnly {s u : State} (h : UnitsOnly s u) (q : Req) :
    (∀ bs, writtenBytes u q bs = writtenBytes s q bs) ∧ (∀ n, randomBytes u q n = randomBytes s q n) ∧
      ∀ bs, storesOf u q bs = storesOf s q bs := by
  rw [h]
  exact ⟨fun _ => rfl, fun _ => rfl, fun _ => rfl⟩

/-- A lane after a request's work: its bytes counted, its decryption round keys expanded (R396, R404). -/
def laneWorked (s : State) (q : Req) : State := expandDec (countBytes s q q.desc.srcLen) q

/-- The lane's work changes units alone. -/
theorem laneWorked_only (s : State) (q : Req) : UnitsOnly s (laneWorked s q) :=
  (countBytes_only s q _).trans (expandDec_only _ q)

/-- A running request stays as it was through the work of its lane. -/
theorem running_worked {s u : State} {i : Nat} {q : Req} (h : Running s u i q) : Running s (laneWorked u q) i q := by
  have lane := laneWorked_only u q
  exact ⟨h.units.trans lane, (findReq_congr (by rw [lane]) i).trans h.found, h.id⟩

/-- The Halter is as before the output, which, where it fits, ends the request OK with its bytes. -/
theorem cipherOut_fits {s u : State} {i : Nat} {q : Req} (running : Running s u i q) {bs : List Byte}
    (fits : tooLongOut q.desc bs.length = false) (result : Nat) :
    (cipherOut u q bs result).hlt = s.hlt ∧ OutcomeIs (cipherOut u q bs result) i 0 0 (writtenBytes s q bs).length result ∧
      StoresOf (cipherOut u q bs result) i = storesOf s q (writtenBytes s q bs) := by
  obtain ⟨length, reqs, hlt⟩ := cipherBytes_spec u q bs
  obtain ⟨written, -, stores⟩ := outputs_unitsOnly running.units q
  obtain ⟨-, -, -, kept, -, -⟩ := running.leaves
  have bytes : (cipherBytes u q bs).2 = writtenBytes s q bs := (cipherBytes_written u q bs).trans (written bs)
  rw [bytes] at length
  have done : cipherOut u q bs result = finish (cipherBytes u q bs).1 i 0 0 (writtenBytes s q bs).length result
      (storesOf s q (writtenBytes s q bs)) := by
    unfold cipherOut output
    simp only [bytes, length, fits, Bool.and_false, Bool.false_eq_true, if_false, storesOf_cipherBytes, stores, running.id]
  rw [done]
  exact ⟨hlt.trans kept, outcome_finish ((findReq_congr reqs i).trans running.found) ..⟩

/-- A cipher command whose operation ends with an output answers with it where it fits, and LENGTH_SHORT otherwise. -/
theorem cipherRow_outputs {c : Instr} {s : State} {i op : Nat} {q : Req} {src bs : List Byte} {result : Nat} (quiet : Quiet s)
    (row : (c, op) ∈ cipherRows i) (runs : RunsOn s i op q src)
    (operates : ∀ u, UnitsOnly s u → cipherRun u q src = cipherOut (laneWorked u q) q bs result) :
    (tooLongOut q.desc bs.length = false → Answers c s i q (writtenBytes s q bs) result) ∧
    (tooLongOut q.desc bs.length = true → Fails c s i 0x32 (shortDetail q.desc)) := by
  have operation := exec_cipherRow row s
  refine ⟨fun fits => ends_of_run quiet operation runs fun u running => ?_, fun long => ends_of_run quiet operation runs fun u running => ?_⟩
  all_goals
    have worked := running_worked running
    obtain ⟨-, -, -, kept, -, -⟩ := running.leaves
    rw [operates u running.units, kept]
  · exact cipherOut_fits worked fits result
  · obtain ⟨-, opcode⟩ := readyReq_found runs.1
    obtain ⟨-, reqs, hlt⟩ := cipherBytes_spec (laneWorked u q) q bs
    obtain ⟨-, -, -, lane, -, -⟩ := worked.leaves
    rw [cipherOut_short (hasDst_cipherRow row opcode) long, running.id]
    exact ⟨hlt.trans lane, outcome_failReq ((findReq_congr reqs i).trans worked.found) ..⟩

end Sys2Proof.Ciphers

namespace Sys2Proof.Ciphers
open Sys2Proof.Machine Sys2Proof.Safety Sys2Proof.Waking Sys2Proof.HostLink Sys2Proof.Rings Sys2Proof.TackRoom

/-! ### Modes without a tag to compare (R378-R380, R383) -/

/-- ECB, CBC, CFB128 and OFB: every opcode that `modeOut` does not name. -/
theorem modeOut_plain {q : Req} {op : Nat} (opcode : q.desc.opcode = op) (plain : op ∉ [0x04, 0x05, 0x06, 0x0E, 0x10]) (src : List Byte) :
    modeOut q src = plainMode op (keyOf q) (ivOf (auxOf q)) src := by
  subst opcode
  simp only [List.mem_cons, List.not_mem_nil, or_false, not_or] at plain
  simp only [modeOut]
  split <;> simp_all

/-- CTR: a key stream from the counter block in the IV (R379). -/
theorem modeOut_ctr {q : Req} (opcode : q.desc.opcode = 0x04) (src : List Byte) :
    modeOut q src = ctrMode (ctrBits q.desc) (keyOf q) (ivOf (auxOf q)) src := by
  simp only [modeOut, opcode]

/-- XTS: its data units under tweaks counted from the IV (R380). -/
theorem modeOut_xts {q : Req} {op : Nat} (opcode : q.desc.opcode = op) (xts : op = 0x05 ∨ op = 0x06) (src : List Byte) :
    modeOut q src = xtsMode op (field q.desc.imm 0 32).toNat (keyOf q) (ivOf (auxOf q)) src := by
  rcases xts with rfl | rfl <;> simp only [modeOut, opcode]

/-- CMAC: the tag alone (R378). -/
theorem modeOut_cmac {q : Req} (opcode : q.desc.opcode = 0x0E) (src : List Byte) :
    modeOut q src = stdBytes (.cipherTag 0x0E) [keyOf q, src] q.desc.tlen := by
  simp only [modeOut, opcode]

/-- CHACHA20: a key stream from the block counter in IMM (R383). -/
theorem modeOut_chacha {q : Req} (opcode : q.desc.opcode = 0x10) (src : List Byte) :
    modeOut q src = chachaMode (field q.desc.imm 0 32).toNat (keyOf q) (ivOf (auxOf q)) src := by
  simp only [modeOut, opcode]

/-- Only the counter modes have a RESULT. -/
theorem cipherResult_zero {d : Desc} {op : Nat} (opcode : d.opcode = op) (ctr : op ≠ 0x04) (chacha : op ≠ 0x10) (aux : List Byte) :
    cipherResult d aux = 0 := by
  unfold cipherResult
  rw [opcode, if_neg ctr, if_neg chacha]

/-- Of CTR it is the low part of the next counter block. -/
theorem cipherResult_ctr {d : Desc} (opcode : d.opcode = 0x04) (aux : List Byte) :
    cipherResult d aux = beNat (ctrBlock (ctrBits d) (ivOf aux) (ceilDiv d.srcLen 16)) % 2 ^ 32 :=
  if_pos opcode

/-- Of CHACHA20 it is the next block counter. -/
theorem cipherResult_chacha {d : Desc} (opcode : d.opcode = 0x10) (aux : List Byte) :
    cipherResult d aux = ((field d.imm 0 32).toNat + ceilDiv d.srcLen 64) % 2 ^ 32 := by
  unfold cipherResult
  rw [if_neg (by omega), if_pos opcode]

/-- A counter that stays within its field does not wrap, and no other mode's does. -/
theorem ctrWraps_false {d : Desc} {aux : List Byte}
    (stays : d.opcode = 0x04 → beNat (ivOf aux) % 2 ^ ctrBits d + ceilDiv d.srcLen 16 ≤ 2 ^ ctrBits d) : ctrWraps d aux = false := by
  unfold ctrWraps
  by_cases ctr : d.opcode = 0x04
  · rw [decide_eq_false (Nat.not_lt.2 (stays ctr)), Bool.and_false]
  · rw [decide_eq_false ctr, Bool.false_and]

/-- A cipher row without a tag to compare answers with its mode's output. -/
theorem mode_answers {c : Instr} {s : State} {i op : Nat} {q : Req} {src out : List Byte} {result : Nat} (quiet : Quiet s)
    (admitted : cipherAuxOk q.desc (auxOf q) = true) (row : (c, op) ∈ cipherRows i) (noTag : aeadEnc op = false ∧ aeadDec op = false)
    (differ : op = 0x05 ∨ op = 0x06 → xtsHalvesEqual (keyOf q) = false)
    (stays : op = 0x04 → beNat (ivOf (auxOf q)) % 2 ^ ctrBits q.desc + ceilDiv q.desc.srcLen 16 ≤ 2 ^ ctrBits q.desc)
    (gives : q.desc.opcode = op → modeOut q src = out ∧ cipherResult q.desc (auxOf q) = result) :
    RunsOn s i op q src → tooLongOut q.desc out.length = false → Answers c s i q (writtenBytes s q out) result := by
  intro runs fits
  obtain ⟨-, opcode⟩ := readyReq_found runs.1
  obtain ⟨mode, res⟩ := gives opcode
  subst opcode
  refine (cipherRow_outputs quiet row runs fun u _ => ?_).1 fits
  have halves : ¬ ((q.desc.opcode = 0x05 ∨ q.desc.opcode = 0x06) ∧ xtsHalvesEqual (keyOf q) = true) := fun ⟨xts, equal⟩ =>
    Bool.false_ne_true ((differ xts).symm.trans equal)
  obtain ⟨-, -, -, run⟩ := cipherRun_refusals u q src
  rw [run halves admitted (ctrWraps_false stays) noTag.1 noTag.2, mode, res]
  rfl

/-- A chained or block mode answers with its output. -/
theorem plainMode_answers {c : Instr} {s : State} {i op : Nat} {q : Req} {src : List Byte} (quiet : Quiet s)
    (admitted : cipherAuxOk q.desc (auxOf q) = true) (row : (c, op) ∈ cipherRows i) (plain : op ≤ 0x03 ∨ (0x07 ≤ op ∧ op ≤ 0x09)) :
    let out := plainMode op (keyOf q) (ivOf (auxOf q)) src
    RunsOn s i op q src → tooLongOut q.desc out.length = false → Answers c s i q (writtenBytes s q out) 0 := by
  refine mode_answers quiet admitted row ⟨decide_eq_false (by omega), decide_eq_false (by omega)⟩ (fun xts => by omega) (fun ctr => by omega)
    fun opcode => ⟨modeOut_plain opcode ?_ src, cipherResult_zero opcode (by omega) (by omega) _⟩
  simp only [List.mem_cons, List.not_mem_nil, or_false]
  omega

/-- XTS with a key of two different halves answers with its data units. -/
theorem xtsMode_answers {c : Instr} {s : State} {i op : Nat} {q : Req} {src : List Byte} (quiet : Quiet s)
    (admitted : cipherAuxOk q.desc (auxOf q) = true) (row : (c, op) ∈ cipherRows i) (xts : op = 0x05 ∨ op = 0x06)
    (differ : xtsHalvesEqual (keyOf q) = false) :
    let out := xtsMode op (field q.desc.imm 0 32).toNat (keyOf q) (ivOf (auxOf q)) src
    RunsOn s i op q src → tooLongOut q.desc out.length = false → Answers c s i q (writtenBytes s q out) 0 :=
  mode_answers quiet admitted row ⟨decide_eq_false (by omega), decide_eq_false (by omega)⟩ (fun _ => differ) (fun ctr => by omega)
    fun opcode => ⟨modeOut_xts opcode xts src, cipherResult_zero opcode (by omega) (by omega) _⟩

/-- Settles O24: each mode's output is its equation's, and every one of them is answered alike. -/
theorem cipherModesAnswer : Obligations.CipherModesAnswer := by
  intro s i q src quiet admitted d k iv imm answers
  refine ⟨plainMode_answers quiet admitted ?_ (.inl (by decide)), plainMode_answers quiet admitted ?_ (.inl (by decide)),
    plainMode_answers quiet admitted ?_ (.inl (by decide)), plainMode_answers quiet admitted ?_ (.inl (by decide)),
    plainMode_answers quiet admitted ?_ (.inr (by decide)), plainMode_answers quiet admitted ?_ (.inr (by decide)),
    plainMode_answers quiet admitted ?_ (.inr (by decide)),
    fun differ => ⟨xtsMode_answers quiet admitted ?_ (.inl rfl) differ, xtsMode_answers quiet admitted ?_ (.inr rfl) differ⟩,
    fun stays => mode_answers quiet admitted ?_ ⟨rfl, rfl⟩ (by omega) (fun _ => stays)
      fun opcode => ⟨modeOut_ctr opcode src, cipherResult_ctr opcode _⟩,
    mode_answers quiet admitted ?_ ⟨rfl, rfl⟩ (by omega) (by omega)
      fun opcode => ⟨modeOut_chacha opcode src, cipherResult_chacha opcode _⟩,
    mode_answers quiet admitted ?_ ⟨rfl, rfl⟩ (by omega) (by omega)
      fun opcode => ⟨modeOut_cmac opcode src, cipherResult_zero opcode (by decide) (by decide) _⟩⟩
  all_goals simp [cipherRows]

end Sys2Proof.Ciphers

namespace Sys2Proof.Ciphers
open Sys2Proof.Machine Sys2Proof.Safety Sys2Proof.Waking Sys2Proof.HostLink Sys2Proof.Rings Sys2Proof.TackRoom

/-! ### AEAD encryption and decryption (R381-R392) -/

section
variable {s u : State} {q : Req} {src : List Byte} {data : List Byte → List Byte → List Byte}
  {tag : Nat → List Byte → List Byte → List Byte → List Byte} {c : Instr} {i op : Nat}

/-- The key stream and the tag of an AEAD request, of the encryption opcode given, are the functions given. -/
structure IsAead (q : Req) (src : List Byte) (enc : Nat) (data : List Byte → List Byte → List Byte)
    (tag : Nat → List Byte → List Byte → List Byte → List Byte) : Prop where
  data : ∀ iv bs, aeadData enc (keyOf q) iv bs = data iv bs
  tag : ∀ iv plain ct, aeadTag enc q.desc.tlen (keyOf q) iv (aadOf q src) plain ct = tag enc iv plain ct

/-- A cipher request with a tag, whose AUX block is admitted, is sealed or opened on its lane. -/
theorem cipherRun_aead (admitted : cipherAuxOk q.desc (auxOf q) = true) (s : State) (src : List Byte) :
    (aeadEnc q.desc.opcode = true → cipherRun s q src = aeadSeal (laneWorked s q) q src) ∧
    (aeadDec q.desc.opcode = true → cipherRun s q src = aeadOpen (laneWorked s q) q src) := by
  have run (tagged : aeadEnc q.desc.opcode = true ∨ aeadDec q.desc.opcode = true) : cipherRun s q src =
      if aeadEnc q.desc.opcode then aeadSeal (laneWorked s q) q src
      else if aeadDec q.desc.opcode then aeadOpen (laneWorked s q) q src
      else cipherOut (laneWorked s q) q (modeOut q src) (cipherResult q.desc (auxOf q)) := by
    simp only [aeadEnc, aeadDec, decide_eq_true_eq] at tagged
    have counts : ctrWraps q.desc (auxOf q) = false := ctrWraps_false fun ctr => by omega
    unfold cipherRun
    rw [if_neg (fun ⟨xts, _⟩ => by omega), admitted, counts]
    rfl
  refine ⟨fun enc => (run (.inl enc)).trans (if_pos enc), fun dec => ?_⟩
  have plain : ¬ aeadEnc q.desc.opcode = true := fun enc => by
    simp only [aeadEnc, aeadDec, decide_eq_true_eq] at enc dec
    omega
  rw [run (.inr dec), if_neg plain, if_pos dec]

/-- What AEAD encryption puts out: the IV that it drew, the ciphertext and the tag (R378, R384). -/
def sealedBytes (s : State) (q : Req) (src : List Byte) (enc : Nat) (data : List Byte → List Byte → List Byte)
    (tag : Nat → List Byte → List Byte → List Byte → List Byte) : List Byte :=
  let iv := if q.desc.ivGen then randomBytes s q 12 else ivOf (auxOf q)
  let plain := src.drop q.desc.aadSrc
  (if q.desc.ivGen then iv else []) ++ data iv plain ++ tag enc iv plain (data iv plain)

/-- AEAD encryption ends with that output. -/
theorem aeadSeal_eq (aead : IsAead q src q.desc.opcode data tag) (units : UnitsOnly s u) :
    aeadSeal u q src = cipherOut u q (sealedBytes s q src q.desc.opcode data tag) 0 := by
  obtain ⟨-, random, -⟩ := outputs_unitsOnly units q
  unfold aeadSeal sealedBytes
  simp only [random, aead.data, aead.tag]

/-- An AEAD encryption row answers with that output where it fits, and LENGTH_SHORT otherwise. -/
theorem aeadEnc_answers (quiet : Quiet s) (admitted : cipherAuxOk q.desc (auxOf q) = true)
    (row : (c, op) ∈ cipherRows i) (enc : aeadEnc op = true) (aead : IsAead q src op data tag) :
    RunsOn s i op q src →
      let out := sealedBytes s q src op data tag
      (tooLongOut q.desc out.length = false → Answers c s i q (writtenBytes s q out) 0) ∧
      (tooLongOut q.desc out.length = true → Fails c s i 0x32 (shortDetail q.desc)) := by
  intro runs
  obtain ⟨-, opcode⟩ := readyReq_found runs.1
  refine cipherRow_outputs quiet row runs fun u units => ?_
  subst opcode
  rw [(cipherRun_aead admitted u src).1 enc, aeadSeal_eq aead (units.trans (laneWorked_only u q))]

/-- AEAD decryption ends with its plaintext when the tag is the one given, and AUTH_FAIL otherwise. -/
theorem aeadOpen_eq (aead : IsAead q src (q.desc.opcode - 1) data tag) :
    let text := src.drop q.desc.aadSrc
    let plain := data (ivOf (auxOf q)) text
    aeadOpen u q src =
      if tag (q.desc.opcode - 1) (ivOf (auxOf q)) plain text = slice (auxOf q) 0x18 q.desc.tlen then cipherOut u q plain 0
      else finish (cipherBytes u q plain).1 q.id 0x10 0 0 0 (failedStores q (storesOf u q (writtenBytes u q plain))) := by
  unfold aeadOpen
  simp only [aead.data, aead.tag, ← cipherBytes_written]
  rfl

/-- An AEAD decryption row answers with its plaintext where the tag is the one given and it fits, LENGTH_SHORT where it does
not, and AUTH_FAIL where the tag is another, with the stores that stand then (R389, R390, R392). -/
theorem aeadDec_answers (quiet : Quiet s) (admitted : cipherAuxOk q.desc (auxOf q) = true)
    (row : (c, op) ∈ cipherRows i) (dec : aeadDec op = true) (aead : IsAead q src (op - 1) data tag) :
    RunsOn s i op q src →
      let text := src.drop q.desc.aadSrc
      let plain := data (ivOf (auxOf q)) text
      let good := decide (tag (op - 1) (ivOf (auxOf q)) plain text = slice (auxOf q) 0x18 q.desc.tlen)
      (good = true → tooLongOut q.desc plain.length = false → Answers c s i q (writtenBytes s q plain) 0) ∧
      (good = true → tooLongOut q.desc plain.length = true → Fails c s i 0x32 (shortDetail q.desc)) ∧
      (good = false → Ends c s fun t => OutcomeIs t i 0x10 0 0 0 ∧
        StoresOf t i = failedStores q (storesOf s q (writtenBytes s q plain))) := by
  intro runs text plain good
  obtain ⟨-, opcode⟩ := readyReq_found runs.1
  subst opcode
  have opens (u : State) : cipherRun u q src = _ := ((cipherRun_aead admitted u src).2 dec).trans (aeadOpen_eq aead)
  have outputs (verified : good = true) := cipherRow_outputs (bs := plain) (result := 0) quiet row runs fun u _ =>
    (opens u).trans (if_pos (of_decide_eq_true verified))
  refine ⟨fun h => (outputs h).1, fun h => (outputs h).2, fun differs => ends_of_run quiet (exec_cipherRow row s) runs fun u running => ?_⟩
  have worked := running_worked running
  obtain ⟨written, -, stores⟩ := outputs_unitsOnly worked.units q
  obtain ⟨-, reqs, hlt⟩ := cipherBytes_spec (laneWorked u q) q plain
  obtain ⟨-, -, -, lane, -, -⟩ := worked.leaves
  obtain ⟨-, -, -, kept, -, -⟩ := running.leaves
  rw [opens, if_neg (of_decide_eq_false differs), written, stores, running.id]
  exact ⟨(hlt.trans lane).trans kept.symm, outcome_finish ((findReq_congr reqs i).trans worked.found) ..⟩

end

/-- Settles O25: each AEAD's key stream and tag are its own, and encryption and decryption answer alike for all three. -/
theorem aeadModesAnswer : Obligations.AeadModesAnswer := by
  intro s i q src quiet admitted d k iv aad text gcm ccm chacha overCt overPlain bytes sealed opened
  have isGcm : IsAead q src 0x0A gcm overCt := ⟨fun _ _ => rfl, fun _ _ _ => rfl⟩
  have isCcm : IsAead q src 0x0C ccm overPlain := ⟨fun _ _ => rfl, fun _ _ _ => rfl⟩
  have isChacha : IsAead q src 0x11 chacha overCt := ⟨fun _ _ => rfl, fun _ _ _ => rfl⟩
  refine ⟨aeadEnc_answers quiet admitted ?_ rfl isGcm, aeadEnc_answers quiet admitted ?_ rfl isCcm,
    aeadEnc_answers quiet admitted ?_ rfl isChacha, aeadDec_answers quiet admitted ?_ rfl isGcm,
    aeadDec_answers quiet admitted ?_ rfl isCcm, aeadDec_answers quiet admitted ?_ rfl isChacha⟩
  all_goals simp [cipherRows]

end Sys2Proof.Ciphers

namespace Sys2Proof.Digests
open Sys2Proof.Machine Sys2Proof.Safety Sys2Proof.HostLink Sys2Proof.Rings Sys2Proof.TackRoom Sys2Proof.Ciphers

/-! ### The output of a digest lane (R411-R417) -/

section
variable {c : Instr} {s : State} {i op : Nat} {q : Req} {src bs : List Byte} {run : State → Req → List Byte → State}

/-- How many bytes of a fragment list lie beyond SRC_LEN (R416). -/
def leftOver (q : Req) : Nat := fragSum (auxOf q) - q.desc.srcLen

/-- A command ends a request OK_TRUNCATED, with its bytes and what a fragment list left over (R416). -/
def Truncates (c : Instr) (s : State) (i : Nat) (q : Req) (bs : List Byte) : Prop := Ends c s fun t =>
  OutcomeIs t i 0x01 (BitVec.ofNat 8 (firstLeft (fragEntries (auxOf q)) q.desc.srcLen 0)) bs.length (min (leftOver q) 0xFFFFFFFF) ∧
  StoresOf t i = storesOf s q bs

/-- The three ends of a digest request: its output does not fit, the message was the whole source, bytes were left over. -/
theorem digestOut_cases (s : State) (q : Req) (bs : List Byte) :
    (tooLongOut q.desc bs.length = true → digestOut s q bs = failReq s q.id 0x32 0x02) ∧
    (tooLongOut q.desc bs.length = false →
      (isFrag q.desc.opcode = false ∨ leftOver q = 0 → digestOut s q bs = finish s q.id 0 0 bs.length 0 (storesOf s q bs)) ∧
      (isFrag q.desc.opcode = true → leftOver q ≠ 0 → digestOut s q bs =
        finish s q.id 0x01 (BitVec.ofNat 8 (firstLeft (fragEntries (auxOf q)) q.desc.srcLen 0)) bs.length
          (min (leftOver q) 0xFFFFFFFF) (storesOf s q bs))) := by
  unfold digestOut
  refine ⟨fun long => if_pos long, fun fits => ⟨fun whole => ?_, fun frag left => ?_⟩⟩
  · have whole : ¬ (isFrag q.desc.opcode = true ∧ leftOver q ≠ 0) := by
      rcases whole with plain | all
      · simp [plain]
      · simp [all]
    simp only [fits, Bool.false_eq_true, if_false]
    exact if_neg whole
  · simp only [fits, Bool.false_eq_true, if_false]
    exact if_pos ⟨frag, left⟩

/-- A command whose operation counts its bytes and puts out a digest ends the request in one of those three ways. -/
theorem digest_ends (quiet : Quiet s) (row : exec c s = runOp s i op run) (runs : RunsOn s i op q src)
    (operates : ∀ u, Running s u i q → run u q src = digestOut (countBytes u q q.desc.srcLen) q bs) :
    (tooLongOut q.desc bs.length = true → Fails c s i 0x32 0x02) ∧
    (tooLongOut q.desc bs.length = false →
      (isFrag op = false ∨ leftOver q = 0 → Answers c s i q bs 0) ∧
      (isFrag op = true → leftOver q ≠ 0 → Truncates c s i q bs)) := by
  obtain ⟨-, rfl⟩ := readyReq_found runs.1
  have counted (u : State) (running : Running s u i q) : findReq (countBytes u q q.desc.srcLen) i = some q ∧
      (countBytes u q q.desc.srcLen).hlt = u.hlt ∧ storesOf (countBytes u q q.desc.srcLen) q bs = storesOf s q bs := by
    have lane := countBytes_only u q q.desc.srcLen
    obtain ⟨-, -, stores⟩ := outputs_unitsOnly (running.units.trans lane) q
    exact ⟨(findReq_congr (by rw [lane]) i).trans running.found, by rw [lane], stores bs⟩
  refine ⟨fun long => ?_, fun fits => ⟨fun whole => ?_, fun frag left => ?_⟩⟩
  all_goals
    refine ends_of_run quiet row runs fun u running => ?_
    obtain ⟨found, hlt, stores⟩ := counted u running
    obtain ⟨short, ends⟩ := digestOut_cases (countBytes u q q.desc.srcLen) q bs
    rw [operates u running]
  · rw [short long, running.id]
    exact ⟨hlt, outcome_failReq found ..⟩
  · rw [(ends fits).1 whole, running.id, stores]
    exact ⟨hlt, outcome_finish found ..⟩
  · rw [(ends fits).2 frag left, running.id, stores]
    exact ⟨hlt, outcome_finish found ..⟩

/-- An opcode without a fragment list answers with the whole digest (R414). -/
theorem digest_answers (quiet : Quiet s) (row : exec c s = runOp s i op run) (plain : isFrag op = false)
    (operates : ∀ u, q.desc.opcode = op → Running s u i q → run u q src = digestOut (countBytes u q q.desc.srcLen) q bs) :
    RunsOn s i op q src → (tooLongOut q.desc bs.length = false → Answers c s i q bs 0) ∧
      (tooLongOut q.desc bs.length = true → Fails c s i 0x32 0x02) := by
  intro runs
  obtain ⟨-, opcode⟩ := readyReq_found runs.1
  obtain ⟨short, ends⟩ := digest_ends quiet row runs fun u => operates u opcode
  exact ⟨fun fits => (ends fits).1 (.inl plain), short⟩

/-- An opcode with a fragment list tells what it left over (R416). -/
theorem fragments_answer (quiet : Quiet s) (row : exec c s = runOp s i op run) (frag : isFrag op = true)
    (operates : ∀ u, Running s u i q → run u q src = digestOut (countBytes u q q.desc.srcLen) q bs) :
    RunsOn s i op q src → (tooLongOut q.desc bs.length = true → Fails c s i 0x32 0x02) ∧
      (tooLongOut q.desc bs.length = false →
        (leftOver q = 0 → Answers c s i q bs 0) ∧ (leftOver q ≠ 0 → Truncates c s i q bs)) := by
  intro runs
  obtain ⟨short, ends⟩ := digest_ends quiet row runs operates
  exact ⟨short, fun fits => ⟨fun all => (ends fits).1 (.inr all), (ends fits).2 frag⟩⟩

end

/-! ### The operations (R412, R413, R419) -/

section
variable {s u : State} {i : Nat} {q : Req}

/-- The lane finds a request's prepared key as it was. -/
theorem keyedState_running (running : Running s u i q) (custom : List Byte) : keyedState u q custom = keyedState s q custom := by
  obtain ⟨tkr, -⟩ := running.leaves
  unfold keyedState entryKind
  rw [tkr]

/-- HMAC puts out the MAC under the key as it was at the start. -/
theorem hmacRun_eq (running : Running s u i q) (src : List Byte) : hmacRun u q src =
    digestOut (countBytes u q q.desc.srcLen) q
      (stdBytes (.hmac q.desc.alg) [keyedState s q [], src] ((outLenOf q.desc).getD 0)) := by
  rw [← keyedState_running running]
  rfl

/-- The customization string of KMAC (R413). -/
def kmacCustom (q : Req) : List Byte := if q.desc.auxLen = 0 then [] else slice (auxOf q) 8 (fieldAt (auxOf q) 0 2)

/-- OUT_BYTES is the output's length for both KMAC opcodes (R412). -/
theorem outLenOf_kmac {d : Desc} (h : d.opcode = 0x2C ∨ d.opcode = 0x2D) : (outLenOf d).getD 0 = outBytes d := by
  rcases h with h | h <;> simp only [outLenOf, h] <;> rfl

/-- KMAC and KMAC_XOF put out the MAC with L, the number that the final right_encode takes. -/
theorem kmacRun_eq (running : Running s u i q) (admitted : kmacAuxOk q.desc (auxOf q) = true)
    (opcode : q.desc.opcode = 0x2C ∨ q.desc.opcode = 0x2D) (src : List Byte) : kmacRun u q src =
    digestOut (countBytes u q q.desc.srcLen) q
      (stdBytes (.kmac q.desc.alg) [keyedState s q (kmacCustom q), src,
        beBytes 4 (if q.desc.opcode = 0x2C then 8 * outBytes q.desc else 0)] ((outLenOf q.desc).getD 0)) := by
  rw [← keyedState_running running, outLenOf_kmac opcode]
  unfold kmacRun
  exact if_neg (by simp [admitted])

/-- A KMAC block that breaks a rule (R413). -/
theorem kmacRun_refuses (broken : kmacAuxOk q.desc (auxOf q) = false) (u : State) (src : List Byte) :
    kmacRun u q src = failReq u q.id 0x30 0x09 := by
  unfold kmacRun
  exact if_pos (by simp [broken])

end

/-- Settles O27: each opcode's bytes are its operation's, which ends as every digest does. -/
theorem digestOpcodesAnswer : Obligations.DigestOpcodesAnswer := by
  intro s i q src quiet d key out frag custom
  refine ⟨digest_answers quiet rfl rfl fun _ _ _ => rfl, digest_answers quiet rfl rfl fun _ _ _ => rfl,
    fragments_answer quiet rfl rfl fun _ _ => rfl, digest_answers quiet rfl rfl fun _ _ running => hmacRun_eq running src,
    fragments_answer quiet rfl rfl fun _ running => hmacRun_eq running src, fun admitted => ⟨?_, ?_⟩, fun broken => ⟨?_, ?_⟩⟩
  · refine digest_answers quiet rfl rfl fun u opcode running => ?_
    rw [kmacRun_eq running admitted (.inl opcode), if_pos opcode]
    rfl
  · refine digest_answers quiet rfl rfl fun u opcode running => ?_
    rw [kmacRun_eq running admitted (.inr opcode), if_neg (by omega)]
    rfl
  · exact fun runs => fails_of_run quiet rfl runs fun u _ => kmacRun_refuses broken u src
  · exact fun runs => fails_of_run quiet rfl runs fun u _ => kmacRun_refuses broken u src

end Sys2Proof.Digests

namespace Sys2Proof.Digests
open Sys2Proof.Machine Sys2Proof.Safety Sys2Proof.Waking Sys2Proof.HostLink Sys2Proof.Rings Sys2Proof.TackRoom Sys2Proof.Ciphers

/-! ### Extends of the Measurement Bank (R432, R436, R437) -/

/-- Register k extended with E between two states of the bank: its value and its count are new, the others stand (R432). -/
structure ExtendedBy (k : MrId) (e : List Byte) (a b : Mrb) : Prop where
  value : b.value[k] = BitVec.ofNat 384 (leNat (sha384 (leBytes 48 a.value[k].toNat ++ slice e 0 48)))
  count : b.count[k] = satInc a.count[k]
  others : ∀ j : MrId, j ≠ k → b.value[j] = a.value[j] ∧ b.count[j] = a.count[j]

/-- What an extend does. -/
theorem mrExtend_extends (s : State) (k : MrId) (e : List Byte) : ExtendedBy k e s.mrb (mrExtend s k e).mrb where
  value := by simp [mrExtend, mrBytes]
  count := upd_self _ _ _
  others j hj := by
    have differ : k.val ≠ j.val := fun h => hj (Fin.ext h.symm)
    exact ⟨by simp [mrExtend, differ], upd_other _ _ hj.symm⟩

/-- An extend depends on the bank alone. -/
theorem mrExtend_congr {s t : State} (h : t.mrb = s.mrb) (k : MrId) (e : List Byte) : (mrExtend t k e).mrb = (mrExtend s k e).mrb := by
  unfold mrExtend mrBytes
  rw [h]

/-- So do the extends that wait in it. -/
theorem mrSettled_congr {s t : State} (h : t.mrb = s.mrb) : (mrSettled t).mrb = (mrSettled s).mrb := by
  have fold (l : List MrExt) (s t : State) (h : t.mrb = s.mrb) :
      (l.foldl (fun s x => mrExtend s x.mr (leBytes 48 x.input.toNat)) t).mrb =
        (l.foldl (fun s x => mrExtend s x.mr (leBytes 48 x.input.toNat)) s).mrb := by
    induction l generalizing s t with
    | nil => exact h
    | cons x l ih => exact ih _ _ (mrExtend_congr h _ _)
  unfold mrSettled
  rw [h]
  exact fold _ _ _ rfl

/-! ### MR_EXTEND (R435, R438) -/

/-- The output of MR_EXTEND, of a register's value (R435). -/
def mrOut (q : Req) (value : BitVec 384) : List Byte := if q.desc.dstLen = 0 then [] else leBytes 48 value.toNat

/-- An MR_EXTEND has ended with a register's value and its count, where the value fits (R435). -/
def MrAnswered (s : State) (i : Nat) (q : Req) (value : BitVec 384) (count : BitVec 32) (t : State) : Prop :=
  tooLongOut q.desc (mrOut q value).length = false →
    OutcomeIs t i 0 0 (mrOut q value).length count.toNat ∧ StoresOf t i = storesOf s q (mrOut q value)

/-- A fenced bank refuses (R438). -/
theorem mrRun_fenced {s : State} (fenced : s.mrb.fenced = true) (q : Req) (src : List Byte) :
    mrRun s q src = failReq s q.id 0x40 0 := if_pos fenced

/-- The end of MR_EXTEND with the register that it names, as the bank holds it. -/
def mrAnswer (s : State) (q : Req) : State :=
  output s q (mrOut q s.mrb.value[mrOf q.desc]) s.mrb.count[mrOf q.desc].toNat

/-- READ answers once what waits is applied (R436). -/
theorem mrRun_read {s : State} (sound : s.mrb.fenced = false) {q : Req} (read : bit q.desc.mode 0 = true) (src : List Byte) :
    mrRun s q src = mrAnswer (mrSettled s) q := by
  unfold mrRun
  simp only [sound, read, if_true, Bool.false_eq_true, if_false]
  rfl

/-- What MR_EXTEND extends with: its source, or under RAW the source's digest (R435). -/
def mrInput (q : Req) (src : List Byte) : List Byte := if bit q.desc.mode 1 then sha384 src else src

/-- The state after the extend of an MR_EXTEND, before its answer. -/
def mrExtended (s : State) (q : Req) (src : List Byte) : State :=
  setReq (mrExtend (mrSettled s) (mrOf q.desc) (mrInput q src)) q.id fun x => { x with effect := true }

/-- Otherwise it extends after what waits, and answers (R437). -/
theorem mrRun_extend {s : State} (sound : s.mrb.fenced = false) {q : Req} (extend : bit q.desc.mode 0 = false) (src : List Byte) :
    mrRun s q src = mrAnswer (mrExtended s q src) q := by
  unfold mrRun
  simp only [sound, extend, Bool.false_eq_true, if_false]
  rfl

/-- The answer leaves the bank and the Halter. -/
theorem mrAnswer_leaves (s : State) (q : Req) : (mrAnswer s q).mrb = s.mrb ∧ (mrAnswer s q).hlt = s.hlt := by
  unfold mrAnswer output
  split <;> exact ⟨rfl, rfl⟩

/-- Where the request is found, and nothing but units, the bank and requests has changed, it is answered. -/
theorem mrAnswer_answers {s v : State} {i : Nat} {q y : Req} (only : v = { s with units := v.units, mrb := v.mrb, reqs := v.reqs })
    (found : findReq v i = some y) (id : q.id = i) :
    MrAnswered s i q v.mrb.value[mrOf q.desc] v.mrb.count[mrOf q.desc] (mrAnswer v q) := by
  intro fits
  have stores : storesOf v q (mrOut q v.mrb.value[mrOf q.desc]) = storesOf s q (mrOut q v.mrb.value[mrOf q.desc]) := by
    generalize mrOut q v.mrb.value[mrOf q.desc] = out
    rw [only]
    rfl
  unfold mrAnswer output
  rw [fits, Bool.and_false, if_neg Bool.false_ne_true, id, stores]
  exact outcome_finish found ..

/-- The extend of a request that runs touches the bank and the request's mark alone, and the request is still found. -/
theorem mrExtended_running {s u : State} {i : Nat} {q : Req} (running : Running s u i q) (src : List Byte) :
    mrExtended u q src =
      { s with units := (mrExtended u q src).units, mrb := (mrExtended u q src).mrb, reqs := (mrExtended u q src).reqs } ∧
    ∃ y, findReq (mrExtended u q src) i = some y := by
  unfold mrExtended mrExtend
  rw [mrSettled_only u, running.id]
  constructor
  · rw [running.units]
    rfl
  · exact ⟨_, findReq_setReq ((findReq_congr rfl i).trans running.found) running.id⟩

section
variable {s : State} {i : Nat} {q : Req} {src : List Byte}

/-- MR_EXTEND in a fenced bank ends ENGINE_UNAVAILABLE (R438). -/
theorem mrExtend_refuses (quiet : Quiet s) (runs : RunsOn s i 0x30 q src) (fenced : s.mrb.fenced = true) :
    Fails (.mrExtend i) s i 0x40 0 := by
  refine fails_of_run (run := mrRun) quiet rfl runs fun u running => mrRun_fenced ?_ q src
  rw [running.units]
  exact fenced

/-- READ changes no register and answers (R435). -/
theorem mrExtend_reads (quiet : Quiet s) (runs : RunsOn s i 0x30 q src) (sound : s.mrb.fenced = false)
    (read : bit q.desc.mode 0 = true) : Ends (.mrExtend i) s fun t => t.mrb = (mrSettled s).mrb ∧
      MrAnswered s i q (mrSettled s).mrb.value[mrOf q.desc] (mrSettled s).mrb.count[mrOf q.desc] t := by
  refine ends_of_run (run := mrRun) quiet rfl runs fun u running => ?_
  have bank : u.mrb = s.mrb := by rw [running.units]
  have settled := mrSettled_only u
  obtain ⟨mrb, hlt⟩ := mrAnswer_leaves (mrSettled u) q
  have found : findReq (mrSettled u) i = some q := (findReq_congr (by rw [settled]) i).trans running.found
  have answered := mrAnswer_answers (s := s) (by rw [settled, running.units]) found running.id
  rw [mrRun_read (by rw [bank, sound]) read, ← mrSettled_congr bank]
  exact ⟨hlt.trans (by rw [settled]), mrb, answered⟩

/-- An extend goes after what waits, and answers with the new value and count (R435, R437). -/
theorem mrExtend_extends_and_answers (quiet : Quiet s) (runs : RunsOn s i 0x30 q src) (sound : s.mrb.fenced = false)
    (extend : bit q.desc.mode 0 = false) : Ends (.mrExtend i) s fun t =>
      ExtendedBy (mrOf q.desc) (mrInput q src) (mrSettled s).mrb t.mrb ∧
      MrAnswered s i q t.mrb.value[mrOf q.desc] t.mrb.count[mrOf q.desc] t := by
  refine ends_of_run (run := mrRun) quiet rfl runs fun u running => ?_
  have bank : u.mrb = s.mrb := by rw [running.units]
  have settled := mrSettled_only u
  obtain ⟨mrb, hlt⟩ := mrAnswer_leaves (mrExtended u q src) q
  obtain ⟨only, y, found⟩ := mrExtended_running running src
  rw [mrRun_extend (by rw [bank, sound]) extend, mrb, ← mrSettled_congr bank]
  refine ⟨hlt.trans ?_, mrExtend_extends _ _ _, mrAnswer_answers only found running.id⟩
  rw [only, running.units]

end

/-! ### The register path (R434) -/

section
variable {s : State} {f : Fn} {k : MrId}

/-- The words that a function's buffer holds for a register (R434). -/
def mrHeld (b : Mrb) (f : Fn) (k : MrId) : Vector (Option (BitVec 64)) 6 :=
  match b.buf[fnIx f] with
  | some x => if x.mr = k then x.words else Vector.replicate 6 none
  | none => Vector.replicate 6 none

/-- Does it hold words of another register? -/
def mrOther (b : Mrb) (f : Fn) (k : MrId) : Bool := (b.buf[fnIx f].map fun x => decide (x.mr ≠ k)).getD false

/-- SEQ_ERR after a write that sets a function's bit or leaves it. -/
def seqErrOn (b : Mrb) (f : Fn) (on : Bool) : Vector Bool 2 := if on then b.seqErr.set (fnIx f) true else b.seqErr

/-- The bank after one of the first five words. -/
def wordHeld (b : Mrb) (f : Fn) (k : MrId) (j : Fin 6) (v : BitVec 64) : Mrb :=
  { b with seqErr := seqErrOn b f (mrOther b f k),
           buf := b.buf.set (fnIx f) (some { mr := k, words := (mrHeld b f k).set j (some v) }) }

/-- The bank after a last word that completes an input. -/
def extendQueued (b : Mrb) (f : Fn) (k : MrId) (e : BitVec 384) : Mrb :=
  { b with seqErr := seqErrOn b f (mrOther b f k), buf := b.buf.set (fnIx f) none,
           queue := if b.fenced then b.queue else b.queue ++ [{ fn := f, mr := k, input := e }] }

/-- The bank after a last word that is out of sequence. -/
def wordIgnored (b : Mrb) (f : Fn) (k : MrId) : Mrb :=
  { b with seqErr := seqErrOn b f true,
           buf := b.buf.set (fnIx f) (if (mrHeld b f k).toList.any Option.isSome then some { mr := k, words := mrHeld b f k } else none) }

/-- A register that is not the function's. -/
theorem wrMrValue_denied (denied : mrMay s f k = false) (j : Fin 6) (v : BitVec 64) :
    wrMrValue s f k j v = { s with mrb := { s.mrb with denied := s.mrb.denied.set (fnIx f) true } } := by
  unfold wrMrValue
  exact if_pos (by simp [denied])

/-- What a permitted word does to a buffer that holds the words given for its register. -/
def wordTaken (s : State) (f : Fn) (k : MrId) (held : Vector (Option (BitVec 64)) 6) (j : Fin 6) (v : BitVec 64) : State :=
  if j.val < 5 then mrSetBuf s f (some { mr := k, words := held.set j (some v) })
  else match mrWords held v with
    | some e =>
      if s.mrb.fenced then mrSetBuf s f none
      else { mrSetBuf s f none with mrb := { (mrSetBuf s f none).mrb with queue := s.mrb.queue ++ [{ fn := f, mr := k, input := e }] } }
    | none => mrSetBuf (mrSeqErr s f) f (if held.toList.any Option.isSome then some { mr := k, words := held } else none)

/-- A register that is the function's takes the word, after SEQ_ERR where the buffer is another's. -/
theorem wrMrValue_may (may : mrMay s f k = true) (j : Fin 6) (v : BitVec 64) : wrMrValue s f k j v =
    wordTaken { s with mrb := { s.mrb with seqErr := seqErrOn s.mrb f (mrOther s.mrb f k) } } f k (mrHeld s.mrb f k) j v := by
  have marked : (if mrOther s.mrb f k then mrSeqErr s f else s) =
      { s with mrb := { s.mrb with seqErr := seqErrOn s.mrb f (mrOther s.mrb f k) } } := by
    unfold seqErrOn
    split <;> rfl
  rw [← marked]
  unfold wrMrValue
  rw [if_neg (by simp [may])]
  rfl

/-- One of the first five words joins the buffer. -/
theorem wrMrValue_first (may : mrMay s f k = true) {j : Fin 6} (first : j.val < 5) (v : BitVec 64) :
    wrMrValue s f k j v = { s with mrb := wordHeld s.mrb f k j v } :=
  (wrMrValue_may may j v).trans (if_pos first)

/-- The last word after the other five queues their extend. -/
theorem wrMrValue_completes (may : mrMay s f k = true) {v : BitVec 64} {e : BitVec 384}
    (words : mrWords (mrHeld s.mrb f k) v = some e) : wrMrValue s f k 5 v = { s with mrb := extendQueued s.mrb f k e } := by
  rw [wrMrValue_may may]
  unfold wordTaken extendQueued
  rw [if_neg (by decide), words]
  dsimp only
  split <;> rfl

/-- The last word without them sets SEQ_ERR and no more. -/
theorem wrMrValue_ignored (may : mrMay s f k = true) {v : BitVec 64} (words : mrWords (mrHeld s.mrb f k) v = none) :
    wrMrValue s f k 5 v = { s with mrb := wordIgnored s.mrb f k } := by
  have twice (on : Bool) : (seqErrOn s.mrb f on).set (fnIx f) true = seqErrOn s.mrb f true := by
    cases on
    · rfl
    · exact Vector.set_set ..
  rw [wrMrValue_may may]
  unfold wordTaken wordIgnored
  rw [if_neg (by decide), words, ← twice (mrOther s.mrb f k)]
  rfl

/-- MR_VALUE_WRITE, where a word does what is given to the bank. -/
theorem mrValueWrite_ends (served : WritesServed s f) {j : Fin 6} {v : BitVec 64} {change : Mrb → Mrb}
    (write : ∀ u : State, mrMay u f k = mrMay s f k → u.mrb = s.mrb → wrMrValue u f k j v = { u with mrb := change u.mrb }) :
    Ends (.mrValueWrite f k j v) s fun t => t = { s with mrb := change s.mrb, fns := t.fns } :=
  ⟨_, congrArg Host.Outcome.next ((gateW64_served served _ _).trans (write _ rfl rfl)), rfl⟩

end

/-! ### Extends applied, and engines that differ (R432, R438) -/

/-- The oldest extend of the register path applied. -/
theorem exec_mrExtendApply {s : State} {x : MrExt} {l : List MrExt} (queue : s.mrb.queue = x :: l) :
    exec .mrExtendApply s = .next (mrExtend { s with mrb := { s.mrb with queue := l } } x.mr (leBytes 48 x.input.toNat)) := by
  show execMrExtendApply s = _
  unfold execMrExtendApply
  rw [queue]

/-- The bank fenced, with its cause recorded and its source asserted (R438). -/
def bankFenced (s : State) : State :=
  raiseHs { s with mrb := { s.mrb with fenced := true }, hlt := { s.hlt with cause := 5 } } 95 none

/-- A mismatch while a register-path extend waits drops it. -/
theorem exec_bankEngineMismatch_extend {s : State} {x : MrExt} {l : List MrExt} (queue : s.mrb.queue = x :: l)
    (sound : s.mrb.fenced = false) :
    exec .bankEngineMismatch s = .next (settle (bankFenced { s with mrb := { s.mrb with queue := [] } })) := by
  show execBankEngineMismatch s = _
  unfold execBankEngineMismatch
  dsimp only
  rw [if_neg (by simp [queue, sound]), queue]
  rfl

/-- A mismatch while a request's extend computes ends the request INTERNAL. -/
theorem exec_bankEngineMismatch_request {s : State} {q : Req} {l : List Req} (queue : s.mrb.queue = [])
    (sound : s.mrb.fenced = false) (work : running s .measurement = q :: l) :
    exec .bankEngineMismatch s = .next (settle (bankFenced (failReq s q.id 0x7F 0))) := by
  show execBankEngineMismatch s = _
  unfold execBankEngineMismatch
  dsimp only
  rw [if_neg (by simp [work, sound]), work, queue]
  show Host.Outcome.next (settle (selfFail
    { failReq s q.id 0x7F 0 with mrb := { s.mrb with fenced := true, queue := [] } } 5 none)) = _
  rw [← queue]
  rfl

/-- Settles O28: MR_EXTEND refused, reading or extending; a word by its place and what the buffer holds; the bank's own
commands by their equations. -/
theorem measurementsExtend : Obligations.MeasurementsExtend := by
  intro s quiet
  refine ⟨fun i q src runs => ⟨mrExtend_refuses quiet runs, mrExtend_reads quiet runs, fun sound extend => ?_⟩,
    fun f k v served => ⟨fun denied j => ?_, fun may => ⟨fun j first => ?_, fun e words => ?_, fun words => ?_⟩⟩,
    fun x l queue => ⟨?_, exec_bankEngineMismatch_extend queue⟩, fun q l queue sound work => ?_⟩
  · obtain ⟨t, done, ⟨value, count, others⟩, answered⟩ := mrExtend_extends_and_answers quiet runs sound extend
    exact ⟨t, done, value, count, answered, others⟩
  · exact mrValueWrite_ends (change := fun b => { b with denied := b.denied.set (fnIx f) true }) served
      fun u same _ => wrMrValue_denied (same.trans denied) j v
  · exact mrValueWrite_ends (change := fun b => wordHeld b f k j v) served
      fun u same _ => wrMrValue_first (same.trans may) first v
  · exact mrValueWrite_ends (change := fun b => extendQueued b f k e) served
      fun u same bank => wrMrValue_completes (same.trans may) (by rw [bank]; exact words)
  · exact mrValueWrite_ends (change := fun b => wordIgnored b f k) served
      fun u same bank => wrMrValue_ignored (same.trans may) (by rw [bank]; exact words)
  · obtain ⟨value, count, others⟩ := mrExtend_extends { s with mrb := { s.mrb with queue := l } } x.mr (leBytes 48 x.input.toNat)
    exact ⟨_, exec_mrExtendApply queue, rfl, rfl, count, value, others⟩
  · exact exec_bankEngineMismatch_request queue sound work

end Sys2Proof.Digests

namespace Sys2Proof.Digests
open Sys2Proof.Machine Sys2Proof.Safety Sys2Proof.Waking Sys2Proof.HostLink Sys2Proof.Rings Sys2Proof.TackRoom

/-! ### Sessions that end (R428, R429) -/

/-- EV300 raised after the sweep of dropped entries: the feed, the units, memory and the requests stand (R429, R439). -/
theorem raiseEv_swept (s : State) :
    let t := raiseEv (sweepDropped s) 300
    t.feed = s.feed ∧ t.units = s.units ∧ t.dram = s.dram ∧ t.reqs = s.reqs ∧ (evSrc t .pf1 300).cause = true := by
  obtain ⟨cause, -⟩ := raiseEv_device (sweepDropped s) (k := 300) false (by decide) (by decide)
  obtain ⟨v, swept, -⟩ := sweepDropped_eq s
  refine ⟨?_, ?_, ?_, ?_, cause⟩ <;> rw [raiseEv_only (sweepDropped s) 300 false, swept]

/-- A session has ended in ERROR with a code and a cause: no key, no input and no output is left, EV300 is raised, and
memory and the requests are as before. -/
def FeedFailed (s t : State) (code : Byte) (cause : BitVec 3) : Prop :=
  t.feed.state = .error ∧ t.feed.code = code ∧ t.feed.endCause = cause ∧ t.feed.key = none ∧ t.feed.out = 0 ∧ t.feed.msg = [] ∧
  t.feed.buf = [] ∧ (evSrc t .pf1 300).cause = true ∧ t.dram = s.dram ∧ t.reqs = s.reqs

/-- A session in ERROR has ended so. -/
theorem feedError_failed (s : State) (code : Byte) (cause : BitVec 3) : FeedFailed s (feedError s code cause) code cause := by
  obtain ⟨feed, -, dram, reqs, raised⟩ := raiseEv_swept
    { s with feed := { s.feed with state := .error, code := code, endCause := cause, out := 0, key := none, msg := [], buf := [] } }
  unfold FeedFailed feedError
  rw [feed]
  exact ⟨rfl, rfl, rfl, rfl, rfl, rfl, rfl, raised, dram, reqs⟩

/-- A session that is open or waiting is ended with a cause (R429). -/
theorem feedEnd_failed {s : State} (active : feedActive s = true) (cause : BitVec 3) : FeedFailed s (feedEnd s cause) 0 cause := by
  unfold feedEnd
  rw [if_pos active]
  exact feedError_failed s 0 cause

/-- Outside a session nothing ends. -/
theorem feedEnd_idle {s : State} (idle : feedActive s = false) (cause : BitVec 3) : feedEnd s cause = s :=
  if_neg (by simp [idle])

/-- An open session is one. -/
theorem feedActive_opened {s : State} (opened : s.feed.state = .opened) : feedActive s = true := by
  unfold feedActive
  rw [opened]

/-- FEED_IDLE_TIMEOUT ends an open session, and nothing else. -/
theorem exec_feedIdleTimeout (s : State) :
    (s.feed.state = .opened → exec .feedIdleTimeout s = .next (feedEnd s 2)) ∧
    (s.feed.state ≠ .opened → exec .feedIdleTimeout s = .next s) := by
  show (_ → execFeedIdleTimeout s = _) ∧ (_ → execFeedIdleTimeout s = _)
  unfold execFeedIdleTimeout
  constructor
  · intro opened
    rw [opened]
  · intro closed
    split
    · next opened => exact absurd opened closed
    · rfl

/-! ### DL_FEED_CTL (R425, R429, R445) -/

/-- A field below a bit that is set. -/
theorem field_putBit {w : Nat} (v : BitVec w) {lo n i : Nat} (below : lo + n ≤ i) : field (putBit v i true) lo n = field v lo n := by
  refine BitVec.eq_of_getLsbD_eq fun j hj => ?_
  have lower : lo + j < i := by omega
  simp [field, putBit, lower]

/-- The session's registers with the RW fields of a written word (R445). -/
def feedConfigured (x : Feed) (v : BitVec 64) : Feed :=
  { x with alg := if algListed (field v 0 4) then field v 0 4 else x.alg, keyed := bit v 8, handle := field v 16 11,
           stall := field v 32 6 }

/-- The control bits are none of them. -/
theorem feedConfigured_putBit (x : Feed) (v : BitVec 64) {i : Nat} (control : 38 ≤ i) :
    feedConfigured x (putBit v i true) = feedConfigured x v := by
  unfold feedConfigured
  rw [field_putBit v (by omega), field_putBit v (by omega), field_putBit v (by omega), bit_putBit v (by decide),
    decide_eq_false (by omega), Bool.or_false]

/-- The feed replaced. -/
def feedSet (s : State) (x : Feed) : State := { s with feed := x }

/-- SEQ_ERR of the feed set (R425, R427). -/
def feedSeqErr (s : State) : State := { s with feed := { s.feed with seqErr := true } }

/-- Outside a session the fields are taken, ABORT ends nothing, and START starts. -/
theorem wrFeedCtl_idle {s : State} (idle : feedActive s = false) (v : BitVec 64) :
    wrFeedCtl s .pf1 v (BitVec.allOnes 64) =
      if bit v 63 then feedStart (feedSet s (feedConfigured s.feed v)) else feedSet s (feedConfigured s.feed v) := by
  have still : feedActive (feedSet s (feedConfigured s.feed v)) = false := idle
  have aborted : (if bit v 62 then feedEnd (feedSet s (feedConfigured s.feed v)) 1 else feedSet s (feedConfigured s.feed v)) =
      feedSet s (feedConfigured s.feed v) := ite_eq_right_iff.2 fun _ => feedEnd_idle still 1
  unfold wrFeedCtl
  simp only [BitVec.and_allOnes, idle, Bool.false_eq_true, if_false]
  conv_rhs => rw [← aborted]
  rfl

/-- In a session ABORT ends it, and START sets SEQ_ERR. -/
theorem wrFeedCtl_active {s : State} (active : feedActive s = true) (v : BitVec 64) :
    wrFeedCtl s .pf1 v (BitVec.allOnes 64) =
      if bit v 63 then feedSeqErr (if bit v 62 then feedEnd s 1 else s) else if bit v 62 then feedEnd s 1 else s := by
  unfold wrFeedCtl
  simp only [BitVec.and_allOnes, active, if_true]
  rfl

/-- The session that START begins (R425, R426). -/
def feedWaiting (s : State) : Feed :=
  { s.feed with state := .waiting, code := 0, endCause := 0, count := 0, msg := [], buf := [], out := 0, key := none,
                testFirst := s.units[dl15].testDue || s.units[dl15].testing }

/-- START outside a session begins one, or leaves ERROR with its code (R425). -/
theorem feedStart_idle {s : State} (idle : feedActive s = false) :
    (feedStartErr s (feedWaiting s) = none → feedStart s = feedSet s (feedWaiting s)) ∧
    (∀ c, feedStartErr s (feedWaiting s) = some c → feedStart s = feedError (feedSet s (feedWaiting s)) c 0) := by
  unfold feedStart
  rw [if_neg (by simp [idle])]
  constructor
  · intro accepted
    show (match feedStartErr s (feedWaiting s) with | some c => _ | none => _) = _
    rw [accepted]
    rfl
  · intro c refused
    show (match feedStartErr s (feedWaiting s) with | some c => _ | none => _) = _
    rw [refused]
    rfl

section
variable {s : State}

/-- START and ABORT of PF1 are writes of DL_FEED_CTL with their bit set. -/
theorem exec_feedCtl (served : WritesServed s .pf1) (v : BitVec 64) :
    exec (.dlFeedStart .pf1 v) s = .next (wrFeedCtl (dropLow s .pf1 0x57900) .pf1 (putBit v 63 true) (BitVec.allOnes 64)) ∧
    exec (.dlFeedAbort .pf1 v) s = .next (wrFeedCtl (dropLow s .pf1 0x57900) .pf1 (putBit v 62 true) (BitVec.allOnes 64)) :=
  ⟨congrArg Host.Outcome.next (gateW64_served served _ _), congrArg Host.Outcome.next (gateW64_served served _ _)⟩

/-- The same outside a session. -/
theorem exec_feedCtl_idle (served : WritesServed s .pf1) (idle : feedActive s = false) (v : BitVec 64) :
    exec (.dlFeedStart .pf1 v) s = .next (feedStart (feedSet (dropLow s .pf1 0x57900) (feedConfigured s.feed v))) ∧
    (bit v 63 = false → exec (.dlFeedAbort .pf1 v) s = .next (feedSet (dropLow s .pf1 0x57900) (feedConfigured s.feed v))) := by
  obtain ⟨start, abort⟩ := exec_feedCtl served v
  have low : feedActive (dropLow s .pf1 0x57900) = false := idle
  rw [wrFeedCtl_idle low, feedConfigured_putBit _ v (by decide), bit_putBit v (by decide)] at start abort
  refine ⟨?_, fun noStart => ?_⟩
  · rw [start, decide_eq_true rfl, Bool.or_true, if_pos rfl]
    rfl
  · rw [abort, noStart, decide_eq_false (by decide), Bool.or_false, if_neg Bool.false_ne_true]
    rfl

/-- The same in a session. -/
theorem exec_feedCtl_active (served : WritesServed s .pf1) (active : feedActive s = true) (v : BitVec 64) :
    exec (.dlFeedStart .pf1 v) s =
      .next (feedSeqErr (if bit v 62 then feedEnd (dropLow s .pf1 0x57900) 1 else dropLow s .pf1 0x57900)) ∧
    exec (.dlFeedAbort .pf1 v) s = .next (if bit v 63 then feedSeqErr (feedEnd (dropLow s .pf1 0x57900) 1)
      else feedEnd (dropLow s .pf1 0x57900) 1) := by
  obtain ⟨start, abort⟩ := exec_feedCtl served v
  have low : feedActive (dropLow s .pf1 0x57900) = true := active
  rw [wrFeedCtl_active low, bit_putBit v (by decide), bit_putBit v (by decide)] at start abort
  exact ⟨by simpa using start, by simpa using abort⟩

/-- START outside a session: it waits for the lane, or has failed with its code (R425). -/
theorem dlFeedStart_idle (served : WritesServed s .pf1) (idle : feedActive s = false) (v : BitVec 64) :
    let u := feedSet (dropLow s .pf1 0x57900) (feedConfigured s.feed v)
    (feedStartErr u (feedWaiting u) = none → exec (.dlFeedStart .pf1 v) s = .next (feedSet u (feedWaiting u))) ∧
    (∀ c, feedStartErr u (feedWaiting u) = some c → Ends (.dlFeedStart .pf1 v) s fun t => FeedFailed s t c 0) := by
  intro u
  obtain ⟨start, -⟩ := exec_feedCtl_idle served idle v
  obtain ⟨accepted, refused⟩ := feedStart_idle (s := u) idle
  exact ⟨fun h => by rw [start, accepted h],
    fun c h => ⟨_, start.trans (congrArg _ (refused c h)), feedError_failed (feedSet u (feedWaiting u)) c 0⟩⟩

/-- SEQ_ERR is no part of how a session has failed. -/
theorem FeedFailed.seqErr {t : State} {code : Byte} {cause : BitVec 3} (failed : FeedFailed s t code cause) :
    FeedFailed s (feedSeqErr t) code cause := failed

/-- START in a session sets SEQ_ERR, and ABORT ends the session, with START or without (R425, R429). -/
theorem dlFeedCtl_active (served : WritesServed s .pf1) (active : feedActive s = true) (v : BitVec 64) :
    (bit v 62 = false → exec (.dlFeedStart .pf1 v) s = .next (feedSeqErr (dropLow s .pf1 0x57900))) ∧
    (bit v 62 = true → Ends (.dlFeedStart .pf1 v) s fun t => FeedFailed s t 0 1) ∧
    Ends (.dlFeedAbort .pf1 v) s fun t => FeedFailed s t 0 1 := by
  obtain ⟨start, abort⟩ := exec_feedCtl_active served active v
  have ended : FeedFailed s (feedEnd (dropLow s .pf1 0x57900) 1) 0 1 := feedEnd_failed (s := dropLow s .pf1 0x57900) active 1
  refine ⟨fun noAbort => ?_, fun aborts => ⟨_, start, ?_⟩, ⟨_, abort, ?_⟩⟩
  · rw [start, noAbort, if_neg Bool.false_ne_true]
  · rw [aborts, if_pos rfl]
    exact ended.seqErr
  · split
    · exact ended.seqErr
    · exact ended

/-! ### FEED_SESSION_CLAIM (R426) -/

/-- A session waits, and DL15 is free for it: nothing runs or is suspended there, and no test is due first (R426). -/
structure LaneFree (s : State) : Prop where
  waiting : s.feed.state = .waiting
  run : s.units[dl15].run = none
  suspended : s.units[dl15].suspended = none
  testing : s.units[dl15].testing = false
  tested : s.feed.testFirst = true → s.units[dl15].testDue = false

/-- Then no condition holds the claim up. -/
theorem LaneFree.claims (free : LaneFree s) : ¬ (s.feed.state ≠ .waiting ∨ s.units[dl15].run.isSome = true ∨
    s.units[dl15].suspended.isSome = true ∨ s.units[dl15].testing = true ∨
    (s.feed.testFirst = true ∧ s.units[dl15].testDue = true)) := by
  obtain ⟨waiting, run, suspended, testing, tested⟩ := free
  rw [waiting, run, suspended, testing]
  simpa using tested

/-- A session without a key opens. -/
theorem feedSessionClaim_keyless (free : LaneFree s) (keyless : s.feed.keyed = false) :
    exec .feedSessionClaim s = .next (feedSet (zeroKeyReg s dl15) { s.feed with state := .opened }) := by
  show execFeedSessionClaim s = _
  unfold execFeedSessionClaim
  dsimp only
  rw [if_neg free.claims, keyless]
  rfl

/-- One with a key that it may use, not bound to a tally, opens with the state prepared from it (R419, R420). -/
theorem feedSessionClaim_keyed (quiet : Quiet s) (free : LaneFree s) (keyed : s.feed.keyed = true) {k : Key} {kind : Nat} {m : Byte}
    (entry : heldEntry s (bvFin s.feed.stall) (bvFin s.feed.handle) = .key k kind m)
    (granted : keyErr s (bvFin s.feed.stall) (feedDesc s.feed) (.key k kind m) = none) (unbound : k.tallyAddr = 0) :
    exec .feedSessionClaim s = .next (feedSet (zeroKeyReg s dl15) { s.feed with state := .opened, key := some { k with
      value := if 2 ≤ kind then k.value else prepared s.feed.alg.toNat k.value [] } }) := by
  have held : heldEntry (zeroKeyReg s dl15) (bvFin s.feed.stall) (bvFin s.feed.handle) = .key k kind m := entry
  have may : keyErr (zeroKeyReg s dl15) (bvFin s.feed.stall) (feedDesc s.feed) (.key k kind m) = none := granted
  have used : grantUse (zeroKeyReg s dl15) (bvFin s.feed.stall) (zeroKeyReg s dl15).pdk.epoch 0 k = (zeroKeyReg s dl15, none) := if_pos unbound
  show execFeedSessionClaim s = _
  unfold execFeedSessionClaim
  dsimp only
  rw [if_neg free.claims, keyed, held, may]
  dsimp only
  rw [used, if_neg (by decide)]
  exact congrArg Host.Outcome.next (settle_of_quiet quiet)

end

end Sys2Proof.Digests

namespace Sys2Proof.Digests
open Sys2Proof.Machine Sys2Proof.Safety Sys2Proof.Waking Sys2Proof.HostLink Sys2Proof.Rings Sys2Proof.TackRoom

/-! ### DL_FEED_DATA and DL_FEED_LAST (R427, R430) -/

section
variable {s : State}

/-- The bytes that a session has taken from its DATA words, in the lane and in the buffer. -/
def feedTaken (x : Feed) : List Byte := x.msg ++ x.buf.flatMap fun w => leBytes 8 w.toNat

/-- A state differs from another in the feed and the units alone. -/
def FeedOnly (s t : State) : Prop := t = { s with feed := t.feed, units := t.units }

/-- Two such changes one after the other. -/
theorem FeedOnly.trans {s t u : State} (h : FeedOnly s t) (g : FeedOnly t u) : FeedOnly s u := by
  unfold FeedOnly at *
  rw [g, h]

/-- Words may have gone from the buffer to the message: no byte is lost, and nothing else of the feed changes (R430). -/
structure WordsMoved (s r : State) : Prop where
  only : r = feedSet s { s.feed with msg := r.feed.msg, buf := r.feed.buf }
  taken : feedTaken r.feed = feedTaken s.feed

/-- The lane's taking the oldest word moves it. -/
theorem feedTake_moves (s : State) : WordsMoved s (feedTake s) ∧ (feedTake s).feed.buf = s.feed.buf.tail := by
  unfold feedTake
  split
  · next empty => exact ⟨⟨rfl, rfl⟩, by rw [empty, List.tail_nil]⟩
  · next w t buf =>
    refine ⟨⟨rfl, ?_⟩, by rw [buf, List.tail_cons]⟩
    simp only [feedTaken, buf, List.flatMap_cons, List.append_assoc]

/-- The feed with room for a word: the lane has taken the oldest where the buffer of 64 was full. -/
def feedRoom (s : State) : State := if 64 ≤ s.feed.buf.length then feedTake s else s

/-- What is left in the buffer then. -/
theorem feedRoom_moves (s : State) : WordsMoved s (feedRoom s) ∧
    (feedRoom s).feed.buf = if 64 ≤ s.feed.buf.length then s.feed.buf.tail else s.feed.buf := by
  unfold feedRoom
  split
  · exact feedTake_moves s
  · exact ⟨⟨rfl, rfl⟩, rfl⟩

/-- Bytes supplied are counted for the session and for DL15, and for no other unit (R443). -/
theorem feedBytes_units (s : State) (n : Nat) :
    (feedBytes s n).units[dl15].bytes = satAdd s.units[dl15].bytes n ∧ ∀ u : UnitId, u ≠ dl15 → (feedBytes s n).units[u] = s.units[u] :=
  ⟨congrArg UnitState.bytes (upd_self s.units dl15 _), fun _ other => upd_other s.units _ other.symm⟩

/-- A DATA word has joined the buffer behind what was taken, and is counted (R427, R430, R443). -/
structure WordJoined (s t : State) (v : BitVec 64) : Prop where
  only : FeedOnly s t
  state : t.feed.state = s.feed.state
  taken : feedTaken t.feed = feedTaken s.feed ++ leBytes 8 v.toNat
  count : t.feed.count = satAdd s.feed.count 8
  buf : t.feed.buf = (if 64 ≤ s.feed.buf.length then s.feed.buf.tail else s.feed.buf) ++ [v]
  bytes : t.units[dl15].bytes = satAdd s.units[dl15].bytes 8
  others : ∀ u : UnitId, u ≠ dl15 → t.units[u] = s.units[u]

/-- That is what the model's own operation does. -/
theorem feedPut_joins (s : State) (v : BitVec 64) : WordJoined s (feedPut s v) v := by
  obtain ⟨⟨only, taken⟩, buf⟩ := feedRoom_moves s
  have put : feedPut s v = feedBytes (feedSet (feedRoom s) { (feedRoom s).feed with buf := (feedRoom s).feed.buf ++ [v] }) 8 := rfl
  have units : (feedRoom s).units = s.units := by rw [only]; rfl
  rw [put]
  generalize feedRoom s = r at only taken buf units
  obtain ⟨bytes, others⟩ := feedBytes_units (feedSet r { r.feed with buf := r.feed.buf ++ [v] }) 8
  have same : (feedSet r { r.feed with buf := r.feed.buf ++ [v] }).units = s.units := units
  rw [same] at bytes others
  have moved : FeedOnly s r := by
    unfold FeedOnly
    rw [only]
    rfl
  refine ⟨moved.trans rfl, show r.feed.state = _ by rw [only]; rfl, ?_, ?_, congrArg (· ++ [v]) buf, bytes, others⟩
  · rw [← taken]
    show r.feed.msg ++ (r.feed.buf ++ [v]).flatMap (fun w => leBytes 8 w.toNat) = _
    simp only [feedTaken, List.flatMap_append, List.flatMap_cons, List.flatMap_nil, List.append_nil, List.append_assoc]
  · show satAdd r.feed.count 8 = _
    rw [only]
    rfl

/-- A last word ends the input. -/
def feedLast (s : State) (v : BitVec 64) : State :=
  feedBytes (feedSet s { s.feed with state := .finishing, last := v, lastVb := s.feed.vb }) s.feed.vb.toNat

/-- The two word writes of a function whose writes are served. -/
theorem exec_feedWord {f : Fn} (served : WritesServed s f) (v : BitVec 64) :
    exec (.dlFeedData f v) s = .next (wrFeedWord (dropLow s f 0x57910) f false v) ∧
    exec (.dlFeedLast f v) s = .next (wrFeedWord (dropLow s f 0x57920) f true v) :=
  ⟨congrArg Host.Outcome.next (gateW64_served served _ _), congrArg Host.Outcome.next (gateW64_served served _ _)⟩

/-- In an open session a word is taken by its place. -/
theorem wrFeedWord_opened (opened : s.feed.state = .opened) (v : BitVec 64) :
    wrFeedWord s .pf1 false v = feedPut s v ∧ wrFeedWord s .pf1 true v = feedLast s v := by
  unfold wrFeedWord
  simp only [opened]
  exact ⟨rfl, rfl⟩

/-- In any other state a word sets SEQ_ERR. -/
theorem wrFeedWord_closed (closed : s.feed.state ≠ .opened) (last : Bool) (v : BitVec 64) :
    wrFeedWord s .pf1 last v = feedSeqErr s := by
  unfold wrFeedWord
  dsimp only
  split
  · next opened => exact absurd opened closed
  · rfl

/-- DL_FEED_DATA in an open session (R427, R430). -/
theorem dlFeedData_opened (served : WritesServed s .pf1) (opened : s.feed.state = .opened) (v : BitVec 64) :
    Ends (.dlFeedData .pf1 v) s fun t => t = { s with feed := t.feed, units := t.units, fns := t.fns } ∧ t.feed.state = .opened ∧
      feedTaken t.feed = feedTaken s.feed ++ leBytes 8 v.toNat ∧ t.feed.count = satAdd s.feed.count 8 ∧
      t.feed.buf = (if 64 ≤ s.feed.buf.length then s.feed.buf.tail else s.feed.buf) ++ [v] ∧
      t.units[dl15].bytes = satAdd s.units[dl15].bytes 8 ∧ ∀ u : UnitId, u ≠ dl15 → t.units[u] = s.units[u] := by
  obtain ⟨data, -⟩ := exec_feedWord served v
  obtain ⟨put, -⟩ := wrFeedWord_opened (s := dropLow s .pf1 0x57910) opened v
  obtain ⟨only, state, taken, count, buf, bytes, others⟩ := feedPut_joins (dropLow s .pf1 0x57910) v
  refine ⟨_, data.trans (congrArg _ put), ?_, state.trans opened, taken, count, buf, bytes, others⟩
  rw [only]
  rfl

/-- DL_FEED_LAST in an open session (R427). -/
theorem dlFeedLast_opened (served : WritesServed s .pf1) (opened : s.feed.state = .opened) (v : BitVec 64) :
    Ends (.dlFeedLast .pf1 v) s fun t => t = { s with feed := t.feed, units := t.units, fns := t.fns } ∧ t.feed.state = .finishing ∧
      feedInput t.feed = feedTaken s.feed ++ (leBytes 8 v.toNat).take s.feed.vb.toNat ∧
      t.feed.count = satAdd s.feed.count s.feed.vb.toNat ∧ ∀ u : UnitId, u ≠ dl15 → t.units[u] = s.units[u] := by
  obtain ⟨-, last⟩ := exec_feedWord served v
  obtain ⟨-, put⟩ := wrFeedWord_opened (s := dropLow s .pf1 0x57920) opened v
  obtain ⟨-, others⟩ := feedBytes_units s s.feed.vb.toNat
  exact ⟨_, last.trans (congrArg _ put), rfl, rfl, rfl, rfl, others⟩

/-- Either word outside an open session. -/
theorem dlFeedWord_closed (served : WritesServed s .pf1) (closed : s.feed.state ≠ .opened) (v : BitVec 64) :
    exec (.dlFeedData .pf1 v) s = .next (feedSeqErr (dropLow s .pf1 0x57910)) ∧
    exec (.dlFeedLast .pf1 v) s = .next (feedSeqErr (dropLow s .pf1 0x57920)) := by
  obtain ⟨data, last⟩ := exec_feedWord served v
  rw [wrFeedWord_closed (s := dropLow s .pf1 0x57910) closed] at data
  rw [wrFeedWord_closed (s := dropLow s .pf1 0x57920) closed] at last
  exact ⟨data, last⟩

/-- PF0's writes reach no session (R425, R447). -/
theorem pf0_changes_no_feed (served : WritesServed s .pf0) (v : BitVec 64) :
    exec (.dlFeedStart .pf0 v) s = .next (dropLow s .pf0 0x57900) ∧ exec (.dlFeedAbort .pf0 v) s = .next (dropLow s .pf0 0x57900) ∧
    exec (.dlFeedData .pf0 v) s = .next (dropLow s .pf0 0x57910) ∧ exec (.dlFeedLast .pf0 v) s = .next (dropLow s .pf0 0x57920) := by
  obtain ⟨data, last⟩ := exec_feedWord served v
  exact ⟨congrArg Host.Outcome.next (gateW64_served served _ _), congrArg Host.Outcome.next (gateW64_served served _ _), data, last⟩

/-! ### FEED_FINISH (R427, R428) -/

/-- A session with as many bytes as MSG_LEN names is DONE, with its output over the first of them. -/
def FeedDone (s t : State) : Prop :=
  t.feed.state = .done ∧ t.feed.code = (if (feedInput s.feed).length = s.feed.msgLen.toNat then 0 else 1) ∧
  t.feed.out = BitVec.ofNat 512 (leNat (feedOut s.feed ((feedInput s.feed).take s.feed.msgLen.toNat))) ∧ t.feed.key = none ∧
  t.units[dl15].reqs = satInc s.units[dl15].reqs ∧ (evSrc t .pf1 300).cause = true ∧ t.reqs = s.reqs

/-- The feed of such a session. -/
def feedDone (x : Feed) : Feed :=
  { x with state := .done, code := if (feedInput x).length = x.msgLen.toNat then 0 else 1,
           out := BitVec.ofNat 512 (leNat (feedOut x ((feedInput x).take x.msgLen.toNat))), msg := [], buf := [], key := none }

/-- FEED_FINISH with bytes enough. -/
theorem feedFinish_done (finishing : s.feed.state = .finishing) (enough : s.feed.msgLen.toNat ≤ (feedInput s.feed).length) :
    Ends .feedFinish s (FeedDone s) := by
  have done : exec .feedFinish s = .next (raiseEv (sweepDropped (feedSet (feedCount s) (feedDone s.feed))) 300) := by
    show execFeedFinish s = _
    unfold execFeedFinish
    rw [if_neg (not_not_intro finishing)]
    exact if_neg (by omega)
  obtain ⟨feed, units, -, reqs, raised⟩ := raiseEv_swept (feedSet (feedCount s) (feedDone s.feed))
  refine ⟨_, done, ?_⟩
  unfold FeedDone
  rw [feed, units]
  exact ⟨rfl, rfl, rfl, rfl, congrArg UnitState.reqs (upd_self s.units dl15 _), raised, reqs⟩

/-- FEED_FINISH with fewer. -/
theorem feedFinish_short (finishing : s.feed.state = .finishing) (short : (feedInput s.feed).length < s.feed.msgLen.toNat) :
    Ends .feedFinish s fun t => FeedFailed s t 0x32 0 := by
  have done : exec .feedFinish s = .next (feedFail s 0x32) := by
    show execFeedFinish s = _
    unfold execFeedFinish
    rw [if_neg (not_not_intro finishing)]
    exact if_pos short
  exact ⟨_, done, feedError_failed (feedCount s) 0x32 0⟩

end

/-- Settles O29: START and ABORT in a session and outside one, the claim with and without a key, each word by its place, and
each end by what it leaves. -/
theorem feedSessionsRun : Obligations.FeedSessionsRun := by
  intro s quiet ends taken
  obtain ⟨idleEnds, idleKept⟩ := exec_feedIdleTimeout s
  refine ⟨fun v served => ⟨fun idle => ?_, fun active => dlFeedCtl_active served active v⟩,
    fun waiting run suspended testing tested => ?_,
    fun v served => ⟨fun opened => ⟨dlFeedData_opened served opened v, dlFeedLast_opened served opened v⟩,
      fun closed => dlFeedWord_closed served closed v⟩,
    fun finishing => ⟨feedFinish_done finishing, feedFinish_short finishing⟩,
    fun opened => ⟨_, idleEnds opened, feedEnd_failed (feedActive_opened opened) 2⟩, idleKept,
    fun active => ⟨_, rfl, feedEnd_failed active 3⟩, fun idle => congrArg Host.Outcome.next (feedEnd_idle idle 3),
    pf0_changes_no_feed⟩
  · obtain ⟨accepted, refused⟩ := dlFeedStart_idle served idle v
    obtain ⟨-, abort⟩ := exec_feedCtl_idle served idle v
    exact ⟨accepted, refused, abort⟩
  · have free : LaneFree s := ⟨waiting, run, suspended, testing, tested⟩
    exact ⟨feedSessionClaim_keyless free, fun keyed k kind m => feedSessionClaim_keyed quiet free keyed⟩

end Sys2Proof.Digests

namespace Sys2Proof.BigNumbers
open Sys2Proof.Machine Sys2Proof.Safety

/-! ### Modular arithmetic (R458, R459) -/

/-- Square and multiply, from bit k of the exponent down, of the power that the bits above it give. -/
theorem powMod_bits (b e n k : Nat) :
    (List.range k).reverse.foldl (fun acc i => acc * acc % n * (if e.testBit i then b else 1) % n) (b ^ (e / 2 ^ k) % n) = b ^ e % n := by
  induction k with
  | zero => simp
  | succ k ih =>
    have exponent : e / 2 ^ k = e / 2 ^ (k + 1) + e / 2 ^ (k + 1) + (e.testBit k).toNat := by
      rw [Nat.testBit_eq_decide_div_mod_eq, pow_succ, ← Nat.div_div_eq_div_mul]
      rcases Nat.mod_two_eq_zero_or_one (e / 2 ^ k) with h | h <;> simp [h] <;> omega
    have factor : (if e.testBit k then b else 1) = b ^ (e.testBit k).toNat := by cases e.testBit k <;> simp
    rw [List.range_succ, List.reverse_append, List.reverse_singleton, List.singleton_append, List.foldl_cons, ← Nat.mul_mod, Nat.mod_mul_mod,
      factor, ← pow_add, ← pow_add, ← exponent, ih]

/-- Exponentiation is exact. -/
theorem powMod_eq (b e n : Nat) : powMod b e n = b ^ e % n := by
  have top : e / 2 ^ (e.log2 + 1) = 0 := Nat.div_eq_of_lt Nat.lt_log2_self
  have bits := powMod_bits b e n (e.log2 + 1)
  rw [top, pow_zero] at bits
  exact bits

/-- Every step of extended Euclid keeps its coefficients those of its remainders. -/
theorem egcd_coefficient {c n : Int} (f a b : Nat) (x y : Int) (hx : c * x ≡ a [ZMOD n]) (hy : c * y ≡ b [ZMOD n]) :
    c * (egcd f a b x y).2 ≡ (egcd f a b x y).1 [ZMOD n] := by
  induction f generalizing a b x y with
  | zero => exact hx
  | succ f ih =>
    unfold egcd
    split
    next => exact hx
    next =>
      refine ih _ _ _ _ hy ?_
      have remainder : ((a % b : Nat) : Int) = a - (a / b : Nat) * b := by
        rw [eq_sub_iff_add_eq]
        exact_mod_cast Nat.mod_add_div' a b
      rw [remainder, mul_sub, mul_left_comm]
      exact hx.sub (hy.mul_left _)

/-- An inverse that is found is one, and is reduced. -/
theorem invMod_inverse {a n x : Nat} (large : 1 < n) (found : invMod a n = some x) : a * x % n = 1 ∧ x < n := by
  unfold invMod at found
  dsimp only at found
  split at found
  next unit =>
    have coefficient := egcd_coefficient (c := a) (n := n) (2 * (n.log2 + 2)) a n 1 0 (by rw [mul_one]) (by simp [Int.ModEq])
    rw [unit] at coefficient
    generalize (egcd (2 * (n.log2 + 2)) a n 1 0).2 = r at found coefficient
    have positive : (0 : Int) < n := by omega
    have reduced : (x : Int) = r % n := by
      rw [← Option.some.inj found]
      exact Int.toNat_of_nonneg (Int.emod_nonneg r positive.ne')
    have product : (a * x : Int) ≡ 1 [ZMOD n] := by
      rw [reduced]
      exact ((Int.mod_modEq r n).mul_left a).trans coefficient
    have inverse : a * x ≡ 1 [MOD n] := (Int.natCast_modEq_iff).1 (by exact_mod_cast product)
    refine ⟨Eq.trans inverse (Nat.mod_eq_of_lt large), ?_⟩
    have below := Int.emod_lt_of_pos r positive
    omega
  next => cases found

/-- The result put together of two halves has theirs as its residues modulo the primes. -/
theorem rsaPrivate_residues {k : RsaKey} (b : Nat) (hp : 1 < k.p) (inverse : k.q % k.p * k.qinv % k.p = 1) :
    rsaPrivate k b % k.p = b ^ k.dp % k.p ∧ rsaPrivate k b % k.q = b ^ k.dq % k.q := by
  unfold rsaPrivate
  dsimp only
  rw [powMod_eq, powMod_eq, ← Nat.pow_mod, ← Nat.pow_mod]
  refine ⟨?_, by rw [Nat.add_mul_mod_self_right, Nat.mod_mod]⟩
  generalize b ^ k.dp = m1, b ^ k.dq % k.q = m2
  have unit : k.qinv * k.q ≡ 1 [MOD k.p] := by
    rw [Nat.ModEq, mul_comm, ← Nat.mod_mul_mod, inverse, Nat.mod_eq_of_lt hp]
  have below : m2 % k.p < k.p := Nat.mod_lt _ (by omega)
  calc m2 + k.qinv * (m1 % k.p + k.p - m2 % k.p) % k.p * k.q
      ≡ m2 % k.p + k.qinv * (m1 % k.p + k.p - m2 % k.p) * k.q [MOD k.p] :=
        ((Nat.mod_modEq m2 k.p).symm).add ((Nat.mod_modEq _ k.p).mul_right k.q)
    _ = m2 % k.p + k.qinv * k.q * (m1 % k.p + k.p - m2 % k.p) := by rw [mul_right_comm]
    _ ≡ m2 % k.p + 1 * (m1 % k.p + k.p - m2 % k.p) [MOD k.p] := (unit.mul_right _).add_left _
    _ = m1 % k.p + k.p := by omega
    _ ≡ m1 [MOD k.p] := Nat.add_modEq_right.trans (Nat.mod_modEq m1 k.p)

/-- Settles O30: square and multiply, extended Euclid, and the two halves put together, each is exact. -/
theorem modularArithmeticIsExact : Obligations.ModularArithmeticIsExact :=
  ⟨powMod_eq, fun _ _ _ => invMod_inverse, fun _ b hp _ => rsaPrivate_residues b hp⟩

end Sys2Proof.BigNumbers

namespace Sys2Proof.BigNumbers
open Sys2Proof.Machine Sys2Proof.Safety Sys2Proof.HostLink Sys2Proof.Rings Sys2Proof.TackRoom Sys2Proof.Ciphers

/-! ### Operations of a big-number unit (R458, R468) -/

/-- An operation counted towards the next mask reseed changes units alone (R468). -/
theorem countOps_only (s : State) (q : Req) : UnitsOnly s (countOps s q) :=
  UnitsOnly.foldl (fun _ _ => setUnit_only _ _ _) _ s

/-- A running request stays as it was through a change of the units. -/
theorem running_units {s u v : State} {i : Nat} {q : Req} (h : Running s u i q) (units : UnitsOnly u v) : Running s v i q :=
  ⟨h.units.trans units, (findReq_congr (by rw [units]) i).trans h.found, h.id⟩

section
variable {c : Instr} {s u : State} {i op : Nat} {q : Req} {src bs : List Byte} {run : State → Req → List Byte → State}
  {p : State → Prop} {status detail : Byte} {result : Nat}

/-- A command whose big-number operation, on a request that runs, leaves the Halter and ends with a property. -/
theorem ends_of_bn (quiet : Quiet s) (row : exec c s = runBn s i op run) (runs : RunsOn s i op q src)
    (operates : ∀ u, Running s u i q → (run u q src).hlt = u.hlt ∧ p (run u q src)) : Ends c s p :=
  ends_of_run quiet row runs fun u running => by
    have counted := countOps_only u q
    obtain ⟨hlt, ended⟩ := operates _ (running_units running counted)
    exact ⟨hlt.trans (by rw [counted]), ended⟩

/-- A big-number operation that ends its request with an error. -/
theorem fails_of_bn (quiet : Quiet s) (row : exec c s = runBn s i op run) (runs : RunsOn s i op q src)
    (refuses : ∀ u, run u q src = failReq u q.id status detail) : Fails c s i status detail :=
  ends_of_bn quiet row runs fun u running => by
    rw [refuses u, running.id]
    exact ⟨rfl, outcome_failReq running.found status detail⟩

/-- An output that fits ends its request OK with its bytes. -/
theorem output_fits (running : Running s u i q) (fits : tooLongOut q.desc bs.length = false) (result : Nat) :
    (output u q bs result).hlt = u.hlt ∧ OutcomeIs (output u q bs result) i 0 0 bs.length result ∧
      StoresOf (output u q bs result) i = storesOf s q bs := by
  obtain ⟨-, -, stores⟩ := outputs_unitsOnly running.units q
  have done : output u q bs result = finish u i 0 0 bs.length result (storesOf s q bs) := by
    unfold output
    rw [fits, Bool.and_false, if_neg Bool.false_ne_true, running.id, stores]
  rw [done]
  exact ⟨rfl, outcome_finish running.found ..⟩

/-- One that does not fit its destination is not written (R387). -/
theorem output_long (dst : hasDst q.desc = true) (long : tooLongOut q.desc bs.length = true) (u : State) (result : Nat) :
    output u q bs result = failReq u q.id 0x32 (shortDetail q.desc) := by
  unfold output
  rw [dst, long, Bool.and_self, if_pos rfl]

/-- A big-number operation that puts out bytes that fit. -/
theorem answers_of_bn (quiet : Quiet s) (row : exec c s = runBn s i op run) (runs : RunsOn s i op q src)
    (fits : tooLongOut q.desc bs.length = false) (operates : ∀ u, Running s u i q → run u q src = output u q bs result) :
    Answers c s i q bs result :=
  ends_of_bn quiet row runs fun u running => by
    rw [operates u running]
    exact output_fits running fits result

/-- A number spelt from its highest byte down is as many bytes as asked for. -/
theorem beBytes_length (n x : Nat) : (beBytes n x).length = n := by
  rw [beBytes, List.length_reverse, leBytes_length]

/-- A big-number operation that puts out a number that fits. -/
theorem answers_number {n x : Nat} (quiet : Quiet s) (row : exec c s = runBn s i op run) (runs : RunsOn s i op q src)
    (fits : tooLongOut q.desc n = false) (operates : ∀ u, run u q src = output u q (beBytes n x) 0) :
    Answers c s i q (beBytes n x) 0 :=
  answers_of_bn quiet row runs (by rwa [beBytes_length]) fun u _ => operates u

/-! ### RSA with a key (R458, R467, R796) -/

section
variable {k : RsaKey} (u : State)

/-- A key value that breaks a structural rule (R457). -/
theorem rsaRun_noKey (key : rsaKey (keyOf q) = none) : rsaRun u q src = failReq u q.id 0x20 0x01 := by
  simp [rsaRun, key]

variable (key : rsaKey (keyOf q) = some k)
include key

/-- A key that does not fit its opcode. -/
theorem rsaRun_unfit (unfit : rsaFits q.desc.opcode k = false) : rsaRun u q src = failReq u q.id 0x20 0x01 := by
  simp [rsaRun, key, unfit]

variable (fit : rsaFits q.desc.opcode k = true)
include fit

/-- A base that is not as long as the modulus. -/
theorem rsaRun_length (length : q.desc.srcLen ≠ k.nbits / 8) : rsaRun u q src = failReq u q.id 0x30 0x09 := by
  simp [rsaRun, key, fit, length]

variable (length : q.desc.srcLen = k.nbits / 8)
include length

/-- A result that its destination cannot hold. -/
theorem rsaRun_long (long : tooLongOut q.desc (k.nbits / 8) = true) : rsaRun u q src = failReq u q.id 0x32 0 := by
  simp [rsaRun, key, fit, length, long]

variable (fits : tooLongOut q.desc (k.nbits / 8) = false)
include fits

/-- A base that is not below the modulus. -/
theorem rsaRun_large (large : k.p * k.q ≤ beNat src) : rsaRun u q src = failReq u q.id 0x30 0x09 := by
  simp [rsaRun, key, fit, length, fits, large]

variable (below : beNat src < k.p * k.q)
include below

/-- A result that checks against E, or that nothing checks. -/
theorem rsaRun_checks (checks : k.e ≠ 0 → rsaPrivate k (beNat src) ^ k.e % (k.p * k.q) = beNat src) :
    rsaRun u q src = output u q (beBytes (k.nbits / 8) (rsaPrivate k (beNat src))) 0 := by
  have passed : ¬ (k.e ≠ 0 ∧ powMod (rsaPrivate k (beNat src)) k.e (k.p * k.q) ≠ beNat src) := fun ⟨known, differs⟩ =>
    differs ((powMod_eq ..).trans (checks known))
  simp only [rsaRun, key, fit, length, fits, Nat.not_le.2 below, passed, Bool.not_true, Bool.false_eq_true, ne_eq, not_true_eq_false, if_false]

/-- A result that does not check (R467). -/
theorem rsaRun_differs (known : k.e ≠ 0) (differs : rsaPrivate k (beNat src) ^ k.e % (k.p * k.q) ≠ beNat src) :
    rsaRun u q src = failCheck u q := by
  simp [rsaRun, key, fit, length, fits, Nat.not_le.2 below, powMod_eq, known, differs]

end

/-- MODEXP and COOP_MODEXP with a key are RSA, without one an operand block (R458, R459). -/
theorem modexpAny_cases (s : State) (src : List Byte) :
    (q.desc.keySrc ≠ 0 → modexpAny s q src = rsaRun s q src) ∧ (q.desc.keySrc = 0 → modexpAny s q src = modexpRun s q src) :=
  ⟨fun keyed => if_neg keyed, fun keyless => if_pos keyless⟩

/-! ### Public operations and operand blocks (R458, R459, R477) -/

/-- The rules of an RSA_PUB block and its base (R458). -/
def PublicBlockGood (q : Req) (src : List Byte) : Prop :=
  let aux := auxOf q
  let nlen := fieldAt aux 0 2
  let e := fieldAt aux 4 4
  let n := beNat (slice aux 8 nlen)
  q.desc.auxLen = 8 + nlen ∧ zeroAt aux 2 2 = true ∧ e % 2 = 1 ∧ 3 ≤ e ∧ modulusOk n nlen = true ∧ beNat src < n

/-- RSA_PUB raises a good block's base, and refuses any other. -/
theorem rsaPubRun_cases (u : State) (q : Req) (src : List Byte) :
    let aux := auxOf q
    let nlen := fieldAt aux 0 2
    (PublicBlockGood q src →
      rsaPubRun u q src = output u q (beBytes nlen (beNat src ^ fieldAt aux 4 4 % beNat (slice aux 8 nlen))) 0) ∧
    (¬ PublicBlockGood q src → rsaPubRun u q src = failReq u q.id 0x30 0x09) := by
  intro aux nlen
  unfold rsaPubRun
  simp only [powMod_eq]
  have broken : ¬ PublicBlockGood q src ↔ q.desc.auxLen ≠ 8 + nlen ∨ (!zeroAt aux 2 2) = true ∨ fieldAt aux 4 4 % 2 = 0 ∨
      fieldAt aux 4 4 < 3 ∨ (!modulusOk (beNat (slice aux 8 nlen)) nlen) = true ∨ beNat (slice aux 8 nlen) ≤ beNat src := by
    unfold PublicBlockGood
    simp only [not_and_or, Nat.not_lt, Nat.not_le, Bool.not_eq_true, Bool.not_eq_true', Nat.mod_two_ne_one, ne_eq, aux, nlen]
  exact ⟨fun good => if_neg fun bad => broken.2 bad good, fun bad => if_pos (broken.1 bad)⟩

/-- The multiplicand A of an unkeyed block, 1 without one (R459). -/
def blockA (q : Req) (src : List Byte) : Nat :=
  let nlen := fieldAt src 0 2
  if q.desc.var = 1 then beNat (slice src (8 + nlen + fieldAt src 2 2) nlen) else 1

/-- The base B of an unkeyed block (R459). -/
def blockB (q : Req) (src : List Byte) : Nat :=
  let nlen := fieldAt src 0 2
  beNat (slice src (8 + nlen + fieldAt src 2 2 + (if q.desc.var = 1 then nlen else 0)) nlen)

/-- The rules of an unkeyed block, and the bound of 2 ms on its prediction (R459, R477). -/
def OperandBlockGood (s : State) (op : Nat) (q : Req) (src : List Byte) : Prop :=
  let nlen := fieldAt src 0 2
  let elen := fieldAt src 2 2
  let n := beNat (slice src 8 nlen)
  (if op = 0x5C then 257 ≤ nlen ∧ nlen ≤ 2048 else 32 ≤ nlen ∧ nlen ≤ 1024) ∧ 1 ≤ elen ∧ elen ≤ nlen ∧
    zeroAt src 4 4 = true ∧ q.desc.srcLen = 8 + nlen + elen + nlen * (if q.desc.var = 1 then 2 else 1) ∧ modulusOk n nlen = true ∧
    blockA q src < n ∧ blockB q src < n ∧ expTooLong s q.desc nlen elen = false

/-- Is an unkeyed block refused for a rule that it breaks? -/
def blockRefused (op : Nat) (q : Req) (src : List Byte) : Bool :=
  let nlen := fieldAt src 0 2
  let elen := fieldAt src 2 2
  let n := beNat (slice src 8 nlen)
  !(if op = 0x5C then decide (257 ≤ nlen ∧ nlen ≤ 2048) else decide (32 ≤ nlen ∧ nlen ≤ 1024)) ||
    !(decide (1 ≤ elen ∧ elen ≤ nlen)) || !zeroAt src 4 4 ||
    decide (q.desc.srcLen ≠ 8 + nlen + elen + nlen * (if q.desc.var = 1 then 2 else 1)) || !modulusOk n nlen ||
    decide (n ≤ blockA q src) || decide (n ≤ blockB q src)

/-- A good block is one that is not refused, of a prediction within the bound. -/
theorem operandBlockGood_iff (s : State) (op : Nat) (q : Req) (src : List Byte) :
    OperandBlockGood s op q src ↔ blockRefused op q src = false ∧ expTooLong s q.desc (fieldAt src 0 2) (fieldAt src 2 2) = false := by
  unfold OperandBlockGood blockRefused
  split <;> simp [and_assoc]

/-- What unkeyed exponentiation does with its block. -/
theorem modexpRun_eq (u : State) (q : Req) (src : List Byte) :
    let nlen := fieldAt src 0 2
    let elen := fieldAt src 2 2
    modexpRun u q src =
      if blockRefused q.desc.opcode q src then failReq u q.id 0x30 0x09
      else if expTooLong u q.desc nlen elen then setReq u q.id fun x => { endReq x 0x30 0x09 with started := false }
      else output u q (beBytes nlen (blockA q src ^ 2 ^ (8 * elen) * blockB q src ^ beNat (slice src (8 + nlen) elen) %
        beNat (slice src 8 nlen))) 0 := by
  unfold modexpRun blockRefused
  simp only [powMod_eq, ← Nat.mul_mod, decide_eq_true_eq]
  rfl

/-- An unkeyed exponentiation answers with the residue of a good block, and refuses any other. -/
theorem unkeyed_ends (quiet : Quiet s) (row : exec c s = runBn s i op run) (runs : RunsOn s i op q src)
    (unkeyed : ∀ u, run u q src = modexpRun u q src) :
    let nlen := fieldAt src 0 2
    let elen := fieldAt src 2 2
    (OperandBlockGood s op q src → tooLongOut q.desc nlen = false →
      Answers c s i q (beBytes nlen (blockA q src ^ 2 ^ (8 * elen) * blockB q src ^ beNat (slice src (8 + nlen) elen) %
        beNat (slice src 8 nlen))) 0) ∧ (¬ OperandBlockGood s op q src → Fails c s i 0x30 0x09) := by
  obtain ⟨-, rfl⟩ := readyReq_found runs.1
  have judged {u : State} (running : Running s u i q) (n e : Nat) : expTooLong u q.desc n e = expTooLong s q.desc n e := by
    rw [running.units]
    rfl
  intro nlen elen
  refine ⟨fun good fits => ?_, fun bad => ?_⟩
  · obtain ⟨taken, soon⟩ := (operandBlockGood_iff ..).1 good
    refine answers_of_bn quiet row runs (by rwa [beBytes_length]) fun u running => ?_
    rw [unkeyed, modexpRun_eq, taken, judged running, soon]
    rfl
  · refine ends_of_bn quiet row runs fun u running => ?_
    rw [unkeyed, modexpRun_eq, judged running, running.id]
    cases refused : blockRefused q.desc.opcode q src with
    | true => exact ⟨rfl, outcome_failReq running.found ..⟩
    | false =>
      have late := Bool.eq_true_of_not_eq_false fun soon => bad ((operandBlockGood_iff ..).2 ⟨refused, soon⟩)
      rw [late]
      exact ⟨rfl, outcome_setReq running.found rfl rfl rfl⟩

/-- The rules of a MODOP block (R459). -/
def ModopBlockGood (q : Req) (src : List Byte) : Prop :=
  let d := q.desc
  let nlen := fieldAt src 0 2
  let n := beNat (slice src 8 nlen)
  nlen = descNlen d ∧ zeroAt src 2 6 = true ∧ modulusOk n nlen = true ∧ (d.var ≤ 3 → beNat (slice src (8 + nlen) nlen) < n) ∧
    (d.var ≤ 2 → beNat (slice src (8 + nlen + nlen) nlen) < n) ∧ (d.var = 4 → beNat (slice src (8 + nlen) (2 * nlen)) < n * 256 ^ nlen)

/-- A modulus that is taken is not zero. -/
theorem modulusOk_pos {n len : Nat} (h : modulusOk n len = true) : 0 < n := by
  simp only [modulusOk, Bool.and_eq_true, decide_eq_true_eq] at h
  omega

/-- Is a MODOP block refused? -/
def ModopRefused (q : Req) (src : List Byte) : Prop :=
  let d := q.desc
  let nlen := fieldAt src 0 2
  let n := beNat (slice src 8 nlen)
  let alen := if d.var = 4 then 2 * nlen else nlen
  let a := beNat (slice src (8 + nlen) alen)
  nlen ≠ descNlen d ∨ (!zeroAt src 2 6) = true ∨ (!modulusOk n nlen) = true ∨ (if d.var = 4 then n * 256 ^ nlen ≤ a else n ≤ a) ∨
    n ≤ if d.var ≤ 2 then beNat (slice src (8 + nlen + alen) nlen) else 0

/-- A block of a VAR that exists is refused exactly when it is not good: an operand that its VAR does not take is 0, below
every modulus taken. -/
theorem modopRefused_iff {q : Req} (named : q.desc.var ≤ 4) (src : List Byte) : ModopRefused q src ↔ ¬ ModopBlockGood q src := by
  unfold ModopRefused ModopBlockGood
  cases modulus : modulusOk (beNat (slice src 8 (fieldAt src 0 2))) (fieldAt src 0 2) with
  | false => simp [modulus]
  | true =>
    have positive := (modulusOk_pos modulus).ne'
    rcases (by omega : q.desc.var ≤ 2 ∨ q.desc.var = 3 ∨ q.desc.var = 4) with two | var | var
    · have others : ¬ q.desc.var = 4 ∧ q.desc.var ≤ 3 := by omega
      simp [two, others, -not_and, not_and_or]
    · simp [var, positive, -not_and, not_and_or]
    · simp [var, positive, -not_and, not_and_or]

/-- A MODOP block that is not good. -/
theorem modopRun_bad (named : q.desc.var ≤ 4) (bad : ¬ ModopBlockGood q src) (u : State) :
    modopRun u q src = failReq u q.id 0x30 0x09 :=
  if_pos ((modopRefused_iff named src).2 bad)

/-- What MODOP does with a good block, by VAR. -/
theorem modopRun_good (good : ModopBlockGood q src) :
    let nlen := fieldAt src 0 2
    let n := beNat (slice src 8 nlen)
    let a := beNat (slice src (8 + nlen) nlen)
    let b := beNat (slice src (8 + nlen + nlen) nlen)
    let out (x : Nat) : Prop := ∀ u, modopRun u q src = output u q (beBytes nlen x) 0
    (q.desc.var = 0 → out ((a + b) % n)) ∧
    (q.desc.var = 1 → out ((a + n - b) % n)) ∧
    (q.desc.var = 2 → out (a * b % n)) ∧
    (q.desc.var = 3 → ∀ x, invMod a n = some x → out x) ∧
    (q.desc.var = 3 → invMod a n = none → ∀ u, modopRun u q src = failReq u q.id 0x10 0x03) ∧
    (q.desc.var = 4 → out (beNat (slice src (8 + nlen) (2 * nlen)) % n)) := by
  intro nlen n a b out
  have taken (named : q.desc.var ≤ 4) : ¬ ModopRefused q src := fun refused => (modopRefused_iff named src).1 refused good
  refine ⟨fun var u => ?_, fun var u => ?_, fun var u => ?_, fun var x inverse u => ?_, fun var none u => ?_, fun var u => ?_⟩
  all_goals
    refine (if_neg (taken (by omega))).trans ?_
    simp only [var]
  · rfl
  · rfl
  · rfl
  · rw [if_neg (by decide), inverse]
  · rw [if_neg (by decide), none]
  · rfl

end

/-- Settles O31: RSA with a key check by check for each of its three opcodes, and each operand block good or refused. -/
theorem rsaAndModularOpcodesAnswer : Obligations.RsaAndModularOpcodesAnswer := by
  constructor
  · intro s i q src quiet d withKey
    have keyed {c : Instr} {op : Nat} {run : State → Req → List Byte → State} (row : exec c s = runBn s i op run)
        (rsa : (op ≠ 0x41 → d.keySrc ≠ 0) → ∀ u, run u q src = rsaRun u q src) : withKey c op := by
      intro runs given
      obtain ⟨-, rfl⟩ := readyReq_found runs.1
      have fails {status detail : Byte} (refuses : ∀ u, rsaRun u q src = failReq u q.id status detail) : Fails c s i status detail :=
        fails_of_bn quiet row runs fun u => (rsa given u).trans (refuses u)
      refine ⟨fun none => fails fun u => rsaRun_noKey u none, fun k key => ⟨fun unfit => fails fun u => rsaRun_unfit u key unfit,
        fun fit length => fails fun u => rsaRun_length u key fit length, fun fit length long => fails fun u => rsaRun_long u key fit length long,
        fun fit length fits => ⟨fun large => fails fun u => rsaRun_large u key fit length fits large, fun below checks => ?_,
          fun below known differs u unit => ?_⟩⟩⟩
      · exact answers_number quiet row runs fits fun u => (rsa given u).trans (rsaRun_checks u key fit length fits below checks)
      · rw [row, runBn, runOp_runsOn runs, rsa given, rsaRun_differs _ key fit length fits below known differs, failCheck, unit]
    refine ⟨keyed rfl fun _ _ => rfl, keyed rfl fun given u => (modexpAny_cases u src).1 (given (by decide)),
      keyed rfl fun given u => (modexpAny_cases u src).1 (given (by decide)), fun runs => ⟨fun good fits => ?_, fun bad => ?_⟩⟩
    · exact answers_number quiet rfl runs fits fun u => (rsaPubRun_cases u q src).1 good
    · exact fails_of_bn quiet rfl runs fun u => (rsaPubRun_cases u q src).2 bad
  · intro s i q src quiet d nlen n modexp
    have block {c : Instr} {op : Nat} (row : exec c s = runBn s i op modexpAny) : modexp c op := fun runs unkeyed =>
      unkeyed_ends quiet row runs fun u => (modexpAny_cases u src).2 unkeyed
    refine ⟨block rfl, block rfl, fun runs => ⟨fun named bad => fails_of_bn quiet rfl runs (modopRun_bad named bad), fun good fits => ?_⟩⟩
    have out {x : Nat} (operates : ∀ u, modopRun u q src = output u q (beBytes nlen x) 0) : Answers (.modop i) s i q (beBytes nlen x) 0 :=
      answers_number quiet rfl runs fits operates
    obtain ⟨sum, difference, product, inverse, none, residue⟩ := modopRun_good good
    exact ⟨fun var => out (sum var), fun var => out (difference var), fun var => out (product var),
      fun var x found => out (inverse var x found), fun var absent => fails_of_bn quiet rfl runs (none var absent),
      fun var => out (residue var)⟩

end Sys2Proof.BigNumbers

namespace Sys2Proof.BigNumbers
open Sys2Proof.Machine Sys2Proof.Safety Sys2Proof.HostLink Sys2Proof.Rings Sys2Proof.TackRoom Sys2Proof.Ciphers

/-! ### Tables of the fixed-base operations (R471, R472, R548) -/

/-- What a fixed-base operation takes of its tables depends on nothing of the units. -/
theorem tables_unitsOnly {s u : State} (h : UnitsOnly s u) (d : Desc) :
    noTables u d = noTables s d ∧ tableNeeds u d = tableNeeds s d := by
  rw [h]
  exact ⟨rfl, rfl⟩

/-- A crib's lines used in any order are the lines that it holds. -/
theorem cribHolds_cribUse (s : State) (v u : UnitId) (hit : CribLine → Bool) :
    cribHolds (cribUse s v hit) u = cribHolds s u := by
  funext l
  unfold cribHolds cribUse
  rw [setUnit_units, upd_get]
  split
  · rw [Bool.eq_iff_iff]
    simp only [List.any_eq_true, List.mem_append, List.mem_filter]
    constructor
    · rintro ⟨c, held | held, line⟩
      · exact ⟨c, held.1, line⟩
      · exact ⟨c, held.1, line⟩
    · rintro ⟨c, held, line⟩
      cases used : hit c with
      | true => exact ⟨c, .inr ⟨held, used⟩, line⟩
      | false => exact ⟨c, .inl ⟨held, by rw [used]; rfl⟩, line⟩
  · rfl

/-- So does a local source read through a crib. -/
theorem cribHolds_cribUsed (s : State) (q : Req) (u : UnitId) : cribHolds (cribUsed s q) u = cribHolds s u := by
  unfold cribUsed
  split
  · rfl
  · split
    · rfl
    · exact cribHolds_cribUse ..

/-- A crib that holds every line of an operation loads none: its lines alone are used. -/
theorem tableLoad_held {s : State} {u : UnitId} {d : Desc} (held : (tableNeeds s d).all (cribHolds s u) = true) :
    tableLoad s u d = cribUse s u fun c => (tableNeeds s d).contains c.line := by
  unfold tableLoad
  refine List.foldlRecOn (motive := (· = _)) _ _ rfl fun t same l needed => ?_
  rw [same, cribHolds_cribUse, List.all_eq_true.1 held l needed, if_pos rfl]

section
variable {c : Instr} {s : State} {i op : Nat} {q : Req} {src bs : List Byte} {run : State → Req → List Byte → State}
  {p : State → Prop}

/-- A request's operation runs at once: without tables, or with every table line in its unit's crib. -/
def TablesHeld (s : State) (q : Req) : Prop :=
  ∀ u, q.unit = some u → noTables s q.desc = true ∨ (tableNeeds s q.desc).all (cribHolds s u) = true

/-- Where its operation runs at once, only the units have changed. -/
theorem withTables_held (tables : TablesHeld s q) :
    ∃ t, UnitsOnly (cribUsed s q) t ∧ ∀ k, withTables k (cribUsed s q) q src = k t q src := by
  obtain ⟨without, needs⟩ := tables_unitsOnly (cribUsed_only s q) q.desc
  unfold withTables
  cases unit : q.unit with
  | none => exact ⟨_, UnitsOnly.refl _, fun k => rfl⟩
  | some u =>
    cases no : noTables s q.desc with
    | true => exact ⟨_, UnitsOnly.refl _, fun k => if_pos (without.trans no)⟩
    | false =>
      have held : (tableNeeds (cribUsed s q) q.desc).all (cribHolds (cribUsed s q) u) = true := by
        rw [needs, cribHolds_cribUsed]
        exact (tables u unit).resolve_left (by rw [no]; exact Bool.false_ne_true)
      refine ⟨tableLoad (cribUsed s q) u q.desc, ?_, fun k => (if_neg (by rw [without, no]; exact Bool.false_ne_true)).trans (if_pos ?_)⟩
      all_goals rw [tableLoad_held held]
      · exact setUnit_only _ _ _
      · rw [cribHolds_cribUse, cribUse, (tables_unitsOnly (setUnit_only _ _ _) _).2]
        exact held

/-- A fixed-base command whose operation runs at once, leaves the Halter and ends with a property. -/
theorem ends_of_base (quiet : Quiet s) (row : exec c s = runBase s op ⟨i, true⟩ run) (runs : RunsOn s i op q src)
    (tables : TablesHeld s q) (operates : ∀ u, Running s u i q → (run u q src).hlt = u.hlt ∧ p (run u q src)) : Ends c s p := by
  obtain ⟨t, units, held⟩ := withTables_held (src := src) tables
  have running := running_units (running_units (running_cribUsed runs) units) (countOps_only t q)
  obtain ⟨hlt, ended⟩ := operates _ running
  obtain ⟨-, -, -, kept, -, -⟩ := running.leaves
  refine ⟨_, (row.trans (runOp_runsOn runs _)).trans (congrArg (Host.Outcome.next ∘ settle) (held _)), ?_⟩
  show p (settle (run (countOps t q) q src))
  rw [settle_of_quiet (by rw [hlt, kept]; exact quiet)]
  exact ended

/-- One with tables loads what its unit's crib lacks, and runs once that is there (R471). -/
theorem exec_base_loads {u : UnitId} (row : exec c s = runBase s op ⟨i, true⟩ run) (runs : RunsOn s i op q src) (unit : q.unit = some u)
    (tables : noTables s q.desc = false) :
    let x := tableLoad (cribUsed s q) u q.desc
    exec c s = .next (settle (if (tableNeeds x q.desc).all (cribHolds x u) then run (countOps x q) q src else x)) := by
  obtain ⟨without, -⟩ := tables_unitsOnly (cribUsed_only s q) q.desc
  refine (row.trans (runOp_runsOn runs _)).trans (congrArg (Host.Outcome.next ∘ settle) ?_)
  unfold withTables
  rw [unit]
  exact if_neg (by rw [without, tables]; exact Bool.false_ne_true)

/-! ### Signatures (R457, R458, R463) -/

/-- The signing opcodes have a destination. -/
theorem hasDst_sign {d : Desc} (h : d.opcode = 0x44 ∨ d.opcode = 0x48 ∨ d.opcode = 0x55) : hasDst d = true := by
  unfold hasDst opForm
  rcases h with h | h | h <;> simp only [h] <;> rfl

/-- A command whose operation puts out bytes answers with them where they fit, and LENGTH_SHORT otherwise. -/
theorem answers_or_short {result : Nat} (dst : hasDst q.desc = true)
    (ends : ∀ p : State → Prop, (∀ u, Running s u i q → (output u q bs result).hlt = u.hlt ∧ p (output u q bs result)) → Ends c s p) :
    (tooLongOut q.desc bs.length = false → Answers c s i q bs result) ∧
    (tooLongOut q.desc bs.length = true → Fails c s i 0x32 (shortDetail q.desc)) := by
  refine ⟨fun fits => ends _ fun u running => output_fits running fits result, fun long => ends _ fun u running => ?_⟩
  rw [output_long dst long, running.id]
  exact ⟨rfl, outcome_failReq running.found ..⟩

/-- A fixed-base operation that puts out bytes. -/
theorem outputs_of_base {result : Nat} (quiet : Quiet s) (row : exec c s = runBase s op ⟨i, true⟩ run) (runs : RunsOn s i op q src)
    (tables : TablesHeld s q) (dst : hasDst q.desc = true) (operates : ∀ u, Running s u i q → run u q src = output u q bs result) :
    (tooLongOut q.desc bs.length = false → Answers c s i q bs result) ∧
    (tooLongOut q.desc bs.length = true → Fails c s i 0x32 (shortDetail q.desc)) :=
  answers_or_short dst fun _ ended => ends_of_base quiet row runs tables fun u running => by
    rw [operates u running]
    exact ended u running

/-- A big-number operation that puts out bytes. -/
theorem outputs_of_bn {result : Nat} (quiet : Quiet s) (row : exec c s = runBn s i op run) (runs : RunsOn s i op q src)
    (dst : hasDst q.desc = true) (operates : ∀ u, Running s u i q → run u q src = output u q bs result) :
    (tooLongOut q.desc bs.length = false → Answers c s i q bs result) ∧
    (tooLongOut q.desc bs.length = true → Fails c s i 0x32 (shortDetail q.desc)) :=
  answers_or_short dst fun _ ended => ends_of_bn quiet row runs fun u running => by
    rw [operates u running]
    exact ended u running

/-- ECDSA_SIGN with a scalar in range. -/
theorem ecdsaSignRun_eq (scalar : scalarOk q = true) {u : State} (running : Running s u i q) :
    let f := curveLen q.desc.param
    ecdsaSignRun u q src = output u q (pk q 0 [keyOf q, src, if q.desc.var = 0 then randomBytes s q f else []] (2 * f)) 0 := by
  obtain ⟨-, random, -⟩ := outputs_unitsOnly running.units q
  unfold ecdsaSignRun
  simp only [scalar, Bool.not_true, Bool.false_eq_true, if_false, random]

/-- A verification's verdicts, in the order in which they are taken. -/
theorem verify_ends {key sig ctx msg : List Byte} (quiet : Quiet s) (row : exec c s = runBn s i op run) (runs : RunsOn s i op q src)
    (verifies : ∀ u, run u q src = verifyRun u q key sig ctx msg) :
    (pkOk q 2 [key] = false → Fails c s i 0x10 0x03) ∧
    (pkOk q 2 [key] = true → (pkOk q 3 [sig] = false ∨ pkOk q 4 [key, sig, ctx, msg] = false) → Fails c s i 0x10 0x01) ∧
    (pkOk q 2 [key] = true → pkOk q 3 [sig] = true → pkOk q 4 [key, sig, ctx, msg] = true → Fails c s i 0 0) := by
  refine ⟨fun badKey => fails_of_bn quiet row runs fun u => ?_, fun goodKey bad => fails_of_bn quiet row runs fun u => ?_,
    fun goodKey form good => ends_of_bn quiet row runs fun u running => ?_⟩
  all_goals
    rw [verifies]
    unfold verifyRun
  · rw [badKey]
    rfl
  · rw [goodKey]
    rcases bad with form | differs
    · rw [form]
      rfl
    · rw [differs]
      cases pkOk q 3 [sig] <;> rfl
  · rw [goodKey, form, good, running.id]
    exact ⟨rfl, outcome_finish running.found ..⟩

/-! ### ML-DSA (R463) -/

/-- How many attempts an ML-DSA signature may make. -/
def attemptsMost (s : State) (q : Req) : Nat := min (attMax s.boot.clkRate q.desc.param) (256 - (field q.desc.imm 0 8).toNat)

/-- The random bytes of an ML-DSA signature, none when it is deterministic. -/
def signRandom (s : State) (q : Req) : List Byte := if q.desc.var = 0 then randomBytes s q 32 else []

/-- Is attempt j of an ML-DSA signature, counted from its START, a good one? -/
def attemptGood (s : State) (q : Req) (src : List Byte) (j : Nat) : Bool :=
  attemptOk q src (signRandom s q) ((field q.desc.imm 0 8).toNat + j)

/-- The attempts of an ML-DSA signature depend on nothing of the units. -/
theorem attempts_unitsOnly {u : State} (h : UnitsOnly s u) (q : Req) :
    attemptsMost u q = attemptsMost s q ∧ signRandom u q = signRandom s q ∧ attemptGood u q = attemptGood s q := by
  rw [h]
  exact ⟨rfl, rfl, rfl⟩

/-- MLDSA_SIGN puts out the signature of its first good attempt. -/
theorem mldsaSignRun_first {j : Nat} (u : State) (below : j < attemptsMost u q) (good : attemptGood u q src j = true)
    (before : ∀ m, m < j → attemptGood u q src m = false) :
    mldsaSignRun u q src = output u q (pk q 0 [keyOf q, auxOf q, src, signRandom u q,
      leBytes 2 ((field q.desc.imm 0 8).toNat + j)] (dsaSig q.desc.param)) (j + 1) := by
  have first : (List.range (attemptsMost u q)).find? (attemptGood u q src) = some j := by
    simpa [List.find?_range_eq_some, below, good] using before
  unfold mldsaSignRun
  dsimp only
  split
  next found =>
    cases found.symm.trans first
    rfl
  next found => cases found.symm.trans first

/-- Without one its attempts run out. -/
theorem mldsaSignRun_none (u : State) (bad : ∀ m, m < attemptsMost u q → attemptGood u q src m = false) :
    mldsaSignRun u q src = finish u q.id 0x10 0x02 0 ((field q.desc.imm 0 8).toNat + attemptsMost u q) [] := by
  have none : (List.range (attemptsMost u q)).find? (attemptGood u q src) = none := by
    simpa [List.find?_range_eq_none] using bad
  unfold mldsaSignRun
  dsimp only
  split
  next found => cases found.symm.trans none
  next => rfl

end

/-- Settles O32: signatures are put out where their tables are held, loaded for where they are not, and verified as one is;
ML-DSA puts out its first good attempt. -/
theorem signatureOpcodesAnswer : Obligations.SignatureOpcodesAnswer := by
  intro s i q src quiet d aux f nonce tables loads answers verify
  have verifies {c : Instr} {op : Nat} {key sig ctx msg : List Byte} {run : State → Req → List Byte → State}
      (row : exec c s = runBn s i op run) (same : ∀ u, run u q src = verifyRun u q key sig ctx msg) : verify c op key sig ctx msg :=
    fun runs => verify_ends quiet row runs same
  have loaded {c : Instr} {op : Nat} {run : State → Req → List Byte → State} (row : exec c s = runBase s op ⟨i, true⟩ run)
      (runs : RunsOn s i op q src) : loads c fun x => run (countOps x q) q src :=
    fun u unit on => exec_base_loads row runs unit on
  refine ⟨fun runs => ⟨fun held => ⟨fun scalar => ?_, fun bad => ?_⟩, loaded rfl runs⟩, verifies rfl fun _ => rfl,
    fun runs => ⟨fun held => ?_, loaded rfl runs⟩, verifies rfl fun _ => rfl, verifies rfl fun _ => rfl,
    fun runs => ⟨fun j below good before => ?_, fun bad => ?_⟩⟩
  all_goals obtain ⟨-, opcode⟩ := readyReq_found runs.1
  · exact outputs_of_base quiet rfl runs held (hasDst_sign (.inl opcode)) fun u => ecdsaSignRun_eq scalar
  · refine ends_of_base quiet rfl runs held fun u running => ?_
    rw [show ecdsaSignRun u q src = failReq u q.id 0x20 0x01 by simp [ecdsaSignRun, bad], running.id]
    exact ⟨rfl, outcome_failReq running.found ..⟩
  · exact outputs_of_base quiet rfl runs held (hasDst_sign (.inr (.inl opcode))) fun u _ => rfl
  · refine outputs_of_bn quiet rfl runs (hasDst_sign (.inr (.inr opcode))) fun u running => ?_
    obtain ⟨most, random, attempt⟩ := attempts_unitsOnly running.units q
    rw [mldsaSignRun_first (j := j) u (by rwa [most]) (by rwa [attempt]) (by rwa [attempt]), random]
    rfl
  · refine ends_of_bn quiet rfl runs fun u running => ?_
    obtain ⟨most, -, attempt⟩ := attempts_unitsOnly running.units q
    rw [mldsaSignRun_none u (by rwa [most, attempt]), running.id, most]
    exact ⟨rfl, outcome_finish running.found ..⟩

end Sys2Proof.BigNumbers

namespace Sys2Proof.Entropy
open Sys2Proof.Machine Sys2Proof.Safety Sys2Proof.Waking Sys2Proof.HostLink Sys2Proof.Rings

/-! ### STRETCHED, AT_LIMIT and the block's states (R496, R504, R518) -/

/-- What following STRETCHED and AT_LIMIT can change: the two flags, their counts, and what a raise of EV303 changes. -/
structure StretchOnly (s t : State) : Prop where
  rest : t = { s with evt := t.evt, fns := t.fns, hlt := t.hlt, ent := t.ent }
  ent : t.ent = { s.ent with stretched := t.ent.stretched, atLimit := t.ent.atLimit, episodes := t.ent.episodes, limitHits := t.ent.limitHits }
  events : ∀ f k, 303 ≠ k → evSrc t f k = evSrc s f k

/-- The flags follow C and the seed FIFO. -/
theorem stretch_only (s : State) : StretchOnly s (stretch s) := by
  unfold stretch
  dsimp only
  split
  · generalize flagged : { s with ent := _ } = u
    have raised := raiseEv_only u 303 false
    have others (f : Fn) (k : EvId) (h : 303 ≠ k) := raiseEv_other u f false h
    generalize raiseEv u 303 = t at raised others ⊢
    subst flagged
    refine ⟨?_, ?_, fun f k h => (others f k h).trans rfl⟩ <;> rw [raised]
  · exact ⟨rfl, rfl, fun _ _ _ => rfl⟩

/-- The block enters a state: beside what a raise of EV302 changes, its state alone is new. -/
theorem entEnter_raises (s : State) (st : EntState) : RaiseOnly { s with ent := { s.ent with state := st } } (entEnter s st) := by
  unfold entEnter
  split
  next same =>
    subst same
    exact RaiseOnly.refl s
  next => exact raiseEv_only _ 302 false

/-- A state that the block was not in is told (R504). -/
theorem entEnter_told {s : State} {st : EntState} (new : s.ent.state ≠ st) : (evSrc (entEnter s st) .pf1 302).cause = true := by
  unfold entEnter
  rw [if_neg new]
  exact (raiseEv_device _ false (by decide) (by decide)).1

/-- A fenced block holds nothing (R497). -/
theorem entFence_empties (s : State) :
    (entFence s).ent.state = .fenced ∧ (entFence s).ent.drbg = none ∧ (entFence s).ent.queue = [] ∧ (entFence s).ent.seeds = [] := by
  unfold entFence
  rw [entEnter_raises]
  exact ⟨rfl, rfl, rfl, rfl⟩

/-! ### The DRBG (R495-R498) -/

section
variable {s : State}

/-- The block with a DRBG instantiated from the first seed (R495). -/
def instantiated (s : State) (x : BitVec 384) (l : List (BitVec 384)) : State :=
  { s with ent := { s.ent with
      drbg := some (of48 (stdBytes .drbgState [to48 (x ^^^ personalization)] 48)), seeds := l, c := 0, counted := satInc s.ent.counted } }

/-- DRBG_INSTANTIATE takes the first seed, and the block serves (R495, R504). -/
theorem drbgInstantiate_serves {x : BitVec 384} {l : List (BitVec 384)} (init : s.ent.state = .init) (seeds : s.ent.seeds = x :: l) :
    Ends .drbgInstantiate s fun t => t.ent.state = servingState s ∧ t.ent.seeds = l ∧ t.ent.c = 0 ∧
      t.ent.drbg = some (of48 (stdBytes .drbgState [to48 (x ^^^ personalization)] 48)) ∧ t.ent.counted = satInc s.ent.counted ∧
      (evSrc t .pf1 302).cause = true ∧ t.reqs = s.reqs ∧ t.dram = s.dram := by
  have done : exec .drbgInstantiate s = .next (stretch (entEnter (instantiated s x l) (servingState s))) := by
    show execDrbgInstantiate s = _
    unfold execDrbgInstantiate
    rw [init, seeds]
    rfl
  have serves : s.ent.state ≠ servingState s := by
    rw [init]
    unfold servingState
    dsimp only
    split <;> decide
  have entered := entEnter_raises (instantiated s x l) (servingState s)
  have told : (evSrc (entEnter (instantiated s x l) (servingState s)) .pf1 302).cause = true := entEnter_told serves
  obtain ⟨rest, ent, events⟩ := stretch_only (entEnter (instantiated s x l) (servingState s))
  refine ⟨_, done, ?_⟩
  generalize stretch (entEnter (instantiated s x l) (servingState s)) = t at rest ent events ⊢
  generalize entEnter (instantiated s x l) (servingState s) = u at entered told rest ent events
  have cause : (evSrc t .pf1 302).cause = true := by rw [events .pf1 302 (by decide), told]
  rw [cause, ent, rest, entered]
  exact ⟨rfl, rfl, rfl, rfl, rfl, rfl, rfl, rfl⟩

/-- A draw that waits for nothing is served nothing (R499). -/
theorem serveWaiters_none (n : Nat) {s : State} (none : s.ent.waiters = []) : serveWaiters n s = s := by
  have first : firstWaiter s = Option.none := by
    unfold firstWaiter
    rw [none]
    rfl
  cases n with
  | zero => rfl
  | succ n => rw [serveWaiters, first]

/-- May the DRBG give an entry before a reseed: C is below TARGET, or below its limit with no seed to take (R496)? -/
def BelowReseed (e : Ent) : Prop :=
  e.c.toNat < 2 ^ e.targetLog2.toNat ∨ (e.seeds = [] ∧ e.c.toNat < 2 ^ e.limitLog2.toNat)

/-- The block with one entry generated behind its queue (R495). -/
def generated (s : State) (st : BitVec 384) : State :=
  { s with ent := { s.ent with drbg := some (generate st).2, c := s.ent.c + 1, queue := s.ent.queue ++ [(generate st).1] } }

/-- DRBG_GENERATE puts one entry behind the queue (R496, R498). -/
theorem drbgGenerate_queues {st : BitVec 384} (may : mayGenerate s = true) (drbg : s.ent.drbg = some st) (room : s.ent.queue.length < 64)
    (below : BelowReseed s.ent) (none : s.ent.waiters = []) :
    Ends .drbgGenerate s fun t => t.ent.queue = s.ent.queue ++ [(generate st).1] ∧ t.ent.drbg = some (generate st).2 ∧
      t.ent.c = s.ent.c + 1 ∧ t.ent.seeds = s.ent.seeds ∧ t.reqs = s.reqs ∧ t.dram = s.dram := by
  have goes : ¬ (!mayGenerate s || decide (64 ≤ s.ent.queue.length) || decide (2 ^ s.ent.targetLog2.toNat ≤ s.ent.c.toNat) &&
      (!s.ent.seeds.isEmpty || decide (2 ^ s.ent.limitLog2.toNat ≤ s.ent.c.toNat))) = true := by
    rcases below with target | ⟨seeds, limit⟩
    · simp [may, room, target]
    · simp [may, room, seeds, limit]
  obtain ⟨rest, ent, -⟩ := stretch_only (generated s st)
  have done : exec .drbgGenerate s = .next (stretch (generated s st)) := by
    show execDrbgGenerate s = _
    unfold execDrbgGenerate
    dsimp only
    rw [drbg]
    refine (if_neg goes).trans (congrArg _ (serveWaiters_none _ ?_))
    show (stretch (generated s st)).ent.waiters = []
    rw [ent]
    exact none
  refine ⟨_, done, ?_⟩
  generalize stretch (generated s st) = t at rest ent ⊢
  rw [ent, rest]
  exact ⟨rfl, rfl, rfl, rfl, rfl, rfl⟩

/-- A reseed from the first seed (R496). -/
theorem reseed_takes {x st : BitVec 384} {l : List (BitVec 384)} (seeds : s.ent.seeds = x :: l) (drbg : s.ent.drbg = some st) :
    (reseed s 0).ent.seeds = l ∧ (reseed s 0).ent.c = 0 ∧ (reseed s 0).ent.reseeds = s.ent.reseeds + 1 ∧
      (reseed s 0).ent.drbg = some (of48 (stdBytes .drbgState [to48 st, to48 x] 48)) ∧ (reseed s 0).ent.queue = s.ent.queue := by
  unfold reseed
  rw [seeds, drbg]
  dsimp only
  rw [(stretch_only _).ent, show x ^^^ 0 = x from BitVec.xor_zero]
  exact ⟨rfl, rfl, rfl, rfl, rfl⟩

/-! ### Tests and fences (R497) -/

/-- A block with a DRBG or a conditioner to test. -/
theorem entPowered_iff : entPowered s = true ↔ s.ent.state ≠ .off ∧ s.ent.state ≠ .fenced := by
  simp [entPowered]

/-- A periodic test begins, after a reseed that is due with it, or ends well or badly. -/
theorem exec_entropyPeriodicKat (powered : entPowered s = true) :
    let u := { s with ent := { s.ent with testing := false } }
    exec (.entropyPeriodicKat none) s =
      (let v := if reseedDue s then reseed s 0 else s
       .next { v with ent := { v.ent with testing := true } }) ∧
    exec (.entropyPeriodicKat (some true)) s = .next u ∧ exec (.entropyPeriodicKat (some false)) s = exec .entropyCoreMismatch u := by
  have on : ¬ (!entPowered s) = true := by simp [powered]
  exact ⟨if_neg on, (if_neg on).trans rfl, (if_neg on).trans rfl⟩

/-- A block in any state but OFF and FENCED fences itself, and its waiting draws fail (R497, R501). -/
theorem fenceEntropy_powered (powered : entPowered s = true) :
    fenceEntropy s = s.ent.waiters.foldl (fun x w => starve x w.who) (raiseHs (entFence s) 78 none) := by
  obtain ⟨off, fenced⟩ := entPowered_iff.1 powered
  unfold fenceEntropy
  split
  next isOff => exact absurd isOff off
  next isFenced => exact absurd isFenced fenced
  next => rfl

/-! ### Masks (R278, R468) -/

/-- The mask generator of a unit. -/
def maskSeen (s : State) (u : UnitId) : Bool × Nat × BitVec 256 :=
  (s.units[u].seeded, s.units[u].sinceSeed, s.units[u].mask)

/-- A change of the units that touches no mask generator. -/
theorem setUnit_maskSeen (s : State) (v : UnitId) {g : UnitState → UnitState}
    (keeps : ∀ x, ((g x).seeded, (g x).sinceSeed, (g x).mask) = (x.seeded, x.sinceSeed, x.mask)) (u : UnitId) :
    maskSeen (setUnit s v g) u = maskSeen s u := by
  unfold maskSeen
  rw [setUnit_units, upd_get]
  split
  · exact keeps _
  · rfl

/-- Units held or let go keep their masks (R278). -/
theorem coopGrab_maskSeen (s : State) (u : UnitId) : maskSeen (coopGrab s) u = maskSeen s u := by
  unfold coopGrab
  split
  · refine foldl_keeps (g := fun s => maskSeen s u) (fun s v => ?_) _ s
    refine setUnit_maskSeen s v ?_ u
    exact fun _ => rfl
  · split
    · rfl
    · unfold maskSeen dropHeld
      rw [(katNext_rotates _).units u]
      dsimp only
      rw [vmap_get]

/-- The draws of every other consumer left, this one has none. -/
theorem granted_filtered (l : List (Consumer × List (BitVec 512))) (c : Consumer) :
    ((l.filter fun g => decide (g.1 ≠ c)).find? fun g => decide (g.1 = c)) = none := by
  rw [List.find?_eq_none]
  intro g hg
  simpa using (List.mem_filter.1 hg).2

/-- A unit's mask seeded, the draw for it used. -/
def maskSeeded (s : State) (u : UnitId) (e : BitVec 512) : State :=
  setUnit { s with ent := { s.ent with granted := s.ent.granted.filter fun g => decide (g.1 ≠ .mask u) } } u
    fun x => { x with seeded := true, sinceSeed := 0, mask := field e 0 256 }

/-- MASK_RESEED seeds its unit with the draw for it (R278, R468). -/
theorem maskReseed_seeds {u : UnitId} {e : BitVec 512} {l : List (BitVec 512)} (drawn : grantedTo s (.mask u) = e :: l) :
    Ends (.maskReseed u) s fun t => t.units[u].seeded = true ∧ t.units[u].sinceSeed = 0 ∧ t.units[u].mask = field e 0 256 ∧
      grantedTo t (.mask u) = [] ∧ t.ent.queue = s.ent.queue ∧ t.reqs = s.reqs ∧
      (s.disp.coop = none → t.units[u] = { s.units[u] with seeded := true, sinceSeed := 0, mask := field e 0 256 } ∧
        ∀ v : UnitId, v ≠ u → t.units[v] = s.units[v]) := by
  have done : exec (.maskReseed u) s = .next (coopGrab (maskSeeded s u e)) := by
    show execMaskReseed u s = _
    unfold execMaskReseed
    rw [drawn]
    rfl
  have unit : (maskSeeded s u e).units[u] = { s.units[u] with seeded := true, sinceSeed := 0, mask := field e 0 256 } := upd_self _ _ _
  have seen : maskSeen (coopGrab (maskSeeded s u e)) u = (true, 0, field e 0 256) := by
    rw [coopGrab_maskSeen, maskSeen, unit]
  have grabs := coopGrab_only (maskSeeded s u e)
  have idle (none : s.disp.coop = none) : coopGrab (maskSeeded s u e) = maskSeeded s u e := coopGrab_idle none
  refine ⟨_, done, ?_⟩
  generalize coopGrab (maskSeeded s u e) = t at seen grabs idle ⊢
  simp only [maskSeen, Prod.mk.injEq] at seen
  obtain ⟨seeded, since, mask⟩ := seen
  refine ⟨seeded, since, mask, ?_, ?_, ?_, fun none => ?_⟩
  · rw [grabs]
    exact congrArg (fun g : Option (Consumer × List (BitVec 512)) => (g.map (·.2)).getD []) (granted_filtered s.ent.granted (.mask u))
  · rw [grabs]
    rfl
  · rw [grabs]
    rfl
  · rw [idle none]
    exact ⟨unit, fun v other => upd_other _ _ other.symm⟩

/-! ### ENT_RESEED_CTL (R510, R516) -/

/-- ENT_RESEED_CTL_WRITE by a function whose writes are served. -/
theorem exec_entReseedCtlWrite {f : Fn} (served : WritesServed s f) (v : BitVec 32) :
    exec (.entReseedCtlWrite f v) s = .next (wrReseedCtl s f (v.setWidth 64)) :=
  congrArg Host.Outcome.next (gateW_served served _)

section
variable {v : BitVec 32} {tg lm : BitVec 5} (served : WritesServed s .pf1) (target : field v 0 5 = tg) (limit : field v 8 5 = lm)
  (range : 6 ≤ tg.toNat ∧ tg.toNat ≤ 12)
include served target limit range

/-- PF1 sets TARGET and a limit that is not below it, both in range. -/
theorem entReseedCtlWrite_takes (limits : 10 ≤ lm.toNat ∧ lm.toNat ≤ 20) (above : tg.toNat ≤ lm.toNat) :
    Ends (.entReseedCtlWrite .pf1 v) s fun t => t.ent.targetLog2 = tg ∧ t.ent.limitLog2 = lm ∧ t.ent.cmdErr = s.ent.cmdErr := by
  refine ⟨_, exec_entReseedCtlWrite served v, ?_⟩
  unfold wrReseedCtl
  dsimp only
  rw [field_setWidth v (by decide), field_setWidth v (by decide), target, limit, (stretch_only _).ent]
  simp [range, limits, above, Nat.not_lt.2 above]

/-- A limit below the TARGET that is written with it is refused. -/
theorem entReseedCtlWrite_refuses (below : lm.toNat < tg.toNat) :
    Ends (.entReseedCtlWrite .pf1 v) s fun t => t.ent.limitLog2 = s.ent.limitLog2 ∧ t.ent.cmdErr = true := by
  refine ⟨_, exec_entReseedCtlWrite served v, ?_⟩
  unfold wrReseedCtl
  dsimp only
  rw [field_setWidth v (by decide), field_setWidth v (by decide), target, limit, (stretch_only _).ent]
  simp [range, below, Nat.not_le.2 below, entErr]

end

end

/-- Settles O35: each command by the branch that its hypotheses choose, with what following STRETCHED and AT_LIMIT leaves. -/
theorem drbgServes : Obligations.DrbgServes := by
  intro s quiet
  refine ⟨fun x l => drbgInstantiate_serves, fun st may drbg room below none => drbgGenerate_queues may drbg room below none,
    fun x l st on seeds drbg target noWant => ?_, fun off fenced => ?_, fun u e l => maskReseed_seeds, ?_,
    fun served v => exec_entReseedCtlWrite served v⟩
  · have due : reseedDue s = true := by simp [reseedDue, on, target, noWant]
    exact ⟨_, congrArg Host.Outcome.next (if_pos due), reseed_takes seeds drbg⟩
  · have powered := entPowered_iff.2 ⟨off, fenced⟩
    obtain ⟨begins, passes, fails⟩ := exec_entropyPeriodicKat powered
    refine ⟨fun notDue => ?_, fun due => ?_, ⟨passes, fails⟩, congrArg (Host.Outcome.next ∘ settle) (fenceEntropy_powered powered),
      entFence_empties s⟩
    · rw [begins, notDue]
      rfl
    · rw [begins, due]
      rfl
  · intro served v tg lm
    exact ⟨fun low high lowest highest above => entReseedCtlWrite_takes served rfl rfl ⟨low, high⟩ ⟨lowest, highest⟩ above,
      fun low high below => entReseedCtlWrite_refuses served rfl rfl ⟨low, high⟩ below⟩

end Sys2Proof.Entropy

namespace Sys2Proof.Entropy
open Sys2Proof.Machine Sys2Proof.Safety Sys2Proof.Waking Sys2Proof.HostLink

/-! ### The block follows its sources (R503, R504) -/

/-- What the block's own state and its events leave: the sources, requests, memory, phase and CMD_ERR stand, and so do the
events but EV302; with good routes the Halter is told nothing. -/
structure Follows (s t : State) : Prop where
  ns : t.ns = s.ns
  reqs : t.reqs = s.reqs
  dram : t.dram = s.dram
  boot : t.boot = s.boot
  cmdErr : t.ent.cmdErr = s.ent.cmdErr
  events : ∀ f k, 302 ≠ k → evSrc t f k = evSrc s f k
  calm : Calm s t

/-- Nothing changed. -/
theorem Follows.refl (s : State) : Follows s s := ⟨rfl, rfl, rfl, rfl, rfl, fun _ _ _ => rfl, Calm.refl s⟩

/-- Either of two such changes. -/
theorem Follows.ite {s t u : State} {c : Prop} [Decidable c] (h : Follows s t) (g : Follows s u) : Follows s (if c then t else u) := by
  split <;> assumption

/-- The block enters a state. -/
theorem entEnter_follows (s : State) (st : EntState) : Follows s (entEnter s st) := by
  have only := entEnter_raises s st
  have events (f : Fn) (k : EvId) (h : 302 ≠ k) : evSrc (entEnter s st) f k = evSrc s f k := by
    unfold entEnter
    split
    · rfl
    · exact raiseEv_other _ f false h
  have calm := entEnter_calm s st
  generalize entEnter s st = t at only events calm ⊢
  refine ⟨?_, ?_, ?_, ?_, ?_, events, calm⟩ <;> rw [only]

/-- The block zeroised and in a state. -/
theorem entEnter_entZero_follows (s : State) (st : EntState) : Follows s (entEnter (entZero s) st) := by
  obtain ⟨ns, reqs, dram, boot, cmdErr, events, calm⟩ := entEnter_follows (entZero s) st
  exact ⟨ns, reqs, dram, boot, cmdErr, events, Calm.trans (t := entZero s) (Calm.of_eq rfl rfl) calm⟩

/-- The block follows its sources. -/
theorem entUpdate_follows (s : State) : Follows s (entUpdate s) := by
  have halt := entEnter_entZero_follows s .halted
  have enter := entEnter_follows s
  unfold entUpdate
  dsimp only
  split
  · exact Follows.refl s
  · exact Follows.refl s
  · exact Follows.ite halt (Follows.refl s)
  · exact Follows.ite (Follows.refl s) (enter _)
  · exact Follows.ite halt (Follows.ite (enter _) (enter _))
  · exact Follows.ite halt (Follows.ite (enter _) (enter _))

/-! ### One source changed (R489-R491) -/

/-- A source has come to be as given, and the other stands; with good routes the Halter is told nothing. -/
structure SourceIs (n : NsId) (y : Ns) (s t : State) : Prop where
  self : t.ns[n] = y
  others : ∀ m : NsId, m ≠ n → t.ns[m] = s.ns[m]
  reqs : t.reqs = s.reqs
  dram : t.dram = s.dram
  phase : t.boot.phase = s.boot.phase
  calm : Calm s t

/-- Nothing changed. -/
theorem SourceIs.refl (s : State) (n : NsId) : SourceIs n s.ns[n] s s := ⟨rfl, fun _ _ => rfl, rfl, rfl, rfl, Calm.refl s⟩

/-- A source in a state: its block in progress discarded, a start-up test begun anew (R491, R493). -/
def movedTo (st : NsState) (x : Ns) : Ns :=
  { x with state := st, part := [], test := if st = .startup ∨ st = .retest then freshTest x.test else x.test }

section
variable {n : NsId} {y : Ns} {s t : State}

/-- The source changed once more. -/
theorem SourceIs.set (h : SourceIs n y s t) (g : Ns → Ns) : SourceIs n (g y) s (setNs t n g) := by
  obtain ⟨self, others, reqs, dram, phase, calm⟩ := h
  refine ⟨?_, fun m hm => ?_, reqs, dram, phase, calm.trans (Calm.of_eq rfl rfl)⟩
  · rw [setNs_ns, upd_self, self]
  · rw [setNs_ns, upd_other _ _ hm.symm, others m hm]

/-- The block follows. -/
theorem SourceIs.follow {u : State} (h : SourceIs n y s t) (g : Follows t u) : SourceIs n y s u :=
  ⟨by rw [g.ns, h.self], fun m hm => by rw [g.ns, h.others m hm], g.reqs.trans h.reqs, g.dram.trans h.dram,
    (by rw [g.boot, h.phase]), h.calm.trans g.calm⟩

/-- EV301 raised. -/
theorem SourceIs.raise (h : SourceIs n y s t) : SourceIs n y s (raiseEv t 301) := by
  have only := raiseEv_only t 301 false
  have calm := raiseEv_calm t 301 false
  generalize raiseEv t 301 = u at only calm ⊢
  refine ⟨?_, fun m hm => ?_, ?_, ?_, ?_, h.calm.trans calm⟩ <;> rw [only]
  exacts [h.self, h.others m hm, h.reqs, h.dram, h.phase]

/-- The source moved to another state. -/
theorem SourceIs.enter (h : SourceIs n y s t) {st : NsState} (new : y.state ≠ st) : SourceIs n (movedTo st y) s (nsEnter t n st) := by
  have moved : SourceIs n (movedTo st y) s (setNs t n (movedTo st)) := h.set (movedTo st)
  unfold nsEnter
  rw [if_neg (by rwa [h.self])]
  dsimp only
  split
  · exact moved.raise.follow (entUpdate_follows _)
  · exact moved.raise.follow (entUpdate_follows _)
  · exact moved.raise.follow (entUpdate_follows _)
  · exact moved.follow (entUpdate_follows _)

/-- A source that comes to RUN is told (R504). -/
theorem nsEnter_run_told (new : s.ns[n].state ≠ .run) : (evSrc (nsEnter s n .run) .pf1 301).cause = true := by
  unfold nsEnter
  rw [if_neg new]
  dsimp only
  rw [(entUpdate_follows _).events .pf1 301 (by decide)]
  exact (raiseEv_device _ false (by decide) (by decide)).1

/-! ### Failures of a source (R489, R490) -/

/-- A source below its limit of failures goes from RUN to RETEST. -/
theorem SourceIs.fail_retests (h : SourceIs n y s t) (run : y.state = .run) (c : HealthCause) (below : y.fails + 1 < y.test.limit) :
    SourceIs n { noteFail y c false with state := .retest, part := [], test := freshTest y.test } s (healthFail t n c) := by
  have noted := h.set fun x => noteFail x c false
  have goes : ¬ (noteFail y c false).test.limit ≤ (noteFail y c false).fails := Nat.not_le.2 below
  unfold healthFail
  rw [h.self, run]
  dsimp only
  rw [noted.self, if_neg goes]
  exact noted.enter (st := .retest) (by rw [show (noteFail y c false).state = .run from run]; decide)

/-- A source that was not FAILED becomes so, and its Halter source is asserted. -/
theorem SourceIs.fail (h : SourceIs n y s t) (new : y.state ≠ .failed) :
    ∃ u, nsFail t n = raiseHs u (nsHs n) none ∧ SourceIs n { y with state := .failed, part := [] } s u :=
  ⟨nsEnter t n .failed, if_neg (by rwa [h.self]), h.enter new⟩

/-- A source at its limit of failures goes from RUN to FAILED. -/
theorem SourceIs.fail_atLimit (h : SourceIs n y s t) (run : y.state = .run) (c : HealthCause) (limit : y.test.limit ≤ y.fails + 1) :
    ∃ u, healthFail t n c = raiseHs u (nsHs n) none ∧ SourceIs n { noteFail y c false with state := .failed, part := [] } s u := by
  have noted := h.set fun x => noteFail x c false
  have goes : (noteFail y c false).test.limit ≤ (noteFail y c false).fails := limit
  unfold healthFail
  rw [h.self, run]
  dsimp only
  rw [noted.self, if_pos goes]
  exact noted.fail (by rw [show (noteFail y c false).state = .run from run]; decide)

/-- A source that fails its start-up test during the boot self-tests (R76, R520). -/
def bootMarked (s : State) (y : Ns) : Ns := { y with bootFailed := y.bootFailed || (decide (y.state = .startup) && inSelfTest s) }

/-- Its mark set, or the source left as it is. -/
theorem SourceIs.bootSource (h : SourceIs n y s t) : SourceIs n (bootMarked s y) s (bootSource t n) := by
  have phase : inSelfTest t = inSelfTest s := by unfold inSelfTest; rw [h.phase]
  unfold Machine.bootSource bootMarked
  rw [h.self, phase]
  split
  next starts =>
    obtain ⟨self, others, reqs, dram, phase, calm⟩ := h
    have fenced : SourceIs n y s { t with boot := { t.boot with fence := putBit t.boot.fence (56 + n.val) true } } :=
      ⟨self, others, reqs, dram, phase, calm.trans (Calm.of_eq rfl rfl)⟩
    rw [starts, Bool.or_true]
    exact fenced.set fun x => { x with bootFailed := true }
  next later =>
    rw [Bool.eq_false_of_not_eq_true later, Bool.or_false]
    exact h

/-- A source that fails its start-up test becomes FAILED. -/
theorem SourceIs.fail_startup (h : SourceIs n y s t) (starts : y.state = .startup ∨ y.state = .retest) (c : HealthCause) :
    ∃ u, healthFail t n c = raiseHs u (nsHs n) none ∧
      SourceIs n { noteFail (bootMarked s y) c true with state := .failed, part := [] } s u := by
  have done : healthFail t n c = nsFail (setNs (Machine.bootSource t n) n fun x => noteFail x c true) n := by
    unfold healthFail
    rw [h.self]
    rcases starts with state | state <;> rw [state]
  have open' : (noteFail (bootMarked s y) c true).state ≠ .failed := by
    show y.state ≠ .failed
    rcases starts with state | state <;> rw [state] <;> decide
  rw [done]
  exact (h.bootSource.set fun x => noteFail x c true).fail open'

end

/-! ### Samples and their tests (R491-R494) -/

section
variable {s : State} {n : NsId} {xs : List Bool}

/-- The tests change what they keep of the samples alone. -/
theorem healthBits_test (x : Ns) (xs : List Bool) : (healthBits x xs).1 = { x with test := (healthBits x xs).1.test } := by
  induction xs generalizing x with
  | nil => rfl
  | cons b l rest =>
    unfold healthBits
    dsimp only
    split
    · rfl
    · split
      · rfl
      · rw [rest]
        rfl

/-- A source after samples: tested, and with them in what it has in progress. -/
def sampled (x : Ns) (xs : List Bool) : Ns := { (healthBits x xs).1 with part := (healthBits x xs).1.part ++ xs }

/-- It stays in its state. -/
theorem sampled_state (x : Ns) (xs : List Bool) : (sampled x xs).state = x.state := by
  unfold sampled
  rw [healthBits_test]

/-- A source that takes samples. -/
def sampling (s : State) (n : NsId) (xs : List Bool) : State := setNs s n fun _ => sampled s.ns[n] xs

/-- Nothing else changes. -/
theorem sampling_source (s : State) (n : NsId) (xs : List Bool) : SourceIs n (sampled s.ns[n] xs) s (sampling s n xs) :=
  (SourceIs.refl s n).set fun _ => sampled s.ns[n] xs

/-- NOISE_HEALTH_FAIL with samples that do not end the block of a running source (R489). -/
theorem exec_noiseHealthFail (run : s.ns[n].state = .run) (more : xs.length < samplesDue s.ns[n]) :
    ((healthBits s.ns[n] xs).2 = none → exec (.noiseHealthFail n xs) s = .next (sampling s n xs)) ∧
    (∀ c, (healthBits s.ns[n] xs).2 = some c →
      exec (.noiseHealthFail n xs) s = .next (settle (healthFail (sampling s n xs) n c))) := by
  have takes : exec (.noiseHealthFail n xs) s = .next (match (takeSamples s n xs).2 with
      | some c => settle (healthFail (sampling s n xs) n c)
      | none => sampling s n xs) := by
    show execNoiseHealthFail n xs s = _
    unfold execNoiseHealthFail
    rw [run]
    exact if_neg (Nat.not_le.2 more)
  rw [takes]
  refine ⟨fun passed => ?_, fun c failed => ?_⟩
  · rw [show (takeSamples s n xs).2 = none from passed]
  · rw [show (takeSamples s n xs).2 = some c from failed]

/-- STARTUP_TEST_END with the last samples of a start-up test (R489, R491). -/
theorem exec_startupTestEnd (starts : s.ns[n].state = .startup ∨ s.ns[n].state = .retest) (last : xs.length = samplesDue s.ns[n]) :
    ((healthBits s.ns[n] xs).2 = none → exec (.startupTestEnd n xs) s = .next (nsEnter (sampling s n xs) n .run)) ∧
    (∀ c, (healthBits s.ns[n] xs).2 = some c →
      exec (.startupTestEnd n xs) s = .next (settle (healthFail (sampling s n xs) n c))) := by
  have takes : exec (.startupTestEnd n xs) s = match (takeSamples s n xs).2 with
      | none => .next (nsEnter (sampling s n xs) n .run)
      | some c => .next (settle (healthFail (sampling s n xs) n c)) :=
    if_neg (by simp only [last, ne_eq, not_true_eq_false, or_false]; tauto)
  rw [takes]
  refine ⟨fun passed => ?_, fun c failed => ?_⟩
  · rw [show (takeSamples s n xs).2 = none from passed]
  · rw [show (takeSamples s n xs).2 = some c from failed]

/-- A command makes a source FAILED, and its Halter source is asserted. -/
def FailsSource (c : Instr) (s : State) (n : NsId) (y : Ns) : Prop :=
  Ends c s fun t => ∃ u, t = settle (raiseHs u (nsHs n) none) ∧ u.ns[n] = { y with state := .failed, part := [] } ∧
    ∀ m : NsId, m ≠ n → u.ns[m] = s.ns[m]

/-- A command that settles such a state. -/
theorem failsSource_of_settled {c : Instr} {x : State} {y : Ns} (row : exec c s = .next (settle x))
    (ends : ∃ u, x = raiseHs u (nsHs n) none ∧ SourceIs n { y with state := .failed, part := [] } s u) : FailsSource c s n y := by
  obtain ⟨u, rfl, source⟩ := ends
  exact ⟨_, row, u, rfl, source.self, source.others⟩

/-- A running source goes on, or a test that fails takes it to RETEST or, at its limit, to FAILED (R489, R490). -/
theorem noiseHealthFail_tests (quiet : Quiet s) (routes : RoutesGood s) (run : s.ns[n].state = .run) (more : xs.length < samplesDue s.ns[n]) :
    let x := sampled s.ns[n] xs
    ((healthBits s.ns[n] xs).2 = none → exec (.noiseHealthFail n xs) s = .next (sampling s n xs)) ∧
    (∀ c, (healthBits s.ns[n] xs).2 = some c → x.fails + 1 < x.test.limit → Ends (.noiseHealthFail n xs) s fun t =>
      (∀ m : NsId, m ≠ n → t.ns[m] = s.ns[m]) ∧ t.hlt = s.hlt ∧ t.reqs = s.reqs ∧ t.dram = s.dram ∧
        t.ns[n] = { noteFail x c false with state := .retest, part := [], test := freshTest x.test }) ∧
    (∀ c, (healthBits s.ns[n] xs).2 = some c → x.test.limit ≤ x.fails + 1 → FailsSource (.noiseHealthFail n xs) s n (noteFail x c false)) := by
  intro x
  have source := sampling_source s n xs
  have still : x.state = .run := (sampled_state _ _).trans run
  obtain ⟨passes, fails⟩ := exec_noiseHealthFail run more
  refine ⟨passes, fun c failed below => ?_, fun c failed limit => failsSource_of_settled (fails c failed) (source.fail_atLimit still c limit)⟩
  have retests := source.fail_retests still c below
  refine ⟨_, fails c failed, ?_⟩
  rw [retests.calm.settle quiet routes]
  exact ⟨retests.others, retests.calm.hlt routes, retests.reqs, retests.dram, retests.self⟩

/-- A start-up test ends in RUN, which is told, or in FAILED (R489, R491, R504). -/
theorem startupTestEnd_tests (routes : RoutesGood s) (starts : s.ns[n].state = .startup ∨ s.ns[n].state = .retest)
    (last : xs.length = samplesDue s.ns[n]) :
    let x := sampled s.ns[n] xs
    ((healthBits s.ns[n] xs).2 = none → Ends (.startupTestEnd n xs) s fun t => t.ns[n] = { x with state := .run, part := [] } ∧
      t.hlt = s.hlt ∧ (∀ m : NsId, m ≠ n → t.ns[m] = s.ns[m]) ∧ (evSrc t .pf1 301).cause = true) ∧
    (∀ c, (healthBits s.ns[n] xs).2 = some c → FailsSource (.startupTestEnd n xs) s n
      { noteFail x c true with bootFailed := x.bootFailed || (decide (s.ns[n].state = .startup) && inSelfTest s) }) := by
  intro x
  have source := sampling_source s n xs
  have state : x.state = s.ns[n].state := sampled_state _ _
  have new : x.state ≠ .run := by rw [state]; rcases starts with h | h <;> rw [h] <;> decide
  obtain ⟨passes, fails⟩ := exec_startupTestEnd starts last
  refine ⟨fun passed => ?_, fun c failed => failsSource_of_settled (fails c failed) ?_⟩
  · have runs := source.enter new
    exact ⟨_, passes passed, runs.self, runs.calm.hlt routes, runs.others, nsEnter_run_told (by rwa [source.self])⟩
  · rw [← state] at starts ⊢
    exact source.fail_startup starts c

end

end Sys2Proof.Entropy

namespace Sys2Proof.Entropy
open Sys2Proof.Machine Sys2Proof.Safety Sys2Proof.Waking Sys2Proof.HostLink

/-! ### Blocks of samples (R493, R494) -/

section
variable {s : State} {n : NsId} {xs : List Bool}

/-- The seed of a block of samples (R493). -/
def blockSeed (x : Ns) : BitVec 384 := of48 (sha384 (packBits x.part))

/-- The block of a source taken, and the turn passed on (R493). -/
def blockTaken (s : State) (n : NsId) (xs : List Bool) : State :=
  setNs { sampling s n xs with ent := { s.ent with turn := if n = 0 then 1 else 0 } } n fun x => { x with part := [] }

/-- Of the sources its own alone changes. -/
theorem blockTaken_ns (s : State) (n : NsId) (xs : List Bool) :
    (blockTaken s n xs).ns[n] = { sampled s.ns[n] xs with part := [] } ∧ ∀ m : NsId, m ≠ n → (blockTaken s n xs).ns[m] = s.ns[m] := by
  obtain ⟨self, others, -⟩ := (sampling_source s n xs).set fun x => { x with part := [] }
  exact ⟨self, others⟩

/-- The state after it with its seed entered (R494). -/
def seeded (s : State) (n : NsId) (xs : List Bool) : State :=
  { blockTaken s n xs with ent := { (blockTaken s n xs).ent with seeds := s.ent.seeds ++ [blockSeed (sampled s.ns[n] xs)] } }

/-- SEED_READY with the last samples of a block that passes its tests: its seed is entered, one over two is dropped. -/
theorem exec_seedReady (able : s.ent.state = .init ∨ s.ent.state = .run ∨ s.ent.state = .degraded) (run : s.ns[n].state = .run)
    (turn : blockTurn s n = true) (last : xs.length = samplesDue s.ns[n]) (passed : (healthBits s.ns[n] xs).2 = none) :
    exec (.seedReady n xs) s = .next (if 2 ≤ s.ent.seeds.length then blockTaken s n xs else stretch (seeded s n xs)) := by
  have part : (sampling s n xs).ns[n] = sampled s.ns[n] xs := (sampling_source s n xs).self
  have seed : blockSeed (sampled s.ns[n] xs) = of48 (sha384 (packBits (takeSamples s n xs).1.ns[n].part)) := by
    rw [blockSeed, ← part]
    rfl
  have tested : (takeSamples s n xs).2 = none := passed
  show execSeedReady n xs s = _
  unfold execSeedReady seeded
  dsimp only
  rw [if_neg (by rcases able with state | state | state <;> simp [state, run, last, turn, -Fin.getElem_fin]), tested, seed]
  rfl

/-- The seed FIFO, the sources and the turn after a block that passes its tests (R493, R494). -/
theorem seedReady_seeds (able : s.ent.state = .init ∨ s.ent.state = .run ∨ s.ent.state = .degraded) (run : s.ns[n].state = .run)
    (turn : blockTurn s n = true) (last : xs.length = samplesDue s.ns[n]) (passed : (healthBits s.ns[n] xs).2 = none) :
    Ends (.seedReady n xs) s fun t => t.ns[n] = { sampled s.ns[n] xs with part := [] } ∧ (∀ m : NsId, m ≠ n → t.ns[m] = s.ns[m]) ∧
      t.ent.turn = (if n = 0 then 1 else 0) ∧
      t.ent.seeds = (if 2 ≤ s.ent.seeds.length then s.ent.seeds else s.ent.seeds ++ [blockSeed (sampled s.ns[n] xs)]) ∧
      t.ent.queue = s.ent.queue ∧ t.ent.drbg = s.ent.drbg := by
  obtain ⟨self, others⟩ := blockTaken_ns s n xs
  refine ⟨_, exec_seedReady able run turn last passed, ?_⟩
  split
  · exact ⟨self, others, rfl, rfl, rfl, rfl⟩
  · obtain ⟨rest, ent, -⟩ := stretch_only (seeded s n xs)
    generalize stretch (seeded s n xs) = t at rest ent ⊢
    rw [ent, rest]
    exact ⟨self, others, rfl, rfl, rfl, rfl⟩

end

/-! ### The frequency monitor (R488) -/

/-- FREQ_MONITOR_WINDOW notes the rate of a source that is on, and fails one that is slow or that its fast ring does not
outrun. -/
theorem exec_freqMonitorWindow {s : State} {n : NsId} (on : s.ns[n].state ≠ .off) (samples edges : Nat) :
    let y := setNs s n fun x => { x with rate := satOf 16 (10 * samples) }
    (100 ≤ samples → 16 * samples ≤ edges → exec (.freqMonitorWindow n samples edges) s = .next y) ∧
    (samples < 100 ∨ edges < 16 * samples → exec (.freqMonitorWindow n samples edges) s = .next (settle (healthFail y n .freq))) := by
  intro y
  have row : exec (.freqMonitorWindow n samples edges) s =
      .next (if samples < 100 ∨ edges < 16 * samples then settle (healthFail y n .freq) else y) := if_neg on
  rw [row]
  exact ⟨fun many fast => by rw [if_neg (by omega)], fun slow => by rw [if_pos slow]⟩

/-! ### ENT_SRC_CTL (R489, R492, R502, R510) -/

section
variable {s : State} {n : NsId}

/-- A source with the policy and the cutoffs of a word written, as far as they are in range (R492, R502). -/
def policySet (w : BitVec 64) (x : Ns) : Ns :=
  { x with policy := bit w 0, rct := if 32 ≤ (field w 8 8 : BitVec 8).toNat ∧ (field w 8 8 : BitVec 8).toNat ≤ 61 then field w 8 8 else x.rct,
           apt := if 700 ≤ (field w 16 10 : BitVec 10).toNat ∧ (field w 16 10 : BitVec 10).toNat ≤ 820 then field w 16 10 else x.apt,
           failLimit := if (field w 26 2 : BitVec 2) = 0 then x.failLimit else field w 26 2 }

/-- The source set by PF1. -/
theorem policySet_source (s : State) (n : NsId) (w : BitVec 64) : SourceIs n (policySet w s.ns[n]) s (setNs s n (policySet w)) :=
  (SourceIs.refl s n).set (policySet w)

/-- The whole register written by PF1: the source set, retested where bit 1 asks for it, and the block follows. -/
theorem wrSrcCtl_pf1 (s : State) (n : NsId) (w : BitVec 64) : wrSrcCtl s .pf1 n w (BitVec.allOnes 64) =
    entUpdate (if bit w 1 then nsRetest (setNs s n (policySet w)) n else setNs s n (policySet w)) := by
  unfold wrSrcCtl
  rw [BitVec.and_allOnes]
  rfl

/-- The two writes of ENT_SRC_CTL by a function whose writes are served. -/
theorem exec_srcCtl {f : Fn} (served : WritesServed s f) (n : NsId) (v : BitVec 32) :
    exec (.entSrcPolicyWrite f n v) s = .next (settle (wrSrcCtl s f n (v.setWidth 64) (BitVec.allOnes 64))) ∧
    exec (.entSrcRetest f n v) s = .next (settle (wrSrcCtl s f n (v.setWidth 64 ||| 2) (BitVec.allOnes 64))) :=
  ⟨congrArg Host.Outcome.next (gateW_served served _), congrArg Host.Outcome.next (gateW_served served _)⟩

/-- A policy write without RETEST sets the source, and the block follows. -/
theorem policyWrite_sets (quiet : Quiet s) (routes : RoutesGood s) (served : WritesServed s .pf1) {v : BitVec 32} (plain : bit v 1 = false) :
    Ends (.entSrcPolicyWrite .pf1 n v) s fun t => SourceIs n (policySet (v.setWidth 64) s.ns[n]) s t := by
  have set := (policySet_source s n (v.setWidth 64)).follow (entUpdate_follows _)
  refine ⟨_, (exec_srcCtl served n v).1, ?_⟩
  rw [wrSrcCtl_pf1, bit_setWidth v (by decide), plain, if_neg Bool.false_ne_true, set.calm.settle quiet routes]
  exact set

/-- A word with RETEST set is the word that ENT_SRC_RETEST writes. -/
theorem word_retest {v : BitVec 32} (retest : bit v 1 = true) : (v.setWidth 64 ||| 2 : BitVec 64) = v.setWidth 64 := by
  have two (i : Nat) : (2 : BitVec 64).getLsbD i = true → i = 1 := by
    rcases i with _ | _ | i <;> simp [BitVec.getLsbD, Nat.testBit_add_one]
  refine BitVec.eq_of_getLsbD_eq fun i hi => ?_
  rw [BitVec.getLsbD_or, Bool.or_eq_left_iff_imp]
  intro set
  rw [two i set]
  simpa [bit] using retest

/-- A retest that the counter permits begins a start-up test (R489, R490). -/
theorem SourceIs.retest {y : Ns} {t : State} (h : SourceIs n y s t) (failed : y.state = .failed) (left : y.retests.toNat < 3) :
    SourceIs n (movedTo .startup { y with fails := 0, retests := y.retests + 1 }) s (nsRetest t n) := by
  unfold nsRetest
  rw [h.self, if_pos ⟨failed, left⟩]
  exact (h.set fun x => { x with fails := 0, retests := x.retests + 1 }).enter (by rw [failed]; decide)

/-- ENT_SRC_RETEST retests a FAILED source, or sets CMD_ERR. -/
theorem entSrcRetest_ends (quiet : Quiet s) (routes : RoutesGood s) (served : WritesServed s .pf1) (v : BitVec 32) :
    let y := policySet (v.setWidth 64 ||| 2) s.ns[n]
    (s.ns[n].state = .failed → s.ns[n].retests.toNat < 3 → Ends (.entSrcRetest .pf1 n v) s fun t =>
      SourceIs n (movedTo .startup { y with fails := 0, retests := y.retests + 1 }) s t) ∧
    ((s.ns[n].state ≠ .failed ∨ 3 ≤ s.ns[n].retests.toNat) → Ends (.entSrcRetest .pf1 n v) s fun t =>
      SourceIs n y s t ∧ t.ent.cmdErr = true) := by
  intro y
  have written : bit (v.setWidth 64 ||| 2 : BitVec 64) 1 = true := by simp [bit]
  have set : SourceIs n y s (setNs s n (policySet (v.setWidth 64 ||| 2))) := policySet_source s n _
  have done := (exec_srcCtl served n v).2
  rw [wrSrcCtl_pf1, if_pos written] at done
  refine ⟨fun failed left => ?_, fun refused => ?_⟩
  · have retested := (set.retest failed left).follow (entUpdate_follows _)
    refine ⟨_, done, ?_⟩
    rw [retested.calm.settle quiet routes]
    exact retested
  · have refusal : nsRetest (setNs s n (policySet (v.setWidth 64 ||| 2))) n = entErr (setNs s n (policySet (v.setWidth 64 ||| 2))) := by
      unfold nsRetest
      rw [set.self]
      exact if_neg fun ⟨failed, left⟩ => refused.elim (· failed) (Nat.not_le.2 left)
    have follows := entUpdate_follows (entErr (setNs s n (policySet (v.setWidth 64 ||| 2))))
    have erred : SourceIs n y s (entErr (setNs s n (policySet (v.setWidth 64 ||| 2)))) :=
      ⟨set.self, set.others, set.reqs, set.dram, set.phase, set.calm.trans (Calm.of_eq rfl rfl)⟩
    have followed := erred.follow follows
    refine ⟨_, done, ?_⟩
    rw [refusal, followed.calm.settle quiet routes]
    exact ⟨followed, follows.cmdErr⟩

end

/-- Settles O34: each command changes its source as the tests' verdict and the source's state have it, the block follows, and
with good routes the Halter hears of nothing but a source that becomes FAILED. -/
theorem noiseSourcesAct : Obligations.NoiseSourcesAct := by
  intro s n quiet routes others failed
  refine ⟨fun xs => ⟨noiseHealthFail_tests quiet routes, startupTestEnd_tests routes, seedReady_seeds⟩, fun on samples edges => ?_, rfl,
    fun served v => ⟨fun plain => ?_, fun retest => ?_, fun isFailed left => ?_, fun refused => ?_⟩, fun served v => ?_⟩
  · exact exec_freqMonitorWindow on samples edges
  · obtain ⟨t, done, source⟩ := policyWrite_sets (n := n) quiet routes served plain
    refine ⟨t, done, source.others, source.calm.hlt routes, source.dram, ?_⟩
    rw [source.self]
    unfold policySet
    rw [bit_setWidth v (by decide), field_setWidth v (by decide), field_setWidth v (by decide), field_setWidth v (by decide)]
    exact ⟨rfl, rfl, rfl, rfl⟩
  · obtain ⟨policy, retests⟩ := exec_srcCtl served n v
    rw [policy, retests, word_retest retest]
  · obtain ⟨t, done, source⟩ := (entSrcRetest_ends quiet routes served v).1 isFailed left
    exact ⟨t, done, by rw [source.self]; rfl, by rw [source.self]; rfl, by rw [source.self]; rfl, source.others, source.calm.hlt routes⟩
  · obtain ⟨t, done, source, erred⟩ := (entSrcRetest_ends quiet routes served v).2 refused
    exact ⟨t, done, by rw [source.self]; rfl, erred, source.others⟩
  · obtain ⟨policy, retests⟩ := exec_srcCtl served n v
    have kept : (.next (settle s) : Host.Outcome State Fault Refusal) = .next s := congrArg Host.Outcome.next (settle_of_quiet quiet)
    exact ⟨policy.trans kept, retests.trans kept⟩

end Sys2Proof.Entropy

namespace Sys2Proof.Entropy
open Sys2Proof.Machine Sys2Proof.Safety Sys2Proof.Waking Sys2Proof.HostLink Sys2Proof.Rings

/-! ### Draws from the queue (R498-R501) -/

section
variable {s : State} {c : Consumer} {i : Nat} {q : Req} {e : BitVec 512} {l : List (BitVec 512)}

/-- ENTROPY_DRAW of a consumer that has a draw to make, from the queue. -/
theorem exec_entropyDraw (may : mayDraw s c = true) :
    (s.ent.fenced = true → exec (.entropyDraw c) s = .next (starve s c)) ∧
    (s.ent.fenced = false → c ≠ .root → wantsSeed s c = false →
      (s.ent.queue.length ≤ drawLeaves c → exec (.entropyDraw c) s = .next (await s c)) ∧
      (drawLeaves c < s.ent.queue.length → exec (.entropyDraw c) s = .next (giveNext s c))) := by
  have row : exec (.entropyDraw c) s = execEntropyDraw c s := rfl
  rw [row]
  unfold execEntropyDraw
  rw [may]
  refine ⟨fun fenced => by rw [fenced]; rfl, fun open' root plain => ?_⟩
  rw [open', if_neg root, plain]
  exact ⟨fun few => if_pos few, fun enough => if_neg (Nat.not_le.2 enough)⟩

/-- A request that has an entry of the queue to draw. -/
theorem mayDraw_request (found : findReq s i = some q) (started : q.started = true) (open' : q.done = none)
    (plain : takesSeed q.desc = false) (fewer : (grantedTo s (.request i)).length < totalDraws q.desc) :
    mayDraw s (.request i) = true ∧ wantsSeed s (.request i) = false := by
  unfold mayDraw wantsSeed
  dsimp only
  rw [found]
  simp [started, open', fewer, plain]

/-- An entry charged or not changes a stall's draws alone (R500). -/
theorem charge_only (s : State) (c : Consumer) : charge s c = { s with stalls := (charge s c).stalls } := by
  unfold charge
  split
  · split
    · split <;> rfl
    · rfl
  · rfl

/-- The consumer has the entry after those that it had. -/
theorem grantedTo_give (s : State) (c : Consumer) (e : BitVec 512) : grantedTo (give s c e) c = grantedTo s c ++ [e] := by
  have appended : grantedTo (give s c e) c =
      (((((charge s c).ent.granted.filter fun g => decide (g.1 ≠ c)) ++ [(c, grantedTo s c ++ [e])]).find?
        fun g => decide (g.1 = c)).map (·.2)).getD [] := rfl
  rw [appended, List.find?_append, granted_filtered]
  simp

/-- Giving an entry leaves the queue and the requests, and charges the draw. -/
theorem give_leaves (s : State) (c : Consumer) (e : BitVec 512) :
    (give s c e).ent.queue = s.ent.queue ∧ (give s c e).reqs = s.reqs ∧ (give s c e).stalls = (charge s c).stalls := by
  unfold give unwait
  dsimp only
  rw [charge_only]
  exact ⟨rfl, rfl, rfl⟩

/-- The oldest entry goes to a consumer that may take it (R499). -/
theorem giveNext_gives (queue : s.ent.queue = e :: l) (enough : drawLeaves c < s.ent.queue.length) :
    giveNext s c = give { s with ent := { s.ent with queue := l } } c e := by
  unfold giveNext
  rw [queue] at enough ⊢
  exact if_neg (Nat.not_le.2 enough)

/-- A request's draw is charged to its stall, as far as its draws are charged. -/
theorem charge_request (found : findReq s i = some q) :
    (∀ n : StallId, n ≠ q.stall → (charge s (.request i)).stalls[n] = s.stalls[n]) ∧
    ((grantedTo s (.request i)).length < chargedDraws q.desc →
      (charge s (.request i)).stalls[q.stall].draws = s.stalls[q.stall].draws + 1) := by
  have charged : charge s (.request i) = if (grantedTo s (.request i)).length < chargedDraws q.desc
      then setStall s q.stall fun x => { x with draws := x.draws + 1 } else s := by
    unfold charge
    dsimp only
    rw [found]
  rw [charged]
  refine ⟨fun n other => ?_, fun fewer => ?_⟩
  · split
    · exact upd_other _ _ other.symm
    · rfl
  · rw [if_pos fewer, setStall_stalls, upd_self]

/-- A request's draw takes the oldest entry. -/
theorem entropyDraw_request (found : findReq s i = some q) (may : mayDraw s (.request i) = true ∧ wantsSeed s (.request i) = false)
    (open' : s.ent.fenced = false) (queue : s.ent.queue = e :: l) (enough : 4 ≤ l.length) :
    Ends (.entropyDraw (.request i)) s fun t => t.ent.queue = l ∧ grantedTo t (.request i) = grantedTo s (.request i) ++ [e] ∧
      (∀ n : StallId, n ≠ q.stall → t.stalls[n] = s.stalls[n]) ∧
      ((grantedTo s (.request i)).length < chargedDraws q.desc → t.stalls[q.stall].draws = s.stalls[q.stall].draws + 1) := by
  have more : drawLeaves (.request i) < s.ent.queue.length := by
    rw [queue]
    exact Nat.lt_succ_of_le enough
  refine ⟨_, ((exec_entropyDraw may.1).2 open' (by simp) may.2).2 more, ?_⟩
  rw [giveNext_gives queue more]
  obtain ⟨queue', -, stalls⟩ := give_leaves { s with ent := { s.ent with queue := l } } (.request i) e
  rw [queue', grantedTo_give, stalls]
  exact ⟨rfl, rfl, charge_request (s := { s with ent := { s.ent with queue := l } }) found⟩

/-- An urgent consumer but the root has no draw yet, takes no seed, and none of the queue is kept from it (R499). -/
theorem urgent_draws (urgent : drawRank c < 2) (root : c ≠ .root) (may : mayDraw s c = true) :
    grantedTo s c = [] ∧ wantsSeed s c = false ∧ drawLeaves c = 0 ∧ ∀ u : State, charge u c = u := by
  cases c with
  | request i => exact absurd urgent (by simp [drawRank])
  | root => exact absurd rfl root
  | slotProgram | debugNonce | mask u =>
    simp only [mayDraw, Bool.and_eq_true, List.isEmpty_iff] at may
    exact ⟨may.2, rfl, rfl, fun _ => rfl⟩

/-- An urgent consumer's draw takes the oldest entry that there is. -/
theorem entropyDraw_urgent (urgent : drawRank c < 2) (root : c ≠ .root) (may : mayDraw s c = true) (open' : s.ent.fenced = false)
    (queue : s.ent.queue = e :: l) :
    Ends (.entropyDraw c) s fun t => t.ent.queue = l ∧ grantedTo t c = [e] ∧ t.stalls = s.stalls ∧ t.reqs = s.reqs := by
  obtain ⟨none, plain, leaves, free⟩ := urgent_draws urgent root may
  have more : drawLeaves c < s.ent.queue.length := by
    rw [leaves, queue]
    exact Nat.succ_pos _
  refine ⟨_, ((exec_entropyDraw may).2 open' root plain).2 more, ?_⟩
  rw [giveNext_gives queue more]
  obtain ⟨queue', reqs, stalls⟩ := give_leaves { s with ent := { s.ent with queue := l } } c e
  rw [queue', reqs, stalls, free, grantedTo_give]
  exact ⟨rfl, congrArg (· ++ [e]) none, rfl, rfl⟩

/-! ### Waits (R501) -/

/-- A consumer joins the waiting draws, with the limit in force. -/
def Waits (s : State) (c : Consumer) (t : State) : Prop :=
  t.ent.waiters = s.ent.waiters ++ [{ who := c, limit := s.ent.waitLimit, since := s.cycle }] ∧ t.reqs = s.reqs

/-- A draw that finds nothing waits, unless it waits already. -/
theorem await_waits (open' : s.ent.fenced = false) (new : (s.ent.waiters.any fun w => decide (w.who = c)) = false) :
    Waits s c (await s c) ∧ (await s c).hlt = s.hlt := by
  unfold await
  rw [open', new]
  exact ⟨⟨rfl, rfl⟩, rfl⟩

/-- A request whose draw never comes ends ENTROPY_UNAVAILABLE. -/
theorem starve_request (found : findReq s i = some q) (open' : q.done = none) : OutcomeIs (starve s (.request i)) i 0x60 0 0 0 := by
  have ends : starve s (.request i) = failReq (unwait s (.request i)) i 0x60 0 := by
    refine if_pos ?_
    show ((findReq s i).map fun q => q.done.isNone).getD false = true
    rw [found]
    simp [open']
  rw [ends]
  exact (outcome_failReq (u := unwait s (.request i)) found 0x60 0).1

/-- A consumer whose wait ends waits no more. -/
theorem starve_waiters (s : State) (c : Consumer) :
    (starve s c).ent.waiters = s.ent.waiters.filter fun w => decide (w.who ≠ c) := by
  cases c with
  | request i =>
    unfold starve
    dsimp only
    split <;> rfl
  | root => rfl
  | slotProgram =>
    unfold starve progStarved
    dsimp only
    rw [raiseEv_only]
    rfl
  | debugNonce => rfl
  | mask u =>
    unfold starve
    dsimp only
    split
    · split <;> rfl
    · rfl

/-- ENTROPY_WAIT_EXPIRY ends a wait, and the request that waited. -/
theorem entropyWaitExpiry_ends (waits : (s.ent.waiters.any fun w => decide (w.who = c)) = true) :
    Ends (.entropyWaitExpiry c) s fun t => (∀ w ∈ t.ent.waiters, w.who ≠ c) ∧
      ∀ i q, c = .request i → findReq s i = some q → q.done = none → OutcomeIs t i 0x60 0 0 0 := by
  refine ⟨_, congrArg Host.Outcome.next (if_pos waits), fun w left => ?_, fun i q request found open' => ?_⟩
  · rw [starve_waiters] at left
    exact of_decide_eq_true (List.mem_filter.1 left).2
  · subst request
    exact starve_request found open'

end

end Sys2Proof.Entropy

namespace Sys2Proof.Entropy
open Sys2Proof.Machine Sys2Proof.Safety Sys2Proof.Waking Sys2Proof.HostLink Sys2Proof.Rings Sys2Proof.TackRoom Sys2Proof.Ciphers
open Sys2Proof.BigNumbers

/-! ### What the DRBG's own work leaves of a request (R496) -/

/-- A request's stores depend on its stall's world and the functions' payload sizes alone. -/
theorem storesOf_congr {s t : State} (world : ∀ n, worldFn t n = worldFn s n) (mps : ∀ f, (fnState t f).mps = (fnState s f).mps)
    (q : Req) (bs : List Byte) : storesOf t q bs = storesOf s q bs := by
  have payload (f : Fn) : maxPayload t f = maxPayload s f := by unfold maxPayload; rw [mps]
  unfold storesOf hostStores
  simp only [world, payload]

/-- A raise leaves the payload sizes. -/
theorem raiseEv_mps (s : State) (k : EvId) (al : Bool) (f : Fn) : (fnState (raiseEv s k al) f).mps = (fnState s f).mps := by
  have one (u : State) (g : Fn) : (fnState (raiseOn u g k al) f).mps = (fnState u f).mps := by
    unfold raiseOn
    split
    · rfl
    · dsimp only
      split
      · rfl
      · split
        · rw [(noteEv_noted _ g k).fns]
          rfl
        · rfl
  exact (one _ .pf1).trans (one s .pf0)

/-- The requests, the stalls' worlds and the stores of an output are as before; with good routes the Halter is told nothing. -/
structure OutputKept (s t : State) : Prop where
  reqs : t.reqs = s.reqs
  stores : ∀ q bs, storesOf t q bs = storesOf s q bs
  calm : Calm s t

/-- Two such changes one after the other. -/
theorem OutputKept.trans {s t u : State} (h : OutputKept s t) (g : OutputKept t u) : OutputKept s u :=
  ⟨g.reqs.trans h.reqs, fun q bs => (g.stores q bs).trans (h.stores q bs), h.calm.trans g.calm⟩

/-- A change of the Entropy Block. -/
theorem ent_kept (s : State) (e : Ent) : OutputKept s { s with ent := e } := ⟨rfl, fun _ _ => rfl, Calm.of_eq rfl rfl⟩

/-- A stall's draws counted. -/
theorem draws_kept (s : State) (n : StallId) (k : Nat) : OutputKept s (setStall s n fun x => { x with draws := x.draws + k }) := by
  refine ⟨rfl, storesOf_congr (fun m => ?_) (fun _ => rfl), Calm.of_eq rfl rfl⟩
  unfold worldFn
  rw [setStall_stalls, upd_get]
  split <;> rfl

/-- STRETCHED and AT_LIMIT followed. -/
theorem stretch_kept (s : State) : OutputKept s (stretch s) := by
  unfold stretch
  dsimp only
  split
  · refine (ent_kept s _).trans ⟨?_, storesOf_congr (fun n => ?_) fun f => raiseEv_mps _ 303 false f, raiseEv_calm _ 303 false⟩
    · rw [raiseEv_only]
    · rw [raiseEv_only]
      rfl
  · exact ent_kept s _

/-! ### Seeds taken by requests (R506, R507) -/

section
variable {s : State} {i : Nat} {q : Req} {src : List Byte} {x st : BitVec 384} {l : List (BitVec 384)}

/-- What the DRBG may do, and all that its block holds, depends on nothing of the units. -/
theorem drbg_unitsOnly {u : State} (h : UnitsOnly s u) : u.ent = s.ent ∧ serving u = serving s ∧ mayGenerate u = mayGenerate s := by
  rw [h]
  exact ⟨rfl, rfl, rfl⟩

/-- The DRBG's state after a reseed with a value (R496). -/
def reseedOf (st x : BitVec 384) : BitVec 384 := of48 (stdBytes .drbgState [to48 st, to48 x] 48)

/-- The block with the first seed taken. -/
def seedTaken (s : State) (l : List (BitVec 384)) (st : BitVec 384) : State :=
  { s with ent := { s.ent with seeds := l, drbg := some st, c := 0, reseeds := s.ent.reseeds + 1, counted := satInc s.ent.counted } }

/-- A reseed takes the first seed (R496, R507). -/
theorem reseed_eq (seeds : s.ent.seeds = x :: l) (drbg : s.ent.drbg = some st) (add : BitVec 384) :
    reseed s add = stretch (seedTaken s l (reseedOf st (x ^^^ add))) := by
  unfold reseed
  rw [seeds, drbg]
  rfl

/-- An output that fits its destination ends the request with it, in any state that finds the request and its stores. -/
theorem output_ends {t : State} {bs : List Byte} (found : findReq s i = some q) (kept : OutputKept s t)
    (fits : tooLongOut q.desc bs.length = false) (result : Nat) :
    (output t q bs result).hlt = t.hlt ∧ (output t q bs result).ent = t.ent ∧ (output t q bs result).stalls = t.stalls ∧
      (output t q bs result).ns = t.ns ∧ (output t q bs result).evt = t.evt ∧
      OutcomeIs (output t q bs result) i 0 0 bs.length result ∧ StoresOf (output t q bs result) i = storesOf s q bs := by
  have done : output t q bs result = finish t i 0 0 bs.length result (storesOf s q bs) := by
    unfold output
    rw [fits, Bool.and_false, if_neg Bool.false_ne_true, findReq_id found, kept.stores]
  rw [done]
  exact ⟨rfl, rfl, rfl, rfl, rfl, outcome_finish ((findReq_congr kept.reqs i).trans found) ..⟩

/-- A request's own entries generated and charged (R506). -/
def ownDrawn (s : State) (n : StallId) (k : Nat) (st : BitVec 384) : State :=
  setStall (stretch { s with ent := { s.ent with drbg := some st, c := s.ent.c + BitVec.ofNat 32 k } }) n
    fun x => { x with draws := x.draws + k }

/-- The DRBG moves on, the draws are charged, and what a request's output needs stands. -/
theorem ownDrawn_draws (s : State) (n : StallId) (k : Nat) (st : BitVec 384) :
    OutputKept s (ownDrawn s n k st) ∧ (ownDrawn s n k st).ent.drbg = some st ∧ (ownDrawn s n k st).ent.seeds = s.ent.seeds ∧
      (ownDrawn s n k st).ent.queue = s.ent.queue ∧ (ownDrawn s n k st).stalls[n].draws = s.stalls[n].draws + k := by
  have kept : OutputKept s (ownDrawn s n k st) := ((ent_kept s _).trans (stretch_kept _)).trans (draws_kept _ n k)
  obtain ⟨rest, ent, -⟩ := stretch_only { s with ent := { s.ent with drbg := some st, c := s.ent.c + BitVec.ofNat 32 k } }
  refine ⟨kept, ?_⟩
  unfold ownDrawn
  rw [setStall_ent, setStall_stalls, upd_self, ent, rest]
  exact ⟨rfl, rfl, rfl, rfl⟩

/-- A request with PR no longer waits once its own reseed is done. -/
def ownReseeded (s : State) (i : Nat) (l : List (BitVec 384)) (st : BitVec 384) : State := stretch (seedTaken (unwait s (.request i)) l st)

/-- The block after it; what a request's output needs stands. -/
theorem ownReseeded_takes (s : State) (i : Nat) (l : List (BitVec 384)) (st : BitVec 384) :
    OutputKept s (ownReseeded s i l st) ∧ (ownReseeded s i l st).ent.drbg = some st ∧ (ownReseeded s i l st).ent.seeds = l ∧
      (ownReseeded s i l st).ent.c = 0 ∧ (ownReseeded s i l st).ent.reseeds = s.ent.reseeds + 1 ∧
      (ownReseeded s i l st).ent.queue = s.ent.queue ∧ (ownReseeded s i l st).stalls = s.stalls := by
  have kept : OutputKept s (ownReseeded s i l st) := (ent_kept s (seedTaken (unwait s (.request i)) l st).ent).trans (stretch_kept _)
  obtain ⟨rest, ent, -⟩ := stretch_only (seedTaken (unwait s (.request i)) l st)
  refine ⟨kept, ?_⟩
  unfold ownReseeded
  rw [ent, rest]
  exact ⟨rfl, rfl, rfl, rfl, rfl, rfl⟩

/-- The own entries of a request with PR, and the DRBG's state after them (R506). -/
def ownDraw (st x : BitVec 384) (n : Nat) : List (BitVec 512) × BitVec 384 := ownEntries (ceilDiv n 64) (reseedOf st x)

/-- RNG_GET with PR where a seed is ready. -/
theorem prGet_eq (may : mayGenerate s = true) (seeds : s.ent.seeds = x :: l) (drbg : s.ent.drbg = some st) (q : Req) (n : Nat) :
    prGet s q n = output (ownDrawn (ownReseeded s q.id l (reseedOf st x)) q.stall (ceilDiv n 64) (ownDraw st x n).2) q
      (slice (entryBytes (ownDraw st x n).1) 0 n) (ceilDiv n 64) := by
  have ready : ¬ (!mayGenerate s || s.ent.seeds.isEmpty) = true := by simp [may, seeds]
  have reseeded : reseed (unwait s (.request q.id)) 0 = ownReseeded s q.id l (reseedOf st x) := by
    rw [reseed_eq (s := unwait s (.request q.id)) seeds drbg, show x ^^^ 0 = x from BitVec.xor_zero]
    rfl
  obtain ⟨-, drbg', -⟩ := ownReseeded_takes s q.id l (reseedOf st x)
  unfold prGet
  rw [if_neg ready]
  dsimp only
  rw [reseeded, drbg']
  rfl

/-- RNG_GET without PR answers with the entries drawn (R505). -/
theorem rngGet_answers (quiet : Quiet s) (runs : RunsOn s i 0x60 q src) (plain : bit q.desc.mode 0 = false) :
    let n := (field q.desc.imm 0 32 : BitVec 32).toNat
    tooLongOut q.desc (randomBytes s q n).length = false → Answers (.rngGet i) s i q (randomBytes s q n) (ceilDiv n 64) := by
  intro n fits
  refine ends_of_run quiet (show exec (.rngGet i) s = runOp s i 0x60 rngGetRun from rfl) runs fun u running => ?_
  have run : rngGetRun u q src = output u q (randomBytes s q n) (ceilDiv n 64) := by
    rw [← (outputs_unitsOnly running.units q).2.1]
    exact if_neg (by rw [plain]; exact Bool.false_ne_true)
  rw [run]
  exact output_fits running fits _

/-- RNG_GET with PR answers with entries of its own after a reseed (R506). -/
theorem prGet_answers (quiet : Quiet s) (routes : RoutesGood s) (runs : RunsOn s i 0x60 q src) (pr : bit q.desc.mode 0 = true)
    (may : mayGenerate s = true) (seeds : s.ent.seeds = x :: l) (drbg : s.ent.drbg = some st) :
    let n := (field q.desc.imm 0 32 : BitVec 32).toNat
    let bs := slice (entryBytes (ownDraw st x n).1) 0 n
    tooLongOut q.desc bs.length = false → Ends (.rngGet i) s fun t => OutcomeIs t i 0 0 bs.length (ceilDiv n 64) ∧
      StoresOf t i = storesOf s q bs ∧ t.ent.drbg = some (ownDraw st x n).2 ∧ t.ent.seeds = l ∧ t.ent.queue = s.ent.queue ∧
      t.stalls[q.stall].draws = s.stalls[q.stall].draws + ceilDiv n 64 := by
  intro n bs fits
  refine ends_of_run quiet (show exec (.rngGet i) s = runOp s i 0x60 rngGetRun from rfl) runs fun u running => ?_
  have units := running.units
  obtain ⟨uEnt, -, mayU⟩ := drbg_unitsOnly units
  have uStalls : u.stalls = s.stalls := by rw [units]
  have uRoutes : RoutesGood u := routesGood_congr (by rw [units]) routes
  have run : rngGetRun u q src = prGet u q n := if_pos pr
  rw [run, prGet_eq (s := u) (mayU.trans may) (by rw [uEnt, seeds]) (by rw [uEnt, drbg])]
  obtain ⟨kept, -, seeds', -, -, queue', stalls'⟩ := ownReseeded_takes u q.id l (reseedOf st x)
  obtain ⟨kept', drbg'', seeds'', queue'', draws⟩ :=
    ownDrawn_draws (ownReseeded u q.id l (reseedOf st x)) q.stall (ceilDiv n 64) (ownDraw st x n).2
  have both := kept.trans kept'
  obtain ⟨hlt, ent, stalls, -, -, outcome, stores⟩ := output_ends running.found both fits (ceilDiv n 64)
  refine ⟨hlt.trans (both.calm.hlt uRoutes), outcome, stores.trans ((outputs_unitsOnly units q).2.2 bs), ?_⟩
  rw [ent, stalls, drbg'', seeds'', queue'', draws, seeds', queue', stalls', uEnt, uStalls]
  exact ⟨rfl, rfl, rfl, rfl⟩

/-- A running request whose operation waits for a seed joins the waiting draws (R506, R507). -/
theorem run_waits {c : Instr} {op : Nat} {run : State → Req → List Byte → State} (quiet : Quiet s)
    (row : exec c s = runOp s i op run) (runs : RunsOn s i op q src) (open' : s.ent.fenced = false)
    (new : (s.ent.waiters.any fun w => decide (w.who = .request q.id)) = false)
    (awaits : ∀ u, Running s u i q → run u q src = await u (.request q.id)) : Ends c s (Waits s (.request q.id)) := by
  refine ends_of_run quiet row runs fun u running => ?_
  have units := running.units
  obtain ⟨waits, hlt⟩ := await_waits (s := u) (c := .request q.id) (by rw [units]; exact open') (by rw [units]; exact new)
  rw [awaits u running]
  exact ⟨hlt, waits.1.trans (by rw [units]), waits.2.trans (by rw [units])⟩

/-- RNG_RESEED reseeds, zeroises the queue and returns the number of reseeds (R507). -/
theorem rngReseed_reseeds (quiet : Quiet s) (routes : RoutesGood s) (runs : RunsOn s i 0x61 q src) (on : serving s = true)
    (seeds : s.ent.seeds = x :: l) (drbg : s.ent.drbg = some st) :
    let add := if q.desc.auxLen = 0 then 0 else of48 (auxOf q)
    Ends (.rngReseed i) s fun t => OutcomeIs t i 0 0 0 (s.ent.reseeds + 1).toNat ∧ t.ent.queue = [] ∧ t.ent.seeds = l ∧
      t.ent.c = 0 ∧ t.ent.drbg = some (reseedOf st (x ^^^ add)) := by
  intro add
  refine ends_of_run quiet (show exec (.rngReseed i) s = runOp s i 0x61 rngReseedRun from rfl) runs fun u running => ?_
  have units := running.units
  obtain ⟨uEnt, onU, -⟩ := drbg_unitsOnly units
  have uRoutes : RoutesGood u := routesGood_congr (by rw [units]) routes
  have ready : ¬ (!serving u || u.ent.seeds.isEmpty) = true := by
    rw [uEnt, seeds, onU, on]
    exact Bool.false_ne_true
  have reseeded : reseed (unwait u (.request q.id)) add = ownReseeded u q.id l (reseedOf st (x ^^^ add)) := by
    rw [reseed_eq (s := unwait u (.request q.id)) ((congrArg Ent.seeds uEnt).trans seeds) ((congrArg Ent.drbg uEnt).trans drbg)]
    rfl
  obtain ⟨kept, drbg', seeds', c, reseeds, -, -⟩ := ownReseeded_takes u q.id l (reseedOf st (x ^^^ add))
  have run : rngReseedRun u q src = finish { ownReseeded u q.id l (reseedOf st (x ^^^ add)) with
      ent := { (ownReseeded u q.id l (reseedOf st (x ^^^ add))).ent with queue := [] } } i 0 0 0
      (s.ent.reseeds + 1).toNat [] := by
    unfold rngReseedRun
    rw [if_neg ready, running.id, ← uEnt, ← reseeds, ← running.id, ← reseeded]
  rw [run]
  exact ⟨kept.calm.hlt uRoutes, (outcome_finish ((findReq_congr kept.reqs i).trans running.found) ..).1, rfl, seeds', c, drbg'⟩

end

end Sys2Proof.Entropy

namespace Sys2Proof.Entropy
open Sys2Proof.Machine Sys2Proof.Safety Sys2Proof.Waking Sys2Proof.HostLink Sys2Proof.Rings Sys2Proof.TackRoom Sys2Proof.Ciphers
open Sys2Proof.BigNumbers

/-! ### Raw captures begin (R508) -/

section
variable {s : State} {n : NsId} {i : Nat} {q : Req}

/-- The other noise source. -/
def otherNs (n : NsId) : NsId := if n = 0 then 1 else 0

/-- A source with its raw capture begun: its block is discarded, and with RESTART its tests begin anew. -/
def diverted (q : Req) (x : Ns) : Ns :=
  { x with state := .diverted, capture := some q.id, part := [], wasRun := decide (x.state = .run),
           test := if bit q.desc.mode 1 then freshTest x.test else x.test }

/-- A capture begins on a source that is not DIVERTED. -/
theorem beginCapture_diverts (s : State) (q : Req) (n : NsId) (new : s.ns[n].state ≠ .diverted) :
    SourceIs n (diverted q s.ns[n]) s (beginCapture s q n (decide (s.ns[n].state = .run))) :=
  ((SourceIs.refl s n).set fun x => { x with capture := some q.id, wasRun := decide (s.ns[n].state = .run)
                                             test := if bit q.desc.mode 1 then freshTest x.test else x.test }).enter new

/-- RNG_RAW on a source without a capture: one that is RUN beside a RUN one, or FAILED, is diverted, another refused. -/
theorem rngRawRun_cases (idle : s.ns[rawSource q.desc].capture = none) (src : List Byte) :
    let n := rawSource q.desc
    let both := s.ns[n].state = .run ∧ s.ns[otherNs n].state = .run
    (both ∨ s.ns[n].state = .failed → s.ns[n].state ≠ .diverted ∧
      rngRawRun s q src = beginCapture s q n (decide (s.ns[n].state = .run))) ∧
    (¬ both → s.ns[n].state ≠ .failed → rngRawRun s q src = failReq s q.id 0x40 0) := by
  intro n both
  have free : ¬ s.ns[rawSource q.desc].capture.isSome = true := by rw [idle]; exact Bool.false_ne_true
  unfold rngRawRun
  dsimp only
  rw [if_neg free]
  refine ⟨fun usable => ?_, fun alone working => ?_⟩
  · rcases usable with ⟨run, other⟩ | failed
    · refine ⟨by rw [run]; decide, ?_⟩
      simp only [n, run] at other ⊢
      exact if_pos other
    · refine ⟨by rw [failed]; decide, ?_⟩
      simp only [n, failed]
      rfl
  · split
    next run => exact if_neg fun other => alone ⟨run, other⟩
    next failed => exact absurd failed working
    next => rfl

/-! ### Raw captures end (R489, R508) -/

/-- Counting a capture's failures leaves the source's state and its capture. -/
theorem captureBits_keeps (x : Ns) (bits : List Bool) :
    (captureBits x bits).1.state = x.state ∧ (captureBits x bits).1.capture = x.capture ∧ (captureBits x bits).1.wasRun = x.wasRun := by
  induction bits generalizing x with
  | nil => exact ⟨rfl, rfl, rfl⟩
  | cons b l rest =>
    unfold captureBits
    dsimp only
    obtain ⟨state, capture, wasRun⟩ := rest (if (healthBit x b).2.2 then
      noteFail (if (healthBit x b).2.1 then noteFail (healthBit x b).1 .rct false else (healthBit x b).1) .apt false
      else if (healthBit x b).2.1 then noteFail (healthBit x b).1 .rct false else (healthBit x b).1)
    rw [state, capture, wasRun]
    split <;> split <;> exact ⟨rfl, rfl, rfl⟩

/-- One source's step of the end of captures. -/
def captureStep (s : State) (p : Nat → Bool) (n : NsId) : State :=
  match s.ns[n].capture with
  | some i => if p i then
      (let s' := setNs s n fun x => { x with capture := none }
       if s.ns[n].state = .diverted then nsEnter s' n (if s.ns[n].wasRun then .retest else .failed) else s') else s
  | none => s

/-- The end of captures is the two sources' steps. -/
theorem endCapture_eq (s : State) (p : Nat → Bool) : endCapture s p = captureStep (captureStep s p 0) p 1 := rfl

/-- A source without such a capture is left. -/
theorem captureStep_idle {p : Nat → Bool} (none : ∀ i, s.ns[n].capture = some i → p i = false) : captureStep s p n = s := by
  unfold captureStep
  split
  next i captured => rw [none i captured, if_neg Bool.false_ne_true]
  next => rfl

/-- A source after its capture: it is retested, or FAILED as it was (R489). -/
def captureEnded (x : Ns) : Ns := movedTo (if x.wasRun then .retest else .failed) { x with capture := none }

/-- A diverted source with such a capture returns. -/
theorem captureStep_ends {p : Nat → Bool} (captured : s.ns[n].capture = some i) (ends : p i = true) (state : s.ns[n].state = .diverted) :
    SourceIs n (captureEnded s.ns[n]) s (captureStep s p n) := by
  have set := (SourceIs.refl s n).set fun x => { x with capture := none }
  unfold captureStep captureEnded
  rw [captured]
  dsimp only
  rw [if_pos ends, if_pos state]
  refine set.enter ?_
  show s.ns[n].state ≠ _
  rw [state]
  split <;> decide

/-- The one source that a request captures returns, and the other is left. -/
theorem endCapture_source (captured : s.ns[n].capture = some i) (state : s.ns[n].state = .diverted)
    (alone : ∀ m : NsId, m ≠ n → s.ns[m].capture ≠ some i) :
    SourceIs n (captureEnded s.ns[n]) s (endCapture s fun j => decide (j = i)) := by
  have idle (u : State) (m : NsId) (other : m ≠ n) (same : u.ns[m] = s.ns[m]) : captureStep u (fun j => decide (j = i)) m = u :=
    captureStep_idle fun k hk => decide_eq_false fun same' => alone m other (by rw [← same, hk, same'])
  have ends := captureStep_ends (p := fun j => decide (j = i)) captured (decide_eq_true rfl) state
  rw [endCapture_eq]
  by_cases zero : n = 0
  · subst zero
    rwa [idle _ 1 (by decide) (ends.others 1 (by decide))]
  · have one : n = 1 := Fin.eq_one_of_ne_zero n zero
    subst one
    rwa [idle s 0 (by decide) rfl]

/-- A source whose tests have run on the samples of its capture and on the rest of what it gave (R489). -/
def captureTested (x : Ns) (bits rest : List Bool) : Ns := (captureBits (captureBits x bits).1 rest).1

/-- It stays in its state, with its capture. -/
theorem captureTested_keeps (x : Ns) (bits rest : List Bool) :
    (captureTested x bits rest).state = x.state ∧ (captureTested x bits rest).capture = x.capture ∧
      (captureTested x bits rest).wasRun = x.wasRun := by
  obtain ⟨state, capture, wasRun⟩ := captureBits_keeps (captureBits x bits).1 rest
  obtain ⟨state', capture', wasRun'⟩ := captureBits_keeps x bits
  exact ⟨state.trans state', capture.trans capture', wasRun.trans wasRun'⟩

/-- The samples of a capture delivered to its request, RESULT the failures on them (R508). -/
def captureDelivered (s : State) (n : NsId) (q : Req) (bs : List Byte) (rest : List Bool) : State :=
  output (setNs s n fun _ => captureTested s.ns[n] (unpackBits bs) rest) q bs (captureBits s.ns[n] (unpackBits bs)).2

/-- The request ends with them; of the sources the captured one alone changes. -/
theorem captureDelivered_answers {bs : List Byte} (found : findReq s i = some q) (fits : tooLongOut q.desc bs.length = false) (rest : List Bool) :
    let v := captureDelivered s n q bs rest
    Calm s v ∧ v.ns[n] = captureTested s.ns[n] (unpackBits bs) rest ∧ (∀ m : NsId, m ≠ n → v.ns[m] = s.ns[m]) ∧
      OutcomeIs v i 0 0 bs.length (captureBits s.ns[n] (unpackBits bs)).2 ∧ StoresOf v i = storesOf s q bs := by
  intro v
  have tested := (SourceIs.refl s n).set fun _ => captureTested s.ns[n] (unpackBits bs) rest
  obtain ⟨hlt, -, -, ns, evt, outcome, stores⟩ := output_ends (t := setNs s n fun _ => captureTested s.ns[n] (unpackBits bs) rest)
    found ⟨rfl, fun _ _ => rfl, tested.calm⟩ fits (captureBits s.ns[n] (unpackBits bs)).2
  have sources : v.ns = (setNs s n fun _ => captureTested s.ns[n] (unpackBits bs) rest).ns := ns
  refine ⟨Calm.of_eq hlt evt, ?_, fun m other => ?_, outcome, stores⟩
  · rw [sources, tested.self]
  · rw [sources, tested.others m other]

/-- RAW_CAPTURE_END of a request that has not ended. -/
theorem exec_rawCaptureEnd (captured : s.ns[n].capture = some i) (found : findReq s i = some q) (open' : q.done = none)
    (samples : List Byte) (rest : List Bool) :
    exec (.rawCaptureEnd n samples rest) s = .next (settle (endCapture
      (captureDelivered s n q (slice samples 0 ((field q.desc.imm 0 32 : BitVec 32).toNat / 8)) rest) fun j => decide (j = i))) := by
  show execRawCaptureEnd n samples rest s = _
  unfold execRawCaptureEnd
  rw [captured]
  dsimp only
  rw [found]
  dsimp only
  rw [open']
  rfl

/-- RAW_CAPTURE_END delivers the samples, counts the failures on them, and returns the source (R489, R508). -/
theorem rawCaptureEnd_delivers (quiet : Quiet s) (routes : RoutesGood s) (captured : s.ns[n].capture = some i)
    (found : findReq s i = some q) (open' : q.done = none) (state : s.ns[n].state = .diverted)
    (alone : ∀ m : NsId, m ≠ n → s.ns[m].capture ≠ some i) (samples : List Byte) (rest : List Bool) :
    let bs := slice samples 0 ((field q.desc.imm 0 32 : BitVec 32).toNat / 8)
    tooLongOut q.desc bs.length = false → Ends (.rawCaptureEnd n samples rest) s fun t =>
      OutcomeIs t i 0 0 bs.length (captureBits s.ns[n] (unpackBits bs)).2 ∧ StoresOf t i = storesOf s q bs ∧
      t.ns[n].capture = none ∧ t.ns[n].state = if s.ns[n].wasRun then .retest else .failed := by
  intro bs fits
  obtain ⟨calm, self, others, outcome, stores⟩ := captureDelivered_answers (n := n) found fits rest
  obtain ⟨state', capture, wasRun⟩ := captureTested_keeps s.ns[n] (unpackBits bs) rest
  have row := exec_rawCaptureEnd captured found open' samples rest
  generalize captureDelivered s n q bs rest = v at calm self others outcome stores row
  have ended : SourceIs n (captureEnded v.ns[n]) v (endCapture v fun j => decide (j = i)) := by
    refine endCapture_source ?_ ?_ fun m other => ?_
    · rw [self, capture, captured]
    · rw [self, state', state]
    · rw [others m other]
      exact alone m other
  have request := findReq_congr ended.reqs i
  refine ⟨_, row, ?_⟩
  rw [(calm.trans ended.calm).settle quiet routes]
  refine ⟨by rw [OutcomeIs, request]; exact outcome, by rw [StoresOf, request]; exact stores, by rw [ended.self]; rfl, ?_⟩
  rw [ended.self, ← wasRun, ← self]
  rfl

end

/-- Settles O36: each draw and each opcode by the branch that its hypotheses choose, with what the DRBG's work, a wait and a
capture leave of the requests. -/
theorem drawsAndRandomOpcodes : Obligations.DrawsAndRandomOpcodes := by
  intro s quiet routes waits
  refine ⟨fun i q found started open' plain fewer => ?_, fun c e l urgent root may open' queue => entropyDraw_urgent urgent root may open' queue,
    fun c waiting => entropyWaitExpiry_ends waiting, fun i q src runs => ?_, fun i q src runs => ?_, fun i q src runs => ?_,
    fun n i q samples rest captured found open' state alone =>
      rawCaptureEnd_delivers quiet routes captured found open' state alone samples rest⟩
  · have may := mayDraw_request found started open' plain fewer
    obtain ⟨starves, draws⟩ := exec_entropyDraw may.1
    refine ⟨fun e l serves queue enough => entropyDraw_request found may serves queue enough, fun serves few new => ?_,
      fun fenced => ⟨_, starves fenced, starve_request found open'⟩⟩
    exact ⟨_, (draws serves (by simp) may.2).1 few, (await_waits serves new).1⟩
  · refine ⟨fun plain => rngGet_answers quiet runs plain, fun pr x l st may seeds drbg => prGet_answers quiet routes runs pr may seeds drbg,
      fun pr unready serves new => run_waits quiet rfl runs serves new fun u running => ?_⟩
    obtain ⟨ent, -, may⟩ := drbg_unitsOnly running.units
    refine (if_pos pr).trans (if_pos ?_)
    rw [ent, may]
    rcases unready with idle | seeds
    · rw [idle]
      rfl
    · simp [seeds]
  · refine ⟨fun x l st on seeds drbg => rngReseed_reseeds quiet routes runs on seeds drbg,
      fun unready serves new => run_waits quiet rfl runs serves new fun u running => if_pos ?_⟩
    obtain ⟨ent, on, -⟩ := drbg_unitsOnly running.units
    rw [ent, on]
    rcases unready with off | seeds
    · rw [off]
      rfl
    · simp [seeds]
  · intro n both idle
    have row : exec (.rngRaw i) s = runOp s i 0x68 rngRawRun := rfl
    refine ⟨fun usable => ends_of_run quiet row runs fun u running => ?_, fun alone working => fails_of_run quiet row runs fun u running => ?_⟩
    all_goals
      have ns : u.ns = s.ns := by rw [running.units]
      obtain ⟨begins, refuses⟩ := rngRawRun_cases (s := u) (q := q) (by rwa [ns]) src
      rw [ns] at begins refuses
    · obtain ⟨new, run⟩ := begins usable
      have source := beginCapture_diverts u q n (by rwa [ns])
      rw [ns] at source
      rw [run]
      refine ⟨source.calm.hlt (routesGood_congr (by rw [running.units]) routes), source.self, ?_, ?_⟩
      · rw [source.reqs, running.units]
      · rw [source.calm.hlt (routesGood_congr (by rw [running.units]) routes), running.units]
    · exact refuses alone working

end Sys2Proof.Entropy

namespace Sys2Proof.Manger
open Sys2Proof.Machine Sys2Proof.Safety Sys2Proof.Waking Sys2Proof.HostLink Sys2Proof.Rings Sys2Proof.TackRoom
open Sys2Proof.Ciphers Sys2Proof.BigNumbers Sys2Proof.Entropy

/-! ### What an operation of the memory pool finds and leaves (R539-R547) -/

section
variable {c : Instr} {s u t : State} {i op : Nat} {q : Req} {src bs : List Byte} {run : State → Req → List Byte → State}
  {result : Nat}

/-- What the Manger holds and how local memory reads depends on nothing of the units. -/
theorem mangerReads_unitsOnly (h : UnitsOnly s u) (q : Req) (a : Nat) :
    redReady u a = redReady s a ∧ tallyBy u q = tallyBy s q ∧ accessHeld u a = accessHeld s a ∧
      (∀ n, coRead u a n = coRead s a n) ∧ (∀ n, coPoisoned u a n = coPoisoned s a n) ∧ ∀ n, linesIn u a n = linesIn s a n := by
  rw [h]
  exact ⟨rfl, rfl, rfl, fun _ => rfl, fun _ => rfl, fun _ => rfl⟩

/-- A command whose operation, on a request that runs, puts out bytes that fit. -/
theorem answers_of_run (quiet : Quiet s) (row : exec c s = runOp s i op run) (runs : RunsOn s i op q src)
    (fits : tooLongOut q.desc bs.length = false) (operates : ∀ u, run u q src = output u q bs result) : Answers c s i q bs result :=
  ends_of_run quiet row runs fun u running => by
    rw [operates u]
    exact output_fits running fits result

/-- A command whose operation, where its unit's crib was used, leaves the Halter and ends with a property. -/
theorem ends_on_crib {p : State → Prop} (quiet : Quiet s) (row : exec c s = runOp s i op run) (runs : RunsOn s i op q src)
    (hlt : (run (cribUsed s q) q src).hlt = (cribUsed s q).hlt) (ended : p (run (cribUsed s q) q src)) : Ends c s p := by
  obtain ⟨-, -, -, kept, -, -⟩ := (running_cribUsed runs).leaves
  refine ⟨_, row.trans (runOp_runsOn runs run), ?_⟩
  rwa [settle_of_quiet (by rw [hlt, kept]; exact quiet)]

/-- A request that ends well after what it stored took effect on local memory (R247). -/
def effectDone (t : State) (i outLen result : Nat) (stores : List Store) : State :=
  finish (setReq t i fun x => { x with effect := true }) i 0 0 outLen result stores

/-- Its outcome; the Halter, local memory and the Manger are as the store left them. -/
theorem effectDone_ends (found : findReq u i = some q) (stored : PutOnly u t) (outLen result : Nat) (stores : List Store) :
    (effectDone t i outLen result stores).hlt = u.hlt ∧ OutcomeIs (effectDone t i outLen result stores) i 0 0 outLen result ∧
      (findReq (effectDone t i outLen result stores) i).map (·.effect) = some true ∧
      (effectDone t i outLen result stores).dram = t.dram ∧ (effectDone t i outLen result stores).mgr = t.mgr := by
  have kept : t.hlt = u.hlt ∧ t.reqs = u.reqs := by
    rw [stored]
    exact ⟨rfl, rfl⟩
  obtain ⟨hlt, reqs⟩ := kept
  have id := findReq_id found
  have effect : findReq (setReq t i fun x => { x with effect := true }) i = some { q with effect := true } :=
    findReq_setReq ((findReq_congr reqs i).trans found) id
  obtain ⟨outcome, -⟩ := outcome_finish effect 0 0 outLen result stores
  have done : findReq (effectDone t i outLen result stores) i = _ := findReq_setReq effect id
  refine ⟨hlt, outcome, ?_, rfl, rfl⟩
  rw [done]
  rfl

/-! ### COPY, FILL and TALLY64_READ (R545, R546) -/

/-- The bytes that COPY writes: its source, or free ones where it overlaps (R546). -/
def copyBytes (s : State) (d : Desc) (src : List Byte) : List Byte :=
  if copyOverlaps d then freeBytes s src.length else src

/-- They are as many as the source. -/
theorem copyBytes_length (s : State) (d : Desc) (src : List Byte) : (copyBytes s d src).length = src.length := by
  unfold copyBytes
  split
  · rw [freeBytes, List.length_map, List.length_range]
  · rfl

/-- COPY puts those bytes out, with the free values used up where it overlaps. -/
theorem copyRun_eq (running : Running s u i q) (src : List Byte) :
    ∃ t, OutputKept u t ∧ t.hlt = u.hlt ∧ copyRun u q src = output t q (copyBytes s q.desc src) 0 := by
  have free : copyBytes s q.desc src = copyBytes u q.desc src := by
    rw [running.units]
    rfl
  rw [free]
  unfold copyRun copyBytes
  split
  · exact ⟨takeFree u src.length, ⟨rfl, fun _ _ => rfl, Calm.of_eq rfl rfl⟩, rfl, rfl⟩
  · exact ⟨u, ⟨rfl, fun _ _ => rfl, Calm.refl u⟩, rfl, rfl⟩

/-- COPY answers with them. -/
theorem copy_answers (quiet : Quiet s) (runs : RunsOn s i 0x80 q src) (fits : tooLongOut q.desc src.length = false) :
    Answers (.copy i) s i q (copyBytes s q.desc src) 0 :=
  ends_of_run quiet rfl runs fun u running => by
    obtain ⟨t, kept, told, run⟩ := copyRun_eq running src
    obtain ⟨hlt, -, -, -, -, outcome, stores⟩ := output_ends (bs := copyBytes s q.desc src) running.found kept
      (by rwa [copyBytes_length]) 0
    obtain ⟨-, -, same⟩ := outputs_unitsOnly running.units q
    rw [run]
    exact ⟨hlt.trans told, outcome, stores.trans (same _)⟩

/-! ### TALLY64_ADD (R539, R543) -/

/-- The old value that a TALLY64_ADD returns, where it has a destination (R539). -/
def tallyOut (d : Desc) (src : List Byte) : List Byte := if d.dstLen = 0 then [] else src

/-- The word that it leaves. -/
def tallyNew (d : Desc) (src : List Byte) : BitVec 64 :=
  tallyOp (bit d.mode 0) (bit d.mode 1) (BitVec.ofNat 64 (leNat src)) d.imm

/-- It adds, adds with saturation, or sets. -/
theorem tallyNew_eq (d : Desc) (src : List Byte) : tallyNew d src =
    if bit d.mode 1 then d.imm
    else if bit d.mode 0 ∧ 2 ^ 64 ≤ (BitVec.ofNat 64 (leNat src)).toNat + d.imm.toNat then BitVec.allOnes 64
    else BitVec.ofNat 64 (leNat src) + d.imm := by
  simp only [tallyNew, tallyOp, Bool.and_eq_true, decide_eq_true_eq]

/-- TALLY64_ADD stores the new word and ends, once no crib holds the line; before, it starts its invalidation. -/
theorem tallyAddRun_cases (u : State) (q : Req) (src : List Byte) :
    let put := localPut u (tallyBy u q) q.desc.src (leBytes 8 (tallyNew q.desc src).toNat)
    (redReady u q.desc.src = false → tallyAddRun u q src = redInval u q.desc.src) ∧
    (redReady u q.desc.src = true → tooLongOut q.desc (tallyOut q.desc src).length = false → ∃ stores,
      tallyAddRun u q src =
        effectDone put q.id (tallyOut q.desc src).length ((BitVec.ofNat 64 (leNat src)).toNat % 2 ^ 32) stores) := by
  intro put
  unfold tallyAddRun
  refine ⟨fun held => ?_, fun ready fits =>
    ⟨storesOf (setReq put q.id fun x => { x with effect := true }) q (tallyOut q.desc src), ?_⟩⟩
  · simp only [held, Bool.not_false, if_true]
  · simp only [ready, Bool.not_true, Bool.false_eq_true, if_false]
    change output _ q (tallyOut q.desc src) _ = _
    unfold output
    rw [fits, Bool.and_false, if_neg Bool.false_ne_true]
    rfl

/-- TALLY64_ADD as a command. -/
theorem tally64Add_ends (quiet : Quiet s) (runs : RunsOn s i 0x84 q src) :
    let put := localPut (cribUsed s q) (tallyBy s q) q.desc.src (leBytes 8 (tallyNew q.desc src).toNat)
    (redReady s q.desc.src = true → tooLongOut q.desc (tallyOut q.desc src).length = false → Ends (.tally64Add i) s fun t =>
      OutcomeIs t i 0 0 (tallyOut q.desc src).length ((BitVec.ofNat 64 (leNat src)).toNat % 2 ^ 32) ∧
        (findReq t i).map (·.effect) = some true ∧ t.dram = put.dram ∧ t.mgr = put.mgr) ∧
    (redReady s q.desc.src = false → exec (.tally64Add i) s = .next (settle (redInval (cribUsed s q) q.desc.src))) := by
  have running := running_cribUsed runs
  obtain ⟨same, on, -⟩ := mangerReads_unitsOnly running.units q q.desc.src
  obtain ⟨waits, done⟩ := tallyAddRun_cases (cribUsed s q) q src
  rw [same, on, running.id] at done
  rw [same] at waits
  refine ⟨fun free fits => ?_, fun held => ?_⟩
  · obtain ⟨stores, run⟩ := done free fits
    obtain ⟨hlt, ended⟩ := effectDone_ends running.found (localPut_only ..) _ _ stores
    exact ends_on_crib quiet rfl runs ((congrArg _ run).trans hlt) (by rwa [run])
  · exact (runOp_runsOn runs tallyAddRun).trans (by rw [waits held])

/-! ### LINEADD (R540, R541, R543) -/

/-- The sum of a line, the addend and the carry in. -/
def lineTotal (s : State) (d : Desc) (src : List Byte) : Nat :=
  leNat (coRead s d.dst 512) + leNat src + if bit d.imm 0 then 1 else 0

/-- LINEADD of a line that an access reaches: refused where it is poisoned, an invalidation started where cribs hold it, and
its sum stored otherwise. -/
theorem lineaddRun_cases (u : State) (q : Req) (src : List Byte) (reached : accessHeld u q.desc.dst = false) :
    let put := localPut u (byReq q) q.desc.dst (leBytes 512 (lineTotal u q.desc src % 2 ^ 4096))
    (coPoisoned u q.desc.dst 512 = true → lineaddRun u q src = failReq u q.id 0x70 0) ∧
    (coPoisoned u q.desc.dst 512 = false → redReady u q.desc.dst = false → lineaddRun u q src = redInval u q.desc.dst) ∧
    (coPoisoned u q.desc.dst 512 = false → redReady u q.desc.dst = true →
      lineaddRun u q src = effectDone put q.id 512 (lineTotal u q.desc src / 2 ^ 4096) []) := by
  intro put
  unfold lineaddRun
  simp only [reached, Bool.false_eq_true, if_false]
  refine ⟨fun bad => if_pos bad, fun good held => ?_, fun good ready => ?_⟩
  · simp only [good, held, Bool.not_false, Bool.false_eq_true, if_false, if_true]
  · simp only [good, ready, Bool.not_true, Bool.false_eq_true, if_false]
    rfl

/-- LINEADD as a command. -/
theorem lineadd_ends (quiet : Quiet s) (runs : RunsOn s i 0x86 q src) (reached : accessHeld s q.desc.dst = false) :
    let put := localPut (cribUsed s q) (byReq q) q.desc.dst (leBytes 512 (lineTotal s q.desc src % 2 ^ 4096))
    (coPoisoned s q.desc.dst 512 = true → Fails (.lineadd i) s i 0x70 0) ∧
    (coPoisoned s q.desc.dst 512 = false → redReady s q.desc.dst = false →
      exec (.lineadd i) s = .next (settle (redInval (cribUsed s q) q.desc.dst))) ∧
    (coPoisoned s q.desc.dst 512 = false → redReady s q.desc.dst = true → Ends (.lineadd i) s fun t =>
      OutcomeIs t i 0 0 512 (lineTotal s q.desc src / 2 ^ 4096) ∧ (findReq t i).map (·.effect) = some true ∧
        t.dram = put.dram ∧ t.mgr = put.mgr) := by
  have running := running_cribUsed runs
  obtain ⟨same, -, held, reads, poisoned, -⟩ := mangerReads_unitsOnly running.units q q.desc.dst
  have total : lineTotal (cribUsed s q) q.desc src = lineTotal s q.desc src := by unfold lineTotal; rw [reads]
  have cases := lineaddRun_cases (cribUsed s q) q src (held.trans reached)
  rw [same, poisoned, total, running.id] at cases
  obtain ⟨refuses, waits, done⟩ := cases
  refine ⟨fun bad => ?_, fun good held => ?_, fun good free => ?_⟩
  · have run := refuses bad
    exact ends_on_crib quiet rfl runs (by rw [run]; rfl) (by rw [run]; exact outcome_failReq running.found ..)
  · exact (runOp_runsOn runs lineaddRun).trans (by rw [waits good held])
  · have run := done good free
    obtain ⟨hlt, ended⟩ := effectDone_ends running.found (localPut_only ..) 512 (lineTotal s q.desc src / 2 ^ 4096) []
    exact ends_on_crib quiet rfl runs ((congrArg _ run).trans hlt) (by rwa [run])

/-! ### FLUSH (R547) -/

/-- A line flushed: only the Manger and the channels change. -/
theorem flushLine_stored (inval : Bool) (s : State) (x : Line) : StoredOnly s (flushLine inval s x) := by
  have back := writeBack_stored s x
  have change (m : Mgr) : StoredOnly (writeBack s x) { writeBack s x with mgr := m } := rfl
  unfold flushLine
  exact StoredOnly.ite (back.trans (change _)) (back.trans (change _))

/-- FLUSH of a range whose lines are all settled writes them back and counts the dirty ones. -/
theorem flushRun_settled {u : State} {q : Req} (reached : accessHeld u q.desc.dst = false)
    (settled : (linesIn u q.desc.dst q.desc.dstLen).all (flushable (bit q.desc.mode 0)) = true) (src : List Byte) :
    flushRun u q src = finish ((linesIn u q.desc.dst q.desc.dstLen).foldl (flushLine (bit q.desc.mode 0)) u) q.id 0 0 0
      ((linesIn u q.desc.dst q.desc.dstLen).filter fun x => decide (x.dirty ≠ 0)).length [] := by
  unfold flushRun
  simp only [reached, settled, Bool.false_eq_true, if_false, if_true]

/-- FLUSH as a command. -/
theorem flush_ends (quiet : Quiet s) (runs : RunsOn s i 0x88 q src) (reached : accessHeld s q.desc.dst = false) :
    let ls := linesIn s q.desc.dst q.desc.dstLen
    let flushed := ls.foldl (flushLine (bit q.desc.mode 0)) (cribUsed s q)
    ls.all (flushable (bit q.desc.mode 0)) = true → Ends (.flush i) s fun t =>
      OutcomeIs t i 0 0 0 (ls.filter fun x => decide (x.dirty ≠ 0)).length ∧ t.dram = flushed.dram ∧ t.mgr = flushed.mgr := by
  intro ls flushed settled
  have running := running_cribUsed runs
  obtain ⟨-, -, held, -, -, lines⟩ := mangerReads_unitsOnly running.units q q.desc.dst
  have run := flushRun_settled (q := q) (held.trans reached) (by rwa [lines]) src
  rw [lines, running.id] at run
  have stored : StoredOnly (cribUsed s q) flushed := StoredOnly.foldl (flushLine_stored _) ls _
  obtain ⟨-, hlt, -⟩ := stored.leaves
  have found : findReq flushed i = some q := (findReq_congr (by rw [stored]) i).trans running.found
  refine ends_on_crib quiet rfl runs (by rw [run]; exact hlt) ?_
  rw [run]
  exact ⟨(outcome_finish found ..).1, rfl, rfl⟩

end

/-- Settles O40: each opcode by the equation of its operation where its unit's crib was used. -/
theorem memoryOpcodesAnswer : Obligations.MemoryOpcodesAnswer := by
  intro s i q src quiet d u
  refine ⟨fun runs fits => copy_answers quiet runs fits, fun runs fits => answers_of_run quiet rfl runs ?_ fun _ => rfl,
    fun runs fits => answers_of_run quiet rfl runs fits fun _ => rfl, fun runs => ?_,
    fun runs reached => lineadd_ends quiet runs reached, fun runs reached => flush_ends quiet runs reached⟩
  · rwa [List.length_map, List.length_range]
  · have ends := tally64Add_ends quiet runs
    rw [tallyNew_eq] at ends
    exact ends

end Sys2Proof.Manger

namespace Sys2Proof.Manger
open Sys2Proof.Machine Sys2Proof.Safety

/-! ### A settled line that holds a write -/

/-- Line 0, Shared read-only, CLEAN with every sector valid and 0, and with a write of 1 to its first byte still held: no
invariant of the Manger (R538, R556) is a premise of the statement. -/
def holdingLine : Line :=
  { line := 0, state := .clean, owner := none, writer := none, type := 2, foreign := false, valid := 0xFF, dirty := 0, poison := 0,
    data := 0, presence := 0, acks := 0, writes := [(0, 1)], since := 0, fills := [], evict := false, lastUse := 0 }

/-- The device after reset with every domain ON and that line cached. -/
def holdingState : State :=
  { State.reset with pds := Vector.replicate 64 { Pd.reset with state := .on }, mgr := { Mgr.reset with lines := [holdingLine] } }

/-- The line is there, its unit is powered and its crib is empty. -/
theorem holdingState_premises : findLine holdingState 0 = some holdingLine ∧ pdPowered holdingState (unitPd 0) = true ∧
    holdingState.units[(0 : UnitId)].crib = [] := ⟨rfl, rfl, rfl⟩

/-- An access accepted now reads the held write (R541, R615). -/
theorem holdingState_reads : lineByte (ofLineBytes (coRead holdingState (lineAddr 0) 512)) 0 = 1 := by decide +kernel

/-- CRIB_FILL sends the slice's data, to which the write is not yet applied (R549, R556). -/
theorem holdingState_cribFill :
    ∃ t, exec (.cribFill 0 0) holdingState = .next t ∧ t.units[(0 : UnitId)].crib.map (fun c => lineByte c.data 0) = [0] :=
  ⟨_, rfl, by decide +kernel⟩

/-- Refutes O41: the statement has CRIB_FILL of any CLEAN or DIRTY line send the bytes that an access reads; but those take in
the writes that the line holds, and the crib is sent the line's data, as `holdingState` shows. -/
theorem not_linesAndSlicesAct : ¬ Obligations.LinesAndSlicesAct := by
  intro h
  obtain ⟨lines, -⟩ := h
  obtain ⟨found, powered, empty⟩ := holdingState_premises
  obtain ⟨-, ofLine⟩ := lines holdingState 0
  obtain ⟨-, -, -, -, fills⟩ := ofLine holdingLine found
  obtain ⟨sends, -⟩ := fills 0 powered rfl
  obtain ⟨t, filled, -, ⟨c, crib, -, data⟩, -⟩ := sends (.inl rfl) empty
  obtain ⟨u, sent, first⟩ := holdingState_cribFill
  rw [filled] at sent
  cases sent
  rw [crib, List.map_singleton, data, holdingState_reads] at first
  exact absurd first (by decide)

end Sys2Proof.Manger

-- ==== Invariant ====
/-! Local memory stays canonical and the queue stands, whatever a command does: O1, O2, O4 and O5. A function that touches
neither is `Still`; one that stores to local memory is `Sound`, for every store goes through `Memory.wf`-keeping writes. -/

namespace Sys2Proof.Invariant

open Sys2Proof.Machine Sys2Proof.Safety Sys2Proof.Waking Sys2Proof.HostLink Sys2Proof.Rings

/-! ### What leaves the queue and local memory alone -/

/-- `t` has the queue and the local memory of `s`. -/
@[simp] abbrev Still (s t : State) : Prop := t.pending = s.pending ∧ t.dram = s.dram

@[simp] theorem ite_pending {c : Prop} [Decidable c] (s t : State) :
    (if c then s else t).pending = if c then s.pending else t.pending := by
  split <;> rfl

@[simp] theorem ite_dram {c : Prop} [Decidable c] (s t : State) : (if c then s else t).dram = if c then s.dram else t.dram := by
  split <;> rfl

theorem foldl_still {α : Type} {f : State → α → State} (hf : ∀ s a, Still s (f s a)) (l : List α) (s : State) :
    Still s (l.foldl f s) := by
  induction l generalizing s with
  | nil => exact ⟨rfl, rfl⟩
  | cons a l ih => exact ⟨(ih _).1.trans (hf s a).1, (ih _).2.trans (hf s a).2⟩

@[simp] theorem foldl_pending {α : Type} {f : State → α → State} (hf : ∀ s a, (f s a).pending = s.pending) (l : List α)
    (s : State) : (l.foldl f s).pending = s.pending := by
  induction l generalizing s with
  | nil => rfl
  | cons a l ih => exact (ih _).trans (hf s a)

@[simp] theorem foldl_dram {α : Type} {f : State → α → State} (hf : ∀ s a, (f s a).dram = s.dram) (l : List α) (s : State) :
    (l.foldl f s).dram = s.dram := by
  induction l generalizing s with
  | nil => rfl
  | cons a l ih => exact (ih _).trans (hf s a)

@[simp] theorem takeFree_still (s : State) (n : Nat) : Still s (takeFree s n) := ⟨rfl, rfl⟩

@[simp] theorem abandonOwn_still (s : State) (copyB : Bool) : Still s (abandonOwn s copyB) := ⟨rfl, rfl⟩

@[simp] theorem abandonLc_still (s : State) : Still s (abandonLc s) := by
  unfold abandonLc
  dsimp only
  split <;> simp

@[simp] theorem abandonRoot_still (s : State) : Still s (abandonRoot s) := by
  simp [abandonRoot]

@[simp] theorem abandonSlot_still (s : State) : Still s (abandonSlot s) := by
  unfold abandonSlot
  split <;> simp

@[simp] theorem abandonOtp_still (s : State) : Still s (abandonOtp s) := by
  simp [abandonOtp]

@[simp] theorem setUnit_still (s : State) (u : UnitId) (g : UnitState → UnitState) : Still s (setUnit s u g) :=
  ⟨rfl, rfl⟩

@[simp] theorem katChoose_still (s : State) (i : Fin 3) : Still s (katChoose s i) := by
  unfold katChoose
  split <;> simp

@[simp] theorem katNext_still (s : State) : Still s (katNext s) :=
  foldl_still (fun s i => by dsimp only; split <;> simp) _ _

@[simp] theorem dropHeld_still (s : State) : Still s (dropHeld s) := by
  simp [dropHeld]

@[simp] theorem dropCoop_still (s : State) (p : CoopFor → Bool) : Still s (dropCoop s p) := by
  unfold dropCoop
  dsimp only
  split <;> simp

@[simp] theorem dropDraws_still (s : State) (p : Nat → Bool) : Still s (dropDraws s p) := ⟨rfl, rfl⟩

@[simp] theorem setEvFn_still (s : State) (f : Fn) (g : EvtFn → EvtFn) : Still s (setEvFn s f g) := ⟨rfl, rfl⟩

@[simp] theorem setEv_still (s : State) (f : Fn) (k : EvId) (g : EvSrc → EvSrc) : Still s (setEv s f k g) :=
  ⟨rfl, rfl⟩

@[simp] theorem setFn_still (s : State) (f : Fn) (g : FnState → FnState) : Still s (setFn s f g) := ⟨rfl, rfl⟩

@[simp] theorem noteEv_still (s : State) (f : Fn) (k : EvId) : Still s (noteEv s f k) := by
  simp [noteEv]

@[simp] theorem raiseHs_still (s : State) (k : HsId) (st : Option StallId) : Still s (raiseHs s k st) :=
  ⟨rfl, rfl⟩

@[simp] theorem raiseOn_still (s : State) (f : Fn) (k : EvId) (alarm : Bool) : Still s (raiseOn s f k alarm) := by
  simp [raiseOn]

@[simp] theorem raiseEv_still (s : State) (k : EvId) (alarm : Bool := false) : Still s (raiseEv s k alarm) := by
  simp [raiseEv]

@[simp] theorem entEnter_still (s : State) (st : EntState) : Still s (entEnter s st) := by
  simp [entEnter]

@[simp] theorem entZero_still (s : State) : Still s (entZero s) := ⟨rfl, rfl⟩

@[simp] theorem entUpdate_still (s : State) : Still s (entUpdate s) := by
  unfold entUpdate
  split <;> simp

@[simp] theorem setNs_still (s : State) (n : NsId) (g : Ns → Ns) : Still s (setNs s n g) := ⟨rfl, rfl⟩

@[simp] theorem nsEnter_still (s : State) (n : NsId) (st : NsState) : Still s (nsEnter s n st) := by
  unfold nsEnter
  (repeat' split) <;> simp

@[simp] theorem endCapture_still (s : State) (p : Nat → Bool) : Still s (endCapture s p) :=
  foldl_still (fun s n => by dsimp only; split <;> [split_ifs; skip] <;> simp) _ _

@[simp] theorem release_still (s : State) (p : Resv → Bool) : Still s (release s p) := ⟨rfl, rfl⟩

@[simp] theorem releaseUnits_still (s : State) (ids : List Nat) : Still s (releaseUnits s ids) := by
  unfold releaseUnits; exact ⟨rfl, rfl⟩

@[simp] theorem abortStall_still (s : State) (n : StallId) : Still s (abortStall s n) := by
  simp [abortStall]

@[simp] theorem setRing_still (s : State) (r : RingId) (g : Ring → Ring) : Still s (setRing s r g) := by
  simp [setRing]

@[simp] theorem setStall_still (s : State) (n : StallId) (g : Stall → Stall) : Still s (setStall s n g) :=
  ⟨rfl, rfl⟩

@[simp] theorem acceptTail_still (s : State) (r : RingId) : Still s (acceptTail s r) := by
  unfold acceptTail
  dsimp only
  split <;> simp

@[simp] theorem acceptKept_still (s : State) (p : RingId → Bool) : Still s (acceptKept s p) := by
  simp [acceptKept]

@[simp] theorem notePlaced_still (s : State) (p : Pool) (n : StallId) (r : RingId) : Still s (notePlaced s p n r) :=
  ⟨rfl, rfl⟩

@[simp] theorem zeroKeyReg_still (s : State) (u : UnitId) : Still s (zeroKeyReg s u) := by
  simp [zeroKeyReg]

@[simp] theorem clearOther_still (s : State) (us : List UnitId) (n : StallId) (d : Desc) : Still s (clearOther s us n d) := by
  simp [clearOther]

@[simp] theorem pageWritten_still (s : State) (a : Nat) : Still s (pageWritten s a) := ⟨rfl, rfl⟩

@[simp] theorem countBypass_still (s : State) (who : Option StallId) : Still s (countBypass s who) := by
  unfold countBypass
  split <;> simp

@[simp] theorem putLine_still (s : State) (x : Line) : Still s (putLine s x) := ⟨rfl, rfl⟩

@[simp] theorem startInval_still (s : State) (x : Line) (ws : List (Nat × Byte)) : Still s (startInval s x ws) :=
  ⟨rfl, rfl⟩

@[simp] theorem logDeny_still (s : State) (who : Option StallId) (r : PkResult) : Still s (logDeny s who r) := by
  unfold logDeny
  (repeat' split) <;> simp

@[simp] theorem pumpReads_still (s : State) : Still s (pumpReads s) := by
  rw [(pumpReads_moves s).only]; exact ⟨rfl, rfl⟩

@[simp] theorem issueRead_still (s : State) (f : Fn) (n : StallId) (ring : RingId) (what : ReadFor) (spans : List (Nat × Nat)) (pasid : BitVec 20) (alarm : Bool) :
    Still s (issueRead s f n ring what spans pasid alarm) := by
  simp [issueRead]

@[simp] theorem issueReads_still (s : State) (q : Req) : Still s (issueReads s q) := by
  unfold issueReads
  (repeat' split) <;> simp

@[simp] theorem loadReg_still (s : State) (u : UnitId) (n : StallId) (d : Desc) (k : Key) (tag : List Byte) :
    Still s (loadReg s u n d k tag) :=
  ⟨rfl, rfl⟩

@[simp] theorem loadUnits_still (s : State) (q : Req) (k : Key) (tag : List Byte) : Still s (loadUnits s q k tag) := by
  simp [loadUnits]

@[simp] theorem occupy_still (s : State) (i : Nat) (us : List UnitId) : Still s (occupy s i us) := by
  cases us with
  | nil => exact ⟨rfl, rfl⟩
  | cons u us => exact foldl_still (fun s v => by simp) _ _

@[simp] theorem setReq_still (s : State) (i : Nat) (g : Req → Req) : Still s (setReq s i g) := ⟨rfl, rfl⟩

@[simp] theorem takeCandidate_still (s : State) (r : RingId) (g : List BufD) (qs : List Req) :
    Still s (takeCandidate s r g qs) := by
  simp [takeCandidate]

@[simp] theorem finish_still (s : State) (i : Nat) (status detail : Byte) (outLen result : Nat) (stores : List Store) :
    Still s (finish s i status detail outLen result stores) :=
  ⟨rfl, rfl⟩

@[simp] theorem failReq_still (s : State) (i : Nat) (status detail : Byte) : Still s (failReq s i status detail) := by
  simp [failReq]

@[simp] theorem output_still (s : State) (q : Req) (bs : List Byte) (result : Nat) : Still s (output s q bs result) := by
  simp [output]

@[simp] theorem cipherBytes_still (s : State) (q : Req) (bs : List Byte) : Still s (cipherBytes s q bs).1 := by
  unfold cipherBytes; split <;> simp

@[simp] theorem aeadOpen_still (s : State) (q : Req) (src : List Byte) : Still s (aeadOpen s q src) := by
  unfold aeadOpen
  dsimp only
  split <;> simp

@[simp] theorem cipherOut_still (s : State) (q : Req) (bs : List Byte) (result : Nat) : Still s (cipherOut s q bs result) := by
  simp [cipherOut]

@[simp] theorem aeadSeal_still (s : State) (q : Req) (src : List Byte) : Still s (aeadSeal s q src) := by
  simp [aeadSeal]

@[simp] theorem missWait_still (s : State) (l : LineNo) (who : Option StallId) (kind : AccKind) :
    Still s (missWait s l who kind) :=
  ⟨rfl, rfl⟩

@[simp] theorem dropLine_still (s : State) (l : LineNo) : Still s (dropLine s l) := ⟨rfl, rfl⟩

@[simp] theorem replaceLine_still (s : State) (x : Line) : Still s (replaceLine s x).1 := by
  unfold replaceLine; split_ifs <;> simp

@[simp] theorem allocAfter_still (s : State) (l : LineNo) (who : Option StallId) (kind : AccKind) (v : Option Line) :
    Still s (allocAfter s l who kind v) := by
  cases v <;> simp [allocAfter]

@[simp] theorem answer_still (s : State) (r : Resp) : Still s (answer s r) := ⟨rfl, rfl⟩

@[simp] theorem applyFixed_still (s : State) : Still s (applyFixed s) := by
  unfold applyFixed
  dsimp only
  split <;> simp

@[simp] theorem imageRefill_still (s : State) : Still s (imageRefill s) := ⟨rfl, rfl⟩

@[simp] theorem onPf1_still (s : State) (f : Fn) (t : State) (h : Still s t) : Still s (onPf1 s f t) := by
  cases f <;> simp [onPf1, h]

@[simp] theorem setPd_still (s : State) (d : PdId) (g : Pd → Pd) : Still s (setPd s d g) := ⟨rfl, rfl⟩

@[simp] theorem wake_still (s : State) (d : PdId) (demand : Bool) : Still s (wake s d demand) := ⟨rfl, rfl⟩

@[simp] theorem demandWake_still (s : State) (g : ChanId) : Still s (demandWake s g) := by
  simp [demandWake]

@[simp] theorem letGo_still (s : State) (d : PdId) : Still s (letGo s d) := by
  unfold letGo
  split <;> simp

@[simp] theorem clearStarved_still (s : State) : Still s (clearStarved s) := ⟨rfl, rfl⟩

@[simp] theorem pdMove_still (s : State) (d : PdId) (st : PdState) : Still s (pdMove s d st) := ⟨rfl, rfl⟩

@[simp] theorem gateStep_still (s : State) (d : PdId) : Still s (gateStep s d) := by
  simp [gateStep]

@[simp] theorem holdZero_still (s : State) (d : PdId) : Still s (holdZero s d) := by
  unfold holdZero
  split <;> simp

@[simp] theorem pdRefuse_still (s : State) (f : Fn) (d : PdId) : Still s (pdRefuse s f d) := by
  unfold pdRefuse
  split <;> simp

@[simp] theorem offRequest_still (s : State) (f : Fn) (d : PdId) : Still s (offRequest s f d) := by
  unfold offRequest
  dsimp only
  (repeat' split) <;> simp

@[simp] theorem pdArrived_still (s : State) (d : PdId) : Still s (pdArrived s d) := by
  simp [pdArrived]

@[simp] theorem onRequest_still (s : State) (d : PdId) : Still s (onRequest s d) := by
  unfold onRequest
  dsimp only
  (repeat' split) <;> simp

@[simp] theorem takeWaiting_still (s : State) : Still s (takeWaiting s) :=
  foldl_still (fun s d => by dsimp only; split <;> [skip; split_ifs] <;> simp) _ _

@[simp] theorem toReady_still (s : State) : Still s (toReady s) := by
  simp [toReady]

@[simp] theorem wrBootCtl_still (s : State) (f : Fn) (v m : BitVec 64) : Still s (wrBootCtl s f v m) := by
  simp [wrBootCtl]

@[simp] theorem wrDmaCtl_still (s : State) (f : Fn) (v : BitVec 64) : Still s (wrDmaCtl s f v) := ⟨rfl, rfl⟩

@[simp] theorem wrErrLog_still (s : State) (f : Fn) (a : BitVec 64) : Still s (wrErrLog s f a) := by
  simp [wrErrLog]

@[simp] theorem wrLtrActive_still (s : State) (v : BitVec 64) : Still s (wrLtrActive s v) := ⟨rfl, rfl⟩

@[simp] theorem wrLtrIdle_still (s : State) (v : BitVec 64) : Still s (wrLtrIdle s v) := ⟨rfl, rfl⟩

@[simp] theorem noteAllEv_still (s : State) : Still s (noteAllEv s) :=
  foldl_still (fun s k => by dsimp only; split_ifs <;> simp) _ _

@[simp] theorem wrMsix_still (s : State) (f : Fn) (k : BitVec 10) (word : Fin 4) (v : BitVec 64) :
    Still s (wrMsix s f k word v) := by
  simp [wrMsix]

@[simp] theorem wrPwbCtl_still (s : State) (f : Fn) (v : BitVec 64) : Still s (wrPwbCtl s f v) := by
  simp [wrPwbCtl]

@[simp] theorem wrPwbStatus_still (s : State) (f : Fn) (a : BitVec 64) : Still s (wrPwbStatus s f a) := by
  simp [wrPwbStatus]

@[simp] theorem wrResetCause_still (s : State) (f : Fn) (a : BitVec 64) : Still s (wrResetCause s f a) := by
  simp [wrResetCause]

@[simp] theorem stopResume_still (s : State) : Still s (stopResume s) := by
  simp [stopResume]

@[simp] theorem wrStopCtl_still (s : State) (f : Fn) (a : BitVec 64) : Still s (wrStopCtl s f a) := by
  simp [wrStopCtl]

@[simp] theorem wrStray_still (s : State) (f : Fn) (a : BitVec 64) : Still s (wrStray s f a) := ⟨rfl, rfl⟩

@[simp] theorem wrWinBase_still (s : State) (v : BitVec 64) : Still s (wrWinBase s v) := ⟨rfl, rfl⟩

@[simp] theorem wrAlarmTb_still (s : State) (f : Fn) (n : StallId) (v : BitVec 64) : Still s (wrAlarmTb s f n v) := by
  simp [wrAlarmTb]

@[simp] theorem wrCplCtl_still (s : State) (f : Fn) (v : BitVec 64) : Still s (wrCplCtl s f v) := by
  simp [wrCplCtl]

@[simp] theorem wrDebugCtl_still (s : State) (v : BitVec 64) : Still s (wrDebugCtl s v) := ⟨rfl, rfl⟩

@[simp] theorem tkrErr_still (s : State) : Still s (tkrErr s) := ⟨rfl, rfl⟩

@[simp] theorem wrDomain_still (s : State) (f : Fn) (n : StallId) (v : BitVec 64) : Still s (wrDomain s f n v) := by
  unfold wrDomain
  (repeat' split) <;> simp

@[simp] theorem wrDspCtl_still (s : State) (f : Fn) (v : BitVec 64) : Still s (wrDspCtl s f v) := ⟨rfl, rfl⟩

@[simp] theorem wrDspStatus_still (s : State) (a : BitVec 64) : Still s (wrDspStatus s a) := ⟨rfl, rfl⟩

@[simp] theorem wrKatCtl_still (s : State) (v : BitVec 64) : Still s (wrKatCtl s v) := by
  simp [wrKatCtl]

@[simp] theorem wrLcCmd_still (s : State) (f : Fn) (v : BitVec 64) : Still s (wrLcCmd s f v) := by
  unfold wrLcCmd
  (repeat' split) <;> simp

@[simp] theorem wrOwnerHash_still (s : State) (j : Fin 6) (v : BitVec 64) : Still s (wrOwnerHash s j v) := by
  simp [wrOwnerHash]

@[simp] theorem wrOwnerKey_still (s : State) (j : Fin 12) (v : BitVec 64) : Still s (wrOwnerKey s j v) :=
  ⟨rfl, rfl⟩

@[simp] theorem wrProgAttr_still (s : State) (v : BitVec 64) : Still s (wrProgAttr s v) := ⟨rfl, rfl⟩

@[simp] theorem wrProgBlob_still (s : State) (v : BitVec 64) : Still s (wrProgBlob s v) := ⟨rfl, rfl⟩

@[simp] theorem progErr_still (s : State) (e : BitVec 4) : Still s (progErr s e) := ⟨rfl, rfl⟩

@[simp] theorem progStart_still (s : State) (k : SlotId) (v : Option (BitVec 256)) : Still s (progStart s k v) :=
  ⟨rfl, rfl⟩

@[simp] theorem progGo_still (s : State) (agree : Bool) : Still s (progGo s agree) := by
  unfold progGo
  dsimp only
  (repeat' split) <;> simp

@[simp] theorem wrProgCtl_still (s : State) (f : Fn) (v m : BitVec 64) (agree : Bool) : Still s (wrProgCtl s f v m agree) := by
  unfold wrProgCtl
  split <;> simp

@[simp] theorem wrProgStatus_still (s : State) (a : BitVec 64) : Still s (wrProgStatus s a) := ⟨rfl, rfl⟩

@[simp] theorem wrRingAddr_still (s : State) (f : Fn) (r : RingId) (reg : RingReg) (v : BitVec 64) :
    Still s (wrRingAddr s f r reg v) := by
  simp [wrRingAddr]

@[simp] theorem dropFetches_still (s : State) (p : RingId → Bool) : Still s (dropFetches s p) := ⟨rfl, rfl⟩

@[simp] theorem ringStop_still (s : State) (r : RingId) : Still s (ringStop s r) := by
  simp [ringStop]

@[simp] theorem wrRingCtl_still (s : State) (f : Fn) (r : RingId) (v : BitVec 64) : Still s (wrRingCtl s f r v) := by
  simp [wrRingCtl]

@[simp] theorem wrRingReg_still (s : State) (f : Fn) (r : RingId) (reg : RingReg) (v : BitVec 64) :
    Still s (wrRingReg s f r reg v) := by
  unfold wrRingReg
  split <;> simp

@[simp] theorem wrRingStatus_still (s : State) (f : Fn) (r : RingId) (a : BitVec 64) : Still s (wrRingStatus s f r a) := by
  simp [wrRingStatus]

@[simp] theorem wrSlotSel_still (s : State) (v : BitVec 64) : Still s (wrSlotSel s v) := ⟨rfl, rfl⟩

@[simp] theorem wrStallPin_still (s : State) (f : Fn) (n : StallId) (v : BitVec 64) : Still s (wrStallPin s f n v) := by
  simp [wrStallPin]

@[simp] theorem wrTkrCtl_still (s : State) (f : Fn) (v : BitVec 64) : Still s (wrTkrCtl s f v) := by
  unfold wrTkrCtl
  split <;> simp

@[simp] theorem wrTkrStatus_still (s : State) (a : BitVec 64) : Still s (wrTkrStatus s a) := ⟨rfl, rfl⟩

@[simp] theorem setMc_still (s : State) (c : ChanId) (g : Mc → Mc) : Still s (setMc s c g) := ⟨rfl, rfl⟩

@[simp] theorem wrCeThresh_still (s : State) (g : ChanId) (v : BitVec 64) : Still s (wrCeThresh s g v) := by
  simp [wrCeThresh]

@[simp] theorem wrEntCtl_still (s : State) (f : Fn) (v : BitVec 64) : Still s (wrEntCtl s f v) := by
  unfold wrEntCtl
  split <;> simp

@[simp] theorem wrEntStatus_still (s : State) (f : Fn) (a : BitVec 64) : Still s (wrEntStatus s f a) := by
  simp [wrEntStatus]

@[simp] theorem wrMcCtl_still (s : State) (f : Fn) (g : ChanId) (v m : BitVec 64) : Still s (wrMcCtl s f g v m) := by
  simp [wrMcCtl]

@[simp] theorem wrMcErrLog_still (s : State) (g : ChanId) (a : BitVec 64) : Still s (wrMcErrLog s g a) := by
  simp [wrMcErrLog]

@[simp] theorem mrSeqErr_still (s : State) (f : Fn) : Still s (mrSeqErr s f) := ⟨rfl, rfl⟩

@[simp] theorem mrSetBuf_still (s : State) (f : Fn) (b : Option MrBuf) : Still s (mrSetBuf s f b) :=
  ⟨rfl, rfl⟩

@[simp] theorem wrMrValue_still (s : State) (f : Fn) (k : MrId) (j : Fin 6) (v : BitVec 64) : Still s (wrMrValue s f k j v) := by
  unfold wrMrValue
  dsimp only
  (repeat' split) <;> simp

@[simp] theorem wrMrbStatus_still (s : State) (f : Fn) (a : BitVec 64) : Still s (wrMrbStatus s f a) :=
  ⟨rfl, rfl⟩

@[simp] theorem wrNmMask_still (s : State) (f : Fn) (v : BitVec 64) : Still s (wrNmMask s f v) := by
  simp [wrNmMask]

@[simp] theorem entErr_still (s : State) : Still s (entErr s) := ⟨rfl, rfl⟩

@[simp] theorem stretch_still (s : State) : Still s (stretch s) := by
  simp [stretch]

@[simp] theorem wrReseedCtl_still (s : State) (f : Fn) (v : BitVec 64) : Still s (wrReseedCtl s f v) := by
  unfold wrReseedCtl
  split <;> simp

@[simp] theorem wrScbCtl_still (s : State) (v : BitVec 64) : Still s (wrScbCtl s v) := ⟨rfl, rfl⟩

@[simp] theorem wrScbOverdue_still (s : State) (v : BitVec 64) : Still s (wrScbOverdue s v) := ⟨rfl, rfl⟩

@[simp] theorem nsRetest_still (s : State) (n : NsId) : Still s (nsRetest s n) := by
  simp [nsRetest]

@[simp] theorem wrSrcCtl_still (s : State) (f : Fn) (n : NsId) (v m : BitVec 64) : Still s (wrSrcCtl s f n v m) := by
  unfold wrSrcCtl
  split <;> simp

@[simp] theorem wrWaitLimit_still (s : State) (f : Fn) (v : BitVec 64) : Still s (wrWaitLimit s f v) := by
  unfold wrWaitLimit
  split <;> simp

@[simp] theorem writeMem_still (s : State) (f : Fn) (r : Reg) (v m : BitVec 64) : Still s (writeMem s f r v m) := by
  unfold writeMem
  split <;> simp

@[simp] theorem wrAck_still (s : State) (f : Fn) (v : BitVec 64) : Still s (wrAck s f v) := by
  unfold wrAck
  split <;> simp

@[simp] theorem wrAlertCtl_still (s : State) (f : Fn) (v m : BitVec 64) : Still s (wrAlertCtl s f v m) := by
  unfold wrAlertCtl
  split <;> simp

@[simp] theorem wrAttrLog_still (s : State) (f : Fn) (a : BitVec 64) : Still s (wrAttrLog s f a) := by
  simp [wrAttrLog]

@[simp] theorem wrDomCtl_still (s : State) (f : Fn) (d : PdId) (v : BitVec 64) : Still s (wrDomCtl s f d v) := by
  simp [wrDomCtl]

@[simp] theorem wrGuardCtl_still (s : State) (f : Fn) (v m : BitVec 64) : Still s (wrGuardCtl s f v m) := by
  unfold wrGuardCtl
  split <;> simp

@[simp] theorem wrGuardOut_still (s : State) (f : Fn) (v : BitVec 64) : Still s (wrGuardOut s f v) := by
  unfold wrGuardOut
  split <;> simp

@[simp] theorem setHs_still (s : State) (k : HsId) (g : HSrc → HSrc) : Still s (setHs s k g) := ⟨rfl, rfl⟩

@[simp] theorem clearHs_still (s : State) (k : HsId) : Still s (clearHs s k) := by
  simp [clearHs]

@[simp] theorem wrHltStatus_still (s : State) (f : Fn) (i : Fin 3) (v : BitVec 64) : Still s (wrHltStatus s f i v) := by
  unfold wrHltStatus
  split <;> simp

@[simp] theorem setIn_still (s : State) (n : InputId) (g : TmpIn → TmpIn) : Still s (setIn s n g) :=
  ⟨rfl, rfl⟩

@[simp] theorem wrInCtl_still (s : State) (f : Fn) (n : InputId) (v m : BitVec 64) : Still s (wrInCtl s f n v m) := by
  unfold wrInCtl
  split <;> simp

@[simp] theorem wrMonStatus_still (s : State) (f : Fn) (a : BitVec 64) : Still s (wrMonStatus s f a) := by
  simp [wrMonStatus]

@[simp] theorem pinSet_still (s : State) (d : PdId) : Still s (pinSet s d) := by
  unfold pinSet
  dsimp only
  (repeat' split) <;> simp

@[simp] theorem wrPin_still (s : State) (f : Fn) (v : BitVec 64) : Still s (wrPin s f v) := by
  unfold wrPin
  split <;> simp

@[simp] theorem wrPwrCtl_still (s : State) (f : Fn) (v : BitVec 64) : Still s (wrPwrCtl s f v) := by
  unfold wrPwrCtl
  split <;> simp

@[simp] theorem wrPwrStatus_still (s : State) (f : Fn) (a : BitVec 64) : Still s (wrPwrStatus s f a) := by
  simp [wrPwrStatus]

@[simp] theorem wrRail_still (s : State) (f : Fn) (a : BitVec 64) : Still s (wrRail s f a) := by
  simp [wrRail]

@[simp] theorem wrSafeCtl_still (s : State) (f : Fn) (v : BitVec 64) : Still s (wrSafeCtl s f v) := by
  unfold wrSafeCtl
  split <;> simp

@[simp] theorem wrSelfTest_still (s : State) (f : Fn) (v : BitVec 64) : Still s (wrSelfTest s f v) := by
  simp [wrSelfTest]

@[simp] theorem wrSevReact_still (s : State) (f : Fn) (v : BitVec 64) : Still s (wrSevReact s f v) := by
  simp [wrSevReact]

@[simp] theorem wrSrcCfg_still (s : State) (f : Fn) (k : HsId) (v m : BitVec 64) : Still s (wrSrcCfg s f k v m) := by
  unfold wrSrcCfg
  split <;> simp

@[simp] theorem wrSummary_still (s : State) (f : Fn) (a : BitVec 64) : Still s (wrSummary s f a) := by
  simp [wrSummary]

@[simp] theorem wrTmpStatus_still (s : State) (f : Fn) (a : BitVec 64) : Still s (wrTmpStatus s f a) := by
  simp [wrTmpStatus]

@[simp] theorem wrVbatCtl_still (s : State) (f : Fn) (v m : BitVec 64) : Still s (wrVbatCtl s f v m) := by
  unfold wrVbatCtl
  split <;> simp

@[simp] theorem writeSafe_still (s : State) (f : Fn) (r : Reg) (v m : BitVec 64) : Still s (writeSafe s f r v m) := by
  unfold writeSafe
  split <;> simp

@[simp] theorem wrDenyLog_still (s : State) (a : BitVec 64) : Still s (wrDenyLog s a) := by
  simp [wrDenyLog]

@[simp] theorem wrDrbgRate_still (s : State) (f : Fn) (n : StallId) (v : BitVec 64) : Still s (wrDrbgRate s f n v) := by
  simp [wrDrbgRate]

@[simp] theorem commit_still (s : State) : Still s (commit s) := ⟨rfl, rfl⟩

@[simp] theorem wrEpochCtl_still (s : State) (f : Fn) (v m : BitVec 64) : Still s (wrEpochCtl s f v m) := by
  unfold wrEpochCtl
  dsimp only
  (repeat' split) <;> simp

@[simp] theorem wrMgrCtl_still (s : State) (f : Fn) (v : BitVec 64) : Still s (wrMgrCtl s f v) := by
  simp [wrMgrCtl]

@[simp] theorem wrMgrLines_still (s : State) (f : Fn) (n : StallId) (v : BitVec 64) : Still s (wrMgrLines s f n v) := by
  simp [wrMgrLines]

@[simp] theorem wrMgrLog_still (s : State) (f : Fn) (a : BitVec 64) : Still s (wrMgrLog s f a) := by
  simp [wrMgrLog]

@[simp] theorem wrMgrStatus_still (s : State) (a : BitVec 64) : Still s (wrMgrStatus s a) := ⟨rfl, rfl⟩

@[simp] theorem wrMrOwn_still (s : State) (f : Fn) (n : StallId) (v : BitVec 64) : Still s (wrMrOwn s f n v) := by
  simp [wrMrOwn]

@[simp] theorem wrNmSlices_still (s : State) (f : Fn) (v : BitVec 64) : Still s (wrNmSlices s f v) := by
  simp [wrNmSlices]

@[simp] theorem notice_still (s : State) (n : StallId) (code : BitVec 4) : Still s (notice s n code) := by
  simp [notice]

@[simp] theorem stlRefuse_still (s : State) (n : StallId) (g : Stall → Stall) : Still s (stlRefuse s n g) := by
  simp [stlRefuse]

@[simp] theorem wrPasid_still (s : State) (f : Fn) (n : StallId) (k : Fin 8) (v : BitVec 64) : Still s (wrPasid s f n k v) := by
  simp [wrPasid]

@[simp] theorem wrPk_still (s : State) (f : Fn) (k : Fin 256) (w : PkWord) (v : BitVec 64) : Still s (wrPk s f k w v) := by
  unfold wrPk
  split <;> simp

@[simp] theorem wrProtFence_still (s : State) (f : Fn) (v : BitVec 64) : Still s (wrProtFence s f v) := by
  unfold wrProtFence
  split <;> simp

@[simp] theorem wrQuota_still (s : State) (f : Fn) (n : StallId) (v : BitVec 64) : Still s (wrQuota s f n v) := by
  simp [wrQuota]

@[simp] theorem wrRingAdd_still (s : State) (f : Fn) (n : StallId) (v : BitVec 64) : Still s (wrRingAdd s f n v) := by
  simp [wrRingAdd]

@[simp] theorem wrRingRemove_still (s : State) (f : Fn) (n : StallId) (v : BitVec 64) : Still s (wrRingRemove s f n v) := by
  simp [wrRingRemove]

@[simp] theorem setSlice_still (s : State) (k : SliceId) (g : Slice → Slice) : Still s (setSlice s k g) :=
  ⟨rfl, rfl⟩

@[simp] theorem startRepart_still (s : State) (k : SliceId) (m : Bool × StallId) : Still s (startRepart s k m) := by
  unfold startRepart
  dsimp only
  split <;> simp

@[simp] theorem wrSliceCtl_still (s : State) (f : Fn) (k : SliceId) (v : BitVec 64) : Still s (wrSliceCtl s f k v) := by
  simp [wrSliceCtl]

@[simp] theorem sweepDropped_still (s : State) : Still s (sweepDropped s) := by
  simp [sweepDropped]

@[simp] theorem feedError_still (s : State) (code : Byte) (cause : BitVec 3) : Still s (feedError s code cause) := by
  simp [feedError]

@[simp] theorem feedEnd_still (s : State) (cause : BitVec 3) : Still s (feedEnd s cause) := by
  simp [feedEnd]

@[simp] theorem zeroEntries_still (s : State) (p : Entry → Bool) : Still s (zeroEntries s p) := by
  unfold zeroEntries; simp

@[simp] theorem zeroKeyRegs_still (s : State) (p : KeyReg → Bool) : Still s (zeroKeyRegs s p) := by
  simp [zeroKeyRegs]

@[simp] theorem wrStlErr_still (s : State) (f : Fn) (n : StallId) (a : BitVec 64) : Still s (wrStlErr s f n a) := by
  simp [wrStlErr]

@[simp] theorem wrWeight_still (s : State) (f : Fn) (n : StallId) (v : BitVec 64) : Still s (wrWeight s f n v) := by
  simp [wrWeight]

@[simp] theorem dropPend_still (s : State) (f : Fn) (v : BitVec 10) : Still s (dropPend s f v) := by
  simp [dropPend]

@[simp] theorem evDiscard_still (s : State) (f : Fn) (k : EvId) : Still s (evDiscard s f k) := by
  simp [evDiscard]

@[simp] theorem resetRoutes_still (s : State) (n : StallId) : Still s (resetRoutes s n) := by
  simp [resetRoutes]

@[simp] theorem wrWorld_still (s : State) (f : Fn) (n : StallId) (v : BitVec 64) : Still s (wrWorld s f n v) := by
  unfold wrWorld
  split <;> simp

@[simp] theorem wrBnuCtl_still (s : State) (f : Fn) (v : BitVec 64) : Still s (wrBnuCtl s f v) := by
  simp [wrBnuCtl]

@[simp] theorem wrCause_still (s : State) (f : Fn) (i : Fin 5) (a : BitVec 64) : Still s (wrCause s f i a) := by
  simp [wrCause]

@[simp] theorem wrClCtl_still (s : State) (f : Fn) (v : BitVec 64) : Still s (wrClCtl s f v) := by
  simp [wrClCtl]

@[simp] theorem wrEvtCtl_still (s : State) (f : Fn) (v : BitVec 64) : Still s (wrEvtCtl s f v) := by
  simp [wrEvtCtl]

@[simp] theorem wrEvtStatus_still (s : State) (f : Fn) (a : BitVec 64) : Still s (wrEvtStatus s f a) :=
  ⟨rfl, rfl⟩

@[simp] theorem wrFault_still (s : State) (f : Fn) (u : UnitId) (a : BitVec 64) : Still s (wrFault s f u a) := by
  simp [wrFault]

@[simp] theorem feedStart_still (s : State) : Still s (feedStart s) := by
  unfold feedStart
  dsimp only
  (repeat' split) <;> simp

@[simp] theorem wrFeedCtl_still (s : State) (f : Fn) (v m : BitVec 64) : Still s (wrFeedCtl s f v m) := by
  unfold wrFeedCtl
  split <;> simp

@[simp] theorem wrFeedLen_still (s : State) (f : Fn) (v : BitVec 64) : Still s (wrFeedLen s f v) := by
  unfold wrFeedLen
  split <;> simp

@[simp] theorem wrFeedTimeout_still (s : State) (f : Fn) (v : BitVec 64) : Still s (wrFeedTimeout s f v) := by
  unfold wrFeedTimeout
  split <;> simp

@[simp] theorem wrFeedVb_still (s : State) (f : Fn) (v : BitVec 64) : Still s (wrFeedVb s f v) := by
  unfold wrFeedVb
  split <;> simp

@[simp] theorem feedBytes_still (s : State) (n : Nat) : Still s (feedBytes s n) := ⟨rfl, rfl⟩

@[simp] theorem feedTake_still (s : State) : Still s (feedTake s) := by
  unfold feedTake
  split <;> simp

@[simp] theorem feedPut_still (s : State) (v : BitVec 64) : Still s (feedPut s v) := by
  simp [feedPut]

@[simp] theorem wrFeedWord_still (s : State) (f : Fn) (last : Bool) (v : BitVec 64) : Still s (wrFeedWord s f last v) := by
  unfold wrFeedWord
  (repeat' split) <;> simp

@[simp] theorem mirrorDiscard_still (s : State) : Still s (mirrorDiscard s) := by
  simp [mirrorDiscard]

@[simp] theorem wrMirror_still (s : State) (f : Fn) (i : Fin 2) (v : BitVec 64) : Still s (wrMirror s f i v) := by
  unfold wrMirror
  split <;> simp

@[simp] theorem routePut_still (s : State) (t : Fn) (k : EvId) (v : BitVec 64) : Still s (routePut s t k v) := by
  simp [routePut]

@[simp] theorem wrRoute_still (s : State) (f : Fn) (k : EvId) (aliased : Bool) (v : BitVec 64) :
    Still s (wrRoute s f k aliased v) := by
  unfold wrRoute
  split <;> simp

@[simp] theorem writeUnit_still (s : State) (f : Fn) (r : Reg) (v m : BitVec 64) : Still s (writeUnit s f r v m) := by
  unfold writeUnit
  cases r
  case feedData | feedLast => dsimp only; split <;> simp
  all_goals simp

@[simp] theorem progStarved_still (s : State) : Still s (progStarved s) := by
  simp [progStarved]

@[simp] theorem unwait_still (s : State) (c : Consumer) : Still s (unwait s c) := ⟨rfl, rfl⟩

@[simp] theorem starve_still (s : State) (c : Consumer) : Still s (starve s c) := by
  unfold starve
  dsimp only
  (repeat' split) <;> simp

@[simp] theorem await_still (s : State) (c : Consumer) : Still s (await s c) := by
  simp [await]

@[simp] theorem setAer_still (s : State) (f : Fn) (i : Nat) : Still s (setAer s f i) := ⟨rfl, rfl⟩

@[simp] theorem bar4Deny_still (s : State) (acc : Bar4Acc) (r : PkResult) : Still s (bar4Deny s acc r) := by
  unfold bar4Deny
  split <;> simp

@[simp] theorem bar4Failed_still (s : State) (acc : Bar4Acc) : Still s (bar4Failed s acc) := by
  unfold bar4Failed
  split <;> simp

@[simp] theorem bar4Hold_still (s : State) (a : Nat) (acc : Bar4Acc) : Still s (bar4Hold s a acc) :=
  ⟨rfl, rfl⟩

@[simp] theorem gateBar_still (s : State) (f : Fn) (k : State → State) (h : ∀ t, Still t (k t)) : Still s (gateBar s f k) := by
  simp [gateBar, h]

@[simp] theorem mrExtend_still (s : State) (k : MrId) (e : List Byte) : Still s (mrExtend s k e) := ⟨rfl, rfl⟩

@[simp] theorem mrSettledFor_still (s : State) (f : Fn) (k : MrId) : Still s (mrSettledFor s f k) := by
  simp [mrSettledFor]

@[simp] theorem mrRead_still (s : State) (f : Fn) (off : BitVec 20) : Still s (mrRead s f off) := by
  simp [mrRead]

@[simp] theorem readEffect_still (s : State) (f : Fn) (r : Reg) : Still s (readEffect s f r) := by
  unfold readEffect
  split <;> simp

@[simp] theorem readTaken_still (s : State) (r : Reg) : Still s (readTaken s r) := by
  simp [readTaken]

@[simp] theorem read4_still (s : State) (f : Fn) (off : BitVec 20) : Still s (read4 s f off) := by
  unfold read4
  (repeat' split) <;> simp

@[simp] theorem peekEffect_still (s : State) (f : Fn) (off : BitVec 20) : Still s (peekEffect s f off) := by
  unfold peekEffect
  split <;> simp

@[simp] theorem read8_still (s : State) (f : Fn) (off : BitVec 20) : Still s (read8 s f off) := by
  simp [read8]

@[simp] theorem barRead_still (s : State) (f : Fn) (off : BitVec 20) (wide : Bool) : Still s (barRead s f off wide) := by
  simp [barRead]

@[simp] theorem noteFirst_still (s : State) (was : Bool) (latched : List HsId) : Still s (noteFirst s was latched) := by
  unfold noteFirst
  split <;> simp

@[simp] theorem feedBlock_still (s : State) : Still s (feedBlock s) := by
  simp [feedBlock]

@[simp] theorem blockEnds_still (s : State) (u : UnitId) : Still s (blockEnds s u) := by
  simp [blockEnds]

@[simp] theorem captureEnds_still (s : State) (n : NsId) : Still s (captureEnds s n) := by
  unfold captureEnds
  split <;> simp

@[simp] theorem cribEmpty_still (s : State) (u : UnitId) : Still s (cribEmpty s u) := ⟨rfl, rfl⟩

@[simp] theorem endTest_still (s : State) (u : UnitId) : Still s (endTest s u) := by
  simp [endTest]

@[simp] theorem cribsDrop_still (s : State) (l : LineNo) : Still s (cribsDrop s l) := by
  simp [cribsDrop]

@[simp] theorem dropGroup_still (s : State) (g : ChanId) : Still s (dropGroup s g) := by
  simp [dropGroup]

@[simp] theorem mcEnter_still (s : State) (g : ChanId) (st : McState) : Still s (mcEnter s g st) := by
  simp [mcEnter]

@[simp] theorem emit_still (s : State) (m : LinkMsg) : Still s (emit s m) := ⟨rfl, rfl⟩

@[simp] theorem setAer2_still (s : State) (i : Nat) : Still s (setAer2 s i) := ⟨rfl, rfl⟩

@[simp] theorem sendNmi_still (s : State) : Still s (sendNmi s) := by
  simp [sendNmi]

@[simp] theorem dropLow_still (s : State) (f : Fn) (off : BitVec 20) : Still s (dropLow s f off) := ⟨rfl, rfl⟩

@[simp] theorem holdLow_still (s : State) (f : Fn) (off : BitVec 20) (v : BitVec 32) : Still s (holdLow s f off v) :=
  ⟨rfl, rfl⟩

@[simp] theorem batteryReport_still (s : State) : Still s (batteryReport s) := by
  simp [batteryReport]

@[simp] theorem beginCapture_still (s : State) (q : Req) (n : NsId) (wasRun : Bool) : Still s (beginCapture s q n wasRun) := by
  simp [beginCapture]

@[simp] theorem putKeyInter_still (s : State) (q : Req) (k : Key) : Still s (putKeyInter s q k) := ⟨rfl, rfl⟩

@[simp] theorem outputKey_still (s : State) (q : Req) (before : List Byte) (k : Key) (after : List Byte) (result : Nat) :
    Still s (outputKey s q before k after result) := by
  simp [outputKey]

@[simp] theorem putEntry_still (s : State) (h : Handle) (e : Entry) : Still s (putEntry s h e) := by
  simp [putEntry]

@[simp] theorem storeEntry_still (s : State) (q : Req) (e : Entry) : Still s (storeEntry s q e) := by
  unfold storeEntry
  split
  · exact ⟨rfl, rfl⟩
  · rw [Still, (finish_still ..).1, (finish_still ..).2]; simp

@[simp] theorem blobUnwrapRun_still (s : State) (q : Req) (src : List Byte) : Still s (blobUnwrapRun s q src) := by
  unfold blobUnwrapRun
  split <;> simp

@[simp] theorem wrapOut_still (s : State) (q : Req) (k : Key) : Still s (wrapOut s q k) := by
  simp [wrapOut]

@[simp] theorem blobWrapRun_still (s : State) (q : Req) (src : List Byte) : Still s (blobWrapRun s q src) := by
  unfold blobWrapRun
  (repeat' split) <;> simp

@[simp] theorem bootChannel_still (s : State) (g : ChanId) : Still s (bootChannel s g) := by
  simp [bootChannel]

@[simp] theorem bootFail_still (s : State) (cause : BitVec 3) : Still s (bootFail s cause) := ⟨rfl, rfl⟩

@[simp] theorem bootFence_still (s : State) (i : Nat) (k : HsId) : Still s (bootFence s i k) := ⟨rfl, rfl⟩

@[simp] theorem bootFenceUnit_still (s : State) (u : UnitId) : Still s (bootFenceUnit s u) := ⟨rfl, rfl⟩

@[simp] theorem mrSettled_still (s : State) : Still s (mrSettled s) := by
  simp [mrSettled]

@[simp] theorem extendMr1_still (s : State) : Still s (extendMr1 s) := by
  simp [extendMr1]

@[simp] theorem bootReport_still (s : State) : Still s (bootReport s) := by
  simp [bootReport]

@[simp] theorem bootSource_still (s : State) (n : NsId) : Still s (bootSource s n) := by
  simp [bootSource]

@[simp] theorem feedCount_still (s : State) : Still s (feedCount s) := ⟨rfl, rfl⟩

@[simp] theorem feedFail_still (s : State) (code : Byte) : Still s (feedFail s code) := by
  simp [feedFail]

@[simp] theorem zeroKeyInters_still (s : State) (p : Inter → Bool) : Still s (zeroKeyInters s p) := by
  simp [zeroKeyInters]

@[simp] theorem clearKeys_still (s : State) : Still s (clearKeys s) := by
  simp [clearKeys]

@[simp] theorem charge_still (s : State) (c : Consumer) : Still s (charge s c) := by
  unfold charge
  (repeat' split) <;> simp

@[simp] theorem coreMismatch_still (s : State) (i : Nat) : Still s (coreMismatch s i) := ⟨rfl, rfl⟩

theorem checkCores_still (agree : Bool) (k : State → Req → List Byte → State) (s : State) (q : Req) (b : List Byte) (h :
    Still s (k s q b)) :
    Still s (checkCores agree k s q b) := by
  unfold checkCores
  dsimp only
  split
  · exact h
  · split <;> [split; skip] <;> simp [h]

@[simp] theorem countBytes_still (s : State) (q : Req) (n : Nat) : Still s (countBytes s q n) := by
  unfold countBytes
  split <;> simp

@[simp] theorem expandDec_still (s : State) (q : Req) : Still s (expandDec s q) := by
  unfold expandDec
  split <;> simp

@[simp] theorem cipherRun_still (s : State) (q : Req) (src : List Byte) : Still s (cipherRun s q src) := by
  simp [cipherRun]

@[simp] theorem countReq_still (s : State) (q : Req) (d : Done) : Still s (countReq s q d) := by
  unfold countReq
  split <;> simp

@[simp] theorem dropNoReuse_still (s : State) (q : Req) : Still s (dropNoReuse s q) :=
  foldl_still (fun s u => by split <;> simp) _ _

@[simp] theorem freeUnits_still (s : State) (i : Nat) : Still s (freeUnits s i) := by
  simp [freeUnits]

@[simp] theorem owedRaise_still (s : State) (n : StallId) (o : Bool × Bool × Bool) : Still s (owedRaise s n o) := by
  simp [owedRaise]

@[simp] theorem skipLater_still (s : State) (q : Req) (d : Done) : Still s (skipLater s q d) := by
  simp [skipLater]

theorem recorded_still (s : State) (q : Req) (d : Done) : Still s (recorded s q d) := by
  simp [recorded, requestGone]

theorem headTold_still (s : State) (q : Req) (d : Done) (before : BitVec 16) : Still s (headTold s q d before) := by
  unfold headTold
  split <;> [skip; split] <;> simp

@[simp] theorem committed_still (s : State) (q : Req) (d : Done) : Still s (committed s q d) := by
  obtain ⟨before, e⟩ := committed_eq s q d
  have one := recorded_still s q d
  have two := headTold_still (recorded s q d) q d before
  exact e ▸ ⟨two.1.trans one.1, two.2.trans one.2⟩

@[simp] theorem post_still (s : State) (w : Pw) : Still s (post s w) := ⟨rfl, rfl⟩

@[simp] theorem configDo_still (s : State) (f : Fn) (op : CfgOp) : Still s (configDo s f op) := by
  cases op <;> simp [configDo]

@[simp] theorem coopGrab_still (s : State) : Still s (coopGrab s) := by
  unfold coopGrab
  split
  · exact foldl_still (fun s u => by simp) _ _
  · split <;> simp

@[simp] theorem coopHold_still (s : State) (c : CoopFor) : Still s (coopHold s c) := by
  simp [coopHold]

@[simp] theorem coopShort_still (s : State) (d : Desc) : Still s (coopShort s d) := by
  simp [coopShort]

@[simp] theorem copyRun_still (s : State) (q : Req) (src : List Byte) : Still s (copyRun s q src) := by
  simp [copyRun]

@[simp] theorem countOps_still (s : State) (q : Req) : Still s (countOps s q) := foldl_still (fun s u => by simp) _ _

@[simp] theorem setSweep_still (s : State) (i : Fin 5) (g : Sweep → Sweep) : Still s (setSweep s i g) :=
  ⟨rfl, rfl⟩

@[simp] theorem countScrub_still (s : State) (i : Fin 5) (r : EccResult) : Still s (countScrub s i r) := by
  unfold countScrub
  split <;> simp

@[simp] theorem cribDrop_still (s : State) (u : UnitId) (l : LineNo) : Still s (cribDrop s u l) := ⟨rfl, rfl⟩

@[simp] theorem cribReplace_still (s : State) (u : UnitId) (l : LineNo) : Still s (cribReplace s u l) := by
  unfold cribReplace
  dsimp only
  (repeat' split) <;> simp

@[simp] theorem cribInstall_still (s : State) (u : UnitId) (l : LineNo) : Still s (cribInstall s u l) := by
  unfold cribInstall
  (repeat' split) <;> simp

@[simp] theorem missStart_still (s : State) (l : LineNo) (who : Option StallId) (kind : AccKind) :
    Still s (missStart s l who kind) := by
  unfold missStart
  dsimp only
  (repeat' split) <;> simp

@[simp] theorem cribFetch_still (s : State) (u : UnitId) (l : LineNo) : Still s (cribFetch s u l) := by
  unfold cribFetch
  dsimp only
  split <;> simp

@[simp] theorem cribUse_still (s : State) (u : UnitId) (hit : CribLine → Bool) : Still s (cribUse s u hit) :=
  ⟨rfl, rfl⟩

@[simp] theorem cribUsed_still (s : State) (q : Req) : Still s (cribUsed s q) := by
  unfold cribUsed
  split <;> simp

@[simp] theorem debugUnlock_still (s : State) : Still s (debugUnlock s) := by
  simp [debugUnlock]

@[simp] theorem noteRing_still (s : State) (r : RingId) : Still s (noteRing s r) := by
  unfold noteRing
  split <;> simp

@[simp] theorem noteStarved_still (s : State) : Still s (noteStarved s) := by
  simp [noteStarved]

@[simp] theorem noteEligible_still (s : State) : Still s (noteEligible s) := by
  simp [noteEligible]

@[simp] theorem fetchArrived_still (s : State) (r : RingId) (slot : BitVec 16) (count : Nat) (bs : List Byte) :
    Still s (fetchArrived s r slot count bs) := by
  simp [fetchArrived]

@[simp] theorem deliver_still (s : State) (rd : Rd) (bs : List Byte) : Still s (deliver s rd bs) := by
  unfold deliver
  dsimp only
  (repeat' split) <;> simp

@[simp] theorem digestOut_still (s : State) (q : Req) (bs : List Byte) : Still s (digestOut s q bs) := by
  simp [digestOut]

@[simp] theorem secretOut_still (s : State) (q : Req) (v : List Byte) : Still s (secretOut s q v) := by
  simp [secretOut]

@[simp] theorem ecdhRun_still (s : State) (q : Req) (src : List Byte) : Still s (ecdhRun s q src) := by
  simp [ecdhRun]

@[simp] theorem ecdsaSignRun_still (s : State) (q : Req) (src : List Byte) : Still s (ecdsaSignRun s q src) := by
  simp [ecdsaSignRun]

@[simp] theorem verifyRun_still (s : State) (q : Req) (key sig ctx msg : List Byte) :
    Still s (verifyRun s q key sig ctx msg) := by
  simp [verifyRun]

@[simp] theorem ecdsaVerifyRun_still (s : State) (q : Req) (src : List Byte) : Still s (ecdsaVerifyRun s q src) := by
  simp [ecdsaVerifyRun]

@[simp] theorem eddsaSignRun_still (s : State) (q : Req) (src : List Byte) : Still s (eddsaSignRun s q src) := by
  simp [eddsaSignRun]

@[simp] theorem splitVerifyRun_still (sigLen pubLen : Nat) (s : State) (q : Req) (src : List Byte) :
    Still s (splitVerifyRun sigLen pubLen s q src) := by
  simp [splitVerifyRun]

@[simp] theorem eddsaVerifyRun_still (s : State) (q : Req) (src : List Byte) : Still s (eddsaVerifyRun s q src) := by
  simp [eddsaVerifyRun]

@[simp] theorem endRead_still (s : State) (i : Nat) : Still s (endRead s i) := ⟨rfl, rfl⟩

@[simp] theorem endRing_still (s : State) (n : StallId) (r : RingId) : Still s (endRing s n r) := by
  obtain ⟨t, told, -, e⟩ := endRing_eq s n r
  rw [e, Still, setRing_pending, setRing_dram, told]; exact ⟨rfl, rfl⟩

@[simp] theorem entFence_still (s : State) : Still s (entFence s) := by
  simp [entFence]

@[simp] theorem lockKeys_still (s : State) : Still s (lockKeys s) := by
  simp [lockKeys]

@[simp] theorem keyClear_still (s : State) : Still s (keyClear s) := by
  simp [keyClear]

@[simp] theorem setMon_still (s : State) (i : Nat) : Still s (setMon s i) := ⟨rfl, rfl⟩

@[simp] theorem tamperAct_still (s : State) (n : InputId) : Still s (tamperAct s n) := by
  simp [tamperAct]

@[simp] theorem enterChatter_still (s : State) (n : InputId) : Still s (enterChatter s n) := by
  simp [enterChatter]

@[simp] theorem evEnter_still (s : State) (f : Fn) (k : EvId) : Still s (evEnter s f k) := by
  simp [evEnter]

@[simp] theorem evParity_still (s : State) (f : Fn) (k : EvId) : Still s (evParity s f k) := by
  simp [evParity]

@[simp] theorem extendMr0_still (s : State) : Still s (extendMr0 s) := by
  simp [extendMr0]

@[simp] theorem selfFail_still (s : State) (cause : BitVec 4) (src : Option HsId) : Still s (selfFail s cause src) :=
  ⟨rfl, rfl⟩

@[simp] theorem pageWrite_still (s : State) (f : Fn) (r : RingId) (k : State → StallId → State) (h : ∀ t n, Still t (k t n)) :
    Still s (pageWrite s f r k) := by
  refine gateBar_still s f _ fun t => ?_
  split
  · simp
  · split <;> [split; skip] <;> simp [h]

@[simp] theorem tailWrite_still (s : State) (r : RingId) (n : StallId) (t : BitVec 16) : Still s (tailWrite s r n t) := by
  simp [tailWrite]

@[simp] theorem gateW_still (s : State) (f : Fn) (k : State → State) (h : ∀ t, Still t (k t)) : Still s (gateW s f k) := by
  simp [gateW, h]

@[simp] theorem tapBypass_still (s : State) (code : Byte) : Still s (tapBypass s code) := by
  simp [tapBypass]

@[simp] theorem rulingEvent_still (s : State) (g : List BufD) (v : Ruling) : Still s (rulingEvent s g v) := by
  unfold rulingEvent
  (repeat' split) <;> simp

@[simp] theorem fenceChan_still (s : State) (g : ChanId) : Still s (fenceChan s g) := by
  simp [fenceChan]

@[simp] theorem fetchFailed_still (s : State) (r : RingId) (slot : BitVec 16) : Still s (fetchFailed s r slot) := by
  unfold fetchFailed
  dsimp only
  split <;> simp

@[simp] theorem logDma_still (s : State) (f : Fn) (ring : RingId) (kind : BitVec 3) (isFetch : Bool) (pasid : Option (BitVec 20)) :
    Still s (logDma s f ring kind isFetch pasid) :=
  ⟨rfl, rfl⟩

@[simp] theorem readFailed_still (s : State) (rd : Rd) (kind : BitVec 3) : Still s (readFailed s rd kind) := by
  unfold readFailed
  dsimp only
  (repeat' split) <;> simp

@[simp] theorem modexpRun_still (s : State) (q : Req) (src : List Byte) : Still s (modexpRun s q src) := by
  simp [modexpRun]

@[simp] theorem fenceUnit_still (s : State) (u : UnitId) (cause : BitVec 4) : Still s (fenceUnit s u cause) := by
  simp [fenceUnit]

@[simp] theorem failCheck_still (s : State) (q : Req) : Still s (failCheck s q) := by
  unfold failCheck
  split <;> simp

@[simp] theorem rsaRun_still (s : State) (q : Req) (src : List Byte) : Still s (rsaRun s q src) := by
  unfold rsaRun
  split <;> simp

@[simp] theorem modexpAny_still (s : State) (q : Req) (src : List Byte) : Still s (modexpAny s q src) := by
  simp [modexpAny]

@[simp] theorem retryMisses_still (s : State) : Still s (retryMisses s) := by
  simp [retryMisses]

@[simp] theorem finishEvict_still (s : State) (x : Line) : Still s (finishEvict s x) := by
  simp [finishEvict]

@[simp] theorem serveFills_still (s : State) (l : LineNo) : Still s (serveFills s l) := by
  unfold serveFills
  split <;> simp

@[simp] theorem nonceOut_still (s : State) (e : BitVec 512) (updateDr : Bool) : Still s (nonceOut s e updateDr) := by
  simp [nonceOut]

@[simp] theorem sendRead_still (s : State) (r : Rd) : Still s (sendRead s r) := ⟨rfl, rfl⟩

@[simp] theorem fetchIssue_still (s : State) (r : RingId) (n : StallId) : Still s (fetchIssue s r n) := by
  simp [fetchIssue]

@[simp] theorem gateW64_still (s : State) (f : Fn) (off : Nat) (k : State → State) (h : ∀ t, Still t (k t)) :
    Still s (gateW64 s f off k) := by
  simp [gateW64, h]

@[simp] theorem powerOn_still (s : State) (d : PdId) : Still s (powerOn s d) := by
  unfold powerOn
  (repeat' split) <;> simp

@[simp] theorem reseed_still (s : State) (add : BitVec 384) : Still s (reseed s add) := by
  unfold reseed
  split <;> simp

@[simp] theorem keygenRun_still (s : State) (q : Req) (src : List Byte) : Still s (keygenRun s q src) := by
  unfold keygenRun
  dsimp only
  (repeat' split) <;> simp

@[simp] theorem tableLoad_still (s : State) (u : UnitId) (d : Desc) : Still s (tableLoad s u d) := by
  simp [tableLoad]

theorem withTables_still (k : State → Req → List Byte → State) (s : State) (q : Req) (src : List Byte) (h : ∀ t, Still t (k t q src)) :
    Still s (withTables k s q src) := by
  unfold withTables
  dsimp only
  split
  · exact h s
  · split <;> [skip; split] <;> simp [h]

@[simp] theorem fenceEntropy_still (s : State) : Still s (fenceEntropy s) := by
  unfold fenceEntropy
  split <;> simp

@[simp] theorem give_still (s : State) (c : Consumer) (e : BitVec 512) : Still s (give s c e) := by
  simp [give]

@[simp] theorem giveNext_still (s : State) (c : Consumer) : Still s (giveNext s c) := by
  unfold giveNext
  split <;> simp

@[simp] theorem rootDraw_still (s : State) : Still s (rootDraw s) := by
  unfold rootDraw
  dsimp only
  (repeat' split) <;> simp

@[simp] theorem statusWrite_still (s : State) (r : RingId) (v : BitVec 32) : Still s (statusWrite s r v) := by
  simp [statusWrite]

@[simp] theorem fillRun_still (s : State) (q : Req) (src : List Byte) : Still s (fillRun s q src) := by
  simp [fillRun]

@[simp] theorem flrFeed_still (s : State) (f : Fn) : Still s (flrFeed s f) := by
  unfold flrFeed
  split <;> simp

@[simp] theorem nsFail_still (s : State) (n : NsId) : Still s (nsFail s n) := by
  simp [nsFail]

@[simp] theorem healthFail_still (s : State) (n : NsId) (c : HealthCause) : Still s (healthFail s n c) := by
  unfold healthFail
  dsimp only
  (repeat' split) <;> simp

@[simp] theorem stopEnd_still (s : State) : Still s (stopEnd s) := by
  simp [stopEnd]

@[simp] theorem hashRun_still (s : State) (q : Req) (src : List Byte) : Still s (hashRun s q src) := by
  simp [hashRun]

@[simp] theorem writeHead_still (s : State) (f : Fn) (n : StallId) (ring : RingId) (alarm : Bool) :
    Still s (writeHead s f n ring alarm) := by
  simp [writeHead]

@[simp] theorem toPhase_still (s : State) (p : Phase) : Still s (toPhase s p) := ⟨rfl, rfl⟩

@[simp] theorem hmacRun_still (s : State) (q : Req) (src : List Byte) : Still s (hmacRun s q src) := by
  simp [hmacRun]

@[simp] theorem stopAccept_still (s : State) : Still s (stopAccept s) := by
  simp [stopAccept]

@[simp] theorem tapSelect_still (s : State) (code : Byte) : Still s (tapSelect s code) := ⟨rfl, rfl⟩

@[simp] theorem katDue_still (s : State) (i : Fin 3) : Still s (katDue s i) := by
  simp [katDue]

@[simp] theorem feedFault_still (s : State) (u : UnitId) : Still s (feedFault s u) := by
  simp [feedFault]

@[simp] theorem testPassed_still (s : State) (u : UnitId) : Still s (testPassed s u) := by
  simp [testPassed]

@[simp] theorem newKeyOut_still (s : State) (q : Req) (value : KeyAux → List Byte) : Still s (newKeyOut s q value) := by
  unfold newKeyOut
  (repeat' split) <;> simp

@[simp] theorem keyDeriveRun_still (s : State) (q : Req) (src : List Byte) : Still s (keyDeriveRun s q src) := by
  unfold keyDeriveRun
  split <;> simp

@[simp] theorem keyGenerateRun_still (s : State) (q : Req) (src : List Byte) : Still s (keyGenerateRun s q src) := by
  simp [keyGenerateRun]

@[simp] theorem keyImportRun_still (s : State) (q : Req) (src : List Byte) : Still s (keyImportRun s q src) := by
  simp [keyImportRun]

@[simp] theorem kmacRun_still (s : State) (q : Req) (src : List Byte) : Still s (kmacRun s q src) := by
  simp [kmacRun]

@[simp] theorem kstateDropRun_still (s : State) (q : Req) (src : List Byte) : Still s (kstateDropRun s q src) := by
  unfold kstateDropRun
  dsimp only
  split <;> simp

@[simp] theorem kstateLoadRun_still (s : State) (q : Req) (src : List Byte) : Still s (kstateLoadRun s q src) := by
  unfold kstateLoadRun
  split <;> simp

@[simp] theorem setAerCor_still (s : State) (f : Fn) (i : Nat) : Still s (setAerCor s f i) := ⟨rfl, rfl⟩

@[simp] theorem lcEnd_still (s : State) (i : Fin 3) : Still s (lcEnd s i) := by
  simp [lcEnd]

@[simp] theorem ownCopy_still (s : State) (copyB ok : Bool) : Still s (ownCopy s copyB ok) := by
  simp [ownCopy]

@[simp] theorem redInval_still (s : State) (a : Nat) : Still s (redInval s a) := by
  unfold redInval
  split <;> simp

@[simp] theorem preloadBnu_still (s : State) (pass : BitVec 8) : Still s (preloadBnu s pass) := by
  simp [preloadBnu]

@[simp] theorem raiseInfo_still (s : State) (k : HsId) : Still s (raiseInfo s k) := ⟨rfl, rfl⟩

@[simp] theorem pageRead_still (s : State) (f : Fn) (off : BitVec 20) (wide : Bool) : Still s (pageRead s f off wide) := by
  simp [pageRead]

@[simp] theorem sramFail_still (s : State) (x : SramPart) : Still s (sramFail s x) := by
  unfold sramFail
  split <;> simp

@[simp] theorem mldsaSignRun_still (s : State) (q : Req) (src : List Byte) : Still s (mldsaSignRun s q src) := by
  unfold mldsaSignRun
  dsimp only
  split <;> simp

@[simp] theorem mldsaVerifyRun_still (s : State) (q : Req) (src : List Byte) : Still s (mldsaVerifyRun s q src) := by
  simp [mldsaVerifyRun]

@[simp] theorem mlkemDecapsRun_still (s : State) (q : Req) (src : List Byte) : Still s (mlkemDecapsRun s q src) := by
  simp [mlkemDecapsRun]

@[simp] theorem mlkemEncapsRun_still (s : State) (q : Req) (src : List Byte) : Still s (mlkemEncapsRun s q src) := by
  simp [mlkemEncapsRun]

@[simp] theorem modopRun_still (s : State) (q : Req) (src : List Byte) : Still s (modopRun s q src) := by
  unfold modopRun
  dsimp only
  (repeat' split) <;> simp

@[simp] theorem mrRun_still (s : State) (q : Req) (src : List Byte) : Still s (mrRun s q src) := by
  simp [mrRun]

@[simp] theorem followBattery_still (s : State) : Still s (followBattery s) := by
  simp [followBattery]

@[simp] theorem quiesceCheck_still (s : State) (n : StallId) : Still s (quiesceCheck s n) := by
  simp [quiesceCheck]

@[simp] theorem setRepart_still (s : State) (g : ChanId) (r : Repart) : Still s (setRepart s g r) :=
  ⟨rfl, rfl⟩

@[simp] theorem nextRepart_still (s : State) (g : ChanId) : Still s (nextRepart s g) := by
  have held (l : List SliceId) := foldl_still (f := fun s k => setSlice s k fun x => { x with next := x.held, held := none }) (fun s k => by simp) l s
  unfold nextRepart
  dsimp only
  split
  · simpa using held _
  · split <;> simp

@[simp] theorem prGet_still (s : State) (q : Req) (n : Nat) : Still s (prGet s q n) := by
  unfold prGet
  dsimp only
  (repeat' split) <;> simp

@[simp] theorem rngGetRun_still (s : State) (q : Req) (src : List Byte) : Still s (rngGetRun s q src) := by
  simp [rngGetRun]

@[simp] theorem rngRawRun_still (s : State) (q : Req) (src : List Byte) : Still s (rngRawRun s q src) := by
  unfold rngRawRun
  dsimp only
  (repeat' split) <;> simp

@[simp] theorem rngReseedRun_still (s : State) (q : Req) (src : List Byte) : Still s (rngReseedRun s q src) := by
  simp [rngReseedRun]

@[simp] theorem rsaPubRun_still (s : State) (q : Req) (src : List Byte) : Still s (rsaPubRun s q src) := by
  simp [rsaPubRun]

@[simp] theorem logFence_still (s : State) (k : SliceId) : Still s (logFence s k) := by
  simp [logFence]

@[simp] theorem logMgr_still (s : State) (k : SliceId) (err : SliceErr) (st : Option StallId) : Still s (logMgr s k err st) := by
  simp [logMgr]

@[simp] theorem sramCorrected_still (s : State) (w : SramWord) : Still s (sramCorrected s w) := by
  unfold sramCorrected
  split <;> simp

@[simp] theorem testFail_still (s : State) (i : Fin 64) : Still s (testFail s i) := by
  unfold testFail
  split_ifs <;> simp

@[simp] theorem interPut_still (s : State) (chain : Nat) (i : Fin 8) (off : Nat) (bs : List Byte) :
    Still s (interPut s chain i off bs) :=
  ⟨rfl, rfl⟩

@[simp] theorem tallyReadRun_still (s : State) (q : Req) (src : List Byte) : Still s (tallyReadRun s q src) := by
  simp [tallyReadRun]

@[simp] theorem tallyBindRun_still (s : State) (q : Req) (src : List Byte) : Still s (tallyBindRun s q src) := by
  unfold tallyBindRun
  (repeat' split) <;> simp

@[simp] theorem throttle_still (s : State) (t : BitVec 16) : Still s (throttle s t) := by
  simp [throttle]

@[simp] theorem xdhRun_still (s : State) (q : Req) (src : List Byte) : Still s (xdhRun s q src) := by
  simp [xdhRun]

@[simp] theorem tick_still (s : State) : Still s (tick s) := by
  simp [tick]

/-! ### What keeps local memory canonical: stores, write-backs and resets -/

/-- The queue as before, and local memory canonical if it was. -/
@[simp] abbrev Sound (s t : State) : Prop :=
  t.pending = s.pending ∧ (Memory.wf s.dram.cells = true → Memory.wf t.dram.cells = true)

theorem Still.sound {s t : State} (h : Still s t) : Sound s t := ⟨h.1, fun w => by rw [h.2]; exact w⟩

theorem Sound.trans {s t u : State} (h : Sound s t) (g : Sound t u) : Sound s u := ⟨g.1.trans h.1, fun w => g.2 (h.2 w)⟩

theorem Sound.ite {s t u : State} {c : Prop} [Decidable c] (h : Sound s t) (g : Sound s u) : Sound s (if c then t else u) := by
  split <;> assumption

theorem Sound.foldl {α : Type} {f : State → α → State} (hf : ∀ s a, Sound s (f s a)) (l : List α) (s : State) :
    Sound s (l.foldl f s) := by
  induction l generalizing s with
  | nil => exact ⟨rfl, id⟩
  | cons a l ih => exact (hf s a).trans (ih _)

@[simp] theorem channelPut_sound (s : State) (ws : List (Nat × Byte)) : Sound s (channelPut s ws) :=
  ⟨by rw [channelPut_only], channelPut_wf ws⟩

@[simp] theorem mergeRest_sound (s : State) (x : Line) (ws : List (Nat × Byte)) : Sound s (mergeRest s x ws) :=
  ⟨by rw [mergeRest_only], mergeRest_wf x ws⟩

@[simp] theorem writeBackSector_sound (s : State) (x : Line) (k : Nat) : Sound s (writeBackSector s x k) := by
  refine ⟨?_, writeBackSector_wf x k⟩
  unfold writeBackSector
  simp

@[simp] theorem writeBack_sound (s : State) (x : Line) : Sound s (writeBack s x) :=
  Sound.foldl (fun s k => writeBackSector_sound s x k) _ s

@[simp] theorem lineOut_sound (s : State) (x : Line) : Sound s (lineOut s x) :=
  (writeBack_sound s x).trans (channelPut_sound _ _)

@[simp] theorem slicePut_sound (s : State) (b : By) (l : LineNo) (ws : List (Nat × Byte)) : Sound s (slicePut s b l ws) :=
  ⟨by rw [slicePut_only], slicePut_wf b l ws⟩

@[simp] theorem localPut_sound (s : State) (b : By) (a : Nat) (bs : List Byte) : Sound s (localPut s b a bs) :=
  ⟨by rw [localPut_only], localPut_wf b a bs⟩

@[simp] theorem redPut_sound (s : State) (b : By) (a : Nat) (bs : List Byte) :
    Sound s (redPut s b a bs) := localPut_sound s b a bs

@[simp] theorem bump_sound (s : State) (n : StallId) (a : Nat) : Sound s (bump s n a) := redPut_sound s _ a _

@[simp] theorem putLines_sound (s : State) (ws : List (Nat × Byte)) : Sound s (putLines s ws) :=
  Sound.foldl (fun _ _ => slicePut_sound _ _ _ _) _ s

@[simp] theorem evictOne_sound (s : State) (n : StallId) : Sound s (evictOne s n) := by
  unfold evictOne
  split <;> simp +contextual

@[simp] theorem evictFit_sound (n : StallId) : ∀ (m : Nat) (s : State), Sound s (evictFit s n m)
  | 0, _ => ⟨rfl, id⟩
  | m + 1, s => by
    unfold evictFit
    split
    · exact ⟨rfl, id⟩
    · exact (evictOne_sound s n).trans (evictFit_sound n m _)

@[simp] theorem reserve_sound (s : State) (n : StallId) (who : ResvFor) (lines : Nat) : Sound s (reserve s n who lines) :=
  evictFit_sound n _ _

@[simp] theorem reserveAll_sound (s : State) (n : StallId) (qs : List Req) : Sound s (reserveAll s n qs) := by
  have each (lines : Desc → Nat) (who : Req → ResvFor) (t : State) :
      Sound t (qs.foldl (fun s q => if lines q.desc = 0 then s else reserve s n (who q) (lines q.desc)) t) :=
    Sound.foldl (fun u q => by split <;> simp +contextual) _ t
  have blobs (t : State) (k : Nat) (entry : Nat × StallId × Nat) :
      Sound t (if 2 ≤ qs.length ∧ k ≠ 0 then { t with quotas := t.quotas ++ [entry] } else t) := by split <;> exact ⟨rfl, id⟩
  refine ((Sound.trans ?_ (each vbrLines (fun q => .vbr q.id) _)).trans (each coopLines (fun q => .coop q.id) _)).trans (blobs _ _ _)
  split <;> simp +contextual

@[simp] theorem flushGroup_sound (s : State) (g : ChanId) : Sound s (flushGroup s g) :=
  Sound.foldl (fun s x => by split <;> simp +contextual) _ s

@[simp] theorem dropStallLines_sound (s : State) (n : StallId) : Sound s (dropStallLines s n) :=
  ⟨by rw [dropStallLines_stored], dropStallLines_wf n⟩

@[simp] theorem zeroFill_sound (s : State) (g : ChanId) : Sound s (zeroFill s g) := ⟨rfl, zeroFill_wf g⟩

@[simp] theorem poisonPage_sound (s : State) (g : ChanId) (page : BitVec 21) (source : BitVec 2) :
    Sound s (poisonPage s g page source) := by
  simp [poisonPage]

@[simp] theorem flushLine_sound (inval : Bool) (s : State) (x : Line) : Sound s (flushLine inval s x) := by
  cases inval <;> simp +contextual [flushLine]

@[simp] theorem flushRun_sound (s : State) (q : Req) (b : List Byte) : Sound s (flushRun s q b) := by
  unfold flushRun
  dsimp only
  split
  · simp +contextual
  · split
    · exact (Sound.foldl (flushLine_sound _) _ s).trans (finish_still ..).sound
    · exact Sound.foldl (fun s x => by split <;> simp +contextual) _ s

@[simp] theorem swapLine_sound (s : State) (x : Line) : Sound s (swapLine s x) := by
  unfold swapLine
  split <;> [skip; split] <;> simp +contextual

@[simp] theorem applyHeld_sound (s : State) (x : Line) : Sound s (applyHeld s x).1 := by
  unfold applyHeld
  split
  · simp +contextual
  · dsimp only
    split
    · exact (mergeRest_sound s x _).trans (writeBack_sound _ _)
    · simp +contextual

@[simp] theorem resolved_sound (s : State) (x : Line) : Sound s (resolved s x) := by
  obtain ⟨u, noted, e⟩ : ∃ u, Still s u ∧ resolved s x =
      (let r := applyHeld u { x with presence := 0, acks := 0 }
       if x.evict then finishEvict r.1 r.2 else serveFills (putLine r.1 r.2) x.line) :=
    ⟨_, by dsimp only; split <;> exact ⟨rfl, rfl⟩, rfl⟩
  rw [e]
  refine noted.sound.trans ((applyHeld_sound u { x with presence := 0, acks := 0 }).trans ?_)
  dsimp only
  split <;> simp

@[simp] theorem zeroStall_sound (s : State) (n : StallId) : Sound s (zeroStall s n) :=
  ((zeroKeyRegs_still ..).sound.trans (zeroEntries_still ..).sound).trans (dropStallLines_sound ..)

@[simp] theorem startReset_sound (s : State) (n : StallId) (cause : BitVec 2) : Sound s (startReset s n cause) := by
  unfold startReset
  split
  · simp +contextual
  · simp +contextual
  · dsimp only
    split <;> simp +contextual

@[simp] theorem powerLost_sound (s : State) (d : PdId) : Sound s (powerLost s d) := by
  unfold powerLost
  split_ifs
  case pos => simp
  case pos => dsimp only; split <;> simp +contextual
  all_goals simp

@[simp] theorem blockReset_sound (s : State) (d : PdId) : Sound s (blockReset s d) := by
  unfold blockReset
  dsimp only
  split_ifs <;> simp +contextual

@[simp] theorem chipReset_sound (s : State) (perst halter software : Bool) : Sound s (chipReset s perst halter software) :=
  ⟨by simp [chipReset], fun _ => rfl⟩

@[simp] theorem coldReset_sound (s : State) : Sound s (coldReset s) := ⟨by simp [coldReset], fun _ => rfl⟩

@[simp] theorem latchOne_still (s : State) (r : Reacts) (a : Assert) : Still s (latchOne s r a).1 := by
  unfold latchOne
  dsimp only
  split <;> simp +contextual

theorem latchAll_still (as : List Assert) (p : State × Reacts) :
    Still p.1 (as.foldl (fun p a => latchOne p.1 p.2 a) p).1 := by
  induction as generalizing p with
  | nil => exact ⟨rfl, rfl⟩
  | cons a as ih =>
    have one := latchOne_still p.1 p.2 a
    exact ⟨(ih _).1.trans one.1, (ih _).2.trans one.2⟩

@[simp] theorem takeReacts_sound (s : State) (r : Reacts) : Sound s (takeReacts s r) := by
  have told := foldl_still (f := fun s k => raiseEv s (evMirror k)) (fun _ _ => by simp) r.latched s
  unfold takeReacts
  dsimp only
  generalize r.latched.foldl (fun s k => raiseEv s (evMirror k)) s = t at told
  refine told.sound.trans ?_
  have irq : Still t (if r.irq = true then raiseEv t 307 else t) := by split <;> simp +contextual
  generalize (if r.irq = true then raiseEv t 307 else t) = u at irq
  refine irq.sound.trans ?_
  have nmi : Still u (if r.nmi = true then sendNmi u else u) := by split <;> simp +contextual
  generalize (if r.nmi = true then sendNmi u else u) = v at nmi
  refine nmi.sound.trans ?_
  split
  · simp +contextual
  · exact ((Sound.foldl (fun s n => startReset_sound s n 2) _ _).trans (Sound.foldl blockReset_sound _ _) :)

@[simp] theorem halterCycle_sound (s : State) : Sound s (halterCycle s) := by
  have latched (as : List Assert) := latchAll_still as ({ s with hlt := { s.hlt with inbox := [] } }, Reacts.none)
  unfold halterCycle
  split
  · exact ⟨rfl, id⟩
  · refine Sound.trans (t := { s with hlt := { s.hlt with inbox := [] } }) ⟨rfl, id⟩ ?_
    exact (Still.sound (latched _)).trans ((noteFirst_still ..).sound.trans (takeReacts_sound ..))

@[simp] theorem settle_sound (s : State) : Sound s (settle s) := (halterCycle_sound s).trans (halterCycle_sound _)

@[simp] theorem brownOut_sound (s : State) : Sound s (brownOut s) := by
  have latched := latchAll_still s.hlt.inbox ({ s with hlt := { s.hlt with inbox := [] } }, Reacts.none)
  unfold brownOut
  refine Sound.trans (t := { s with hlt := { s.hlt with inbox := [] } }) ⟨rfl, id⟩ ?_
  exact (Still.sound latched).trans ((noteFirst_still ..).sound.trans ((takeReacts_sound ..).trans
    ((clearKeys_still _).sound.trans (chipReset_sound ..))))

/-! ### What keeps local memory canonical: requests, windows and register writes -/

@[simp] theorem grantUse_sound (s : State) (n : StallId) (ep : BitVec 16) (checked : BitVec 64) (k : Key) :
    Sound s (grantUse s n ep checked k).1 := by
  unfold grantUse
  split
  · simp
  · dsimp only
    generalize (if k.tallyAddr = checked then PkResult.ok else _) = r
    cases r with
    | denied p => simp
    | conflict p e => simp
    | ok =>
      dsimp only
      split <;> [split; skip] <;> simp +contextual

@[simp] theorem useBlobKey_sound (s : State) (q : Req) (k : Key) (tag : List Byte) : Sound s (useBlobKey s q k tag) := by
  have granted := grantUse_sound s q.stall q.epoch q.tally k
  unfold useBlobKey
  split
  · simp
  · split
    · simp
    · dsimp only
      split <;> exact granted.trans (Still.sound (by simp))

@[simp] theorem startReq_sound (s : State) (q : Req) (us : List UnitId) : Sound s (startReq s q us) := by
  unfold startReq
  extract_lets d n fail go a m f
  have goes (u : State) (k : Option Key) (h : Option Handle) (blob : Option (List Byte)) : Sound u (go u k h blob) := by
    cases k <;> simp only [go] <;> split <;> simp
  have fails (u : State) (e : Byte × Byte) : Sound u (fail u e) := (setReq_still ..).sound
  split
  · exact goes ..
  · split
    · split
      · exact fails ..
      · exact goes ..
    · exact goes ..
  · clear_value f
    generalize keyErr s n d f = e
    cases e with
    | some e => exact fails ..
    | none =>
      cases f with
      | none st dt => exact fails ..
      | key k x y =>
        have granted := grantUse_sound s n q.epoch q.tally k
        refine Sound.ite (goes ..) ?_
        generalize grantUse s n q.epoch q.tally k = r at granted
        obtain ⟨u, e⟩ := r
        cases e with
        | some e => exact granted.trans ((setReq_still ..).sound.trans (fails ..))
        | none => exact granted.trans (goes ..)

@[simp] theorem placeMember_sound (s : State) (q : Req) (p : Pool) (us : List UnitId) : Sound s (placeMember s q p us) :=
  (notePlaced_still ..).sound.trans (startReq_sound ..)

@[simp] theorem admitOn_sound (s : State) (r : RingId) (n : StallId) (g : List BufD) (reserve : Bool) (us : List UnitId) :
    Sound s (admitOn s r n g reserve us) := by
  have taken (qs : List Req) : Sound s (reserveAll (takeCandidate s r g qs) n qs) :=
    (takeCandidate_still ..).sound.trans (reserveAll_sound ..)
  unfold admitOn
  dsimp only
  split
  · exact (taken _).trans ((notePlaced_still ..).sound.trans (startReq_sound ..))
  · split
    · exact (taken _).trans (setRing_still ..).sound
    · exact taken _
  · exact taken _

@[simp] theorem reject_sound (s : State) (r : RingId) (n : StallId) (g : List BufD) (v : Ruling) (log : PkResult) (reserve : Bool) :
    Sound s (reject s r n g v log reserve) := by
  unfold reject
  dsimp only
  split <;> simp +contextual

@[simp] theorem serve_sound (s : State) (r : RingId) : Sound s (serve s r) := by
  unfold serve
  split
  · simp
  · dsimp only
    split
    · simp
    · split
      · simp +contextual
      · split
        · split_ifs <;> [skip; skip; skip; split] <;> simp +contextual
        · simp +contextual
        · simp

@[simp] theorem localStore_sound (s : State) (q : Req) (a : Nat) (bs : List Byte) : Sound s (localStore s q a bs) := by
  unfold localStore
  dsimp only
  split <;> simp +contextual

theorem postStore_sound {s t : State} {q : Req} {x : Store} (h : postStore s q x = some t) : Sound s t := by
  unfold postStore at h
  split at h
  · dsimp only at h
    split at h
    · cases h; simp
    · cases h
  · split at h
    · cases h
    · cases h; simp +contextual
  · cases h; simp

@[simp] theorem postStores_sound (q : Req) : ∀ (l : List Store) (s : State), Sound s (postStores s q l).1
  | [], _ => ⟨rfl, id⟩
  | x :: l, s => by
    unfold postStores
    split
    · rename_i h
      exact (postStore_sound h).trans (postStores_sound q l _)
    · exact ⟨rfl, id⟩

@[simp] theorem complete_sound (s : State) (q : Req) (d : Done) : Sound s (complete s q d) := by
  have posted := postStores_sound q q.stores s
  unfold complete
  dsimp only
  split_ifs
  · exact ⟨rfl, id⟩
  all_goals exact posted.trans (Still.sound (by simp))

@[simp] theorem lineaddRun_sound (s : State) (q : Req) (src : List Byte) : Sound s (lineaddRun s q src) := by
  unfold lineaddRun
  dsimp only
  split_ifs <;> simp +contextual

@[simp] theorem tallyAddRun_sound (s : State) (q : Req) (src : List Byte) : Sound s (tallyAddRun s q src) := by
  unfold tallyAddRun
  dsimp only
  split <;> simp +contextual

@[simp] theorem bar4Do_sound (s : State) (a : Nat) (acc : Bar4Acc) : Sound s (bar4Do s a acc) := by
  cases acc <;> simp +contextual [bar4Do]

@[simp] theorem bar4Recv_sound (s : State) (a : Nat) (acc : Bar4Acc) : Sound s (bar4Recv s a acc).1 := by
  unfold bar4Recv
  split
  · simp
  · split
    · split_ifs <;> simp +contextual
    · simp

@[simp] theorem resumeHeld_sound (s : State) : Sound s (resumeHeld s) := by
  refine Sound.trans (t := { s with mgr := { s.mgr with held := [] } }) ⟨rfl, id⟩ (Sound.foldl (fun u h => ?_) _ _)
  split_ifs <;> simp +contextual

@[simp] theorem fenceSlice_sound (s : State) (k : SliceId) : Sound s (fenceSlice s k) := by
  simp +contextual [fenceSlice]

@[simp] theorem sliceBad_sound (s : State) (k : SliceId) (err : SliceErr) (st : Option StallId) (hs : HsId) :
    Sound s (sliceBad s k err st hs) := by
  unfold sliceBad
  refine Sound.trans (t := logMgr s k err st) (Still.sound (by simp)) ?_
  generalize logMgr s k err st = u
  refine Sound.trans ?_ (raiseHs_still ..).sound
  cases err with
  | data line way sector => dsimp only; split <;> [split; skip] <;> simp
  | reserved i => dsimp only; split <;> simp
  | tag => dsimp only; split <;> simp +contextual
  | directory => dsimp only; split <;> simp +contextual

@[simp] theorem sramBad_sound (s : State) (w : SramWord) (scrub : Bool) : Sound s (sramBad s w scrub) := by
  unfold sramBad
  cases w with
  | manger k err st => exact sliceBad_sound ..
  | bridle i =>
    refine Sound.trans ?_ (raiseHs_still ..).sound
    split <;> [split; skip] <;> simp
  | _ => simp

@[simp] theorem senseOtp_still (s : State) : Still s (senseOtp s) := by
  unfold senseOtp
  dsimp only
  split_ifs <;> simp

@[simp] theorem bootDomain_sound (s : State) (d : PdId) : Sound s (bootDomain s d) := by
  unfold bootDomain
  dsimp only
  split_ifs <;> simp +contextual

@[simp] theorem flrWork_sound (s : State) (f : Fn) : Sound s (flrWork s f) :=
  (Sound.foldl (fun s n => (abortStall_still s n).sound.trans (zeroStall_sound _ n)) _ s).trans (dropFetches_still ..).sound

@[simp] theorem flrDo_sound (s : State) (f : Fn) : Sound s (flrDo s f) := by
  have work := (flrWork_sound s f).trans (flrFeed_still _ f).sound
  have dram : (flrDo s f).dram = (flrCleared s f).dram := by
    unfold flrDo flrCleared
    with_reducible rfl
  exact ⟨flrDo_pending s f, fun w => by rw [dram]; exact work.2 w⟩

@[simp] theorem serveWaiters_still : ∀ (n : Nat) (s : State), Still s (serveWaiters n s)
  | 0, _ => ⟨rfl, rfl⟩
  | n + 1, s => by
    unfold serveWaiters
    split
    · have one := giveNext_still s
      have more := serveWaiters_still n
      exact ⟨(more _).1.trans (one _).1, (more _).2.trans (one _).2⟩
    · exact ⟨rfl, rfl⟩

@[simp] theorem wrSwReset_sound (s : State) (f : Fn) (a : BitVec 64) : Sound s (wrSwReset s f a) := by
  cases f
  · exact ⟨rfl, id⟩
  · unfold wrSwReset onPf1
    dsimp only
    split <;> simp +contextual

@[simp] theorem stlCommand_sound (s : State) (n : StallId) (cmd : Nat) : Sound s (stlCommand s n cmd) := by
  unfold stlCommand
  dsimp only
  split <;> [skip; skip; skip; skip; skip; skip; skip; split; skip] <;> simp +contextual

@[simp] theorem wrStlCmd_sound (s : State) (f : Fn) (n : StallId) (cmd : Nat) : Sound s (wrStlCmd s f n cmd) := by
  unfold wrStlCmd
  split <;> simp +contextual

@[simp] theorem writeBrd_sound (s : State) (f : Fn) (r : Reg) (v m : BitVec 64) : Sound s (writeBrd s f r v m) := by
  cases r <;> simp +contextual [writeBrd]

@[simp] theorem writeDsp_still (s : State) (f : Fn) (r : Reg) (v m : BitVec 64) : Still s (writeDsp s f r v m) := by
  unfold writeDsp
  cases r <;> simp

@[simp] theorem writeStl_sound (s : State) (f : Fn) (r : Reg) (v m : BitVec 64) : Sound s (writeStl s f r v m) := by
  unfold writeStl
  cases r
  case stlCmd | stlRingAdd | stlRingRemove => dsimp only; split <;> simp +contextual
  all_goals simp

@[simp] theorem writeReg_sound (s : State) (f : Fn) (r : Reg) (v m : BitVec 64) : Sound s (writeReg s f r v m) := by
  unfold writeReg
  split <;> simp +contextual

@[simp] theorem write4_sound (s : State) (f : Fn) (off : BitVec 20) (v : BitVec 32) : Sound s (write4 s f off v) := by
  unfold write4
  split
  · simp
  · simp +contextual
  · simp
  · dsimp only
    split <;> [skip; split] <;> simp +contextual

@[simp] theorem write8_sound (s : State) (f : Fn) (off : BitVec 20) (v : BitVec 64) : Sound s (write8 s f off v) := by
  unfold write8
  split
  · simp +contextual
  · refine (write4_sound s f off (field v 0 32)).trans ?_
    dsimp only
    split
    · exact write4_sound ..
    · exact ⟨rfl, id⟩

@[simp] theorem imageWrite4_sound (s : State) (f : Fn) (off : Nat) (v : BitVec 32) : Sound s (imageWrite4 s f off v) := by
  unfold imageWrite4
  split <;> simp +contextual

@[simp] theorem imageWrite_sound (s : State) (w : RegWrite) : Sound s (imageWrite s w) := by
  unfold imageWrite
  dsimp only
  split <;> [split; skip] <;> simp +contextual

@[simp] theorem applyImage_sound (s : State) : Sound s (applyImage s) := by
  have bare : Still s { s with tmp := { s.tmp with inp := vmapIdx bareInput s.tmp.inp } } := ⟨rfl, rfl⟩
  have written := bare.sound.trans (Sound.foldl imageWrite_sound (imageWrites { s with tmp := { s.tmp with inp := vmapIdx bareInput s.tmp.inp } }) _)
  exact ⟨written.1, written.2⟩

theorem gateBar_sound {s : State} {f : Fn} {k : State → State} (h : Sound s (k s)) : Sound s (gateBar s f k) := by
  unfold gateBar
  split
  · simp
  · split
    · simp
    · exact h

theorem gateW_sound {s : State} {f : Fn} {k : State → State} (h : Sound s (k s)) : Sound s (gateW s f k) := by
  refine gateBar_sound ?_
  split
  · exact h
  · exact ⟨rfl, id⟩

@[simp] theorem earlyWrite_sound (s : State) (f : Fn) (off : BitVec 20) (v : BitVec 64) : Sound s (earlyWrite s f off v) := by
  unfold earlyWrite
  split <;> simp +contextual

@[simp] theorem barWrite_sound (s : State) (f : Fn) (off : BitVec 20) (wide : Bool) (v : BitVec 64) :
    Sound s (barWrite s f off wide v) :=
  have wrote : Sound s (if wide then write8 s f off v else write4 s f off (field v 0 32)) := .ite (write8_sound ..) (write4_sound ..)
  gateBar_sound (.ite ⟨rfl, id⟩ (.ite (wrote.trans (settle_sound _)) (earlyWrite_sound ..)))

@[simp] theorem pageStore_sound (s : State) (f : Fn) (off : BitVec 20) (wide : Bool) (v : BitVec 64) :
    Sound s (pageStore s f off wide v) := by
  have written (k : State → StallId → State) (h : ∀ t n, Still t (k t n)) : Sound s (pageWrite s f (pageRing off) k) :=
    (pageWrite_still s f _ k h).sound
  refine Sound.ite (gateBar_sound (k := fun s => s) ⟨rfl, id⟩) ?_
  split
  · exact (written _ fun t n => tailWrite_still ..).trans (settle_sound _)
  · exact written _ fun t n => statusWrite_still ..
  · exact written _ fun t n => ⟨rfl, rfl⟩

/-! ### Each command -/

/-- A command answers a next state, with the queue as before and local memory canonical if it was. -/
def Fine (s : State) (o : Host.Outcome State Fault Refusal) : Prop := ∃ t, o = .next t ∧ Sound s t

@[simp] theorem fine_next {s t : State} : Fine s (.next t) ↔ Sound s t :=
  ⟨fun ⟨_, e, h⟩ => by cases e; exact h, fun h => ⟨t, rfl, h⟩⟩

theorem Fine.ite {s : State} {c : Prop} [Decidable c] {o o' : Host.Outcome State Fault Refusal} (h : Fine s o) (g : Fine s o') :
    Fine s (if c then o else o') := by split <;> assumption

/-- A row of an opcode: its operation runs after the crib was used, and the Halter then acts. -/
theorem runOp_fine {s : State} {i op : Nat} {k : State → Req → List Byte → State} (h : ∀ u q b, Sound u (k u q b)) :
    Fine s (runOp s i op k) := by
  unfold runOp
  split
  · exact fine_next.2 ⟨rfl, id⟩
  · split
    · exact fine_next.2 ⟨rfl, id⟩
    · exact fine_next.2 (failReq_still ..).sound
    · exact fine_next.2 ((cribUsed_still ..).sound.trans ((h ..).trans (settle_sound _)))

theorem runBn_fine {s : State} {i op : Nat} {k : State → Req → List Byte → State} (h : ∀ u q b, Sound u (k u q b)) :
    Fine s (runBn s i op k) := runOp_fine fun _ _ _ => (countOps_still ..).sound.trans (h ..)

theorem runBlob_fine {s : State} {op : Nat} {r : CoreRun} {k : State → Req → List Byte → State} (h : ∀ u q b, Still u (k u q b)) :
    Fine s (runBlob s op r k) := runBn_fine fun _ _ _ => (checkCores_still _ _ _ _ _ (h ..)).sound

theorem runBase_fine {s : State} {op : Nat} {r : CoreRun} {k : State → Req → List Byte → State} (h : ∀ u q b, Still u (k u q b)) :
    Fine s (runBase s op r k) := by
  refine runOp_fine fun u q b => (withTables_still _ _ _ _ fun t => ?_).sound
  have counted := countOps_still t q
  have checked := checkCores_still (r.agree || !wrapsBlob q.desc) k (countOps t q) q b (h ..)
  exact ⟨checked.1.trans counted.1, checked.2.trans counted.2⟩

theorem execPowerOnReset_fine (i2cAddr : BitVec 3) (refclkSel testMode : Bool) (imgSel : BitVec 2) (s : State) :
    Fine s (execPowerOnReset i2cAddr refclkSel testMode imgSel s) := by
  simp +contextual [execPowerOnReset]

theorem execPerstNAssert_fine (s : State) : Fine s (execPerstNAssert s) := by
  unfold execPerstNAssert
  split_ifs <;> simp +contextual

theorem execPerstNDeassert_fine (imgSel : BitVec 2) (s : State) : Fine s (execPerstNDeassert imgSel s) := by
  simp [execPerstNDeassert]

theorem execChipReset_fine (perst halter software : Bool) (imgSel : BitVec 2) (s : State) :
    Fine s (execChipReset perst halter software imgSel s) := by
  unfold execChipReset
  split <;> simp +contextual

theorem execResetPhaseEnd_fine (s : State) : Fine s (execResetPhaseEnd s) := by
  unfold execResetPhaseEnd
  split <;> simp +contextual

theorem execOtpPhaseEnd_fine (s : State) : Fine s (execOtpPhaseEnd s) := by
  unfold execOtpPhaseEnd
  split <;> simp +contextual

theorem execPllLock_fine (s : State) : Fine s (execPllLock s) := by
  unfold execPllLock
  split <;> simp +contextual

theorem execPllLockTimeout_fine (s : State) : Fine s (execPllLockTimeout s) := by
  unfold execPllLockTimeout
  split <;> simp +contextual

theorem execPreloadTestEnd_fine (halterOk mrbOk ms0Ok : Bool) (sfdp : Option Sfdp) (s : State) :
    Fine s (execPreloadTestEnd halterOk mrbOk ms0Ok sfdp s) := by
  unfold execPreloadTestEnd
  split_ifs <;> simp +contextual

theorem execLoadPhaseEnd_fine (copyA copyB : List Byte) (bnuPass : BitVec 8) (s : State) :
    Fine s (execLoadPhaseEnd copyA copyB bnuPass s) := by
  unfold execLoadPhaseEnd
  split <;> simp +contextual

theorem execMemoryPhaseEnd_fine (tablesOk : Bool) (badSram : List SramPart) (s : State) :
    Fine s (execMemoryPhaseEnd tablesOk badSram s) := by
  unfold execMemoryPhaseEnd
  split <;> simp +contextual

theorem execSelfTestPhaseEnd_fine (failed : BitVec 64) (s : State) : Fine s (execSelfTestPhaseEnd failed s) := by
  unfold execSelfTestPhaseEnd
  dsimp only
  split <;> simp +contextual

theorem execRootGen_fine (readbackOk : Bool) (s : State) : Fine s (execRootGen readbackOk s) := by
  unfold execRootGen
  (repeat' split) <;> simp +contextual

theorem execHeldEntry_fine (s : State) : Fine s (execHeldEntry s) := by
  unfold execHeldEntry
  split <;> simp +contextual

theorem execReadyEntry_fine (s : State) : Fine s (execReadyEntry s) := by
  unfold execReadyEntry
  split <;> simp +contextual

theorem execCfgBootCtlRelease_fine (f : Fn) (v : BitVec 32) (s : State) : Fine s (execCfgBootCtlRelease f v s) :=
  fine_next.2 (gateW_sound (by simp +contextual))

theorem execConfigRequest_fine (f : Fn) (op : CfgOp) (s : State) : Fine s (execConfigRequest f op s) := by
  simp [execConfigRequest]

theorem execFlr_fine (f : Fn) (s : State) : Fine s (execFlr f s) := by
  unfold execFlr
  split <;> simp +contextual

theorem execFlrComplete_fine (f : Fn) (s : State) : Fine s (execFlrComplete f s) := by
  unfold execFlrComplete
  split <;> simp +contextual

theorem execLinkRetrain_fine (rate width : BitVec 4) (s : State) : Fine s (execLinkRetrain rate width s) := by
  unfold execLinkRetrain
  split <;> simp +contextual

theorem execD3hotEntry_fine (f : Fn) (s : State) : Fine s (execD3hotEntry f s) := by
  simp [execD3hotEntry]

theorem execD0Return_fine (f : Fn) (s : State) : Fine s (execD0Return f s) := by
  simp [execD0Return]

theorem execBarAccessMalformed_fine (f : Fn) (isWrite : Bool) (s : State) : Fine s (execBarAccessMalformed f isWrite s) := by
  simp [execBarAccessMalformed]

theorem execUnsupportedRequest_fine (f : Fn) (s : State) : Fine s (execUnsupportedRequest f s) := by
  simp [execUnsupportedRequest]

theorem execBrdDbTailWrite_fine (f : Fn) (r : RingId) (v : BitVec 32) (s : State) : Fine s (execBrdDbTailWrite f r v s) := by
  simp +contextual [execBrdDbTailWrite]

theorem execAlarmTokenRefill_fine (s : State) : Fine s (execAlarmTokenRefill s) := by
  simp [execAlarmTokenRefill]

theorem execDescriptorFetchIssue_fine (r : RingId) (s : State) : Fine s (execDescriptorFetchIssue r s) := by
  unfold execDescriptorFetchIssue
  split <;> simp +contextual

theorem execLateCompletion_fine (i : Nat) (s : State) : Fine s (execLateCompletion i s) := by
  unfold execLateCompletion
  split <;> simp +contextual

theorem execFetchErrClear_fine (f : Fn) (r : RingId) (v : BitVec 32) (s : State) : Fine s (execFetchErrClear f r v s) := by
  simp [execFetchErrClear]

theorem execCandidateAdmission_fine (r : RingId) (s : State) : Fine s (execCandidateAdmission r s) := by
  simp +contextual [execCandidateAdmission]

theorem execBlobUnwrapDone_fine (i : Nat) (agree : Bool) (s : State) : Fine s (execBlobUnwrapDone i agree s) := by
  unfold execBlobUnwrapDone
  (repeat' split) <;> simp +contextual

theorem execChainMemberStart_fine (i : Nat) (s : State) : Fine s (execChainMemberStart i s) := by
  unfold execChainMemberStart
  (repeat' split) <;> simp +contextual

theorem execCoopHoldTimeout_fine (s : State) : Fine s (execCoopHoldTimeout s) := by
  simp [execCoopHoldTimeout]

theorem execKatDue_fine (p : Pool) (s : State) : Fine s (execKatDue p s) := by
  unfold execKatDue
  split <;> simp +contextual

theorem execKatStart_fine (u : UnitId) (s : State) : Fine s (execKatStart u s) := by
  unfold execKatStart
  dsimp only
  split <;> simp +contextual

theorem execKatEnd_fine (u : UnitId) (pass : Bool) (s : State) : Fine s (execKatEnd u pass s) := by
  unfold execKatEnd
  split_ifs <;> simp +contextual

theorem execUnitFaultCheckFail_fine (u : UnitId) (cause : BitVec 4) (s : State) : Fine s (execUnitFaultCheckFail u cause s) := by
  unfold execUnitFaultCheckFail
  dsimp only
  split_ifs <;> simp +contextual

theorem execRequestComplete_fine (i : Nat) (s : State) : Fine s (execRequestComplete i s) := by
  unfold execRequestComplete
  (repeat' split) <;> simp +contextual

theorem execIntermediateZeroise_fine (c : Nat) (s : State) : Fine s (execIntermediateZeroise c s) := by
  unfold execIntermediateZeroise
  split <;> simp +contextual

theorem execVbrRelease_fine (i : Nat) (s : State) : Fine s (execVbrRelease i s) := by
  unfold execVbrRelease
  (repeat' split) <;> simp +contextual

theorem execVbrLinesZeroise_fine (i : Nat) (s : State) : Fine s (execVbrLinesZeroise i s) := by
  unfold execVbrLinesZeroise
  split <;> simp +contextual

theorem execCoopLinesZeroise_fine (i : Nat) (s : State) : Fine s (execCoopLinesZeroise i s) := by
  unfold execCoopLinesZeroise
  split <;> simp +contextual

theorem execProtFenceDone_fine (s : State) : Fine s (execProtFenceDone s) := by
  unfold execProtFenceDone
  split_ifs <;> simp +contextual

theorem execAesEcbEnc_fine (i : Nat) (s : State) : Fine s (execAesEcbEnc i s) := by
  unfold execAesEcbEnc
  exact runOp_fine fun u q b => by simp +contextual

theorem execAesEcbDec_fine (i : Nat) (s : State) : Fine s (execAesEcbDec i s) := by
  unfold execAesEcbDec
  exact runOp_fine fun u q b => by simp +contextual

theorem execAesCbcEnc_fine (i : Nat) (s : State) : Fine s (execAesCbcEnc i s) := by
  unfold execAesCbcEnc
  exact runOp_fine fun u q b => by simp +contextual

theorem execAesCbcDec_fine (i : Nat) (s : State) : Fine s (execAesCbcDec i s) := by
  unfold execAesCbcDec
  exact runOp_fine fun u q b => by simp +contextual

theorem execAesCtr_fine (i : Nat) (s : State) : Fine s (execAesCtr i s) := by
  unfold execAesCtr
  exact runOp_fine fun u q b => by simp +contextual

theorem execAesXtsEnc_fine (i : Nat) (s : State) : Fine s (execAesXtsEnc i s) := by
  unfold execAesXtsEnc
  exact runOp_fine fun u q b => by simp +contextual

theorem execAesXtsDec_fine (i : Nat) (s : State) : Fine s (execAesXtsDec i s) := by
  unfold execAesXtsDec
  exact runOp_fine fun u q b => by simp +contextual

theorem execAesCfbEnc_fine (i : Nat) (s : State) : Fine s (execAesCfbEnc i s) := by
  unfold execAesCfbEnc
  exact runOp_fine fun u q b => by simp +contextual

theorem execAesCfbDec_fine (i : Nat) (s : State) : Fine s (execAesCfbDec i s) := by
  unfold execAesCfbDec
  exact runOp_fine fun u q b => by simp +contextual

theorem execAesOfb_fine (i : Nat) (s : State) : Fine s (execAesOfb i s) := by
  unfold execAesOfb
  exact runOp_fine fun u q b => by simp +contextual

theorem execAesGcmEnc_fine (i : Nat) (s : State) : Fine s (execAesGcmEnc i s) := by
  unfold execAesGcmEnc
  exact runOp_fine fun u q b => by simp +contextual

theorem execAesGcmDec_fine (i : Nat) (s : State) : Fine s (execAesGcmDec i s) := by
  unfold execAesGcmDec
  exact runOp_fine fun u q b => by simp +contextual

theorem execAesCcmEnc_fine (i : Nat) (s : State) : Fine s (execAesCcmEnc i s) := by
  unfold execAesCcmEnc
  exact runOp_fine fun u q b => by simp +contextual

theorem execAesCcmDec_fine (i : Nat) (s : State) : Fine s (execAesCcmDec i s) := by
  unfold execAesCcmDec
  exact runOp_fine fun u q b => by simp +contextual

theorem execAesCmac_fine (i : Nat) (s : State) : Fine s (execAesCmac i s) := by
  unfold execAesCmac
  exact runOp_fine fun u q b => by simp +contextual

theorem execChacha20_fine (i : Nat) (s : State) : Fine s (execChacha20 i s) := by
  unfold execChacha20
  exact runOp_fine fun u q b => by simp +contextual

theorem execChacha20Poly1305Enc_fine (i : Nat) (s : State) : Fine s (execChacha20Poly1305Enc i s) := by
  unfold execChacha20Poly1305Enc
  exact runOp_fine fun u q b => by simp +contextual

theorem execChacha20Poly1305Dec_fine (i : Nat) (s : State) : Fine s (execChacha20Poly1305Dec i s) := by
  unfold execChacha20Poly1305Dec
  exact runOp_fine fun u q b => by simp +contextual

theorem execHash_fine (i : Nat) (s : State) : Fine s (execHash i s) := by
  unfold execHash
  exact runOp_fine fun u q b => by simp +contextual

theorem execHashFrag_fine (i : Nat) (s : State) : Fine s (execHashFrag i s) := by
  unfold execHashFrag
  exact runOp_fine fun u q b => by simp +contextual

theorem execXof_fine (i : Nat) (s : State) : Fine s (execXof i s) := by
  unfold execXof
  exact runOp_fine fun u q b => by simp +contextual

theorem execHmac_fine (i : Nat) (s : State) : Fine s (execHmac i s) := by
  unfold execHmac
  exact runOp_fine fun u q b => by simp +contextual

theorem execHmacFrag_fine (i : Nat) (s : State) : Fine s (execHmacFrag i s) := by
  unfold execHmacFrag
  exact runOp_fine fun u q b => by simp +contextual

theorem execKmac_fine (i : Nat) (s : State) : Fine s (execKmac i s) := by
  unfold execKmac
  exact runOp_fine fun u q b => by simp +contextual

theorem execKmacXof_fine (i : Nat) (s : State) : Fine s (execKmacXof i s) := by
  unfold execKmacXof
  exact runOp_fine fun u q b => by simp +contextual

theorem execMrExtend_fine (i : Nat) (s : State) : Fine s (execMrExtend i s) := by
  unfold execMrExtend
  exact runOp_fine fun u q b => by simp +contextual

theorem execModexp_fine (i : Nat) (s : State) : Fine s (execModexp i s) := by
  unfold execModexp
  exact runBn_fine fun u q b => by simp +contextual

theorem execRsaPrivCrt_fine (i : Nat) (s : State) : Fine s (execRsaPrivCrt i s) := by
  unfold execRsaPrivCrt
  exact runBn_fine fun u q b => by simp +contextual

theorem execRsaPub_fine (i : Nat) (s : State) : Fine s (execRsaPub i s) := by
  unfold execRsaPub
  exact runBn_fine fun u q b => by simp +contextual

theorem execEcdsaSign_fine (i : Nat) (s : State) : Fine s (execEcdsaSign i s) := by
  unfold execEcdsaSign
  exact runBase_fine fun u q b => by simp +contextual

theorem execEcdsaVerify_fine (i : Nat) (s : State) : Fine s (execEcdsaVerify i s) := by
  unfold execEcdsaVerify
  exact runBn_fine fun u q b => by simp +contextual

theorem execEcdh_fine (r : CoreRun) (s : State) : Fine s (execEcdh r s) := by
  unfold execEcdh
  exact runBlob_fine fun u q b => by simp +contextual

theorem execEcKeygen_fine (r : CoreRun) (s : State) : Fine s (execEcKeygen r s) := by
  unfold execEcKeygen
  exact runBase_fine fun u q b => by simp +contextual

theorem execEddsaSign_fine (i : Nat) (s : State) : Fine s (execEddsaSign i s) := by
  unfold execEddsaSign
  exact runBase_fine fun u q b => by simp +contextual

theorem execEddsaVerify_fine (i : Nat) (s : State) : Fine s (execEddsaVerify i s) := by
  unfold execEddsaVerify
  exact runBn_fine fun u q b => by simp +contextual

theorem execXdh_fine (r : CoreRun) (s : State) : Fine s (execXdh r s) := by
  unfold execXdh
  exact runBlob_fine fun u q b => by simp +contextual

theorem execMlkemKeygen_fine (r : CoreRun) (s : State) : Fine s (execMlkemKeygen r s) := by
  unfold execMlkemKeygen
  exact runBlob_fine fun u q b => by simp +contextual

theorem execMlkemEncaps_fine (r : CoreRun) (s : State) : Fine s (execMlkemEncaps r s) := by
  unfold execMlkemEncaps
  exact runBlob_fine fun u q b => by simp +contextual

theorem execMlkemDecaps_fine (r : CoreRun) (s : State) : Fine s (execMlkemDecaps r s) := by
  unfold execMlkemDecaps
  exact runBlob_fine fun u q b => by simp +contextual

theorem execMldsaKeygen_fine (r : CoreRun) (s : State) : Fine s (execMldsaKeygen r s) := by
  unfold execMldsaKeygen
  exact runBlob_fine fun u q b => by simp +contextual

theorem execMldsaSign_fine (i : Nat) (s : State) : Fine s (execMldsaSign i s) := by
  unfold execMldsaSign
  exact runBn_fine fun u q b => by simp +contextual

theorem execMldsaVerify_fine (i : Nat) (s : State) : Fine s (execMldsaVerify i s) := by
  unfold execMldsaVerify
  exact runBn_fine fun u q b => by simp +contextual

theorem execModop_fine (i : Nat) (s : State) : Fine s (execModop i s) := by
  unfold execModop
  exact runBn_fine fun u q b => by simp +contextual

theorem execCoopModexp_fine (i : Nat) (s : State) : Fine s (execCoopModexp i s) := by
  unfold execCoopModexp
  exact runBn_fine fun u q b => by simp +contextual

theorem execRngGet_fine (i : Nat) (s : State) : Fine s (execRngGet i s) := by
  unfold execRngGet
  exact runOp_fine fun u q b => by simp +contextual

theorem execRngReseed_fine (i : Nat) (s : State) : Fine s (execRngReseed i s) := by
  unfold execRngReseed
  exact runOp_fine fun u q b => by simp +contextual

theorem execRngRaw_fine (i : Nat) (s : State) : Fine s (execRngRaw i s) := by
  unfold execRngRaw
  exact runOp_fine fun u q b => by simp +contextual

theorem execBlobWrap_fine (i : Nat) (agree : Bool) (s : State) : Fine s (execBlobWrap i agree s) :=
  runOp_fine fun u q b => (checkCores_still _ _ u q b (by simp)).sound

theorem execBlobUnwrap_fine (i : Nat) (s : State) : Fine s (execBlobUnwrap i s) := by
  unfold execBlobUnwrap
  exact runOp_fine fun u q b => by simp +contextual

theorem execKeyDerive_fine (i : Nat) (agree : Bool) (s : State) : Fine s (execKeyDerive i agree s) :=
  runOp_fine fun u q b => (checkCores_still _ _ u q b (by simp)).sound

theorem execKeyGenerate_fine (i : Nat) (agree : Bool) (s : State) : Fine s (execKeyGenerate i agree s) :=
  runOp_fine fun u q b => (checkCores_still _ _ u q b (by simp)).sound

theorem execKstateLoad_fine (i : Nat) (s : State) : Fine s (execKstateLoad i s) := by
  unfold execKstateLoad
  exact runOp_fine fun u q b => by simp +contextual

theorem execKstateDrop_fine (i : Nat) (s : State) : Fine s (execKstateDrop i s) := by
  unfold execKstateDrop
  exact runOp_fine fun u q b => by simp +contextual

theorem execTallyBind_fine (i : Nat) (s : State) : Fine s (execTallyBind i s) := by
  unfold execTallyBind
  exact runOp_fine fun u q b => by simp +contextual

theorem execKeyImport_fine (i : Nat) (agree : Bool) (s : State) : Fine s (execKeyImport i agree s) :=
  runOp_fine fun u q b => (checkCores_still _ _ u q b (by simp)).sound

theorem execCopy_fine (i : Nat) (s : State) : Fine s (execCopy i s) := by
  unfold execCopy
  exact runOp_fine fun u q b => by simp +contextual

theorem execFill_fine (i : Nat) (s : State) : Fine s (execFill i s) := by
  unfold execFill
  exact runOp_fine fun u q b => by simp +contextual

theorem execFlush_fine (i : Nat) (s : State) : Fine s (execFlush i s) := by
  unfold execFlush
  exact runOp_fine fun u q b => by simp +contextual

theorem execTally64Add_fine (i : Nat) (s : State) : Fine s (execTally64Add i s) := by
  unfold execTally64Add
  exact runOp_fine fun u q b => by simp +contextual

theorem execTally64Read_fine (i : Nat) (s : State) : Fine s (execTally64Read i s) := by
  unfold execTally64Read
  exact runOp_fine fun u q b => by simp +contextual

theorem execLineadd_fine (i : Nat) (s : State) : Fine s (execLineadd i s) := by
  unfold execLineadd
  exact runOp_fine fun u q b => by simp +contextual

theorem execFence_fine (i : Nat) (s : State) : Fine s (execFence i s) := by
  unfold execFence
  (repeat' split) <;> simp +contextual

theorem execNop_fine (i : Nat) (s : State) : Fine s (execNop i s) := by
  unfold execNop
  split <;> simp +contextual

theorem execStlCmdEnable_fine (f : Fn) (n : StallId) (s : State) : Fine s (execStlCmdEnable f n s) :=
  fine_next.2 (gateW_sound (by simp +contextual))

theorem execStlCmdQuiesce_fine (f : Fn) (n : StallId) (s : State) : Fine s (execStlCmdQuiesce f n s) :=
  fine_next.2 (gateW_sound (by simp +contextual))

theorem execQuiesceComplete_fine (n : StallId) (s : State) : Fine s (execQuiesceComplete n s) := by
  simp +contextual [execQuiesceComplete]

theorem execStlCmdResume_fine (f : Fn) (n : StallId) (s : State) : Fine s (execStlCmdResume f n s) :=
  fine_next.2 (gateW_sound (by simp +contextual))

theorem execStlCmdReset_fine (f : Fn) (n : StallId) (s : State) : Fine s (execStlCmdReset f n s) :=
  fine_next.2 (gateW_sound (by simp +contextual))

theorem execStlCmdRelease_fine (f : Fn) (n : StallId) (s : State) : Fine s (execStlCmdRelease f n s) :=
  fine_next.2 (gateW_sound (by simp +contextual))

theorem execStlCmdInvalid_fine (f : Fn) (n : StallId) (cmd : BitVec 4) (s : State) : Fine s (execStlCmdInvalid f n cmd s) :=
  fine_next.2 (gateW_sound (by simp +contextual))

theorem execStallResetEnd_fine (n : StallId) (s : State) : Fine s (execStallResetEnd n s) := by
  unfold execStallResetEnd
  split <;> simp +contextual

theorem execStlRingAdd_fine (f : Fn) (n : StallId) (v : BitVec 32) (s : State) : Fine s (execStlRingAdd f n v s) :=
  fine_next.2 (gateW_sound (by simp +contextual))

theorem execStlRingRemove_fine (f : Fn) (n : StallId) (v : BitVec 32) (s : State) : Fine s (execStlRingRemove f n v s) :=
  fine_next.2 (gateW_sound (by simp +contextual))

theorem execStlPasidWrite_fine (f : Fn) (n : StallId) (k : Fin 8) (v : BitVec 32) (s : State) :
    Fine s (execStlPasidWrite f n k v s) :=
  fine_next.2 (gateW_sound (by simp +contextual))

theorem execStlWorldWrite_fine (f : Fn) (n : StallId) (v : BitVec 32) (s : State) : Fine s (execStlWorldWrite f n v s) :=
  fine_next.2 (gateW_sound (by simp +contextual))

theorem execStlMgrLinesWrite_fine (f : Fn) (n : StallId) (v : BitVec 32) (s : State) : Fine s (execStlMgrLinesWrite f n v s) := by
  simp [execStlMgrLinesWrite]

theorem execCapacityEviction_fine (n : StallId) (s : State) : Fine s (execCapacityEviction n s) := by
  unfold execCapacityEviction
  split <;> simp +contextual

theorem execStlStatusRead_fine (f : Fn) (n : StallId) (s : State) : Fine s (execStlStatusRead f n s) := by
  simp [execStlStatusRead]

theorem execDrbgRateWindow_fine (s : State) : Fine s (execDrbgRateWindow s) := by
  simp [execDrbgRateWindow]

theorem execDspRingEnable_fine (f : Fn) (r : RingId) (v : BitVec 32) (s : State) : Fine s (execDspRingEnable f r v s) := by
  simp [execDspRingEnable]

theorem execDspRingDisable_fine (f : Fn) (r : RingId) (v : BitVec 32) (s : State) : Fine s (execDspRingDisable f r v s) := by
  simp [execDspRingDisable]

theorem execDspRingCfgWrite_fine (f : Fn) (r : RingId) (reg : RingReg) (v : BitVec 64) (s : State) :
    Fine s (execDspRingCfgWrite f r reg v s) := by
  simp [execDspRingCfgWrite]

theorem execDspAlarmTbWrite_fine (f : Fn) (n : StallId) (v : BitVec 64) (s : State) : Fine s (execDspAlarmTbWrite f n v s) := by
  simp [execDspAlarmTbWrite]

theorem execPdkEpochCommit_fine (f : Fn) (s : State) : Fine s (execPdkEpochCommit f s) := by
  simp [execPdkEpochCommit]

theorem execHeldCommitApply_fine (s : State) : Fine s (execHeldCommitApply s) := by
  unfold execHeldCommitApply
  split <;> simp +contextual

theorem execStagedRefillEnd_fine (s : State) : Fine s (execStagedRefillEnd s) := by
  simp [execStagedRefillEnd]

theorem execPdkEpochDiscard_fine (f : Fn) (s : State) : Fine s (execPdkEpochDiscard f s) := by
  simp [execPdkEpochDiscard]

theorem execPkEntryWrite_fine (f : Fn) (k : Fin 256) (w : PkWord) (v : BitVec 64) (s : State) :
    Fine s (execPkEntryWrite f k w v s) := by
  simp [execPkEntryWrite]

theorem execPdkProtFenceWrite_fine (f : Fn) (v : BitVec 32) (s : State) : Fine s (execPdkProtFenceWrite f v s) := by
  simp [execPdkProtFenceWrite]

theorem execI2cStop_fine (data : List Byte) (s : State) : Fine s (execI2cStop data s) := by
  unfold execI2cStop
  split <;> simp +contextual

theorem execI2cUnknownCommand_fine (code : Byte) (s : State) : Fine s (execI2cUnknownCommand code s) := by
  simp [execI2cUnknownCommand]

theorem execTelemetryRefresh_fine (vddMv powerMw : BitVec 16) (s : State) : Fine s (execTelemetryRefresh vddMv powerMw s) := by
  unfold execTelemetryRefresh
  split <;> simp +contextual

theorem execGracefulStopStopped_fine (s : State) : Fine s (execGracefulStopStopped s) := by
  simp +contextual [execGracefulStopStopped]

theorem execBrdStopCtlResume_fine (f : Fn) (v : BitVec 32) (s : State) : Fine s (execBrdStopCtlResume f v s) := by
  simp [execBrdStopCtlResume]

theorem execLtrSend_fine (s : State) : Fine s (execLtrSend s) := by
  unfold execLtrSend
  split_ifs <;> simp +contextual

theorem execMsixUnmask_fine (f : Fn) (v : Option (BitVec 10)) (s : State) : Fine s (execMsixUnmask f v s) := by
  unfold execMsixUnmask
  split <;> simp +contextual

theorem execLowHalfWrite_fine (f : Fn) (off : BitVec 20) (v : BitVec 32) (s : State) : Fine s (execLowHalfWrite f off v s) := by
  simp +contextual [execLowHalfWrite]

theorem execHighHalfWrite_fine (f : Fn) (off : BitVec 20) (v : BitVec 32) (s : State) : Fine s (execHighHalfWrite f off v s) := by
  simp +contextual [execHighHalfWrite]

theorem execLowHalfRead_fine (f : Fn) (page : Bool) (off : BitVec 20) (wide : Bool) (s : State) :
    Fine s (execLowHalfRead f page off wide s) := by
  simp [execLowHalfRead]

theorem execRegisterWrite_fine (f : Fn) (page : Bool) (off : BitVec 20) (wide : Bool) (v : BitVec 64) (s : State) :
    Fine s (execRegisterWrite f page off wide v s) := by
  unfold execRegisterWrite
  split <;> simp +contextual

theorem execTkrProgGo_fine (f : Fn) (w : GoWrite) (s : State) : Fine s (execTkrProgGo f w s) :=
  fine_next.2 (gateW_sound (by simp +contextual))

theorem execSlotProgramDone_fine (readbackOk : Bool) (s : State) : Fine s (execSlotProgramDone readbackOk s) := by
  unfold execSlotProgramDone
  split <;> simp +contextual

theorem execTkrLcTakeOwnership_fine (f : Fn) (v : BitVec 32) (s : State) : Fine s (execTkrLcTakeOwnership f v s) := by
  simp [execTkrLcTakeOwnership]

theorem execTkrLcRetire_fine (f : Fn) (v : BitVec 32) (s : State) : Fine s (execTkrLcRetire f v s) := by
  simp [execTkrLcRetire]

theorem execLcTransitionEnd_fine (readbackOk : Bool) (s : State) : Fine s (execLcTransitionEnd readbackOk s) := by
  unfold execLcTransitionEnd
  (repeat' split) <;> simp +contextual

theorem execTkrLcCmdInvalid_fine (f : Fn) (v : BitVec 32) (s : State) : Fine s (execTkrLcCmdInvalid f v s) := by
  simp [execTkrLcCmdInvalid]

theorem execTkrDomainWrite_fine (f : Fn) (n : StallId) (v : BitVec 64) (s : State) : Fine s (execTkrDomainWrite f n v s) := by
  simp [execTkrDomainWrite]

theorem execTkrCtlWrite_fine (f : Fn) (v : BitVec 32) (s : State) : Fine s (execTkrCtlWrite f v s) := by
  simp [execTkrCtlWrite]

theorem execKeyIdleExpiry_fine (u : UnitId) (s : State) : Fine s (execKeyIdleExpiry u s) := by
  simp [execKeyIdleExpiry]

theorem execStoreWaitExpiry_fine (i : Nat) (s : State) : Fine s (execStoreWaitExpiry i s) := by
  unfold execStoreWaitExpiry
  split <;> simp +contextual

theorem execDbgState_fine (s : State) : Fine s (execDbgState s) := by
  unfold execDbgState
  split <;> simp +contextual

theorem execIdcode_fine (s : State) : Fine s (execIdcode s) := by
  simp [execIdcode]

theorem execExtest_fine (pins scan : BitVec 58) (s : State) : Fine s (execExtest pins scan s) := by
  unfold execExtest
  split_ifs <;> simp +contextual

theorem execSamplePreload_fine (pins scan : BitVec 58) (s : State) : Fine s (execSamplePreload pins scan s) := by
  simp [execSamplePreload]

theorem execHighz_fine (s : State) : Fine s (execHighz s) := by
  unfold execHighz
  split_ifs <;> simp +contextual

theorem execClamp_fine (s : State) : Fine s (execClamp s) := by
  unfold execClamp
  split_ifs <;> simp +contextual

theorem execBypass_fine (code : Byte) (s : State) : Fine s (execBypass code s) := by
  simp [execBypass]

theorem execTapReset_fine (s : State) : Fine s (execTapReset s) := by
  simp [execTapReset]

theorem execFreqMonitorWindow_fine (n : NsId) (samples edges : Nat) (s : State) :
    Fine s (execFreqMonitorWindow n samples edges s) := by
  unfold execFreqMonitorWindow
  split_ifs <;> simp +contextual

theorem execEntSrcRetest_fine (f : Fn) (n : NsId) (v : BitVec 32) (s : State) : Fine s (execEntSrcRetest f n v s) :=
  fine_next.2 (gateW_sound (by simp +contextual))

theorem execEntSrcPolicyWrite_fine (f : Fn) (n : NsId) (v : BitVec 32) (s : State) : Fine s (execEntSrcPolicyWrite f n v s) :=
  fine_next.2 (gateW_sound (by simp +contextual))

theorem execDrbgInstantiate_fine (s : State) : Fine s (execDrbgInstantiate s) := by
  unfold execDrbgInstantiate
  split <;> simp +contextual

theorem execDrbgReseed_fine (s : State) : Fine s (execDrbgReseed s) := by
  simp [execDrbgReseed]

theorem execEntropyPeriodicKat_fine (pass : Option Bool) (s : State) : Fine s (execEntropyPeriodicKat pass s) := by
  unfold execEntropyPeriodicKat
  (repeat' split) <;> simp +contextual

theorem execEntropyCoreMismatch_fine (s : State) : Fine s (execEntropyCoreMismatch s) := by
  simp +contextual [execEntropyCoreMismatch]

theorem execEntropyDraw_fine (c : Consumer) (s : State) : Fine s (execEntropyDraw c s) := by
  unfold execEntropyDraw
  split_ifs <;> simp +contextual

theorem execEntropyWaitExpiry_fine (c : Consumer) (s : State) : Fine s (execEntropyWaitExpiry c s) := by
  simp [execEntropyWaitExpiry]

theorem execRawCaptureEnd_fine (n : NsId) (samples : List Byte) (rest : List Bool) (s : State) :
    Fine s (execRawCaptureEnd n samples rest s) := by
  unfold execRawCaptureEnd
  (repeat' split) <;> simp +contextual

theorem execEntReseedCtlWrite_fine (f : Fn) (v : BitVec 32) (s : State) : Fine s (execEntReseedCtlWrite f v s) := by
  simp [execEntReseedCtlWrite]

theorem execMaskReseed_fine (u : UnitId) (s : State) : Fine s (execMaskReseed u s) := by
  unfold execMaskReseed
  split <;> simp +contextual

theorem execSliceMiss_fine (l : LineNo) (who : Option StallId) (kind : AccKind) (s : State) :
    Fine s (execSliceMiss l who kind s) := by
  simp [execSliceMiss]

theorem execLineFillComplete_fine (l : LineNo) (s : State) : Fine s (execLineFillComplete l s) := by
  unfold execLineFillComplete
  (repeat' split) <;> simp +contextual

theorem execWritebackComplete_fine (l : LineNo) (s : State) : Fine s (execWritebackComplete l s) := by
  unfold execWritebackComplete
  (repeat' split) <;> simp +contextual

theorem execCribAck_fine (u : UnitId) (l : LineNo) (_present : Bool) (s : State) : Fine s (execCribAck u l _present s) := by
  unfold execCribAck
  (repeat' split) <;> simp +contextual

theorem execCribEvict_fine (u : UnitId) (l : LineNo) (s : State) : Fine s (execCribEvict u l s) := by
  simp [execCribEvict]

theorem execCribInval_fine (u : UnitId) (l : LineNo) (s : State) : Fine s (execCribInval u l s) := by
  unfold execCribInval
  split <;> simp +contextual

theorem execCribFill_fine (u : UnitId) (l : LineNo) (s : State) : Fine s (execCribFill u l s) := by
  simp [execCribFill]

theorem execMgrSliceCtlWrite_fine (f : Fn) (k : SliceId) (v : BitVec 32) (s : State) : Fine s (execMgrSliceCtlWrite f k v s) := by
  simp [execMgrSliceCtlWrite]

theorem execSliceUncorrectable_fine (k : SliceId) (err : SliceErr) (st : Option StallId) (s : State) :
    Fine s (execSliceUncorrectable k err st s) := by
  simp +contextual [execSliceUncorrectable]

theorem execChannelTrainingEnd_fine (g : ChanId) (ok : Bool) (density : BitVec 3) (ranks2 : Bool) (s : State) :
    Fine s (execChannelTrainingEnd g ok density ranks2 s) := by
  unfold execChannelTrainingEnd
  (repeat' split) <;> simp +contextual

theorem execMr4Poll_fine (g : ChanId) (hot : Bool) (s : State) : Fine s (execMr4Poll g hot s) := by
  unfold execMr4Poll
  (repeat' split) <;> simp +contextual

theorem execTrackingFail_fine (g : ChanId) (s : State) : Fine s (execTrackingFail g s) := by
  unfold execTrackingFail
  split <;> simp +contextual

theorem execDramCorrectableRead_fine (g : ChanId) (page : BitVec 21) (lastSecond : Nat) (s : State) :
    Fine s (execDramCorrectableRead g page lastSecond s) := by
  unfold execDramCorrectableRead
  dsimp only
  split_ifs <;> simp +contextual

theorem execDramUncorrectableRead_fine (g : ChanId) (page : BitVec 21) (st : Option StallId) (s : State) :
    Fine s (execDramUncorrectableRead g page st s) := by
  unfold execDramUncorrectableRead
  split <;> simp +contextual

theorem execRepairRewrite_fine (g : ChanId) (s : State) : Fine s (execRepairRewrite g s) := by
  unfold execRepairRewrite
  split <;> simp +contextual

theorem execScrubDramRead_fine (g : ChanId) (r : EccResult) (s : State) : Fine s (execScrubDramRead g r s) := by
  unfold execScrubDramRead
  dsimp only
  split_ifs <;> simp +contextual

theorem execScrubSramRead_fine (w : SramWord) (r : EccResult) (s : State) : Fine s (execScrubSramRead w r s) := by
  unfold execScrubSramRead
  (repeat' split) <;> simp +contextual

theorem execScrubRewrite_fine (i : Fin 5) (s : State) : Fine s (execScrubRewrite i s) := by
  simp [execScrubRewrite]

theorem execScrubLapEnd_fine (i : Fin 5) (ms : BitVec 32) (s : State) : Fine s (execScrubLapEnd i ms s) := by
  simp [execScrubLapEnd]

theorem execScrubLapOverdue_fine (i : Fin 5) (s : State) : Fine s (execScrubLapOverdue i s) := by
  unfold execScrubLapOverdue
  dsimp only
  split_ifs <;> simp +contextual

theorem execSramUncorrectable_fine (w : SramWord) (s : State) : Fine s (execSramUncorrectable w s) := by
  simp +contextual [execSramUncorrectable]

theorem execPwbStallTimeout_fine (s : State) : Fine s (execPwbStallTimeout s) := by
  unfold execPwbStallTimeout
  split <;> simp +contextual

theorem execHalterSourceAssert_fine (k : HsId) (st : Option StallId) (s : State) : Fine s (execHalterSourceAssert k st s) := by
  simp +contextual [execHalterSourceAssert]

theorem execRailDisagreement_fine (k : HsId) (s : State) : Fine s (execRailDisagreement k s) := by
  unfold execRailDisagreement
  split <;> simp +contextual

theorem execPromoWindowExpiry_fine (k : HsId) (s : State) : Fine s (execPromoWindowExpiry k s) := by
  simp [execPromoWindowExpiry]

theorem execHltStatusClear_fine (f : Fn) (i : Fin 3) (v : BitVec 32) (s : State) : Fine s (execHltStatusClear f i v s) :=
  fine_next.2 (gateW_sound (by simp +contextual))

theorem execHltSafeCtlForce_fine (f : Fn) (v : BitVec 32) (s : State) : Fine s (execHltSafeCtlForce f v s) := by
  simp [execHltSafeCtlForce]

theorem execHltSafeCtlRelease_fine (f : Fn) (v : BitVec 32) (s : State) : Fine s (execHltSafeCtlRelease f v s) := by
  simp [execHltSafeCtlRelease]

theorem execHltAlertCtlClear_fine (f : Fn) (v : BitVec 32) (s : State) : Fine s (execHltAlertCtlClear f v s) := by
  simp [execHltAlertCtlClear]

theorem execHltAlertCtlForce_fine (f : Fn) (v : BitVec 32) (s : State) : Fine s (execHltAlertCtlForce f v s) := by
  simp [execHltAlertCtlForce]

theorem execHltSrcCfgWrite_fine (f : Fn) (k : HsId) (v : BitVec 64) (s : State) : Fine s (execHltSrcCfgWrite f k v s) := by
  simp [execHltSrcCfgWrite]

theorem execHltGuardCtlWrite_fine (f : Fn) (v : BitVec 32) (s : State) : Fine s (execHltGuardCtlWrite f v s) := by
  simp [execHltGuardCtlWrite]

theorem execHltGuardOutWrite_fine (f : Fn) (v : BitVec 32) (s : State) : Fine s (execHltGuardOutWrite f v s) := by
  simp [execHltGuardOutWrite]

theorem execHalterSelfCheck_fine (injectOk copiesOk : Bool) (badParity : Option HltPart) (s : State) :
    Fine s (execHalterSelfCheck injectOk copiesOk badParity s) := by
  unfold execHalterSelfCheck
  (repeat' split) <;> simp +contextual

theorem execPadReadbackMismatch_fine (s : State) : Fine s (execPadReadbackMismatch s) := by
  simp +contextual [execPadReadbackMismatch]

theorem execChatterWindowExpiry_fine (n : InputId) (s : State) : Fine s (execChatterWindowExpiry n s) := by
  simp [execChatterWindowExpiry]

theorem execTamperFilterExpiry_fine (n : InputId) (s : State) : Fine s (execTamperFilterExpiry n s) := by
  unfold execTamperFilterExpiry
  split <;> simp +contextual

theorem execChatterExit_fine (n : InputId) (s : State) : Fine s (execChatterExit n s) := by
  unfold execChatterExit
  dsimp only
  split_ifs <;> simp +contextual

theorem execTmpInEnWrite_fine (f : Fn) (n : InputId) (v : BitVec 64) (s : State) : Fine s (execTmpInEnWrite f n v s) := by
  simp [execTmpInEnWrite]

theorem execTmpInActiveWrite_fine (f : Fn) (n : InputId) (v : BitVec 64) (s : State) : Fine s (execTmpInActiveWrite f n v s) := by
  simp [execTmpInActiveWrite]

theorem execTmpAck_fine (f : Fn) (v : BitVec 32) (s : State) : Fine s (execTmpAck f v s) := by
  simp [execTmpAck]

theorem execTmpVbatCtlArrival_fine (s : State) : Fine s (execTmpVbatCtlArrival s) := by
  unfold execTmpVbatCtlArrival
  split <;> simp +contextual

theorem execVbatSample_fine (levels : BitVec 4) (s : State) : Fine s (execVbatSample levels s) := by
  unfold execVbatSample
  split <;> simp +contextual

theorem execMonitorCondition_fine (c : MonCond) (s : State) : Fine s (execMonitorCondition c s) := by
  unfold execMonitorCondition
  (repeat' split) <;> simp +contextual

theorem execTempSample_fine (t : BitVec 16) (s : State) : Fine s (execTempSample t s) := by
  simp [execTempSample]

theorem execPwrOffReq_fine (f : Fn) (d : PdId) (s : State) : Fine s (execPwrOffReq f d s) := by
  simp [execPwrOffReq]

theorem execPwrOnReq_fine (f : Fn) (d : PdId) (s : State) : Fine s (execPwrOnReq f d s) := by
  simp [execPwrOnReq]

theorem execSecureHoldEnd_fine (d : PdId) (s : State) : Fine s (execSecureHoldEnd d s) := by
  unfold execSecureHoldEnd
  split <;> simp +contextual

theorem execPowerDownComplete_fine (d : PdId) (s : State) : Fine s (execPowerDownComplete d s) := by
  unfold execPowerDownComplete
  dsimp only
  split_ifs <;> simp +contextual

theorem execDemandWake_fine (g : ChanId) (s : State) : Fine s (execDemandWake g s) := by
  simp [execDemandWake]

theorem execPwrPinWrite_fine (f : Fn) (v : BitVec 64) (s : State) : Fine s (execPwrPinWrite f v s) := by
  simp [execPwrPinWrite]

theorem execDomainTransitionTimeout_fine (d : PdId) (s : State) : Fine s (execDomainTransitionTimeout d s) := by
  unfold execDomainTransitionTimeout
  (repeat' split) <;> simp +contextual

theorem execBlockReset_fine (d : PdId) (s : State) : Fine s (execBlockReset d s) := by
  simp +contextual [execBlockReset]

theorem execEventRaise_fine (k : EvId) (bad : Option Fn) (s : State) : Fine s (execEventRaise k bad s) := by
  unfold execEventRaise
  split <;> simp +contextual

theorem execHoldoffExpiry_fine (f : Fn) (k : EvId) (s : State) : Fine s (execHoldoffExpiry f k s) := by
  simp [execHoldoffExpiry]

theorem execEvtRouteWrite_fine (f : Fn) (k : EvId) (aliased : Bool) (v : BitVec 64) (s : State) :
    Fine s (execEvtRouteWrite f k aliased v s) := by
  simp [execEvtRouteWrite]

theorem execEvtNmMirrorWrite_fine (f : Fn) (i : Fin 2) (v : BitVec 64) (s : State) : Fine s (execEvtNmMirrorWrite f i v s) := by
  simp [execEvtNmMirrorWrite]

theorem execMrValueWrite_fine (f : Fn) (k : MrId) (j : Fin 6) (v : BitVec 64) (s : State) :
    Fine s (execMrValueWrite f k j v s) := by
  simp [execMrValueWrite]

theorem execMrExtendApply_fine (s : State) : Fine s (execMrExtendApply s) := by
  unfold execMrExtendApply
  split <;> simp +contextual

theorem execDlFeedStart_fine (f : Fn) (v : BitVec 64) (s : State) : Fine s (execDlFeedStart f v s) := by
  simp [execDlFeedStart]

theorem execDlFeedData_fine (f : Fn) (v : BitVec 64) (s : State) : Fine s (execDlFeedData f v s) := by
  simp [execDlFeedData]

theorem execDlFeedLast_fine (f : Fn) (v : BitVec 64) (s : State) : Fine s (execDlFeedLast f v s) := by
  simp [execDlFeedLast]

theorem execFeedFinish_fine (s : State) : Fine s (execFeedFinish s) := by
  unfold execFeedFinish
  dsimp only
  split_ifs <;> simp +contextual

theorem execDlFeedAbort_fine (f : Fn) (v : BitVec 64) (s : State) : Fine s (execDlFeedAbort f v s) := by
  simp [execDlFeedAbort]

theorem execFeedIdleTimeout_fine (s : State) : Fine s (execFeedIdleTimeout s) := by
  unfold execFeedIdleTimeout
  split <;> simp +contextual

theorem execFeedSessionTimeout_fine (s : State) : Fine s (execFeedSessionTimeout s) := by
  simp [execFeedSessionTimeout]

theorem execPowerLoss_fine (s : State) : Fine s (execPowerLoss s) := by
  simp +contextual [execPowerLoss]

theorem execVbatRemoved_fine (latch : BitVec 8) (canary : BitVec 32) (s : State) : Fine s (execVbatRemoved latch canary s) := by
  simp [execVbatRemoved]

theorem execLinkUp_fine (rate width : BitVec 4) (s : State) : Fine s (execLinkUp rate width s) := by
  unfold execLinkUp
  split <;> simp +contextual

theorem execLinkProtocolError_fine (e : LinkErr) (s : State) : Fine s (execLinkProtocolError e s) := by
  unfold execLinkProtocolError
  split <;> simp +contextual

theorem execPostedWriteSend_fine (f : Fn) (s : State) : Fine s (execPostedWriteSend f s) := by
  unfold execPostedWriteSend
  (repeat' split) <;> simp +contextual

theorem execFailureAgesOut_fine (n : NsId) (s : State) : Fine s (execFailureAgesOut n s) := by
  simp [execFailureAgesOut]

theorem execHalterSourceDeassert_fine (k : HsId) (s : State) : Fine s (execHalterSourceDeassert k s) := by
  simp [execHalterSourceDeassert]

theorem execCfgSwReset_fine (f : Fn) (v : BitVec 32) (s : State) : Fine s (execCfgSwReset f v s) :=
  fine_next.2 (gateBar_sound (.ite ⟨rfl, id⟩ (wrSwReset_sound ..)))

theorem execApplyPhaseEnd_fine (s : State) : Fine s (execApplyPhaseEnd s) := by
  unfold execApplyPhaseEnd
  split
  · simp
  · refine fine_next.2 (Sound.trans (t := extendMr0 (applyImage (applyFixed s))) (by simp +contextual) ?_)
    dsimp only
    generalize extendMr0 (applyImage (applyFixed s)) = u
    refine Sound.trans (t := { u with boot := { u.boot with phase := .memory, applied := true, cfgOpen := true } }) ⟨rfl, id⟩ ?_
    generalize { u with boot := { u.boot with phase := .memory, applied := true, cfgOpen := true } } = v
    have booted := Sound.foldl bootDomain_sound bootOrder v
    generalize bootOrder.foldl bootDomain v = w at booted
    have filled := (foldl_still bootChannel_still (List.finRange 4) w).sound
    generalize (List.finRange 4).foldl bootChannel w = x at filled
    exact booted.trans (filled.trans (settle_sound x))

theorem execHotReset_fine (s : State) : Fine s (execHotReset s) := by
  unfold execHotReset
  split
  · simp
  · refine fine_next.2 (Sound.trans (t := { s with link := { s.link with up := false, lost := true } }) ⟨rfl, id⟩ ?_)
    generalize { s with link := { s.link with up := false, lost := true } } = u
    have first := flrDo_sound u .pf0
    generalize flrDo u .pf0 = v at first
    have second := flrDo_sound v .pf1
    generalize flrDo v .pf1 = w at second
    exact first.trans (second.trans ((raiseHs_still ..).sound.trans (settle_sound _)))

theorem execHostReadCompletion_fine (i : Nat) (ans : HostAnswer) (s : State) : Fine s (execHostReadCompletion i ans s) := by
  unfold execHostReadCompletion
  split
  · simp
  · dsimp only
    split
    · simp
    · cases ans <;> simp +contextual

theorem execCompletionTimeout_fine (i : Nat) (s : State) : Fine s (execCompletionTimeout i s) := by
  unfold execCompletionTimeout
  split
  · simp
  · dsimp only
    split <;> simp +contextual

theorem execChainOverlengthReject_fine (r : RingId) (s : State) : Fine s (execChainOverlengthReject r s) := by
  unfold execChainOverlengthReject
  dsimp only
  split
  · simp
  · split
    · simp
    · split <;> simp

theorem execPreemptSuspend_fine (u : UnitId) (s : State) : Fine s (execPreemptSuspend u s) := by
  have noted := noteEligible_still s
  unfold execPreemptSuspend
  dsimp only
  split
  · simp
  · split
    · simp
    · split
      · simp
      · split
        · split <;> simp +contextual
        · simp

theorem execSuspendedResume_fine (u : UnitId) (s : State) : Fine s (execSuspendedResume u s) := by
  unfold execSuspendedResume
  extract_lets x ended
  clear_value ended
  split
  · simp
  · split
    · simp
    · refine fine_next.2 (Still.sound ?_)
      split <;> [split; skip] <;> simp

theorem execCoopHoldComplete_fine (s : State) : Fine s (execCoopHoldComplete s) := by
  unfold execCoopHoldComplete
  dsimp only
  split
  · simp
  · split
    · split <;> simp +contextual
    · simp
  · split
    · split <;> simp +contextual
    · simp

theorem execHeadRecordWrite_fine (r : RingId) (s : State) : Fine s (execHeadRecordWrite r s) := by
  unfold execHeadRecordWrite
  dsimp only
  split
  · simp
  · rename_i n _
    split
    · simp
    · have raised (u : State) := foldl_still (fun s o => owedRaise_still s n o) s.rings[r].owed u
      refine fine_next.2 (Sound.trans (Still.sound ?_) ((raised _).sound.trans (settle_sound _)))
      simp

theorem execBar4Access_fine (off : BitVec 28) (acc : Bar4Acc) (s : State) : Fine s (execBar4Access off acc s) := by
  refine fine_next.2 (gateBar_sound (.ite (by simp) ?_))
  have received := bar4Recv_sound s (s.link.winBase.toNat * 0x10000000 + off.toNat) acc
  exact (Sound.ite (received.trans (demandWake_still ..).sound) received).trans (settle_sound _)

@[simp] theorem i2cRead_fine (s : State) (x : I2cRead) (cmd : Byte) (resp : List Byte) : Fine s (i2cRead s x cmd resp) :=
  fine_next.2 (answer_still ..).sound

theorem execI2cId_fine (x : I2cRead) (s : State) : Fine s (execI2cId x s) := i2cRead_fine ..

theorem execI2cState_fine (x : I2cRead) (s : State) : Fine s (execI2cState x s) := i2cRead_fine ..

theorem execI2cHalter_fine (x : I2cRead) (s : State) : Fine s (execI2cHalter x s) := i2cRead_fine ..

theorem execI2cTelemetry_fine (x : I2cRead) (s : State) : Fine s (execI2cTelemetry x s) := i2cRead_fine ..

theorem execI2cStopState_fine (x : I2cRead) (s : State) : Fine s (execI2cStopState x s) := i2cRead_fine ..

theorem execDbgNonce_fine (updateDr : Bool) (s : State) : Fine s (execDbgNonce updateDr s) := by
  unfold execDbgNonce
  dsimp only
  split
  · simp
  · split
    · simp
    · split <;> simp

theorem execDbgResponse_fine (resp : BitVec 768) (s : State) : Fine s (execDbgResponse resp s) := by
  unfold execDbgResponse
  dsimp only
  split
  · simp
  · split
    · simp
    · split
      · simp
      · split <;> simp +contextual

@[simp] theorem takeSamples_still (s : State) (n : NsId) (samples : List Bool) : Still s (takeSamples s n samples).1 := by
  simp [takeSamples]

theorem execNoiseHealthFail_fine (n : NsId) (samples : List Bool) (s : State) : Fine s (execNoiseHealthFail n samples s) := by
  unfold execNoiseHealthFail
  dsimp only
  split
  · simp
  · simp
  · split <;> simp
  · split
    · simp
    · split <;> simp +contextual

theorem execStartupTestEnd_fine (n : NsId) (samples : List Bool) (s : State) : Fine s (execStartupTestEnd n samples s) := by
  unfold execStartupTestEnd
  dsimp only
  split
  · simp
  · split <;> simp +contextual

theorem execSeedReady_fine (n : NsId) (samples : List Bool) (s : State) : Fine s (execSeedReady n samples s) := by
  unfold execSeedReady
  extract_lets able r seed src ent t
  have drawn : Still s r.1 := takeSamples_still s n samples
  have cut : Still s t := by simpa [t, src] using drawn
  clear_value able r
  split
  · simp
  · split
    · simp +contextual [drawn]
    · refine fine_next.2 (.ite ?_ ?_) <;> simp [cut]

theorem execDrbgGenerate_fine (s : State) : Fine s (execDrbgGenerate s) := by
  unfold execDrbgGenerate
  dsimp only
  split
  · simp
  · split
    · simp
    · refine fine_next.2 (Still.sound ?_)
      rw [Still, (serveWaiters_still ..).1, (serveWaiters_still ..).2]
      simp

theorem execSliceWrite_fine (i : Nat) (s : State) : Fine s (execSliceWrite i s) := by
  unfold execSliceWrite
  split
  · simp
  · split
    · split
      · simp
      · split
        · simp
        · split
          · rename_i posted
            exact fine_next.2 ((postStore_sound posted).trans (setReq_still ..).sound)
          · simp
    · simp

theorem execRepartCleanEnd_fine (s : State) : Fine s (execRepartCleanEnd s) := by
  unfold execRepartCleanEnd
  split
  · simp
  · rename_i g _
    exact fine_next.2 ((setRepart_still ..).sound.trans (Sound.foldl (fun t x => .ite (swapLine_sound ..) ⟨rfl, id⟩) _ _))

theorem execRepartSwapEnd_fine (s : State) : Fine s (execRepartSwapEnd s) := by
  unfold execRepartSwapEnd
  split
  · simp
  · rename_i g _
    dsimp only
    split
    · simp
    · have swapped (t : State) := foldl_still (fun u k => setSlice_still u k sliceSwap) (groupSlices g) t
      refine fine_next.2 ((flushGroup_sound s g).trans ((swapped _).sound.trans ?_))
      exact (Still.sound (by simp)).trans ((resumeHeld_sound _).trans (settle_sound _))

theorem execChannelFillEnd_fine (g : ChanId) (s : State) : Fine s (execChannelFillEnd g s) := by
  unfold execChannelFillEnd
  split
  · refine fine_next.2 ((zeroFill_sound s g).trans ((mcEnter_still ..).sound.trans ((resumeHeld_sound _).trans (settle_sound _))))
  · simp

theorem execTamperTransition_fine (n : InputId) (level : Bool) (s : State) : Fine s (execTamperTransition n level s) := by
  unfold execTamperTransition
  split
  · simp
  extract_lets u x limit v
  clear_value limit
  have moved : Still s u := setIn_still ..
  have counted : Still s v := by simp [v, moved]
  clear_value u
  split
  · simp [moved]
  · simp [moved]
  · split
    · refine fine_next.2 (Sound.trans (Still.sound ?_) (settle_sound _))
      simp [counted]
    · simp [counted]

theorem execStuckTimeout_fine (n : InputId) (s : State) : Fine s (execStuckTimeout n s) := by
  unfold execStuckTimeout
  dsimp only
  split
  · split <;> simp
  · split <;> simp
  · split <;> simp
  · simp

theorem execDomainPowerStable_fine (d : PdId) (s : State) : Fine s (execDomainPowerStable d s) := by
  unfold execDomainPowerStable
  split
  · simp
  · split
    · simp
    · split
      · split <;> [split; skip] <;> simp
      · dsimp only
        split <;> simp +contextual

theorem execDomainDrainComplete_fine (d : PdId) (s : State) : Fine s (execDomainDrainComplete d s) := by
  have reset : Sound s (if s.pds[d].blockReset = true then blockReset s d else s) := .ite (blockReset_sound ..) ⟨rfl, id⟩
  unfold execDomainDrainComplete
  dsimp only
  generalize (if s.pds[d].blockReset = true then blockReset s d else s) = t at reset
  split
  · exact fine_next.2 (reset.trans (by simp +contextual))
  · exact fine_next.2 (reset.trans (by simp +contextual))
  · exact fine_next.2 reset

theorem execEventSelection_fine (f : Fn) (bad : Option EvId) (s : State) : Fine s (execEventSelection f bad s) := by
  unfold execEventSelection
  dsimp only
  refine fine_next.2 (Sound.trans (Still.sound ?_) (settle_sound _))
  cases bad <;> split <;> simp

theorem execBankEngineMismatch_fine (s : State) : Fine s (execBankEngineMismatch s) := by
  unfold execBankEngineMismatch
  dsimp only
  split
  · simp
  · refine fine_next.2 (Sound.trans (Still.sound ?_) (settle_sound _))
    split <;> simp

theorem execFeedSessionClaim_fine (s : State) : Fine s (execFeedSessionClaim s) := by
  unfold execFeedSessionClaim
  dsimp only
  split
  · simp
  · split
    · simp
    · split
      · simp
      · simp
      · rename_i k _ _ _ _
        have granted := grantUse_sound (zeroKeyReg s dl15) (bvFin s.feed.stall) (zeroKeyReg s dl15).pdk.epoch 0 k
        have zeroed := (zeroKeyReg_still s dl15).sound
        split
        · exact fine_next.2 (zeroed.trans (granted.trans ((feedFail_still ..).sound.trans (settle_sound _))))
        · exact fine_next.2 (zeroed.trans (granted.trans (Sound.trans ⟨rfl, id⟩ (settle_sound _))))

/-! ### Steps -/

/-- Whatever the command, a next state is answered, the queue stands and local memory stays canonical. -/
theorem exec_fine (c : Instr) (s : State) : Fine s (exec c s) := by
  cases c with
  | powerOnReset => exact execPowerOnReset_fine ..
  | perstNAssert => exact execPerstNAssert_fine ..
  | perstNDeassert => exact execPerstNDeassert_fine ..
  | cfgSwReset => exact execCfgSwReset_fine ..
  | chipReset => exact execChipReset_fine ..
  | resetPhaseEnd => exact execResetPhaseEnd_fine ..
  | otpPhaseEnd => exact execOtpPhaseEnd_fine ..
  | pllLock => exact execPllLock_fine ..
  | pllLockTimeout => exact execPllLockTimeout_fine ..
  | preloadTestEnd => exact execPreloadTestEnd_fine ..
  | loadPhaseEnd => exact execLoadPhaseEnd_fine ..
  | applyPhaseEnd => exact execApplyPhaseEnd_fine ..
  | memoryPhaseEnd => exact execMemoryPhaseEnd_fine ..
  | selfTestPhaseEnd => exact execSelfTestPhaseEnd_fine ..
  | rootGen => exact execRootGen_fine ..
  | heldEntry => exact execHeldEntry_fine ..
  | readyEntry => exact execReadyEntry_fine ..
  | cfgBootCtlRelease => exact execCfgBootCtlRelease_fine ..
  | configRequest => exact execConfigRequest_fine ..
  | flr => exact execFlr_fine ..
  | flrComplete => exact execFlrComplete_fine ..
  | hotReset => exact execHotReset_fine ..
  | linkRetrain => exact execLinkRetrain_fine ..
  | d3hotEntry => exact execD3hotEntry_fine ..
  | d0Return => exact execD0Return_fine ..
  | barAccessMalformed => exact execBarAccessMalformed_fine ..
  | unsupportedRequest => exact execUnsupportedRequest_fine ..
  | brdDbTailWrite => exact execBrdDbTailWrite_fine ..
  | alarmTokenRefill => exact execAlarmTokenRefill_fine ..
  | descriptorFetchIssue => exact execDescriptorFetchIssue_fine ..
  | hostReadCompletion => exact execHostReadCompletion_fine ..
  | completionTimeout => exact execCompletionTimeout_fine ..
  | lateCompletion => exact execLateCompletion_fine ..
  | fetchErrClear => exact execFetchErrClear_fine ..
  | chainOverlengthReject => exact execChainOverlengthReject_fine ..
  | candidateAdmission => exact execCandidateAdmission_fine ..
  | blobUnwrapDone => exact execBlobUnwrapDone_fine ..
  | preemptSuspend => simpa only [exec] using execPreemptSuspend_fine _ s
  | suspendedResume => exact execSuspendedResume_fine ..
  | chainMemberStart => exact execChainMemberStart_fine ..
  | coopHoldComplete => exact execCoopHoldComplete_fine ..
  | coopHoldTimeout => exact execCoopHoldTimeout_fine ..
  | katDue => exact execKatDue_fine ..
  | katStart => exact execKatStart_fine ..
  | katEnd => exact execKatEnd_fine ..
  | unitFaultCheckFail => exact execUnitFaultCheckFail_fine ..
  | requestComplete => exact execRequestComplete_fine ..
  | headRecordWrite => exact execHeadRecordWrite_fine ..
  | intermediateZeroise => exact execIntermediateZeroise_fine ..
  | vbrRelease => exact execVbrRelease_fine ..
  | vbrLinesZeroise => exact execVbrLinesZeroise_fine ..
  | coopLinesZeroise => exact execCoopLinesZeroise_fine ..
  | protFenceDone => exact execProtFenceDone_fine ..
  | aesEcbEnc => exact execAesEcbEnc_fine ..
  | aesEcbDec => exact execAesEcbDec_fine ..
  | aesCbcEnc => exact execAesCbcEnc_fine ..
  | aesCbcDec => exact execAesCbcDec_fine ..
  | aesCtr => exact execAesCtr_fine ..
  | aesXtsEnc => exact execAesXtsEnc_fine ..
  | aesXtsDec => exact execAesXtsDec_fine ..
  | aesCfbEnc => exact execAesCfbEnc_fine ..
  | aesCfbDec => exact execAesCfbDec_fine ..
  | aesOfb => exact execAesOfb_fine ..
  | aesGcmEnc => exact execAesGcmEnc_fine ..
  | aesGcmDec => exact execAesGcmDec_fine ..
  | aesCcmEnc => exact execAesCcmEnc_fine ..
  | aesCcmDec => exact execAesCcmDec_fine ..
  | aesCmac => exact execAesCmac_fine ..
  | chacha20 => exact execChacha20_fine ..
  | chacha20Poly1305Enc => exact execChacha20Poly1305Enc_fine ..
  | chacha20Poly1305Dec => exact execChacha20Poly1305Dec_fine ..
  | hash => exact execHash_fine ..
  | hashFrag => exact execHashFrag_fine ..
  | xof => exact execXof_fine ..
  | hmac => exact execHmac_fine ..
  | hmacFrag => exact execHmacFrag_fine ..
  | kmac => exact execKmac_fine ..
  | kmacXof => exact execKmacXof_fine ..
  | mrExtend => exact execMrExtend_fine ..
  | modexp => exact execModexp_fine ..
  | rsaPrivCrt => exact execRsaPrivCrt_fine ..
  | rsaPub => exact execRsaPub_fine ..
  | ecdsaSign => exact execEcdsaSign_fine ..
  | ecdsaVerify => exact execEcdsaVerify_fine ..
  | ecdh => exact execEcdh_fine ..
  | ecKeygen => exact execEcKeygen_fine ..
  | eddsaSign => exact execEddsaSign_fine ..
  | eddsaVerify => exact execEddsaVerify_fine ..
  | xdh => exact execXdh_fine ..
  | mlkemKeygen => exact execMlkemKeygen_fine ..
  | mlkemEncaps => exact execMlkemEncaps_fine ..
  | mlkemDecaps => exact execMlkemDecaps_fine ..
  | mldsaKeygen => exact execMldsaKeygen_fine ..
  | mldsaSign => exact execMldsaSign_fine ..
  | mldsaVerify => exact execMldsaVerify_fine ..
  | modop => exact execModop_fine ..
  | coopModexp => exact execCoopModexp_fine ..
  | rngGet => exact execRngGet_fine ..
  | rngReseed => exact execRngReseed_fine ..
  | rngRaw => exact execRngRaw_fine ..
  | blobWrap => exact execBlobWrap_fine ..
  | blobUnwrap => exact execBlobUnwrap_fine ..
  | keyDerive => exact execKeyDerive_fine ..
  | keyGenerate => exact execKeyGenerate_fine ..
  | kstateLoad => exact execKstateLoad_fine ..
  | kstateDrop => exact execKstateDrop_fine ..
  | tallyBind => exact execTallyBind_fine ..
  | keyImport => exact execKeyImport_fine ..
  | copy => exact execCopy_fine ..
  | fill => exact execFill_fine ..
  | flush => exact execFlush_fine ..
  | tally64Add => exact execTally64Add_fine ..
  | tally64Read => exact execTally64Read_fine ..
  | lineadd => exact execLineadd_fine ..
  | fence => exact execFence_fine ..
  | nop => exact execNop_fine ..
  | bar4Access => exact execBar4Access_fine ..
  | stlCmdEnable => exact execStlCmdEnable_fine ..
  | stlCmdQuiesce => exact execStlCmdQuiesce_fine ..
  | quiesceComplete => exact execQuiesceComplete_fine ..
  | stlCmdResume => exact execStlCmdResume_fine ..
  | stlCmdReset => exact execStlCmdReset_fine ..
  | stlCmdRelease => exact execStlCmdRelease_fine ..
  | stlCmdInvalid => exact execStlCmdInvalid_fine ..
  | stallResetEnd => exact execStallResetEnd_fine ..
  | stlRingAdd => exact execStlRingAdd_fine ..
  | stlRingRemove => exact execStlRingRemove_fine ..
  | stlPasidWrite => exact execStlPasidWrite_fine ..
  | stlWorldWrite => exact execStlWorldWrite_fine ..
  | stlMgrLinesWrite => exact execStlMgrLinesWrite_fine ..
  | capacityEviction => exact execCapacityEviction_fine ..
  | stlStatusRead => exact execStlStatusRead_fine ..
  | drbgRateWindow => exact execDrbgRateWindow_fine ..
  | dspRingEnable => exact execDspRingEnable_fine ..
  | dspRingDisable => exact execDspRingDisable_fine ..
  | dspRingCfgWrite => exact execDspRingCfgWrite_fine ..
  | dspAlarmTbWrite => exact execDspAlarmTbWrite_fine ..
  | pdkEpochCommit => exact execPdkEpochCommit_fine ..
  | heldCommitApply => exact execHeldCommitApply_fine ..
  | stagedRefillEnd => exact execStagedRefillEnd_fine ..
  | pdkEpochDiscard => exact execPdkEpochDiscard_fine ..
  | pkEntryWrite => exact execPkEntryWrite_fine ..
  | pdkProtFenceWrite => exact execPdkProtFenceWrite_fine ..
  | i2cId => exact execI2cId_fine ..
  | i2cState => exact execI2cState_fine ..
  | i2cHalter => exact execI2cHalter_fine ..
  | i2cTelemetry => exact execI2cTelemetry_fine ..
  | i2cStop => exact execI2cStop_fine ..
  | i2cStopState => exact execI2cStopState_fine ..
  | i2cUnknownCommand => exact execI2cUnknownCommand_fine ..
  | telemetryRefresh => exact execTelemetryRefresh_fine ..
  | gracefulStopStopped => exact execGracefulStopStopped_fine ..
  | brdStopCtlResume => exact execBrdStopCtlResume_fine ..
  | ltrSend => exact execLtrSend_fine ..
  | msixUnmask => exact execMsixUnmask_fine ..
  | lowHalfWrite => exact execLowHalfWrite_fine ..
  | highHalfWrite => exact execHighHalfWrite_fine ..
  | lowHalfRead => exact execLowHalfRead_fine ..
  | registerWrite => exact execRegisterWrite_fine ..
  | tkrProgGo => exact execTkrProgGo_fine ..
  | slotProgramDone => exact execSlotProgramDone_fine ..
  | tkrLcTakeOwnership => exact execTkrLcTakeOwnership_fine ..
  | tkrLcRetire => exact execTkrLcRetire_fine ..
  | lcTransitionEnd => exact execLcTransitionEnd_fine ..
  | tkrLcCmdInvalid => exact execTkrLcCmdInvalid_fine ..
  | tkrDomainWrite => exact execTkrDomainWrite_fine ..
  | tkrCtlWrite => exact execTkrCtlWrite_fine ..
  | keyIdleExpiry => exact execKeyIdleExpiry_fine ..
  | storeWaitExpiry => exact execStoreWaitExpiry_fine ..
  | dbgNonce => exact execDbgNonce_fine ..
  | dbgResponse => exact execDbgResponse_fine ..
  | dbgState => exact execDbgState_fine ..
  | idcode => exact execIdcode_fine ..
  | extest => exact execExtest_fine ..
  | samplePreload => exact execSamplePreload_fine ..
  | highz => exact execHighz_fine ..
  | clamp => exact execClamp_fine ..
  | bypass => exact execBypass_fine ..
  | tapReset => exact execTapReset_fine ..
  | noiseHealthFail => exact execNoiseHealthFail_fine ..
  | freqMonitorWindow => exact execFreqMonitorWindow_fine ..
  | startupTestEnd => exact execStartupTestEnd_fine ..
  | entSrcRetest => exact execEntSrcRetest_fine ..
  | entSrcPolicyWrite => exact execEntSrcPolicyWrite_fine ..
  | seedReady => exact execSeedReady_fine ..
  | drbgInstantiate => exact execDrbgInstantiate_fine ..
  | drbgGenerate => exact execDrbgGenerate_fine ..
  | drbgReseed => exact execDrbgReseed_fine ..
  | entropyPeriodicKat => exact execEntropyPeriodicKat_fine ..
  | entropyCoreMismatch => exact execEntropyCoreMismatch_fine ..
  | entropyDraw => exact execEntropyDraw_fine ..
  | entropyWaitExpiry => exact execEntropyWaitExpiry_fine ..
  | rawCaptureEnd => exact execRawCaptureEnd_fine ..
  | entReseedCtlWrite => exact execEntReseedCtlWrite_fine ..
  | maskReseed => exact execMaskReseed_fine ..
  | sliceMiss => exact execSliceMiss_fine ..
  | lineFillComplete => exact execLineFillComplete_fine ..
  | writebackComplete => exact execWritebackComplete_fine ..
  | sliceWrite => exact execSliceWrite_fine ..
  | cribAck _ _ present => exact execCribAck_fine _ _ present s
  | cribEvict => exact execCribEvict_fine ..
  | cribInval => exact execCribInval_fine ..
  | cribFill => exact execCribFill_fine ..
  | mgrSliceCtlWrite => exact execMgrSliceCtlWrite_fine ..
  | repartCleanEnd => exact execRepartCleanEnd_fine ..
  | repartSwapEnd => exact execRepartSwapEnd_fine ..
  | sliceUncorrectable => exact execSliceUncorrectable_fine ..
  | channelTrainingEnd => exact execChannelTrainingEnd_fine ..
  | channelFillEnd => exact execChannelFillEnd_fine ..
  | mr4Poll => exact execMr4Poll_fine ..
  | trackingFail => exact execTrackingFail_fine ..
  | dramCorrectableRead => exact execDramCorrectableRead_fine ..
  | dramUncorrectableRead => exact execDramUncorrectableRead_fine ..
  | repairRewrite => exact execRepairRewrite_fine ..
  | scrubDramRead => exact execScrubDramRead_fine ..
  | scrubSramRead => exact execScrubSramRead_fine ..
  | scrubRewrite => exact execScrubRewrite_fine ..
  | scrubLapEnd => exact execScrubLapEnd_fine ..
  | scrubLapOverdue => exact execScrubLapOverdue_fine ..
  | sramUncorrectable => exact execSramUncorrectable_fine ..
  | pwbStallTimeout => exact execPwbStallTimeout_fine ..
  | halterSourceAssert => exact execHalterSourceAssert_fine ..
  | railDisagreement => exact execRailDisagreement_fine ..
  | promoWindowExpiry => exact execPromoWindowExpiry_fine ..
  | hltStatusClear => exact execHltStatusClear_fine ..
  | hltSafeCtlForce => exact execHltSafeCtlForce_fine ..
  | hltSafeCtlRelease => exact execHltSafeCtlRelease_fine ..
  | hltAlertCtlClear => exact execHltAlertCtlClear_fine ..
  | hltAlertCtlForce => exact execHltAlertCtlForce_fine ..
  | hltSrcCfgWrite => exact execHltSrcCfgWrite_fine ..
  | hltGuardCtlWrite => exact execHltGuardCtlWrite_fine ..
  | hltGuardOutWrite => exact execHltGuardOutWrite_fine ..
  | halterSelfCheck => exact execHalterSelfCheck_fine ..
  | padReadbackMismatch => exact execPadReadbackMismatch_fine ..
  | tamperTransition => exact execTamperTransition_fine ..
  | chatterWindowExpiry => exact execChatterWindowExpiry_fine ..
  | tamperFilterExpiry => exact execTamperFilterExpiry_fine ..
  | chatterExit => exact execChatterExit_fine ..
  | stuckTimeout => exact execStuckTimeout_fine ..
  | tmpInEnWrite => exact execTmpInEnWrite_fine ..
  | tmpInActiveWrite => exact execTmpInActiveWrite_fine ..
  | tmpAck => exact execTmpAck_fine ..
  | tmpVbatCtlArrival => exact execTmpVbatCtlArrival_fine ..
  | vbatSample => exact execVbatSample_fine ..
  | monitorCondition => exact execMonitorCondition_fine ..
  | tempSample => exact execTempSample_fine ..
  | pwrOffReq => exact execPwrOffReq_fine ..
  | pwrOnReq => exact execPwrOnReq_fine ..
  | domainPowerStable => exact execDomainPowerStable_fine ..
  | domainDrainComplete => exact execDomainDrainComplete_fine ..
  | secureHoldEnd => exact execSecureHoldEnd_fine ..
  | powerDownComplete => exact execPowerDownComplete_fine ..
  | demandWake => exact execDemandWake_fine ..
  | pwrPinWrite => exact execPwrPinWrite_fine ..
  | domainTransitionTimeout => exact execDomainTransitionTimeout_fine ..
  | blockReset => exact execBlockReset_fine ..
  | eventRaise => exact execEventRaise_fine ..
  | holdoffExpiry => exact execHoldoffExpiry_fine ..
  | eventSelection => simpa only [exec] using execEventSelection_fine _ _ s
  | evtRouteWrite => exact execEvtRouteWrite_fine ..
  | evtNmMirrorWrite => exact execEvtNmMirrorWrite_fine ..
  | mrValueWrite => exact execMrValueWrite_fine ..
  | mrExtendApply => exact execMrExtendApply_fine ..
  | bankEngineMismatch => exact execBankEngineMismatch_fine ..
  | dlFeedStart => exact execDlFeedStart_fine ..
  | feedSessionClaim => exact execFeedSessionClaim_fine ..
  | dlFeedData => exact execDlFeedData_fine ..
  | dlFeedLast => exact execDlFeedLast_fine ..
  | feedFinish => exact execFeedFinish_fine ..
  | dlFeedAbort => exact execDlFeedAbort_fine ..
  | feedIdleTimeout => exact execFeedIdleTimeout_fine ..
  | feedSessionTimeout => exact execFeedSessionTimeout_fine ..
  | powerLoss => exact execPowerLoss_fine ..
  | vbatRemoved => exact execVbatRemoved_fine ..
  | linkUp => exact execLinkUp_fine ..
  | linkProtocolError => exact execLinkProtocolError_fine ..
  | postedWriteSend => exact execPostedWriteSend_fine ..
  | failureAgesOut => exact execFailureAgesOut_fine ..
  | halterSourceDeassert => exact execHalterSourceDeassert_fine ..

theorem exec_next {c : Instr} {s t : State} (h : exec c s = .next t) : Sound s t := by
  obtain ⟨u, answered, sound⟩ := exec_fine c s
  obtain rfl : u = t := by simpa [h] using answered.symm
  exact sound

/-- A step is a cycle without a command, or the meaning of the front command on the rest of the queue. -/
theorem step_sound {s t : State} (h : step s = .next t) : Sound { s with pending := s.pending.tail } t := by
  unfold step at h
  split at h
  · next empty =>
    cases h
    have ticked := (tick_still s).sound
    exact ⟨by simp [empty], ticked.2⟩
  · next c rest front => simpa [front] using exec_next h

/-- Settles O4: `exec_fine` keeps memory canonical command by command. -/
theorem stepKeepsMemoryCanonical : Obligations.StepKeepsMemoryCanonical :=
  fun _ _ canonical stepped => (step_sound stepped).2 canonical

/-- Settles O5. -/
theorem stepConsumesOneCommand : Obligations.StepConsumesOneCommand := fun _ _ stepped => (step_sound stepped).1

/-- Settles O2. -/
theorem everyCommandAnswersNextState : Obligations.EveryCommandAnswersNextState := fun c s =>
  have ⟨t, answered, _⟩ := exec_fine c s
  ⟨t, answered⟩

/-- Settles O1. -/
theorem stepRunsFrontCommand : Obligations.StepRunsFrontCommand := by
  intro s c rest h
  simp [step, h]

end Sys2Proof.Invariant

-- ==== Host writes in order; registers after reset ====
namespace Sys2Proof.HostLink

open Sys2Proof.Machine Sys2Proof.Safety

/-- Behind the writes of other functions, the oldest of a function is its first (R614). -/
theorem takeOldest_append {f : Fn} {w : Pw} {post : List Pw} (own : w.fn = f) :
    ∀ pre : List Pw, (∀ x ∈ pre, x.fn ≠ f) → takeOldest f (pre ++ w :: post) = some (w, pre ++ post)
  | [], _ => by simp [takeOldest, own]
  | x :: pre, others => by
    have rest := takeOldest_append (post := post) own pre fun y hy => others y (.tail _ hy)
    simp [takeOldest, others x List.mem_cons_self, rest]

/-- Settles O13: the oldest write of the function is the one sent, by `postedWriteSend_sends`. -/
theorem postedWritesLeaveInOrder : Obligations.PostedWritesLeaveInOrder := by
  intro s f noFlr pre w post buffer others own
  have oldest : takeOldest f s.link.pwb = some (w, pre ++ post) := by rw [buffer, takeOldest_append own pre others]
  obtain ⟨t, sent, left, ⟨rs, out, -⟩, -⟩ := postedWriteSend_sends noFlr oldest
  exact ⟨t, sent, left, rs, out⟩

end Sys2Proof.HostLink

namespace Sys2Proof.Invariant

open Sys2Proof.Machine Sys2Proof.Safety

/-- Settles O56, register by register. -/
theorem registersReadResetValues : Obligations.RegistersReadResetValues := by
  intro f
  cases f
  all_goals
    refine ⟨rfl, rfl, rfl, rfl, rfl, rfl, rfl, ?_, rfl, rfl, rfl, rfl, rfl, rfl, rfl, rfl, rfl, ?_, ?_⟩
    · decide
    · decide
    · decide

end Sys2Proof.Invariant

-- ==== The host side ====
namespace Sys2Proof.HostSide

open Sys2Proof.Machine Sys2Proof.Safety Sys2Proof.Waking Sys2Proof.HostLink Sys2Proof.Invariant

/-- A command ends with the devices kept and nothing new at the Halter's input. -/
def EndsKept (c : Instr) (s : State) : Prop := Ends c s (Kept s)

theorem endsKept {c : Instr} {s t : State} (answered : exec c s = .next t) (kept : Kept s t) : EndsKept c s := ⟨t, answered, kept⟩

/-! ### The link and the pins -/

theorem noteAllEv_devices (s : State) : Kept s (noteAllEv s) := (noteAllEv_only s).kept

theorem configDo_devices (s : State) (f : Fn) (op : CfgOp) : Kept s (configDo s f op) := by
  cases op
  case setMsixEnable v | setFunctionMask v =>
    unfold configDo
    exact Kept.trans (t := answer (setFn s f _) .ok) (Kept.refl s) (noteAllEv_devices _)
  all_goals exact Kept.refl s

theorem pumpReads_devices (s : State) : Kept s (pumpReads s) := by
  rw [(pumpReads_moves s).only]
  exact Kept.refl s

theorem postedWriteSend_devices (s : State) (f : Fn) : EndsKept (.postedWriteSend f) s := by
  by_cases flr : (fnState s f).flr = true
  · exact endsKept (by simp [exec, execPostedWriteSend, flr]) (Kept.refl s)
  · cases oldest : takeOldest f s.link.pwb with
    | none => exact endsKept (by simp [exec, execPostedWriteSend, flr, oldest]) (Kept.refl s)
    | some x =>
      obtain ⟨w, l⟩ := x
      exact endsKept (exec_postedWriteSend (by simpa using flr) oldest)
        (Kept.trans (t := emit { s with link := { s.link with pwb := l } } (.write w)) (Kept.refl s) (pumpReads_devices _))

/-- What a row of the test port or of the link does: one of two states, neither of which touches a device. -/
theorem endsKept_ite {c : Instr} {s t u : State} {p : Prop} [Decidable p]
    (answered : exec c s = if p then .next t else .next u) (left : Kept s t) (right : Kept s u) : EndsKept c s := by
  by_cases h : p
  · exact endsKept (by rw [answered, if_pos h]) left
  · exact endsKept (by rw [answered, if_neg h]) right

/-- A row that stands in test mode alone. -/
theorem endsKept_port {c : Instr} {s t u v : State} {p q : Prop} [Decidable p] [Decidable q]
    (answered : exec c s = if p then .next t else if q then .next u else .next v) (bypassed : Kept s t) (idle : Kept s u)
    (acts : Kept s v) : EndsKept c s := by
  by_cases h : p
  · exact endsKept (by rw [answered, if_pos h]) bypassed
  · exact endsKept_ite (by rw [answered, if_neg h]) idle acts

theorem tapBypass_devices (s : State) (code : Byte) : Kept s (tapBypass s code) := Kept.ite (Kept.refl s) (Kept.refl s)

/-! ### Stalls and rings -/

theorem stalls_devices (s : State) (stalls : Vector Stall 64) : Kept s { s with stalls := stalls } := Kept.refl s

theorem stlRefuse_devices {s : State} (good : RoutesGood s) (n : StallId) (g : Stall → Stall) : Kept s (stlRefuse s n g) :=
  notice_kept (s := setStall s n g) good n 3

/-- ENABLE, QUIESCE and RESUME. -/
theorem wrStlCmd_devices {s : State} (good : RoutesGood s) (f : Fn) (n : StallId) {cmd : Nat} (plain : cmd = 1 ∨ cmd = 2 ∨ cmd = 3) :
    Kept s (wrStlCmd s f n cmd) := by
  refine Kept.ite ?_ (Kept.refl s)
  have refused := stlRefuse_devices good n fun x => { x with badCmd := true }
  have active (p : RingId → Bool) : Kept s (acceptKept (setStall s n fun x => { x with state := .active }) p) := acceptKept_kept _ p
  unfold stlCommand
  dsimp only
  split
  · exact active _
  · exact Kept.refl s
  · exact active _
  case h_9 => exact refused
  all_goals omega

theorem quiesceCheck_devices {s : State} (good : RoutesGood s) (n : StallId) : Kept s (quiesceCheck s n) :=
  Kept.ite (notice_kept (s := setStall s n fun x => { x with state := .quiesced }) good n 1) (Kept.refl s)

theorem wrRingAdd_devices {s : State} (good : RoutesGood s) (f : Fn) (n : StallId) (v : BitVec 64) : Kept s (wrRingAdd s f n v) :=
  Kept.ite (Kept.refl s) (Kept.ite ((Kept.refl s).setRing _ _) (stlRefuse_devices good n _))

theorem wrRingRemove_devices {s : State} (good : RoutesGood s) (f : Fn) (n : StallId) (v : BitVec 64) :
    Kept s (wrRingRemove s f n v) :=
  Kept.ite (Kept.refl s) (Kept.ite ((Kept.refl s).setRing _ _) (stlRefuse_devices good n _))

theorem wrPasid_devices {s : State} (good : RoutesGood s) (f : Fn) (n : StallId) (k : Fin 8) (v : BitVec 64) :
    Kept s (wrPasid s f n k v) :=
  Kept.ite (Kept.refl s) (Kept.ite (stlRefuse_devices good n _) (Kept.refl s))

theorem wrWorld_devices {s : State} (good : RoutesGood s) (f : Fn) (n : StallId) (v : BitVec 64) : Kept s (wrWorld s f n v) := by
  cases f
  case pf0 => exact Kept.refl s
  case pf1 => exact Kept.ite ((resetRoutes_kept s n).setStall n _) (stlRefuse_devices good n _)

theorem wrAlarmTb_devices (s : State) (f : Fn) (n : StallId) (v : BitVec 64) : Kept s (wrAlarmTb s f n v) :=
  Kept.ite (Kept.refl s) (Kept.ite (Kept.refl s) (Kept.ite (Kept.refl s) (Kept.refl s)))

/-- A write that leaves the enable set stops no ring. -/
theorem wrRingCtl_devices (s : State) (f : Fn) (r : RingId) {v : BitVec 64} (enable : bit v 0 = true) : Kept s (wrRingCtl s f r v) := by
  refine Kept.ite (Kept.refl s) (Kept.ite ?_ ?_)
  · rw [if_pos enable]
    exact Kept.ite (Kept.refl s) (Kept.refl s)
  · rw [enable]
    exact Kept.ite (Kept.refl s) (Kept.ite (Kept.refl s) (Kept.refl s))

theorem tailWrite_devices {s : State} (good : RoutesGood s) (r : RingId) (n : StallId) (t : BitVec 16) :
    Kept s (tailWrite s r n t) := by
  refine Kept.ite (Kept.refl s) (Kept.ite (Kept.ite (Kept.refl s) (acceptTail_kept _ r)) ?_)
  exact (raiseEv_spec (s := setRing s r fun y => { y with tailErr := true }) good _ _).1.kept

/-- The gate of the doorbell pages. -/
theorem pageWrite_devices {s : State} {f : Fn} {r : RingId} {k : State → StallId → State} (h : ∀ n, Kept s (k s n)) :
    Kept s (pageWrite s f r k) := by
  refine gateBar_kept (Kept.ite (Kept.refl s) ?_)
  split
  · exact Kept.ite (h _) (Kept.refl s)
  · exact Kept.refl s

theorem fetchIssue_devices (s : State) (r : RingId) (n : StallId) : Kept s (fetchIssue s r n) :=
  Kept.ite (Kept.refl s) (Kept.refl s)

/-! ### The Paddock Table, events and the Halter's registers -/

theorem wrEpochCtl_devices (s : State) (f : Fn) (v m : BitVec 64) : Kept s (wrEpochCtl s f v m) := by
  cases f
  case pf0 => exact Kept.refl s
  case pf1 =>
    unfold wrEpochCtl
    dsimp only
    have cleared : Kept s (if bit (v &&& m) 9 = true then { s with pdk := { s.pdk with stageErr := false } } else s) :=
      Kept.ite (Kept.refl s) (Kept.refl s)
    generalize (if bit (v &&& m) 9 = true then { s with pdk := { s.pdk with stageErr := false } } else s) = u at cleared
    split
    · exact cleared
    · exact Kept.ite cleared (Kept.ite cleared cleared)
    · exact Kept.ite cleared cleared
    · exact cleared

theorem wrPk_devices (s : State) (f : Fn) (k : Fin 256) (w : PkWord) (v : BitVec 64) : Kept s (wrPk s f k w v) := by
  cases f
  case pf0 => exact Kept.refl s
  case pf1 => exact Kept.ite (Kept.refl s) (Kept.refl s)

theorem wrProtFence_devices (s : State) (f : Fn) (v : BitVec 64) : Kept s (wrProtFence s f v) := by
  cases f
  case pf0 => exact Kept.refl s
  case pf1 => exact Kept.ite (Kept.refl s) (Kept.refl s)

theorem evEnter_devices (s : State) (f : Fn) (k : EvId) : Kept s (evEnter s f k) := by
  by_cases room : pwbRoom s (msixWrite s f (evSrc s f k).vector) = true
  · have only := evEnter_only (EvOnly.refl s) room
    rw [only]
    exact Kept.refl s
  · unfold evEnter
    simp [room, Kept.refl]

theorem wrRoute_devices (s : State) (f : Fn) (k : EvId) (aliased : Bool) (v : BitVec 64) : Kept s (wrRoute s f k aliased v) := by
  unfold wrRoute
  split
  · next t _ =>
    have put := setEv_only s t k fun e =>
      { e with vector := if t = .pf1 ∧ 255 < (field v 0 10 : BitVec 10).toNat then e.vector else field v 0 10, en := bit v 12,
               prio := field v 13 2, holdoff := field v 16 8, count := field v 24 8, bad := false }
    exact (((put.trans (EvOnly.ite (EvOnly.refl _) (setEv_only ..))).trans (noteEv_only ..)).trans (dropPend_only ..)).kept
  · exact Kept.refl s

theorem wrMirror_devices (s : State) (f : Fn) (i : Fin 2) (v : BitVec 64) : Kept s (wrMirror s f i v) := by
  cases f
  case pf0 => exact Kept.refl s
  case pf1 =>
    have discarded (t : State) : Kept t (mirrorDiscard t) := (mirrorDiscard_spec t).1.kept
    unfold wrMirror
    dsimp only
    generalize (if i = 0 then _ else _ : BitVec 96) = m
    have masked : Kept s { s with evt := { s.evt with nmMirror := m } } := Kept.refl s
    exact masked.trans (discarded _)

theorem wrSafeCtl_devices (s : State) (f : Fn) (v : BitVec 64) : Kept s (wrSafeCtl s f v) := by
  cases f
  case pf0 => exact Kept.refl s
  case pf1 =>
    have cleared : Kept s (if bit v 9 = true then { s with hlt := { s.hlt with relErr := false } } else s) :=
      Kept.ite (Kept.refl s) (Kept.refl s)
    exact Kept.ite cleared (Kept.ite (Kept.ite cleared cleared) cleared)

theorem wrAlertCtl_devices (s : State) (f : Fn) (v m : BitVec 64) : Kept s (wrAlertCtl s f v m) := by
  cases f
  case pf0 => exact Kept.refl s
  case pf1 => exact Kept.ite (Kept.ite (Kept.refl s) (Kept.refl s)) (Kept.refl s)

/-- Only the Halter changes, and not what waits at its input. -/
theorem hlt_devices {s : State} {h : Hlt} (inbox : h.inbox = s.hlt.inbox) : Kept s { s with hlt := h } :=
  ⟨(Kept.refl s).1, inbox⟩

theorem wrGuardCtl_devices (s : State) (f : Fn) (v m : BitVec 64) : Kept s (wrGuardCtl s f v m) := by
  cases f
  case pf0 => exact Kept.refl s
  case pf1 =>
    refine hlt_devices ?_
    split <;> split <;> [skip; split; skip; split] <;> rfl

theorem wrSrcCfg_devices (s : State) (f : Fn) (k : HsId) (v m : BitVec 64) : Kept s (wrSrcCfg s f k v m) := by
  cases f
  case pf0 => exact Kept.refl s
  case pf1 =>
    unfold wrSrcCfg
    extract_lets x next s1 hlt t
    have written : Kept s t := Kept.ite (Kept.ite (Kept.refl s) (Kept.refl s)) (Kept.refl s)
    clear_value t
    exact Kept.ite written written

/-! ### Each command -/

theorem holdoffExpiry_devices (s : State) (f : Fn) (k : EvId) : EndsKept (.holdoffExpiry f k) s := by
  have released := setEv_only s f k fun e => { e with holding := false }
  have noted := noteEv_only (setEv s f k fun e => { e with holding := false }) f k
  exact endsKept rfl (released.trans noted).kept

theorem eventRaise_devices {s : State} (quiet : Quiet s) (good : RoutesGood s) (k : EvId) : EndsKept (.eventRaise k none) s := by
  have raised := (raiseEv_spec good k false).1.kept
  exact endsKept (t := settle (raiseEv s k)) rfl (settle_kept quiet raised)

theorem eventSelection_devices {s : State} (quiet : Quiet s) (f : Fn) : EndsKept (.eventSelection f none) s := by
  obtain ⟨entered, idle⟩ := exec_eventSelection s f
  have noted := noteAllEv_devices s
  cases pick : evPick (noteAllEv s) f with
  | some k => exact endsKept (entered k pick) (settle_kept quiet (noted.trans (evEnter_devices ..)))
  | none => exact endsKept (idle pick) (settle_kept quiet noted)

theorem msixUnmask_devices (s : State) (f : Fn) (v : Option (BitVec 10)) : EndsKept (.msixUnmask f v) s := by
  cases v with
  | none => exact endsKept rfl (Kept.trans (t := setFn s f fun x => { x with functionMask := false }) (Kept.refl s) (noteAllEv_devices _))
  | some k =>
    have written : Kept s (gateW s f fun s =>
        if f = .pf1 ∧ 255 < k.toNat then s
        else setFn s f fun x => { x with msix := upd x.msix (bvFin k) fun e => { e with ctl := putBit e.ctl 0 false } }) :=
      gateW_kept (Kept.ite (Kept.refl s) (Kept.refl s))
    exact endsKept rfl (written.trans (noteAllEv_devices _))

theorem protFenceDone_devices {s : State} (quiet : Quiet s) (good : RoutesGood s) : EndsKept .protFenceDone s := by
  have raised := (raiseEv_spec (s := { s with pdk := { s.pdk with fenceDone := true, evaluating := false } }) good 293 false).1.kept
  exact endsKept_ite rfl (Kept.ite (settle_kept quiet raised) (Kept.refl s)) (Kept.refl s)

/-- Each command of the host side: an answer, a write behind its gate, or an event. -/
theorem hostSide_ends {s : State} (quiet : Quiet s) (good : RoutesGood s) : ∀ c, hostSide c = true → EndsKept c s := by
  have settled {t : State} (h : Kept s t) : Kept s (settle t) := settle_kept quiet h
  have same := Kept.refl s
  intro c host
  cases c with
  | configRequest f op => exact endsKept rfl (Kept.ite same (configDo_devices s f op))
  | d3hotEntry f =>
    exact endsKept rfl (Kept.ite same (Kept.trans (t := answer (setFn s f _) .ok) same (noteAllEv_devices _)))
  | d0Return f =>
    exact endsKept rfl (Kept.ite same (Kept.trans (t := answer (setFn s f _) .ok) same (noteAllEv_devices _)))
  | linkUp rate width => exact endsKept_ite rfl same same
  | linkRetrain rate width => exact endsKept_ite rfl same same
  | barAccessMalformed f w => exact endsKept rfl (gateBar_kept same)
  | unsupportedRequest f => exact endsKept rfl same
  | postedWriteSend f => exact postedWriteSend_devices s f
  | ltrSend => exact endsKept_port rfl same same same
  | i2cId x => exact endsKept rfl same
  | i2cState x => exact endsKept rfl same
  | i2cHalter x => exact endsKept rfl same
  | i2cTelemetry x => exact endsKept rfl same
  | i2cStopState x => exact endsKept rfl same
  | i2cUnknownCommand code => exact endsKept rfl same
  | telemetryRefresh v p => exact endsKept_ite rfl same same
  | idcode => exact endsKept rfl (Kept.ite same same)
  | samplePreload pins scan => exact endsKept rfl (Kept.ite same same)
  | tapReset => exact endsKept rfl (Kept.ite same same)
  | bypass code => exact endsKept rfl (tapBypass_devices s _)
  | extest pins scan => exact endsKept_port rfl (tapBypass_devices s _) same same
  | highz => exact endsKept_port rfl (tapBypass_devices s _) same same
  | clamp => exact endsKept_port rfl (tapBypass_devices s _) same same
  | dbgState => exact endsKept_ite rfl (tapBypass_devices s _) same
  | brdDbTailWrite f r v => exact endsKept rfl (settled (pageWrite_devices fun n => tailWrite_devices good r n _))
  | fetchErrClear f r v => exact endsKept rfl (pageWrite_devices fun _ => same)
  | alarmTokenRefill => exact endsKept rfl (stalls_devices ..)
  | dspAlarmTbWrite f n v => exact endsKept rfl (gateW_kept (wrAlarmTb_devices (dropLow s f _) f n v))
  | dspRingEnable f r v => exact endsKept rfl (gateW_kept (wrRingCtl_devices s f r (by simp [bit])))
  | descriptorFetchIssue r =>
    refine endsKept (t := match s.rings[r].owner with | some n => fetchIssue s r n | none => s) rfl ?_
    split
    · exact fetchIssue_devices ..
    · exact same
  | stlCmdEnable f n => exact endsKept rfl (gateW_kept (settled (wrStlCmd_devices good f n (.inl rfl))))
  | stlCmdQuiesce f n => exact endsKept rfl (gateW_kept (settled (wrStlCmd_devices good f n (.inr (.inl rfl)))))
  | stlCmdResume f n => exact endsKept rfl (gateW_kept (settled (wrStlCmd_devices good f n (.inr (.inr rfl)))))
  | quiesceComplete n => exact endsKept rfl (settled (quiesceCheck_devices good n))
  | stlRingAdd f n v => exact endsKept rfl (gateW_kept (settled (wrRingAdd_devices good f n _)))
  | stlRingRemove f n v => exact endsKept rfl (gateW_kept (settled (wrRingRemove_devices good f n _)))
  | stlPasidWrite f n k v => exact endsKept rfl (gateW_kept (settled (wrPasid_devices good f n k _)))
  | stlWorldWrite f n v => exact endsKept rfl (gateW_kept (settled (wrWorld_devices good f n _)))
  | stlMgrLinesWrite f n v => exact endsKept rfl (gateW_kept (Kept.ite same same))
  | stlStatusRead f n => exact endsKept rfl (gateBar_kept (Kept.ite same same))
  | drbgRateWindow => exact endsKept rfl (stalls_devices ..)
  | pdkEpochCommit f => exact endsKept rfl (gateW_kept (wrEpochCtl_devices s f 1 1))
  | pdkEpochDiscard f => exact endsKept rfl (gateW_kept (wrEpochCtl_devices s f 2 2))
  | pkEntryWrite f k w v => exact endsKept rfl (gateW_kept (wrPk_devices (dropLow s f _) f k w v))
  | heldCommitApply =>
    cases held : s.pdk.heldCommit with
    | none => exact endsKept (by simp [exec, execHeldCommitApply, held]) same
    | some e =>
      exact endsKept (t := if e ∈ undrained s then s else commit s) (by simp [exec, execHeldCommitApply, held]) (Kept.ite same same)
  | stagedRefillEnd => exact endsKept rfl (Kept.ite same same)
  | pdkProtFenceWrite f v => exact endsKept rfl (gateW_kept (wrProtFence_devices s f _))
  | protFenceDone => exact protFenceDone_devices quiet good
  | eventRaise k bad =>
    cases bad with
    | some _ => exact Bool.noConfusion host
    | none => exact eventRaise_devices quiet good k
  | holdoffExpiry f k => exact holdoffExpiry_devices s f k
  | eventSelection f bad =>
    cases bad with
    | some _ => exact Bool.noConfusion host
    | none => exact eventSelection_devices quiet f
  | evtRouteWrite f k aliased v => exact endsKept rfl (gateW_kept (wrRoute_devices (dropLow s f _) f k aliased v))
  | evtNmMirrorWrite f i v => exact endsKept rfl (gateW_kept (wrMirror_devices (dropLow s f _) f i v))
  | msixUnmask f v => exact msixUnmask_devices s f v
  | halterSourceDeassert k => exact endsKept rfl same
  | promoWindowExpiry k => exact endsKept rfl same
  | hltSafeCtlForce f v => exact endsKept rfl (gateW_kept (wrSafeCtl_devices s f _))
  | hltSafeCtlRelease f v => exact endsKept rfl (gateW_kept (wrSafeCtl_devices s f _))
  | hltAlertCtlForce f v => exact endsKept rfl (gateW_kept (wrAlertCtl_devices s f _ _))
  | hltAlertCtlClear f v => exact endsKept rfl (gateW_kept (wrAlertCtl_devices s f _ _))
  | hltGuardCtlWrite f v => exact endsKept rfl (gateW_kept (wrGuardCtl_devices s f _ _))
  | hltGuardOutWrite f v =>
    cases f <;> exact endsKept rfl (gateW_kept same)
  | hltSrcCfgWrite f k v => exact endsKept rfl (gateW_kept (wrSrcCfg_devices (dropLow s f _) f k v _))
  | _ => exact Bool.noConfusion host

/-- Settles O60. -/
theorem hostSideReachesNoMemoryOrKey : Obligations.HostSideReachesNoMemoryOrKey := by
  intro s c quiet good host
  obtain ⟨t, answered, devices, -⟩ := hostSide_ends quiet good c host
  obtain ⟨dram, -, mgr, -⟩ := id devices
  exact ⟨t, answered, devices, Protection.sameMemory_of_eq dram mgr⟩

end Sys2Proof.HostSide

-- ==== Halter control ====
namespace Sys2Proof.HostSide

open Sys2Proof.Machine Sys2Proof.Safety

/-- The device in READY, the Halter as after reset: SAFE_LEVEL 0xAAAA, unlocked, the safe state clear. -/
def guardState : State := { State.reset with boot := { Boot.reset with phase := .ready } }

theorem guardState_served : WritesServed guardState .pf1 := ⟨rfl, rfl, .inr rfl⟩

/-- PF1 writes every GUARD output's level high: the write of each pin's two bits clears those of the pins below, since the
mask is complemented before it is shifted, and pin 0 is left low (R674). -/
theorem guardState_guardCtl :
    ∃ t, exec (.hltGuardCtlWrite .pf1 0x5555) guardState = .next t ∧ (field t.hlt.safeLevel 0 2 : BitVec 2) = 0 :=
  ⟨_, rfl, by decide⟩

/-- Refutes O53: the statement has each GUARD output take the encoding written for it; `guardState` writes 0b01 for pin 0 and
keeps 0b00. -/
theorem not_halterControlActs : ¬ Obligations.HalterControlActs := by
  intro h
  obtain ⟨control, -⟩ := h guardState
  obtain ⟨-, -, -, -, -, -, -, -, -, guard, -⟩ := control guardState_served 0x5555
  obtain ⟨t, written, -, levels⟩ := guard rfl rfl
  obtain ⟨u, answered, low⟩ := guardState_guardCtl
  rw [written] at answered
  cases answered
  have high := levels 0
  rw [show 2 * (0 : Fin 8).val = 0 from rfl, low] at high
  exact absurd high (by decide)

end Sys2Proof.HostSide

-- ==== Tamper control ====
namespace Sys2Proof.TamperMonitor

open Sys2Proof.Machine Sys2Proof.Safety Sys2Proof.Waking Sys2Proof.HostLink

/-! ### TMP_INn_CTL (R681, R698, R793) -/

/-- The values in range of a write of TMP_INn_CTL (R698). -/
def ctlValues (x : TmpIn) (v : BitVec 64) : TmpIn :=
  { x with resp := if 2 ≤ (field v 2 2 : BitVec 2).toNat then x.resp else field v 2 2, chatTamper := bit v 4,
           filterUs := if (field v 16 16 : BitVec 16) = 0 then x.filterUs else field v 16 16,
           stuckS := if (field v 32 8 : BitVec 8) = 0 then x.stuckS else field v 32 8,
           chatterCount := if (field v 40 12 : BitVec 12).toNat < 4 then x.chatterCount else field v 40 12,
           chatterWin := if (field v 52 8 : BitVec 8) = 0 then x.chatterWin else field v 52 8 }

/-- LOCK, taken at its first write. -/
def lockTaken (x : TmpIn) (v : BitVec 64) (z : TmpIn) : TmpIn :=
  if x.lockWritten then z else { z with lock := bit v 63, lockWritten := true }

/-- An input as a write leaves it, but for LOCK. -/
def ctlWritten (n : InputId) (x : TmpIn) (v : BitVec 64) : TmpIn :=
  if x.lock then x else if batteryInput n then ctlValues x v else inputMode (ctlValues x v) (bit v 0) (bit v 1)

theorem wrInCtl_pf1 (s : State) (n : InputId) (v : BitVec 64) :
    wrInCtl s .pf1 n v (BitVec.allOnes 64) =
      setIn s n fun _ => lockTaken s.tmp.inp[n] v (ctlWritten n s.tmp.inp[n] v) := by
  have whole : bit (BitVec.allOnes 64) 63 = true := by decide
  refine congrArg (setIn s n) (funext fun _ => ?_)
  generalize s.tmp.inp[n] = x
  by_cases written : x.lockWritten = true
  · rw [lockTaken, if_pos written]
    exact if_neg (by simp [written])
  · rw [lockTaken, if_neg written]
    exact if_pos ⟨whole, by simp [written]⟩

/-- Both writes of an entry end with the input so, and touch no other. -/
def Takes (s : State) (n : InputId) (v : BitVec 64) (z : TmpIn) : Prop :=
  let off : BitVec 20 := BitVec.ofNat 20 (0x04100 + 0x20 * n.val)
  let set (t : State) : Prop := t = { dropLow s .pf1 off with tmp := { s.tmp with inp := t.tmp.inp } } ∧
    t.tmp.inp[n] = lockTaken s.tmp.inp[n] v z ∧ ∀ m : InputId, m ≠ n → t.tmp.inp[m] = s.tmp.inp[m]
  Ends (.tmpInEnWrite .pf1 n v) s set ∧ Ends (.tmpInActiveWrite .pf1 n v) s set

theorem takes_ctlWritten {s : State} (served : WritesServed s .pf1) (n : InputId) (v : BitVec 64) :
    Takes s n v (ctlWritten n s.tmp.inp[n] v) := by
  let low := dropLow s .pf1 (BitVec.ofNat 20 (0x04100 + 0x20 * n.val))
  have answered : gateW64 s .pf1 (0x04100 + 0x20 * n.val) (fun s => wrInCtl s .pf1 n v (BitVec.allOnes 64)) =
      setIn low n fun _ => lockTaken s.tmp.inp[n] v (ctlWritten n s.tmp.inp[n] v) :=
    (gateW64_served served _ _).trans (wrInCtl_pf1 low n v)
  have set := upd_self s.tmp.inp n fun _ => lockTaken s.tmp.inp[n] v (ctlWritten n s.tmp.inp[n] v)
  have others (m : InputId) (h : m ≠ n) := upd_other s.tmp.inp (fun _ => lockTaken s.tmp.inp[n] v (ctlWritten n s.tmp.inp[n] v)) h.symm
  exact ⟨⟨_, congrArg Host.Outcome.next answered, rfl, set, others⟩, ⟨_, congrArg Host.Outcome.next answered, rfl, set, others⟩⟩

theorem inputMode_off (x : TmpIn) (active : Bool) :
    inputMode x false active = { x with en := false, active := active, state := .disabled, stuck := false, raised := false, windowCount := 0 } := rfl

/-- Enabled: IDLE or PENDING_A by its level. -/
theorem inputMode_enabled {x : TmpIn} (off : x.en = false) (active : Bool) :
    inputMode x true active =
      { x with en := true, active := active, state := if x.level = active then .pendingA else .idle, raised := false, windowCount := 0 } := by
  simp [inputMode, off, inActive]

theorem inputMode_same {x : TmpIn} (on : x.en = true) : inputMode x true x.active = x := by
  cases x
  simp_all [inputMode]

/-- A change of polarity acts as a transition. -/
theorem inputMode_turned {x : TmpIn} {active : Bool} (on : x.en = true) (turned : x.active ≠ active) :
    inputMode x true active = { x with active := active, state := afterLevel x.state (decide (x.level = active)) } := by
  cases x
  simp_all [inputMode, inActive]

theorem inputMode_mode (x : TmpIn) (en active : Bool) : (inputMode x en active).en = en ∧ (inputMode x en active).active = active := by
  unfold inputMode
  split
  · exact ⟨rfl, rfl⟩
  · split
    · exact ⟨rfl, rfl⟩
    · split <;> exact ⟨rfl, rfl⟩

/-! ### TMP_ACK (R689) -/

/-- May a latch of an input be cleared? -/
def restsAt (s : State) (n : InputId) : Bool := decide (s.tmp.inp[n].state = .disabled) || decide (s.tmp.inp[n].state = .idle)

/-- The latches that a write names. -/
def ackNames (s : State) (v : BitVec 32) : List InputId :=
  (List.finRange 9).filter fun n => decide (n.val < 8) && bit v n.val && bit s.tmp.latch n.val

/-- The section as an acknowledgement leaves it, but for the canary. -/
def acked (s : State) (v : BitVec 32) : Tmp :=
  { s.tmp with
    latch := ((ackNames s v).filter (restsAt s)).foldl (fun l n => putBit l n.val false) s.tmp.latch
    lost := s.tmp.lost && !bit v 8
    extLock := s.tmp.extLock && !(bit v 9 && restsAt s 8)
    ackErr := s.tmp.ackErr || !((ackNames s v).filter fun n => !restsAt s n).isEmpty || s.tmp.extLock && bit v 9 && !restsAt s 8 }

theorem foldl_putBit_false {w : Nat} {j : Nat} (hj : j < w) : ∀ (l : List InputId) (x : BitVec w),
    bit (l.foldl (fun x n => putBit x n.val false) x) j = (bit x j && !l.any fun n => decide (n.val = j))
  | [], x => by simp
  | n :: l, x => by
    have one : bit (putBit x n.val false) j = (bit x j && !decide (n.val = j)) := by
      by_cases same : n.val = j
      · subst same; simp [bit_putBit_false]
      · simp [bit, putBit, hj, same]
        omega
    rw [List.foldl_cons, foldl_putBit_false hj l, one]
    simp [Bool.and_assoc]

theorem acked_latch (s : State) (v : BitVec 32) (n : InputId) (low : n.val < 8) :
    bit (acked s v).latch n.val = (bit s.tmp.latch n.val && !(bit v n.val && restsAt s n)) := by
  have named : (((ackNames s v).filter (restsAt s)).any fun m => decide (m.val = n.val)) =
      (bit v n.val && bit s.tmp.latch n.val && restsAt s n) := by
    rw [Bool.eq_iff_iff]
    simp only [List.any_eq_true, List.mem_filter, ackNames, List.mem_finRange, Bool.and_eq_true, decide_eq_true_eq, true_and]
    constructor
    · rintro ⟨m, ⟨⟨⟨-, named⟩, latched⟩, rests⟩, same⟩
      obtain rfl := Fin.ext same
      exact ⟨⟨named, latched⟩, rests⟩
    · rintro ⟨⟨named, latched⟩, rests⟩
      exact ⟨n, ⟨⟨⟨low, named⟩, latched⟩, rests⟩, rfl⟩
  show bit (List.foldl _ _ _) _ = _
  rw [foldl_putBit_false low, named]
  cases bit s.tmp.latch n.val <;> cases bit v n.val <;> simp

theorem acked_ackErr (s : State) (v : BitVec 32) :
    (acked s v).ackErr = true ↔ s.tmp.ackErr = true ∨ (s.tmp.extLock = true ∧ bit v 9 = true ∧ restsAt s 8 = false) ∨
      ∃ n : InputId, n.val < 8 ∧ bit v n.val = true ∧ bit s.tmp.latch n.val = true ∧ restsAt s n = false := by
  have stays : (!((ackNames s v).filter fun n => !restsAt s n).isEmpty) = true ↔
      ∃ n : InputId, n.val < 8 ∧ bit v n.val = true ∧ bit s.tmp.latch n.val = true ∧ restsAt s n = false := by
    simp only [ackNames, Bool.not_eq_true', List.isEmpty_eq_false_iff_exists_mem, List.mem_filter, List.mem_finRange,
      Bool.and_eq_true, decide_eq_true_eq, true_and, and_assoc]
  show (s.tmp.ackErr || _ || _ && _ && _) = true ↔ _
  rw [Bool.or_eq_true, Bool.or_eq_true, stays]
  simp only [Bool.and_eq_true, Bool.not_eq_true', and_assoc]
  exact or_assoc.trans (or_congr_right or_comm)

/-- Does nothing stay latched? -/
def AllClear (t : Tmp) : Prop := t.latch = 0 ∧ t.lost = false ∧ t.extLock = false

/-- TMP_ACK with its key. -/
theorem wrAck_keyed (s : State) {v : BitVec 32} (key : field v 16 16 = (0x7AC1 : BitVec 16)) :
    wrAck s .pf1 (v.setWidth 64) =
      if (acked s v).latch = 0 ∧ !(acked s v).lost ∧ !(acked s v).extLock then
        { s with tmp := { acked s v with canary := 0x5A3C96E1 }, boot := { s.boot with keysLocked := false } }
      else { s with tmp := acked s v } := by
  have b8 := bit_setWidth v (i := 8) (by decide)
  have b9 := bit_setWidth v (i := 9) (by decide)
  have names : ((List.finRange 9).filter fun n : InputId => decide (n.val < 8) && bit (v.setWidth 64) n.val && bit s.tmp.latch n.val) =
      ackNames s v :=
    List.filter_congr fun n _ => by rw [bit_setWidth v (i := n.val) (by omega)]
  unfold wrAck
  simp -zeta only []
  rw [field_setWidth v (by decide), if_neg (not_not.2 key)]
  extract_lets quiet sel stay latch extStay old t
  have rests : quiet = restsAt s := funext fun n => by
    unfold restsAt
    simp only [quiet]
    cases s.tmp.inp[n].state <;> rfl
  have taken : t = acked s v := by
    simp only [t, old, latch, extStay, stay, show sel = ackNames s v from names, rests, b8, b9]
    rfl
  rw [taken]

theorem exec_tmpAck {s : State} (served : WritesServed s .pf1) (v : BitVec 32) :
    exec (.tmpAck .pf1 v) s = .next (wrAck s .pf1 (v.setWidth 64)) :=
  congrArg Host.Outcome.next (gateW_served served _)

/-- What an acknowledgement with its key leaves (R689). -/
theorem tmpAck_ends {s : State} (served : WritesServed s .pf1) {v : BitVec 32} (key : field v 16 16 = (0x7AC1 : BitVec 16)) :
    Ends (.tmpAck .pf1 v) s fun t =>
      t = { s with boot := t.boot, tmp := { acked s v with canary := t.tmp.canary } } ∧
      (t.tmp.latch = 0 → t.tmp.lost = false → t.tmp.extLock = false →
        t.boot = { s.boot with keysLocked := false } ∧ t.tmp.canary = 0x5A3C96E1) ∧
      ((t.tmp.latch ≠ 0 ∨ t.tmp.lost = true ∨ t.tmp.extLock = true) → t.boot = s.boot ∧ t.tmp.canary = s.tmp.canary) := by
  refine ⟨_, exec_tmpAck served v, ?_⟩
  rw [wrAck_keyed s key]
  split
  case isTrue clear =>
    obtain ⟨latch, lost, ext⟩ := clear
    refine ⟨rfl, fun _ _ _ => ⟨rfl, rfl⟩, fun stays => ?_⟩
    simp only [Bool.not_eq_true'] at lost ext
    rcases stays with h | h | h
    · exact absurd latch h
    · exact absurd (lost.symm.trans h) (by decide)
    · exact absurd (ext.symm.trans h) (by decide)
  case isFalse stays =>
    exact ⟨rfl, fun latch lost ext => absurd ⟨latch, by simpa using lost, by simpa using ext⟩ stays, fun _ => ⟨rfl, rfl⟩⟩

/-! ### The battery section (R687, R697) -/

/-- An input as the battery section's outputs leave it. -/
def batteryMode (s : State) (n : InputId) : TmpIn :=
  if batteryInput n then inputMode s.tmp.inp[n] (bit s.tmp.vbEn n.val) (bit s.tmp.vbActive n.val) else s.tmp.inp[n]

/-- One input follows the battery section. -/
def followOne (s : State) (n : InputId) : State :=
  if batteryInput n then setIn s n fun x => inputMode x (bit s.tmp.vbEn n.val) (bit s.tmp.vbActive n.val) else s

theorem followOne_inp (s : State) (n m : InputId) :
    (followOne s n).tmp.inp[m] = if n = m then batteryMode s m else s.tmp.inp[m] := by
  unfold followOne batteryMode
  by_cases same : n = m
  · subst same
    by_cases battery : batteryInput n = true
    · simp only [battery, if_true, setIn_tmp, upd_self]
    · simp only [battery, if_true]
      rfl
  · rw [if_neg same]
    split
    · simp only [setIn_tmp, upd_other s.tmp.inp _ same]
    · rfl

theorem followOne_mode (s : State) (n : InputId) :
    (followOne s n).tmp.vbEn = s.tmp.vbEn ∧ (followOne s n).tmp.vbActive = s.tmp.vbActive := by
  unfold followOne
  split <;> exact ⟨rfl, rfl⟩

theorem foldl_followOne_inp (m : InputId) : ∀ (l : List InputId), l.Nodup → ∀ s : State,
    (l.foldl followOne s).tmp.inp[m] = if m ∈ l then batteryMode s m else s.tmp.inp[m]
  | [], _, s => rfl
  | n :: l, once, s => by
    obtain ⟨fresh, rest⟩ := List.nodup_cons.1 once
    obtain ⟨en, active⟩ := followOne_mode s n
    rw [List.foldl_cons, foldl_followOne_inp m l rest]
    unfold batteryMode
    rw [followOne_inp, en, active]
    by_cases same : n = m
    · subst same
      simp [fresh, batteryMode]
    · simp [same, Ne.symm same]

theorem followBattery_inp (s : State) (n : InputId) : (followBattery s).tmp.inp[n] = batteryMode s n :=
  (foldl_followOne_inp n (List.finRange 9) (List.nodup_finRange 9) s).trans (if_pos (List.mem_finRange n))

theorem foldl_putBit_true {w : Nat} {j : Nat} (hj : j < w) (p : Fin 4 → Prop) [DecidablePred p] : ∀ (l : List (Fin 4)) (x : BitVec w),
    bit (l.foldl (fun x n => if p n then putBit x n.val true else x) x) j = (bit x j || l.any fun n => decide (p n) && decide (n.val = j))
  | [], x => by simp
  | n :: l, x => by
    rw [List.foldl_cons, foldl_putBit_true hj p l]
    by_cases h : p n
    · simp [h, bit_putBit x hj, Bool.or_assoc]
    · simp [h]

/-- The counts of consecutive active samples after one more. -/
def sampledCounts (s : State) (levels : BitVec 4) : Vector Nat 4 :=
  vmapIdx (fun n c => if bit s.tmp.vbEn n.val && decide (bit levels n.val = bit s.tmp.vbActive n.val) then c + 1 else 0) s.tmp.vbCount

/-- The latches, those of counts that have reached VB_FILTER among them. -/
def sampledLatch (s : State) (levels : BitVec 4) : BitVec 8 :=
  (List.finRange 4).foldl (fun l n => if s.tmp.vbFilter.toNat ≤ (sampledCounts s levels)[n] then putBit l n.val true else l) s.tmp.latch

theorem exec_vbatSample {s : State} (sampling : s.tmp.vbSampling = true) (levels : BitVec 4) :
    exec (.vbatSample levels) s =
      .next { s with tmp := { s.tmp with vbCount := sampledCounts s levels, latch := sampledLatch s levels } } :=
  if_neg (by simp [sampling])

theorem sampledCounts_get (s : State) (levels : BitVec 4) (n : Fin 4) :
    (sampledCounts s levels)[n] =
      if bit s.tmp.vbEn n.val = true ∧ bit levels n.val = bit s.tmp.vbActive n.val then s.tmp.vbCount[n] + 1 else 0 := by
  rw [sampledCounts, vmapIdx_get]
  simp only [Bool.and_eq_true, decide_eq_true_eq]

theorem sampledLatch_bit (s : State) (levels : BitVec 4) (n : Fin 4) :
    bit (sampledLatch s levels) n.val = (bit s.tmp.latch n.val || decide (s.tmp.vbFilter.toNat ≤ (sampledCounts s levels)[n])) := by
  rw [sampledLatch, foldl_putBit_true (by omega) fun m => s.tmp.vbFilter.toNat ≤ (sampledCounts s levels)[m]]
  congr 1
  rw [Bool.eq_iff_iff]
  simp only [List.any_eq_true, List.mem_finRange, true_and, Bool.and_eq_true, decide_eq_true_eq]
  constructor
  · rintro ⟨m, reached, same⟩
    obtain rfl := Fin.ext same
    exact reached
  · exact fun reached => ⟨n, reached, rfl⟩

/-! ### The obligation -/

/-- An entry's writes, by what the entry and the write hold. -/
theorem takes_written {s : State} (served : WritesServed s .pf1) {n : InputId} {v : BitVec 64} {z : TmpIn}
    (written : ctlWritten n s.tmp.inp[n] v = z) : Takes s n v z := written ▸ takes_ctlWritten served n v

theorem ctlWritten_locked {n : InputId} {x : TmpIn} (locked : x.lock = true) (v : BitVec 64) : ctlWritten n x v = x := if_pos locked

theorem ctlWritten_battery {n : InputId} {x : TmpIn} (unlocked : x.lock = false) (battery : n.val < 4) (v : BitVec 64) :
    ctlWritten n x v = ctlValues x v := by
  simp [ctlWritten, unlocked, batteryInput, battery]

theorem ctlWritten_main {n : InputId} {x : TmpIn} (unlocked : x.lock = false) (main : 4 ≤ n.val) (v : BitVec 64) :
    ctlWritten n x v = inputMode (ctlValues x v) (bit v 0) (bit v 1) := by
  simp [ctlWritten, unlocked, batteryInput, Nat.not_lt.2 main]

theorem tmpVbatCtlArrival_ends {s : State} {v : BitVec 32} {l : List (BitVec 32)} (arrived : s.tmp.vbWrites = v :: l) :
    Ends .tmpVbatCtlArrival s fun t => t = { s with tmp := { s.tmp with
        vbWrites := l, vbEn := field v 0 4, vbActive := field v 4 4, inp := t.tmp.inp,
        vbFilter := if (field v 8 4 : BitVec 4) = 0 then s.tmp.vbFilter else field v 8 4 } } ∧
      (∀ n : InputId, n.val < 4 → t.tmp.inp[n].en = bit (field v 0 4 : BitVec 4) n.val ∧ t.tmp.inp[n].active = bit (field v 4 4 : BitVec 4) n.val) ∧
      ∀ n : InputId, 4 ≤ n.val → t.tmp.inp[n] = s.tmp.inp[n] := by
  let u : State := { s with tmp := { s.tmp with vbWrites := l, vbEn := field v 0 4, vbActive := field v 4 4,
                                                vbFilter := if (field v 8 4 : BitVec 4) = 0 then s.tmp.vbFilter else field v 8 4 } }
  have answered : exec .tmpVbatCtlArrival s = .next (followBattery u) := by
    show execTmpVbatCtlArrival s = _
    unfold execTmpVbatCtlArrival
    rw [arrived]
  refine ⟨_, answered, followBattery_only u, fun n battery => ?_, fun n main => ?_⟩
  · rw [followBattery_inp, batteryMode, if_pos (show batteryInput n = true from decide_eq_true battery)]
    exact inputMode_mode ..
  · rw [followBattery_inp, batteryMode, if_neg (by simp [batteryInput, Nat.not_lt.2 main])]

/-- Settles O49. -/
theorem tamperControlActs : Obligations.TamperControlActs := by
  intro s
  refine ⟨fun n v => ⟨fun served => ?entry, fun served => ?_⟩, fun served v => ⟨fun noKey => ?_, fun key => ?ack⟩,
    fun served v => congrArg Host.Outcome.next (gateW_served served _), fun v l arrived => tmpVbatCtlArrival_ends arrived,
    fun none => ?_, fun sampling levels => ?sample, fun idle levels => if_pos (by simp [idle]),
    fun latch canary => ⟨fun off => ?_, fun on => ?_⟩⟩
  case entry =>
    have main (unlocked : s.tmp.inp[n].lock = false) (high : 4 ≤ n.val) {z : TmpIn}
        (mode : inputMode (ctlValues s.tmp.inp[n] v) (bit v 0) (bit v 1) = z) : Takes s n v z :=
      takes_written served ((ctlWritten_main unlocked high v).trans mode)
    refine ⟨fun locked => takes_written served (ctlWritten_locked locked v),
      fun unlocked battery => takes_written served (ctlWritten_battery unlocked battery v), fun unlocked high =>
      ⟨fun off => main unlocked high ?_, fun on was => main unlocked high ?_, fun on was same => main unlocked high ?_,
        fun on was turned => main unlocked high ?_⟩⟩
    · rw [off]; exact inputMode_off ..
    · rw [on]; exact inputMode_enabled (x := ctlValues s.tmp.inp[n] v) was _
    · rw [on, ← same]; exact inputMode_same (x := ctlValues s.tmp.inp[n] v) was
    · rw [on]; exact inputMode_turned (x := ctlValues s.tmp.inp[n] v) was turned
  case ack =>
    obtain ⟨t, answered, only, cleared, stays⟩ := tmpAck_ends served key
    refine ⟨t, answered, ?_, fun n low => ?_, ?_, ?_, ?_, cleared, stays⟩
    · rw [only]; rfl
    · rw [only]; exact acked_latch s v n low
    · rw [only]; rfl
    · rw [only]; rfl
    · rw [only]; exact acked_ackErr s v
  case sample =>
    refine ⟨_, exec_vbatSample sampling levels, rfl, fun n => ⟨fun enabled active => ?_, fun quiet => ?_, sampledLatch_bit s levels n⟩⟩
    · exact (sampledCounts_get s levels n).trans (if_pos ⟨enabled, active⟩)
    · refine (sampledCounts_get s levels n).trans (if_neg fun ⟨enabled, active⟩ => ?_)
      rcases quiet with off | other
      · exact absurd (off.symm.trans enabled) (by decide)
      · exact other active
  · exact ⟨congrArg Host.Outcome.next (gateW64_served served _ _), congrArg Host.Outcome.next (gateW64_served served _ _)⟩
  · rw [exec_tmpAck served]
    exact congrArg Host.Outcome.next (if_pos (by rwa [field_setWidth v (by decide)]))
  · show execTmpVbatCtlArrival s = _
    unfold execTmpVbatCtlArrival
    rw [none]
  · exact congrArg Host.Outcome.next (if_neg (by simp [off]))
  · exact congrArg Host.Outcome.next (if_pos on)

end Sys2Proof.TamperMonitor

-- ==== Halter sources ====
namespace Sys2Proof.HalterSources

open Sys2Proof.Machine Sys2Proof.Safety Sys2Proof.Waking Sys2Proof.HostLink

/-! ### One assertion latched (R644, R649, R650) -/

/-- A source whose reactions reset nothing, with good parity, no reactions of its severity and no promotion. -/
def Plain (s : State) (k : HsId) : Prop :=
  s.hlt.src[k].react &&& 0x1C = 0 ∧ s.hlt.src[k].parityBad = false ∧ s.hlt.sevReact = 0 ∧ s.hlt.sevParityBad = false ∧
  k.val ≠ 95 ∧ s.hlt.src[k].promoN = 0

/-- A source as an assertion leaves it where it is not promoted. -/
def latchedBy (a : Assert) (x : HSrc) : HSrc :=
  { x with latch := true, rail := x.rail || a.rail, count := if a.again then x.count else satInc x.count
           infoLatch := if x.latch then x.infoLatch else a.info }

theorem sevSet_none {s : State} (set : s.hlt.sevReact = 0) (parity : s.hlt.sevParityBad = false) (v : BitVec 2) : sevSet s v = 0 := by
  unfold sevSet
  rw [parity, if_neg Bool.false_ne_true, set]
  exact BitVec.eq_of_getLsbD_eq fun i hi => by simp [field]

/-- Only the source's own reactions are in effect. -/
theorem effReact_plain {s : State} {k : HsId} (plain : Plain s k) : effReact s k = s.hlt.src[k].react := by
  obtain ⟨-, parity, set, sevParity, other, -⟩ := plain
  unfold effReact hsReact
  simp only []
  rw [parity, if_neg Bool.false_ne_true, if_neg other, sevSet_none set sevParity]
  exact BitVec.or_zero

/-- No stall, no block and no chip is reset. -/
theorem addReacts_plain {r : Reacts} {k : HsId} {isSevere : Bool} {set : BitVec 7} {st : Option StallId} (plain : set &&& 0x1C = 0) :
    addReacts r k isSevere set st =
      { r with irq := r.irq || bit set 0, nmi := r.nmi || bit set 1, alert := r.alert || bit set 5, safe := r.safe || bit set 6 } := by
  have off (i : Nat) (h : (0x1C : BitVec 7).getLsbD i = true) : bit set i = false := by
    have masked : (set &&& 0x1C).getLsbD i = (0 : BitVec 7).getLsbD i := by rw [plain]
    rw [BitVec.getLsbD_and, h, Bool.and_true] at masked
    exact masked.trans (BitVec.getLsbD_zero ..)
  unfold addReacts
  rw [off 2 (by decide), off 3 (by decide), off 4 (by decide)]
  simp

/-- The state that latches an assertion: its source and, with a stall attributed, the log. -/
structure Latched (s : State) (a : Assert) (t : State) : Prop where
  only : t = { s with hlt := t.hlt }
  src : t.hlt.src = upd s.hlt.src a.src (latchedBy a)
  inbox : t.hlt.inbox = s.hlt.inbox
  alert : t.hlt.alert = s.hlt.alert
  safe : t.hlt.safe = s.hlt.safe
  first : t.hlt.first = s.hlt.first

theorem countPromo_plain {x : HSrc} (never : x.promoN = 0) : countPromo x = { x with count := satInc x.count } := by
  simp [countPromo, never]

/-- The source's entry in `latchOne`. -/
theorem latched_entry {x : HSrc} (never : x.promoN = 0) (a : Assert) :
    (fun y : HSrc => { y with latch := true, rail := y.rail || a.rail, infoLatch := if x.latch then y.infoLatch else a.info })
      (if a.again then x else countPromo x) = latchedBy a x := by
  rw [countPromo_plain never]
  unfold latchedBy
  cases a.again <;> rfl

theorem setHs_latched {s : State} {a : Assert} (never : s.hlt.src[a.src].promoN = 0) :
    (setHs s a.src fun x =>
      let x := if a.again then x else countPromo x
      { x with latch := true, rail := x.rail || a.rail, infoLatch := if s.hlt.src[a.src].latch then x.infoLatch else a.info }) =
    setHs s a.src (latchedBy a) := by
  have src := congrArg (s.hlt.src.set a.src.val · a.src.isLt) (latched_entry never a)
  unfold setHs upd
  rw [src]

theorem latchedBy_plain {s : State} {k : HsId} (plain : Plain s k) (a : Assert) : Plain (setHs s k (latchedBy a)) k := by
  unfold Plain
  rw [setHs_hlt, upd_self]
  exact plain

theorem effReact_latched {s : State} {a : Assert} (plain : Plain s a.src) :
    effReact (setHs s a.src (latchedBy a)) a.src = effReact s a.src := by
  rw [effReact_plain plain, effReact_plain (latchedBy_plain plain a), setHs_hlt, upd_self]
  rfl

/-- The attribution log (R678). -/
def logged (s : State) (a : Assert) (reset : Bool) : State :=
  match a.stall with
  | some n => { s with hlt := { s.hlt with logSource := BitVec.ofNat 7 a.src.val, logStall := BitVec.ofNat 6 n.val, logReset := reset, logValid := true } }
  | none => s

theorem latched_logged (s : State) (a : Assert) (reset : Bool) : Latched s a (logged (setHs s a.src (latchedBy a)) a reset) := by
  unfold logged
  split <;> exact ⟨rfl, rfl, rfl, rfl, rfl, rfl⟩

/-- A first assertion takes the source's reactions, a further one none. -/
theorem latchOne_plain {s : State} {r : Reacts} {a : Assert} (plain : Plain s a.src) :
    Latched s a (latchOne s r a).1 ∧
    (s.hlt.src[a.src].latch = false → (latchOne s r a).2 =
      { r with irq := r.irq || bit s.hlt.src[a.src].react 0, nmi := r.nmi || bit s.hlt.src[a.src].react 1
               alert := r.alert || bit s.hlt.src[a.src].react 5, safe := r.safe || bit s.hlt.src[a.src].react 6
               latched := r.latched ++ [a.src] }) ∧
    (s.hlt.src[a.src].latch = true → (latchOne s r a).2 = r) := by
  obtain ⟨masked, -, -, -, -, never⟩ := id plain
  unfold latchOne
  extract_lets was before s1 now taken r1 r2 h s2
  have first : s1 = setHs s a.src (latchedBy a) := setHs_latched never
  have same : now = s.hlt.src[a.src].react := by
    simp only [now, first, effReact_latched plain, effReact_plain plain]
  have old : before = s.hlt.src[a.src].react := effReact_plain plain
  refine ⟨?_, fun fresh => ?_, fun again => ?_⟩
  · have log : s2 = logged (setHs s a.src (latchedBy a)) a (bit taken 3) := by
      simp only [s2, h, first]
      unfold logged
      cases a.stall <;> rfl
    rw [log]
    exact latched_logged ..
  · have all : taken = s.hlt.src[a.src].react := by simp [taken, was, fresh, same]
    simp only [r2, r1, was, fresh, all, addReacts_plain masked]
    rfl
  · have none : taken = 0 := by
      have part : s.hlt.src[a.src].react &&& 0x0C = 0 := by
        rw [show (0x0C : BitVec 7) = 0x1C &&& 0x0C from by decide, ← BitVec.and_assoc, masked]
        exact BitVec.zero_and
      simp only [taken, was, again, same, old, if_true, part]
      simp
    simp only [r2, r1, was, again, none, addReacts_plain (set := 0) (by decide)]
    simp [bit]

/-! ### The reactions of one cycle (R652, R653) -/

/-- Reactions that reset nothing. -/
def NoReset (r : Reacts) : Prop := r.chip = false ∧ r.stalls = [] ∧ r.blocks = []

/-- What such reactions leave. -/
structure Reacted (s : State) (r : Reacts) (t : State) : Prop where
  only : t = { s with evt := t.evt, fns := t.fns, linkOut := t.linkOut, hlt := t.hlt }
  hlt : t.hlt = { s.hlt with alert := s.hlt.alert || r.nmi || r.alert, safe := s.hlt.safe || r.safe
                             unattrib := t.hlt.unattrib, nmiSent := t.hlt.nmiSent }
  mirror : ∀ k ∈ r.latched, (evSrc t .pf1 (evMirror k)).cause = true
  irq : r.irq = true → (evSrc t .pf1 307).cause = true

theorem evAllowed_mirror (s : State) (k : HsId) : evAllowed s .pf1 (evMirror k) = true := by
  have high : ¬ (evMirror k).val < 192 := by simp [evMirror]
  have low : (evMirror k).val < 288 := by simp [evMirror]; omega
  unfold evAllowed
  rw [dif_neg high, if_pos low]

theorem evMirror_ne_irq (k : HsId) : (307 : EvId) ≠ evMirror k := fun e => by
  have val := congrArg Fin.val e
  simp [evMirror] at val
  omega

theorem sendNmi_leaves (s : State) :
    sendNmi s = { s with fns := (sendNmi s).fns, linkOut := (sendNmi s).linkOut
                         hlt := { s.hlt with alert := true, nmiSent := (sendNmi s).hlt.nmiSent } } := by
  unfold sendNmi
  dsimp only
  split <;> split <;> rfl

/-- A cause stays on record through a raise of any event. -/
theorem raiseEv_mirror {s : State} {k : HsId} (j : EvId) (caused : (evSrc s .pf1 (evMirror k)).cause = true ∨ j = evMirror k) :
    (evSrc (raiseEv s j) .pf1 (evMirror k)).cause = true := by
  by_cases same : j = evMirror k
  · subst same
    exact (raiseEv_self false (evAllowed_mirror s k)).1
  · rw [raiseEv_other s .pf1 false same]
    exact caused.resolve_right same

theorem raiseMirrors (l : List HsId) : ∀ {s : State}, RoutesGood s →
    let t := l.foldl (fun s k => raiseEv s (evMirror k)) s
    EvOnly s t ∧ RoutesGood t ∧ ∀ k, (k ∈ l ∨ (evSrc s .pf1 (evMirror k)).cause = true) → (evSrc t .pf1 (evMirror k)).cause = true := by
  induction l with
  | nil => exact fun good => ⟨EvOnly.refl _, good, fun k h => h.resolve_left List.not_mem_nil⟩
  | cons j l ih =>
    intro s good
    obtain ⟨one, good'⟩ := raiseEv_spec good (evMirror j) false
    obtain ⟨rest, good'', caused⟩ := ih good'
    refine ⟨one.trans rest, good'', fun k h => caused k ?_⟩
    by_cases same : k = j
    · exact .inr (raiseEv_mirror _ (.inr (congrArg evMirror same.symm)))
    · rcases h with h | h
      · exact .inl ((List.mem_cons.1 h).resolve_left same)
      · exact .inr (raiseEv_mirror _ (.inl h))

theorem takeReacts_plain {s : State} {r : Reacts} (good : RoutesGood s) (noReset : NoReset r) : Reacted s r (takeReacts s r) := by
  obtain ⟨chip, stalls, blocks⟩ := noReset
  obtain ⟨mirrored, good', caused⟩ := raiseMirrors r.latched good
  unfold takeReacts
  dsimp only
  rw [chip, if_neg Bool.false_ne_true, stalls, blocks]
  simp only [List.dedup_nil, List.foldl_nil]
  generalize r.latched.foldl (fun s k => raiseEv s (evMirror k)) s = u at mirrored good' caused
  have interrupted : EvOnly u (if r.irq = true then raiseEv u 307 else u) := EvOnly.ite (raiseEv_spec good' 307 false).1 (EvOnly.refl u)
  have told : r.irq = true → (evSrc (if r.irq = true then raiseEv u 307 else u) .pf1 307).cause = true := fun irq => by
    rw [if_pos irq]
    exact (raiseEv_device u false (by decide) (by decide)).1
  have kept (k : HsId) (h : k ∈ r.latched) : (evSrc (if r.irq = true then raiseEv u 307 else u) .pf1 (evMirror k)).cause = true := by
    split
    · exact raiseEv_mirror 307 (.inl (caused k (.inl h)))
    · exact caused k (.inl h)
  generalize (if r.irq = true then raiseEv u 307 else u) = v at interrupted told kept
  have events : EvOnly s v := mirrored.trans interrupted
  have hlt : v.hlt = s.hlt := evOnly_hlt events
  by_cases nmi : r.nmi = true
  · rw [if_pos nmi]
    have sent := sendNmi_leaves v
    generalize sendNmi v = w at sent
    have evt : w.evt = v.evt := by rw [sent]
    refine ⟨?_, ?_, fun k h => ?_, fun irq => ?_⟩
    · rw [sent, events]
    · rw [sent, hlt, nmi]
      simp
    · rw [← kept k h]; exact congrArg (·.cause) (evSrc_congr evt ..)
    · rw [← told irq]; exact congrArg (·.cause) (evSrc_congr evt ..)
  · rw [if_neg nmi]
    refine ⟨?_, ?_, kept, told⟩
    · rw [events]
    · rw [hlt, Bool.not_eq_true] at *
      simp [nmi]

theorem takeReacts_none (s : State) : takeReacts s Reacts.none = s := by
  simp [takeReacts, Reacts.none]

theorem noteFirst_one (s : State) (was : Bool) (k : HsId) :
    noteFirst s was [k] = if was then s else { s with hlt := { s.hlt with first := BitVec.ofNat 7 k.val } } := by
  cases was <;> rfl

theorem noteFirst_none (s : State) (was : Bool) : noteFirst s was [] = s := by
  cases was <;> rfl

/-! ### A single assertion (R652, R655) -/

/-- The state with nothing at the Halter's input. -/
def taken (s : State) : State := { s with hlt := { s.hlt with inbox := [] } }

theorem halterCycle_one {s : State} {a : Assert} (inbox : s.hlt.inbox = [a]) :
    halterCycle s = takeReacts (noteFirst (latchOne (taken s) .none a).1 (anyLatched s) (latchOne (taken s) .none a).2.latched)
      (latchOne (taken s) .none a).2 := by
  unfold halterCycle
  rw [inbox]
  rfl

/-- A further assertion of a latched source is latched and counted, and nothing more. -/
theorem settle_again {s : State} {a : Assert} (inbox : s.hlt.inbox = [a]) (plain : Plain s a.src)
    (was : s.hlt.src[a.src].latch = true) : Latched (taken s) a (settle s) := by
  obtain ⟨latched, -, again⟩ := latchOne_plain (s := taken s) (r := .none) (a := a) plain
  have cycle := halterCycle_one inbox
  rw [again was, takeReacts_none, show Reacts.none.latched = [] from rfl, noteFirst_none] at cycle
  rw [settle, cycle, halterCycle_of_quiet (latched.inbox.trans rfl)]
  exact latched

/-- What the Halter makes of the first assertion of a plain source. -/
structure Acted (s : State) (a : Assert) (t : State) : Prop where
  only : t = { s with evt := t.evt, fns := t.fns, linkOut := t.linkOut, hlt := t.hlt }
  src : t.hlt.src = upd s.hlt.src a.src (latchedBy a)
  mirror : (evSrc t .pf1 (evMirror a.src)).cause = true
  first : anyLatched s = false → t.hlt.first = BitVec.ofNat 7 a.src.val
  irq : bit s.hlt.src[a.src].react 0 = true → (evSrc t .pf1 307).cause = true
  alert : t.hlt.alert = (s.hlt.alert || bit s.hlt.src[a.src].react 1 || bit s.hlt.src[a.src].react 5)
  safe : t.hlt.safe = (s.hlt.safe || bit s.hlt.src[a.src].react 6)

theorem settle_fresh {s : State} {a : Assert} (inbox : s.hlt.inbox = [a]) (good : RoutesGood s) (plain : Plain s a.src)
    (was : s.hlt.src[a.src].latch = false) : Acted s a (settle s) := by
  obtain ⟨latched, fresh, -⟩ := latchOne_plain (s := taken s) (r := .none) (a := a) plain
  have cycle := halterCycle_one inbox
  rw [fresh was] at cycle
  generalize (latchOne (taken s) .none a).1 = v at latched cycle
  obtain ⟨only, src, empty, alert, safe, -⟩ := latched
  let x := s.hlt.src[a.src]
  let r : Reacts := { Reacts.none with irq := bit x.react 0, nmi := bit x.react 1, alert := bit x.react 5, safe := bit x.react 6
                                       latched := [a.src] }
  replace cycle : halterCycle s = takeReacts (noteFirst v (anyLatched s) [a.src]) r := cycle
  rw [noteFirst_one] at cycle
  let w : State := if anyLatched s then v else { v with hlt := { v.hlt with first := BitVec.ofNat 7 a.src.val } }
  have noted : w = { s with hlt := { v.hlt with first := w.hlt.first } } := by
    simp only [w]
    split <;> rw [only] <;> rfl
  have first (none : anyLatched s = false) : w.hlt.first = BitVec.ofNat 7 a.src.val := by simp only [w, none]; rfl
  obtain ⟨reacted, hlt, mirror, irq⟩ := takeReacts_plain (s := w) (routesGood_congr (by rw [noted]) good) (r := r) ⟨rfl, rfl, rfl⟩
  rw [← cycle] at reacted hlt mirror irq
  have held : w.hlt.alert = s.hlt.alert := by rw [noted]; exact alert
  have stood : w.hlt.safe = s.hlt.safe := by rw [noted]; exact safe
  have settled : settle s = halterCycle s := by
    rw [settle]
    refine halterCycle_of_quiet ?_
    rw [hlt, noted]
    exact empty
  rw [settled]
  refine ⟨?_, ?_, mirror _ (List.mem_singleton.2 rfl), fun none => ?_, irq, ?_, ?_⟩
  · rw [reacted, noted]
  · rw [hlt, noted]; exact src
  · rw [hlt]; exact first none
  · rw [hlt, ← held]
  · rw [hlt, ← stood]

/-! ### Assertions and rails (R642, R645) -/

/-- A change of a source's lines alone. -/
def Lines (g : HSrc → HSrc) : Prop := ∀ x, g x = { x with asserted := (g x).asserted, railBad := (g x).railBad }

/-- The state in which one assertion is delivered, its line changed. -/
def delivered (s : State) (a : Assert) (g : HSrc → HSrc) : State :=
  { s with hlt := { s.hlt with src := upd s.hlt.src a.src g, inbox := [a] } }

theorem anyLatched_upd {s t : State} {k : HsId} {g : HSrc → HSrc} (src : t.hlt.src = upd s.hlt.src k g)
    (lines : ∀ x, (g x).latch = x.latch) : anyLatched t = anyLatched s := by
  unfold anyLatched vfind
  rw [src]
  refine congrArg (fun l : List HsId => !l.isEmpty) (List.filter_congr fun j _ => ?_)
  rw [upd_get]
  split
  · exact lines _
  · rfl

theorem Lines.latch {g : HSrc → HSrc} (lines : Lines g) (x : HSrc) : (g x).latch = x.latch := by rw [lines x]

theorem Lines.react {g : HSrc → HSrc} (lines : Lines g) (x : HSrc) : (g x).react = x.react := by rw [lines x]

theorem delivered_plain {s : State} {a : Assert} {g : HSrc → HSrc} (lines : Lines g) (plain : Plain s a.src) :
    Plain (delivered s a g) a.src := by
  unfold Plain delivered
  rw [upd_self, lines]
  exact plain

theorem delivered_others {s t : State} {a : Assert} {g : HSrc → HSrc} (src : t.hlt.src = upd (upd s.hlt.src a.src g) a.src (latchedBy a))
    (j : HsId) (other : j ≠ a.src) : t.hlt.src[j] = s.hlt.src[j] := by
  rw [src, upd_other _ _ other.symm, upd_other _ _ other.symm]

theorem delivered_self {s t : State} {a : Assert} {g : HSrc → HSrc} (src : t.hlt.src = upd (upd s.hlt.src a.src g) a.src (latchedBy a)) :
    t.hlt.src[a.src] = latchedBy a (g s.hlt.src[a.src]) := by
  rw [src, upd_self, upd_self]

/-- The reactions that a first assertion of a plain source takes. -/
def Reacts1 (s : State) (k : HsId) (t : State) : Prop :=
  (∀ j : HsId, j ≠ k → t.hlt.src[j] = s.hlt.src[j]) ∧ (evSrc t .pf1 (evMirror k)).cause = true ∧
  (anyLatched s = false → t.hlt.first = BitVec.ofNat 7 k.val) ∧
  (bit s.hlt.src[k].react 0 = true → (evSrc t .pf1 307).cause = true) ∧
  t.hlt.alert = (s.hlt.alert || bit s.hlt.src[k].react 1 || bit s.hlt.src[k].react 5) ∧
  t.hlt.safe = (s.hlt.safe || bit s.hlt.src[k].react 6) ∧ t.reqs = s.reqs ∧ t.units = s.units ∧ t.stalls = s.stalls ∧ t.dram = s.dram

theorem delivered_fresh {s : State} {a : Assert} {g : HSrc → HSrc} (good : RoutesGood s) (lines : Lines g) (plain : Plain s a.src)
    (was : s.hlt.src[a.src].latch = false) :
    Reacts1 s a.src (settle (delivered s a g)) ∧ (settle (delivered s a g)).hlt.src[a.src] = latchedBy a (g s.hlt.src[a.src]) := by
  have self : (delivered s a g).hlt.src[a.src] = g s.hlt.src[a.src] := upd_self ..
  have unlatched : (delivered s a g).hlt.src[a.src].latch = false := by rw [self, lines.latch, was]
  obtain ⟨only, src, mirror, first, irq, alert, safe⟩ :=
    settle_fresh (s := delivered s a g) rfl (routesGood_congr (s := s) rfl good) (delivered_plain lines plain) unlatched
  rw [self, lines.react] at irq alert safe
  refine ⟨⟨delivered_others src, mirror, fun none => first ?_, irq, alert, safe, ?_, ?_, ?_, ?_⟩, delivered_self src⟩
  · exact (anyLatched_upd (s := s) rfl lines.latch).trans none
  all_goals rw [only]; rfl

theorem delivered_again {s : State} {a : Assert} {g : HSrc → HSrc} (lines : Lines g) (plain : Plain s a.src)
    (was : s.hlt.src[a.src].latch = true) :
    let t := settle (delivered s a g)
    t.hlt.src[a.src] = latchedBy a (g s.hlt.src[a.src]) ∧ (∀ j : HsId, j ≠ a.src → t.hlt.src[j] = s.hlt.src[j]) ∧
    t.hlt.alert = s.hlt.alert ∧ t.hlt.safe = s.hlt.safe ∧ t.evt = s.evt := by
  have self : (delivered s a g).hlt.src[a.src] = g s.hlt.src[a.src] := upd_self ..
  obtain ⟨only, src, -, alert, safe, -⟩ := settle_again (s := delivered s a g) rfl (delivered_plain lines plain)
    (by rw [self, lines.latch, was])
  exact ⟨delivered_self src, delivered_others src, alert, safe, by rw [only]; rfl⟩

/-- A source with its line asserted. -/
def lineUp (x : HSrc) : HSrc := { x with asserted := true }

/-- A source whose pair disagrees. -/
def pairBad (x : HSrc) : HSrc := { x with railBad := true }

/-- The assertion of a line. -/
def lineAssert (k : HsId) (st : Option StallId) : Assert := { src := k, stall := st, rail := false, info := false, again := false }

theorem exec_halterSourceAssert {s : State} (quiet : Quiet s) (k : HsId) (st : Option StallId) :
    exec (.halterSourceAssert k st) s = .next (settle (delivered s (lineAssert k st) lineUp)) := by
  show execHalterSourceAssert k st s = _
  unfold execHalterSourceAssert raiseHs setHs
  rw [quiet]
  rfl

/-- The assertion of a pair that disagrees. -/
def railAssert (k : HsId) : Assert := { src := k, stall := none, rail := true, info := false, again := false }

theorem exec_railDisagreement {s : State} (quiet : Quiet s) {k : HsId} (pair : dualRail k = true) :
    exec (.railDisagreement k) s = .next (settle (delivered s (railAssert k) pairBad)) := by
  show execRailDisagreement k s = _
  refine (if_neg (by rw [pair]; decide)).trans ?_
  unfold delivered setHs
  dsimp only
  rw [quiet]
  rfl

theorem latchedBy_line (k : HsId) (st : Option StallId) (x : HSrc) :
    (x.latch = false → latchedBy (lineAssert k st) (lineUp x) =
      { x with asserted := true, latch := true, count := satInc x.count, infoLatch := false }) ∧
    (x.latch = true → latchedBy (lineAssert k st) (lineUp x) = { x with asserted := true, count := satInc x.count }) := by
  cases x
  constructor <;> rintro rfl <;> simp [latchedBy, lineAssert, lineUp]

theorem latchedBy_pair (k : HsId) {x : HSrc} (fresh : x.latch = false) : latchedBy (railAssert k) (pairBad x) =
    { x with railBad := true, rail := true, latch := true, count := satInc x.count, infoLatch := false } := by
  simp [latchedBy, railAssert, pairBad, fresh]

/-! ### HLT_STATUSi (R644, R646, R669) -/

/-- A source with its latch cleared. -/
def unlatched (x : HSrc) : HSrc := { x with latch := false, promoted := false, c := 0, infoLatch := false }

/-- What a standing line or pair delivers again. -/
def standing (k : HsId) (x : HSrc) : List Assert :=
  if x.asserted || x.railBad then [{ src := k, stall := none, rail := x.railBad, info := false, again := true }] else []

/-- Nothing but latches, FIRST and what waits at the input differs. -/
def StatusOnly (s t : State) : Prop :=
  t = { s with hlt := { s.hlt with src := t.hlt.src, first := t.hlt.first, inbox := t.hlt.inbox } }

theorem StatusOnly.trans {s t u : State} (h : StatusOnly s t) (g : StatusOnly t u) : StatusOnly s u := by
  unfold StatusOnly at *; rw [g, h]

theorem clearHs_unlatched {s : State} {k : HsId} (was : s.hlt.src[k].latch = false) : clearHs s k = s :=
  if_pos (by rw [was]; rfl)

theorem clearHs_latched {s : State} {k : HsId} (was : s.hlt.src[k].latch = true) :
    StatusOnly s (clearHs s k) ∧ (clearHs s k).hlt.src = upd s.hlt.src k unlatched ∧
    (clearHs s k).hlt.inbox = s.hlt.inbox ++ standing k s.hlt.src[k] := by
  obtain ⟨u, only, src, inbox, e⟩ : ∃ u, StatusOnly s u ∧ u.hlt.src = upd s.hlt.src k unlatched ∧ u.hlt.inbox = s.hlt.inbox ∧
      clearHs s k = if u.hlt.src[k].asserted || u.hlt.src[k].railBad then
        { u with hlt := { u.hlt with inbox := u.hlt.inbox ++
          [{ src := k, stall := none, rail := u.hlt.src[k].railBad, info := false, again := true }] } } else u := by
    unfold clearHs
    rw [was]
    refine ⟨_, ?_, ?_, ?_, rfl⟩
    all_goals split <;> rfl
  have entry : u.hlt.src[k] = unlatched s.hlt.src[k] := by rw [src, upd_self]
  rw [e, entry]
  unfold standing
  cases lines : s.hlt.src[k].asserted || s.hlt.src[k].railBad
  · rw [if_neg (by simpa [unlatched] using lines), if_neg Bool.false_ne_true, List.append_nil]
    exact ⟨only, src, inbox⟩
  · rw [if_pos (by simpa [unlatched] using lines), if_pos rfl]
    exact ⟨StatusOnly.trans only rfl, src, congrArg (· ++ _) inbox⟩

theorem standing_idle {k : HsId} {x : HSrc} (line : x.asserted = false) (pair : x.railBad = false) : standing k x = [] := by
  simp [standing, line, pair]

/-- What a write makes of one source: lines stand, nothing of its neighbours changes, and an idle source delivers nothing. -/
theorem clearHs_spec (s : State) (j : HsId) :
    StatusOnly s (clearHs s j) ∧ (∀ k, k ≠ j → (clearHs s j).hlt.src[k] = s.hlt.src[k]) ∧
    (∀ k : HsId, (clearHs s j).hlt.src[k].asserted = s.hlt.src[k].asserted ∧ (clearHs s j).hlt.src[k].railBad = s.hlt.src[k].railBad) ∧
    (s.hlt.src[j].asserted = false → s.hlt.src[j].railBad = false → (clearHs s j).hlt.inbox = s.hlt.inbox) := by
  cases was : s.hlt.src[j].latch
  · rw [clearHs_unlatched was]
    exact ⟨rfl, fun _ _ => rfl, fun _ => ⟨rfl, rfl⟩, fun _ _ => rfl⟩
  · obtain ⟨only, src, inbox⟩ := clearHs_latched was
    refine ⟨only, fun k other => by rw [src, upd_other _ _ other.symm], fun k => ?_, fun line pair => ?_⟩
    · rw [src, upd_get]
      split <;> exact ⟨rfl, rfl⟩
    · rw [inbox, standing_idle line pair, List.append_nil]

/-- No source but `k` has a line or a pair that stands. -/
def IdleBut (k : HsId) (s : State) : Prop := ∀ j : HsId, j ≠ k → s.hlt.src[j].asserted = false ∧ s.hlt.src[j].railBad = false

/-- One source named or not. -/
def clearIf (p : HsId → Prop) [DecidablePred p] (s : State) (j : HsId) : State := if p j then clearHs s j else s

theorem clearIf_spec (p : HsId → Prop) [DecidablePred p] (s : State) (j : HsId) :
    StatusOnly s (clearIf p s j) ∧ (∀ k, k ≠ j → (clearIf p s j).hlt.src[k] = s.hlt.src[k]) ∧
    (∀ k, IdleBut k s → IdleBut k (clearIf p s j)) ∧
    (s.hlt.src[j].asserted = false → s.hlt.src[j].railBad = false → (clearIf p s j).hlt.inbox = s.hlt.inbox) := by
  obtain ⟨only, others, lines, quiet⟩ := clearHs_spec s j
  unfold clearIf
  split
  · refine ⟨only, others, fun k idle i other => ?_, quiet⟩
    rw [(lines i).1, (lines i).2]
    exact idle i other
  · exact ⟨rfl, fun _ _ => rfl, fun _ idle => idle, fun _ _ => rfl⟩

/-- Is the source's latch cleared? -/
def Named (p : HsId → Prop) (s : State) (k : HsId) : Prop := p k ∧ s.hlt.src[k].latch = true

theorem clearIf_self (p : HsId → Prop) [DecidablePred p] (s : State) (k : HsId) :
    (Named p s k → (clearIf p s k).hlt.src[k] = unlatched s.hlt.src[k] ∧ (clearIf p s k).hlt.inbox = s.hlt.inbox ++ standing k s.hlt.src[k]) ∧
    (¬ Named p s k → clearIf p s k = s) := by
  unfold clearIf
  refine ⟨fun ⟨named, was⟩ => ?_, fun other => ?_⟩
  · obtain ⟨-, src, inbox⟩ := clearHs_latched was
    rw [if_pos named]
    exact ⟨by rw [src, upd_self], inbox⟩
  · split
    · next named => exact clearHs_unlatched (Bool.eq_false_iff.2 fun was => other ⟨named, was⟩)
    · rfl

/-- Latches cleared where no source but `k` stands asserted. -/
theorem foldl_clearIf {k : HsId} (p : HsId → Prop) [DecidablePred p] : ∀ (l : List HsId), l.Nodup → ∀ s : State, IdleBut k s →
    let t := l.foldl (clearIf p) s
    StatusOnly s t ∧
    ((k ∈ l ∧ Named p s k) → t.hlt.src[k] = unlatched s.hlt.src[k] ∧ t.hlt.inbox = s.hlt.inbox ++ standing k s.hlt.src[k]) ∧
    (¬ (k ∈ l ∧ Named p s k) → t.hlt.src[k] = s.hlt.src[k] ∧ t.hlt.inbox = s.hlt.inbox)
  | [], _, s, _ => ⟨rfl, fun h => absurd h.1 List.not_mem_nil, fun _ => ⟨rfl, rfl⟩⟩
  | j :: l, once, s, idle => by
    obtain ⟨fresh, rest⟩ := List.nodup_cons.1 once
    obtain ⟨only, others, idle', quiet⟩ := clearIf_spec p s j
    obtain ⟨more, named, unnamed⟩ := foldl_clearIf p l rest (clearIf p s j) (idle' k idle)
    refine ⟨only.trans more, ?_⟩
    by_cases same : j = k
    · subst same
      obtain ⟨src, inbox⟩ := unnamed fun h => fresh h.1
      obtain ⟨cleared, stays⟩ := clearIf_self p s j
      refine ⟨fun h => ?_, fun h => ?_⟩
      · rw [List.foldl_cons, src, inbox]
        exact cleared h.2
      · rw [List.foldl_cons, src, inbox, stays fun n => h ⟨List.mem_cons_self, n⟩]
        exact ⟨rfl, rfl⟩
    · have self := others k (Ne.symm same)
      have inbox := quiet (idle j same).1 (idle j same).2
      have member : (k ∈ j :: l ∧ Named p s k) ↔ (k ∈ l ∧ Named p (clearIf p s j) k) := by
        unfold Named
        rw [self, List.mem_cons]
        simp [Ne.symm same]
      rw [self, inbox] at named unnamed
      exact ⟨fun h => named (member.1 h), fun h => unnamed fun m => h (member.2 m)⟩

/-- The latches that a write of HLT_STATUSi names. -/
abbrev statusNames (i : Fin 3) (v : BitVec 32) (k : HsId) : Prop := k.val / 32 = i.val ∧ bit v (k.val % 32) = true

theorem hltStatusClear_ends {s : State} (quiet : Quiet s) (served : WritesServed s .pf1) {k : HsId} (idle : IdleBut k s)
    (i : Fin 3) (v : BitVec 32) :
    ∃ t, exec (.hltStatusClear .pf1 i v) s = .next (settle t) ∧ StatusOnly s t ∧
      (Named (statusNames i v) s k → t.hlt.src[k] = unlatched s.hlt.src[k] ∧ t.hlt.inbox = standing k s.hlt.src[k]) ∧
      (¬ Named (statusNames i v) s k → t.hlt.src[k] = s.hlt.src[k] ∧ t.hlt.inbox = []) := by
  obtain ⟨only, named, unnamed⟩ := foldl_clearIf (statusNames i v) (List.finRange 96) (List.nodup_finRange 96) s idle
  have low (j : HsId) : bit (v.setWidth 64) (j.val % 32) = bit v (j.val % 32) := bit_setWidth v (by omega)
  have answered : exec (.hltStatusClear .pf1 i v) s = .next (settle ((List.finRange 96).foldl (clearIf (statusNames i v)) s)) := by
    refine congrArg Host.Outcome.next ((gateW_served served _).trans (congrArg settle ?_))
    unfold wrHltStatus clearIf statusNames
    simp only [low]
  rw [quiet] at named unnamed
  exact ⟨_, answered, only, fun h => named ⟨List.mem_finRange k, h⟩, fun h => unnamed fun m => h m.2⟩

/-- Cleared, idle or not named: nothing is reported, and the alert and the safe state stand (R669). -/
theorem hltStatusClear_idle {s : State} (quiet : Quiet s) (served : WritesServed s .pf1) {k : HsId} (idle : IdleBut k s)
    (line : s.hlt.src[k].asserted = false) (pair : s.hlt.src[k].railBad = false) (i : Fin 3) (v : BitVec 32) :
    Ends (.hltStatusClear .pf1 i v) s fun t => t.hlt.alert = s.hlt.alert ∧ t.hlt.safe = s.hlt.safe ∧
      (Named (statusNames i v) s k → t.hlt.src[k] = unlatched s.hlt.src[k]) ∧
      (¬ Named (statusNames i v) s k → t.hlt.src[k] = s.hlt.src[k]) := by
  obtain ⟨t, answered, only, named, unnamed⟩ := hltStatusClear_ends quiet served idle i v
  have empty : t.hlt.inbox = [] := by
    by_cases h : Named (statusNames i v) s k
    · rw [(named h).2, standing_idle line pair]
    · exact (unnamed h).2
  rw [settle_of_quiet empty] at answered
  exact ⟨t, answered, by rw [only], by rw [only], fun h => (named h).1, fun h => (unnamed h).1⟩

/-- A line that stands latches again, uncounted (R644, R646). -/
theorem hltStatusClear_standing {s : State} (quiet : Quiet s) (good : RoutesGood s) (served : WritesServed s .pf1) {k : HsId}
    (idle : IdleBut k s) (plain : Plain s k) (line : s.hlt.src[k].asserted = true) (pair : s.hlt.src[k].railBad = false)
    {i : Fin 3} {v : BitVec 32} (h : Named (statusNames i v) s k) :
    Ends (.hltStatusClear .pf1 i v) s fun t =>
      t.hlt.src[k] = { s.hlt.src[k] with promoted := false, c := 0, infoLatch := false } := by
  obtain ⟨t, answered, only, named, -⟩ := hltStatusClear_ends quiet served idle i v
  obtain ⟨entry, inbox⟩ := named h
  have again : t.hlt.inbox = [{ src := k, stall := none, rail := false, info := false, again := true }] := by
    rw [inbox, standing, line, pair]
    rfl
  have plain' : Plain t k := by
    unfold Plain
    rw [entry, only]
    exact plain
  have cleared : t.hlt.src[k].latch = false := by rw [entry]; rfl
  have src := (settle_fresh again (routesGood_congr (by rw [only]) good) plain' cleared).src
  refine ⟨_, answered, ?_⟩
  show (settle t).hlt.src[k] = _
  rw [src, upd_self, entry]
  have latched := h.2
  generalize s.hlt.src[k] = x at latched
  cases x
  cases latched
  simp [latchedBy, unlatched]

/-! ### Self-checks (R664, R665, R667) -/

/-- Reports were added to the Halter: the pair and the count stand, and what waited still waits. -/
def Reports (s u : State) : Prop :=
  u = { s with hlt := u.hlt } ∧ u.hlt.nextPair = s.hlt.nextPair ∧ u.hlt.passes = s.hlt.passes ∧ ∀ a ∈ s.hlt.inbox, a ∈ u.hlt.inbox

theorem Reports.refl (s : State) : Reports s s := ⟨rfl, rfl, rfl, fun _ h => h⟩

theorem Reports.trans {s t u : State} (h : Reports s t) (g : Reports t u) : Reports s u := by
  obtain ⟨only, pair, passes, waits⟩ := h
  obtain ⟨only', pair', passes', waits'⟩ := g
  exact ⟨by rw [only', only], pair'.trans pair, passes'.trans passes, fun a h => waits' a (waits a h)⟩

/-- A finding of a self-check or of a pad is on record, with HS95 raised. -/
def Found (u : State) (cause : BitVec 4) : Prop := u.hlt.cause = cause ∧ ∃ a ∈ u.hlt.inbox, a.src = 95

theorem selfFail_found (s : State) (cause : BitVec 4) (src : Option HsId) :
    Reports s (selfFail s cause src) ∧ Found (selfFail s cause src) cause :=
  ⟨⟨rfl, rfl, rfl, fun _ h => List.mem_append_left _ h⟩, rfl, _, List.mem_append_right _ List.mem_cons_self, rfl⟩

/-- The injection into a pair: a source undetected acts as a disagreement. -/
def injected (s : State) (k : HsId) (ok : Bool) : State :=
  if ok then s else selfFail { s with hlt := { s.hlt with inbox := s.hlt.inbox ++ [railAssert k] } } 1 (some k)

/-- The two copies of the reaction logic compared. -/
def compared (s : State) (ok : Bool) : State := if ok then s else selfFail s 2 none

/-- The parity of the configuration checked. -/
def parityChecked (s : State) : Option HltPart → State
  | some (.source j) => selfFail (setHs s j fun x => { x with parityBad := true }) 3 (some j)
  | some .sevReact => selfFail { s with hlt := { s.hlt with sevParityBad := true } } 3 none
  | none => s

/-- The next pair taken up. -/
def paired (s : State) : State := { s with hlt := { s.hlt with nextPair := (s.hlt.nextPair + 1) % 32 } }

theorem exec_halterSelfCheck (s : State) (inj cop : Bool) (part : Option HltPart) :
    let u := parityChecked (compared (injected (paired s) (pairs.getD s.hlt.nextPair 95) inj) cop) part
    exec (.halterSelfCheck inj cop part) s =
      .next (settle (if inj && cop && part.isNone then { u with hlt := { u.hlt with passes := satInc u.hlt.passes } } else u)) := by
  rcases part with _ | (j | _) <;> rfl

theorem injected_spec (s : State) (k : HsId) (ok : Bool) :
    Reports s (injected s k ok) ∧ (ok = false → Found (injected s k ok) 1 ∧ railAssert k ∈ (injected s k ok).hlt.inbox) := by
  unfold injected
  cases ok
  case true => exact ⟨Reports.refl s, fun h => absurd h (by decide)⟩
  case false =>
    obtain ⟨reported, found⟩ := selfFail_found { s with hlt := { s.hlt with inbox := s.hlt.inbox ++ [railAssert k] } } 1 (some k)
    have delivered : Reports s { s with hlt := { s.hlt with inbox := s.hlt.inbox ++ [railAssert k] } } :=
      ⟨rfl, rfl, rfl, fun _ h => List.mem_append_left _ h⟩
    exact ⟨delivered.trans reported, fun _ => ⟨found, reported.2.2.2 _ (List.mem_append_right _ List.mem_cons_self)⟩⟩

theorem compared_spec (s : State) (ok : Bool) :
    Reports s (compared s ok) ∧ (ok = true → compared s ok = s) ∧ (ok = false → Found (compared s ok) 2) := by
  unfold compared
  cases ok
  case true => exact ⟨Reports.refl s, fun _ => rfl, fun h => absurd h (by decide)⟩
  case false => exact ⟨(selfFail_found s 2 none).1, fun h => absurd h (by decide), fun _ => (selfFail_found s 2 none).2⟩

theorem parityChecked_spec (s : State) (part : Option HltPart) :
    Reports s (parityChecked s part) ∧ (part = none → parityChecked s part = s) ∧ (part ≠ none → Found (parityChecked s part) 3) ∧
    (∀ j, part = some (.source j) → (parityChecked s part).hlt.src[j].parityBad = true ∧
      (parityChecked s part).hlt.source = BitVec.ofNat 7 j.val) ∧
    (part = some .sevReact → (parityChecked s part).hlt.sevParityBad = true) := by
  rcases part with _ | (j | _)
  · exact ⟨Reports.refl s, fun _ => rfl, fun h => absurd rfl h, (fun _ h => nomatch h), (fun h => nomatch h)⟩
  · obtain ⟨reported, found⟩ := selfFail_found (setHs s j fun x => { x with parityBad := true }) 3 (some j)
    refine ⟨Reports.trans ⟨rfl, rfl, rfl, fun _ h => h⟩ reported, (fun h => nomatch h), fun _ => found, fun i h => ?_, (fun h => nomatch h)⟩
    cases h
    exact ⟨congrArg (·.parityBad) (upd_self s.hlt.src j _), rfl⟩
  · obtain ⟨reported, found⟩ := selfFail_found { s with hlt := { s.hlt with sevParityBad := true } } 3 none
    exact ⟨Reports.trans ⟨rfl, rfl, rfl, fun _ h => h⟩ reported, (fun h => nomatch h), fun _ => found, (fun _ h => nomatch h), fun _ => rfl⟩

theorem halterSelfCheck_found (s : State) (inj cop : Bool) (part : Option HltPart) (found : inj = false ∨ cop = false ∨ part ≠ none) :
    Ends (.halterSelfCheck inj cop part) s fun t => ∃ u, t = settle u ∧ u = { s with hlt := u.hlt } ∧
      u.hlt.nextPair = (s.hlt.nextPair + 1) % 32 ∧ u.hlt.passes = s.hlt.passes ∧
      u.hlt.cause = (if part = none then (if cop then 1 else 2) else 3) ∧ (∃ a ∈ u.hlt.inbox, a.src = 95) ∧
      (inj = false → ∃ a ∈ u.hlt.inbox, a.src = pairs.getD s.hlt.nextPair 95 ∧ a.rail = true) ∧
      (∀ j, part = some (.source j) → u.hlt.src[j].parityBad = true ∧ u.hlt.source = BitVec.ofNat 7 j.val) ∧
      (part = some .sevReact → u.hlt.sevParityBad = true) := by
  have notClean : ¬ (inj && cop && part.isNone) = true := by
    rcases found with h | h | h <;> simp [h]
  have answered := exec_halterSelfCheck s inj cop part
  simp only [if_neg notClean] at answered
  generalize pairs.getD s.hlt.nextPair 95 = k at answered ⊢
  obtain ⟨inject, undetected⟩ := injected_spec (paired s) k inj
  obtain ⟨compare, same, differ⟩ := compared_spec (injected (paired s) k inj) cop
  obtain ⟨parity, fine, bad, source, sevReact⟩ := parityChecked_spec (compared (injected (paired s) k inj) cop) part
  obtain ⟨only, pair, passes, -⟩ := (inject.trans compare).trans parity
  have recorded : Found (parityChecked (compared (injected (paired s) k inj) cop) part) (if part = none then (if cop then 1 else 2) else 3) := by
    by_cases none : part = none
    · rw [fine none, if_pos none]
      cases cop
      · exact differ rfl
      · rw [same rfl]
        exact (undetected (found.resolve_right fun h => h.elim (by decide) fun h => h none)).1
    · rw [if_neg none]
      exact bad none
  exact ⟨_, answered, _, rfl, by rw [only]; rfl, pair, passes, recorded.1, recorded.2,
    fun h => ⟨railAssert k, parity.2.2.2 _ (compare.2.2.2 _ (undetected h).2), rfl, rfl⟩, source, sevReact⟩

/-- Settles O52. -/
theorem halterSourcesLatch : Obligations.HalterSourcesLatch := by
  intro s k quiet good x plain reacts
  refine ⟨fun st plain => ⟨fun fresh => ?_, fun was => ?_⟩, rfl, fun pair plain fresh => ?_, fun single => if_pos (by rw [single]; rfl), rfl,
    fun served idle i v => ⟨fun line pair => ?_, fun named plain line pair => ?_⟩,
    fun served i v => ?_, ?_, fun inj cop part found => halterSelfCheck_found s inj cop part found, ?_⟩
  · obtain ⟨acted, entry⟩ := delivered_fresh (a := lineAssert k st) (g := lineUp) good (fun _ => rfl) plain fresh
    exact ⟨_, exec_halterSourceAssert quiet k st, acted, entry.trans ((latchedBy_line k st x).1 fresh)⟩
  · obtain ⟨entry, rest⟩ := delivered_again (a := lineAssert k st) (g := lineUp) (fun _ => rfl) plain was
    exact ⟨_, exec_halterSourceAssert quiet k st, entry.trans ((latchedBy_line k st x).2 was), rest⟩
  · obtain ⟨acted, entry⟩ := delivered_fresh (a := railAssert k) (g := pairBad) good (fun _ => rfl) plain fresh
    exact ⟨_, exec_railDisagreement quiet pair, acted, entry.trans (latchedBy_pair k fresh)⟩
  · obtain ⟨t, answered, alert, safe, named, unnamed⟩ := hltStatusClear_idle quiet served idle line pair i v
    exact ⟨t, answered, alert, safe, fun h => named ⟨⟨h.1, h.2.1⟩, h.2.2⟩, fun h => unnamed fun n => h ⟨n.1.1, n.1.2, n.2⟩⟩
  · exact hltStatusClear_standing quiet good served idle plain line pair ⟨⟨named.1, named.2.1⟩, named.2.2⟩
  · exact congrArg Host.Outcome.next ((gateW_served served _).trans (settle_of_quiet quiet))
  · exact congrArg Host.Outcome.next (settle_of_quiet quiet)
  · exact ⟨_, rfl, _, rfl, rfl, rfl, _, List.mem_append_right _ List.mem_cons_self, rfl⟩

end Sys2Proof.HalterSources

-- ==== Tamper inputs ====
namespace Sys2Proof.TamperMonitor

open Sys2Proof.Machine Sys2Proof.Safety Sys2Proof.Waking Sys2Proof.HostLink Sys2Proof.TackRoom

/-! ### Keys cleared and locked (R688) -/

/-- What clearing keys may touch: units, requests, intermediates, the feed, the store, events and the Halter. -/
def KeysOnly (s t : State) : Prop :=
  t = { s with units := t.units, reqs := t.reqs, inters := t.inters, feed := t.feed, tkr := t.tkr, evt := t.evt, fns := t.fns, hlt := t.hlt }

theorem KeysOnly.trans {s t u : State} (h : KeysOnly s t) (g : KeysOnly t u) : KeysOnly s u := by
  unfold KeysOnly at *; rw [g, h]

theorem feedFail_keysOnly (s : State) (code : Byte) : KeysOnly s (feedFail s code) := by
  unfold feedFail feedError
  obtain ⟨v, swept, -⟩ := sweepDropped_eq { feedCount s with feed := { (feedCount s).feed with
    state := .error, code := code, endCause := 0, out := 0, key := none, msg := [], buf := [] } }
  rw [swept]
  exact KeysOnly.trans (t := { feedCount s with tkr := _, feed := _ }) rfl (by rw [KeysOnly, raiseEv_only])

/-- Every key is gone from requests that are still to end. -/
theorem clearKeys_reqs (s : State) : ∀ q ∈ (clearKeys s).reqs, q.done = none → q.key = none := by
  intro q member running
  obtain ⟨p, -, rfl⟩ := List.mem_map.1 (show q ∈ List.map _ _ from member)
  split at running
  · exact absurd running (by simp [endReq])
  · next kept =>
    rw [if_neg kept]
    simpa [running] using kept

theorem clearKeys_keysOnly (s : State) : KeysOnly s (clearKeys s) := by
  have fed : KeysOnly s (if feedActive s ∧ s.feed.key.isSome then feedFail s 0x7F else s) := by
    split
    · exact feedFail_keysOnly s 0x7F
    · rfl
  have registers (a : State) : ∃ v, zeroKeyRegs a (fun _ => true) = { a with units := v } := ⟨_, rfl⟩
  have entries (a : State) : ∃ v, zeroEntries a (fun _ => true) = { a with tkr := { a.tkr with store := v } } := ⟨_, rfl⟩
  unfold clearKeys
  generalize (if feedActive s ∧ s.feed.key.isSome then feedFail s 0x7F else s) = a at fed
  dsimp only
  obtain ⟨units, zeroed⟩ := registers a
  rw [zeroed]
  obtain ⟨store, emptied⟩ := entries { a with units := units }
  rw [emptied]
  refine fed.trans ?_
  unfold zeroKeyInters
  rfl

theorem lockKeys_spec {s : State} (good : RoutesGood s) :
    lockKeys s = { s with boot := { s.boot with keysLocked := true }, evt := (lockKeys s).evt, fns := (lockKeys s).fns } := by
  unfold lockKeys
  split
  · next locked => rw [← locked]
  · dsimp only
    split
    · exact (raiseEv_spec (s := { s with boot := { s.boot with keysLocked := true } }) good 291 false).1
    · rfl

/-- KEY_CLEAR: no key anywhere, KEYS_LOCKED, and nothing new at the Halter. -/
theorem keyClear_spec {s : State} (good : RoutesGood s) :
    (keyClear s).boot.keysLocked = true ∧ NoKeys (keyClear s) ∧ (∀ q ∈ (keyClear s).reqs, q.done = none → q.key = none) ∧
    (keyClear s).tmp = s.tmp ∧ (keyClear s).hlt = s.hlt ∧ (keyClear s).dram = s.dram := by
  obtain ⟨⟨-, -, -, calm⟩, units, store⟩ := clearKeys_spec s
  have only := clearKeys_keysOnly s
  have reqs := clearKeys_reqs s
  have locked := lockKeys_spec (calm.routes good)
  have hlt := calm.hlt good
  unfold keyClear
  generalize clearKeys s = t at *
  rw [locked]
  exact ⟨rfl, ⟨units, store⟩, reqs, by rw [only], hlt, by rw [only]⟩

/-! ### The actions of a tamper (R682, R688) -/

/-- The input is marked, its source raised; where KEY_CLEAR is in effect every key is gone and keys are locked. -/
def TamperedTo (s : State) (n : InputId) (z : TmpIn) (u : State) : Prop :=
  u.tmp.inp[n] = { z with raised := true } ∧ (∃ a ∈ u.hlt.inbox, a.src = inHs n) ∧ u.dram = s.dram ∧
  (effResp s n = true → u.boot.keysLocked = true ∧ (n.val < 8 → bit u.tmp.latch n.val = true) ∧ (n.val = 8 → u.tmp.extLock = true) ∧
    (∀ k : UnitId, u.units[k].keyReg = none) ∧ (∀ h : Handle, u.tkr.store[h].kind = 0) ∧ ∀ q ∈ u.reqs, q.done = none → q.key = none) ∧
  (effResp s n = false → u.boot = s.boot ∧ u.units = s.units ∧ u.tkr = s.tkr ∧ u.tmp.latch = s.tmp.latch)

/-- The tamper reported, before its keys are cleared. -/
def tamperTold (s : State) (n : InputId) : State :=
  raiseHs (if n.val = 8 then setMon (setIn s n fun x => { x with raised := true }) 5 else setIn s n fun x => { x with raised := true }) (inHs n) none

theorem tamperTold_eq (s : State) (n : InputId) : ∃ mon, tamperTold s n = { s with
    tmp := { s.tmp with inp := upd s.tmp.inp n fun x => { x with raised := true }, mon := mon }
    hlt := { s.hlt with inbox := s.hlt.inbox ++ [{ src := inHs n, stall := none, rail := false, info := false, again := false }] } } := by
  unfold tamperTold
  split <;> exact ⟨_, rfl⟩

/-- The input latched in the battery section, or KEY_LOCK of input 8. -/
def tamperLatched (s : State) (n : InputId) : State :=
  if n.val < 8 then { s with tmp := { s.tmp with latch := putBit s.tmp.latch n.val true } } else { s with tmp := { s.tmp with extLock := true } }

theorem tamperAct_eq (s : State) (n : InputId) :
    tamperAct s n = if effResp (tamperTold s n) n then keyClear (tamperLatched (tamperTold s n) n) else tamperTold s n := by
  show (if (!effResp (tamperTold s n) n) = true then tamperTold s n else keyClear (tamperLatched (tamperTold s n) n)) = _
  cases effResp (tamperTold s n) n <;> rfl

theorem tamperLatched_eq (s : State) (n : InputId) : ∃ latch ext,
    tamperLatched s n = { s with tmp := { s.tmp with latch := latch, extLock := ext } } ∧
    (n.val < 8 → bit latch n.val = true) ∧ (n.val = 8 → ext = true) := by
  unfold tamperLatched
  split
  · next low => exact ⟨_, _, rfl, fun _ => bit_putBit_self _ low, fun e => absurd low (by omega)⟩
  · next high => exact ⟨_, _, rfl, fun low => absurd low high, fun _ => rfl⟩

theorem tamperAct_spec {s : State} (good : RoutesGood s) (n : InputId) : TamperedTo s n s.tmp.inp[n] (tamperAct s n) := by
  rw [tamperAct_eq]
  obtain ⟨mon, told⟩ := tamperTold_eq s n
  have resp : effResp (tamperTold s n) n = effResp s n := by
    unfold effResp
    rw [told, upd_self]
  rw [resp]
  cases clears : effResp s n
  · rw [if_neg Bool.false_ne_true, told]
    exact ⟨upd_self .., ⟨_, List.mem_append_right _ List.mem_cons_self, rfl⟩, rfl, fun h => absurd h (by rw [clears]; decide), fun _ => ⟨rfl, rfl, rfl, rfl⟩⟩
  · rw [if_pos rfl]
    obtain ⟨latch, ext, latched, bits, lock⟩ := tamperLatched_eq (tamperTold s n) n
    obtain ⟨locked, ⟨units, store⟩, reqs, tmp, hlt, dram⟩ := keyClear_spec (s := tamperLatched (tamperTold s n) n)
      (routesGood_congr (by rw [latched, told]) good)
    refine ⟨?_, ?_, ?_, fun _ => ⟨locked, ?_, ?_, units, store, reqs⟩, fun h => absurd h (by rw [clears]; decide)⟩
    · rw [tmp, latched, told]; exact upd_self ..
    · rw [hlt, latched, told]; exact ⟨_, List.mem_append_right _ List.mem_cons_self, rfl⟩
    · rw [dram, latched, told]
    · rw [tmp, latched]; exact bits
    · rw [tmp, latched]; exact lock

/-- Another state to start from, with the input's response, the devices and the latches as they were. -/
theorem TamperedTo.of_eq {s v u : State} {n : InputId} {z : TmpIn} (h : TamperedTo v n z u) (resp : effResp v n = effResp s n)
    (dram : v.dram = s.dram) (boot : v.boot = s.boot) (units : v.units = s.units) (tkr : v.tkr = s.tkr) (latch : v.tmp.latch = s.tmp.latch) :
    TamperedTo s n z u := by
  unfold TamperedTo at *
  rwa [resp, dram, boot, units, tkr, latch] at h

/-- What had been raised before a tamper does not count. -/
theorem TamperedTo.raised {s u : State} {n : InputId} {z y : TmpIn} (h : TamperedTo s n z u)
    (same : { z with raised := true } = { y with raised := true }) : TamperedTo s n y u :=
  ⟨h.1.trans same, h.2⟩

/-! ### One input changed -/

/-- One input at a value, the Halter, the units and local memory as before. -/
def Goes (s : State) (n : InputId) (t : State) (y : TmpIn) : Prop :=
  t.tmp.inp[n] = y ∧ (∀ m : InputId, m ≠ n → t.tmp.inp[m] = s.tmp.inp[m]) ∧ t.hlt = s.hlt ∧ t.units = s.units ∧ t.dram = s.dram

/-- An input put at a value. -/
def putIn (s : State) (n : InputId) (y : TmpIn) : State := setIn s n fun _ => y

theorem putIn_goes (s : State) (n : InputId) (y : TmpIn) : Goes s n (putIn s n y) y :=
  ⟨upd_self .., fun _ other => upd_other _ _ other.symm, rfl, rfl, rfl⟩

theorem setIn_eq_putIn (s : State) (n : InputId) (g : TmpIn → TmpIn) : setIn s n g = putIn s n (g s.tmp.inp[n]) := rfl

theorem putIn_self (s : State) (n : InputId) (y : TmpIn) : (putIn s n y).tmp.inp[n] = y := upd_self ..

theorem setIn_putIn (s : State) (n : InputId) (y : TmpIn) (g : TmpIn → TmpIn) : setIn (putIn s n y) n g = putIn s n (g y) := by
  unfold putIn setIn
  rw [upd_upd]

theorem putIn_routes {s : State} (good : RoutesGood s) (n : InputId) (y : TmpIn) : RoutesGood (putIn s n y) := good

/-- An input put at a value with an event raised. -/
theorem raised_goes {s : State} (good : RoutesGood s) (n : InputId) (y : TmpIn) {k : EvId} (lo : 288 ≤ k.val) (hi : k.val < 315) :
    Goes s n (raiseEv (putIn s n y) k) y ∧ (evSrc (raiseEv (putIn s n y) k) .pf1 k).cause = true := by
  obtain ⟨only, -⟩ := raiseEv_spec (putIn_routes good n y) k false
  have caused := (raiseEv_device (putIn s n y) false lo hi).1
  generalize raiseEv (putIn s n y) k = t at only caused
  refine ⟨?_, caused⟩
  rw [only]
  exact putIn_goes s n y

/-- A tamper of an input put at a value. -/
theorem tamperAct_putIn {s : State} (good : RoutesGood s) (n : InputId) {y : TmpIn} (resp : y.resp = s.tmp.inp[n].resp) :
    TamperedTo s n y (tamperAct (putIn s n y) n) := by
  have acts := tamperAct_spec (putIn_routes good n y) n
  rw [putIn_self] at acts
  refine acts.of_eq ?_ rfl rfl rfl rfl rfl
  unfold effResp
  rw [putIn_self, resp]
  rfl

/-! ### Transitions (R680, R681, R684) -/

/-- An input with a transition counted. -/
def counted (x : TmpIn) (lv : Bool) : TmpIn :=
  { x with level := lv, rawEdges := x.rawEdges + 1, windowCount := x.windowCount + 1,
           windowLimit := if x.windowCount = 0 then x.chatterCount else x.windowLimit }

/-- The count of a window that a transition may not exceed. -/
def windowLimitOf (x : TmpIn) : BitVec 12 := if x.windowCount = 0 then x.chatterCount else x.windowLimit

/-- Neither disabled nor chattering. -/
def Watched (st : TmpState) : Prop := st ≠ .disabled ∧ st ≠ .chatter

/-- A new excursion has raised nothing yet. -/
def excursion (x : TmpIn) (z : TmpIn) : TmpIn := { z with raised := if x.state = .idle then false else x.raised }

/-- A watched input after a transition within the count of its window. -/
def moved (x : TmpIn) (lv : Bool) : TmpIn := excursion x { counted x lv with state := afterLevel x.state (decide (lv = x.active)) }

theorem moved_idle {x : TmpIn} (idle : x.state = .idle) (lv : Bool) :
    moved x lv = { counted x lv with state := if lv = x.active then .pendingA else .idle, raised := false } := by
  unfold moved excursion
  rw [idle]
  by_cases active : lv = x.active <;> simp [active, afterLevel]

/-- In any other state what has been raised stands. -/
theorem moved_raised {x : TmpIn} {st : TmpState} (lv : Bool) (busy : x.state ≠ .idle)
    (goes : afterLevel x.state (decide (lv = x.active)) = st) : moved x lv = { counted x lv with state := st } := by
  unfold moved excursion
  rw [goes, if_neg busy]
  rfl

theorem afterLevel_pendingA (lv active : Bool) : afterLevel .pendingA (decide (lv = active)) = if lv = active then .pendingA else .idle := by
  cases lv <;> cases active <;> rfl

theorem afterLevel_asserted (lv active : Bool) : afterLevel .asserted (decide (lv = active)) = if lv = active then .asserted else .pendingD := by
  cases lv <;> cases active <;> rfl

theorem afterLevel_pendingD (lv active : Bool) : afterLevel .pendingD (decide (lv = active)) = if lv = active then .asserted else .pendingD := by
  cases lv <;> cases active <;> rfl

theorem exec_tamperTransition {s : State} {n : InputId} (alive : s.boot.powered = true ∨ n.val < 4) (lv : Bool) :
    let x := s.tmp.inp[n]
    (x.state = .disabled → exec (.tamperTransition n lv) s = .next (setIn s n fun z => { z with level := lv, rawEdges := z.rawEdges + 1 })) ∧
    (x.state = .chatter → exec (.tamperTransition n lv) s =
      .next (setIn s n fun z => { z with level := lv, rawEdges := z.rawEdges + 1, chatterEdges := satInc z.chatterEdges })) ∧
    (Watched x.state → exec (.tamperTransition n lv) s = .next (
      if (windowLimitOf x).toNat < x.windowCount + 1 then settle (enterChatter (putIn s n (excursion x (counted x lv))) n)
      else putIn s n (moved x lv))) := by
  intro x
  have awake : ¬ ((!s.boot.powered) = true ∧ (!batteryInput n) = true) := by
    rcases alive with h | h <;> simp [h, batteryInput]
  have first : setIn s n (fun z => { z with level := lv, rawEdges := z.rawEdges + 1 }) =
      putIn s n { x with level := lv, rawEdges := x.rawEdges + 1 } := rfl
  show (_ → execTamperTransition n lv s = _) ∧ (_ → execTamperTransition n lv s = _) ∧ (_ → execTamperTransition n lv s = _)
  unfold execTamperTransition
  rw [if_neg awake, first]
  simp only [putIn_self, setIn_putIn]
  refine ⟨fun off => ?_, fun chatters => ?_, fun ⟨on, still⟩ => ?_⟩
  · split
    · rfl
    · next h => exact absurd (off.symm.trans h) (by decide)
    · next h _ => exact absurd off h
  · split
    · next h => exact absurd (chatters.symm.trans h) (by decide)
    · rfl
    · next h => exact absurd chatters h
  · split
    · next h => exact absurd h on
    · next h => exact absurd h still
    · by_cases beyond : (windowLimitOf x).toNat < x.windowCount + 1
      · rw [if_pos beyond]
        exact if_pos beyond
      · rw [if_neg beyond]
        exact if_neg beyond

/-- CHATTER entered: EV309, and a tamper where the input makes it one of a state without a tamper (R684). -/
theorem enterChatter_goes {s : State} (quiet : Quiet s) (good : RoutesGood s) (n : InputId) (y : TmpIn)
    (calm : y.chatTamper = false ∨ y.state = .asserted ∨ y.state = .pendingD) :
    Goes s n (settle (enterChatter (putIn s n y) n)) { y with state := .chatter } ∧
    (evSrc (settle (enterChatter (putIn s n y) n)) .pf1 309).cause = true := by
  have goes := raised_goes good n { y with state := .chatter } (k := 309) (by decide) (by decide)
  have entered : enterChatter (putIn s n y) n = raiseEv (putIn s n { y with state := .chatter }) 309 := by
    unfold enterChatter
    rw [setIn_putIn]
    dsimp only
    rw [goes.1.1, putIn_self]
    refine if_neg fun ⟨tamper, notAsserted, notPending⟩ => ?_
    rcases calm with h | h | h
    · exact absurd (h.symm.trans tamper) (by decide)
    · exact notAsserted h
    · exact notPending h
  rw [entered, settle_of_quiet (goes.1.2.2.1 ▸ quiet)]
  exact goes

theorem enterChatter_tampers {s : State} (good : RoutesGood s) (n : InputId) {y : TmpIn} (resp : y.resp = s.tmp.inp[n].resp)
    (tamper : y.chatTamper = true) (calm : y.state = .idle ∨ y.state = .pendingA) :
    TamperedTo s n { y with state := .chatter } (enterChatter (putIn s n y) n) := by
  have goes := (raised_goes good n { y with state := .chatter } (k := 309) (by decide) (by decide)).1
  obtain ⟨only, good'⟩ := raiseEv_spec (putIn_routes good n { y with state := .chatter }) 309 false
  have entered : enterChatter (putIn s n y) n = tamperAct (raiseEv (putIn s n { y with state := .chatter }) 309) n := by
    unfold enterChatter
    rw [setIn_putIn]
    dsimp only
    rw [goes.1, putIn_self]
    refine if_pos ⟨tamper, ?_, ?_⟩
    all_goals rcases calm with h | h <;> rw [h] <;> decide
  have acts := tamperAct_spec good' n
  rw [goes.1] at acts
  rw [entered]
  generalize raiseEv (putIn s n { y with state := .chatter }) 309 = v at only goes acts
  refine acts.of_eq ?_ ?_ ?_ ?_ ?_ ?_
  · unfold effResp
    rw [goes.1, only]
    exact congrArg (fun r : BitVec 2 => (decide (s.boot.phase ≠ .ready) && decide (n.val < 8)) || decide (r = 1)) resp
  all_goals rw [only]; rfl

theorem tamperTransition_within {s : State} {n : InputId} (alive : s.boot.powered = true ∨ n.val < 4) {lv : Bool}
    (watched : Watched s.tmp.inp[n].state) (within : s.tmp.inp[n].windowCount + 1 ≤ (windowLimitOf s.tmp.inp[n]).toNat) {y : TmpIn}
    (moves : moved s.tmp.inp[n] lv = y) : Ends (.tamperTransition n lv) s fun t => Goes s n t y := by
  have answered := (exec_tamperTransition alive lv).2.2 watched
  rw [if_neg (Nat.not_lt.2 within), moves] at answered
  exact ⟨_, answered, putIn_goes s n y⟩

theorem exec_tamperTransition_beyond {s : State} {n : InputId} (alive : s.boot.powered = true ∨ n.val < 4) {lv : Bool}
    (watched : Watched s.tmp.inp[n].state) (beyond : (windowLimitOf s.tmp.inp[n]).toNat < s.tmp.inp[n].windowCount + 1) :
    exec (.tamperTransition n lv) s = .next (settle (enterChatter (putIn s n (excursion s.tmp.inp[n] (counted s.tmp.inp[n] lv))) n)) := by
  have answered := (exec_tamperTransition alive lv).2.2 watched
  rwa [if_pos beyond] at answered

theorem excursion_idle {x z : TmpIn} (idle : x.state = .idle) : excursion x z = { z with raised := false } := by
  simp [excursion, idle]

theorem excursion_busy {x z : TmpIn} (busy : x.state ≠ .idle) (same : z.raised = x.raised) : excursion x z = z := by
  simp [excursion, busy, ← same]

theorem tamperTransition_chatters {s : State} {n : InputId} (quiet : Quiet s) (good : RoutesGood s)
    (alive : s.boot.powered = true ∨ n.val < 4) {lv : Bool} (watched : Watched s.tmp.inp[n].state)
    (beyond : (windowLimitOf s.tmp.inp[n]).toNat < s.tmp.inp[n].windowCount + 1) {y : TmpIn}
    (enters : excursion s.tmp.inp[n] (counted s.tmp.inp[n] lv) = y)
    (calm : y.chatTamper = false ∨ y.state = .asserted ∨ y.state = .pendingD) :
    Ends (.tamperTransition n lv) s fun t => Goes s n t { y with state := .chatter } ∧ (evSrc t .pf1 309).cause = true := by
  have answered := exec_tamperTransition_beyond alive (lv := lv) watched beyond
  rw [enters] at answered
  exact ⟨_, answered, enterChatter_goes quiet good n y calm⟩

theorem tamperTransition_tampers {s : State} {n : InputId} (good : RoutesGood s) (alive : s.boot.powered = true ∨ n.val < 4) {lv : Bool}
    (beyond : (windowLimitOf s.tmp.inp[n]).toNat < s.tmp.inp[n].windowCount + 1) (tamper : s.tmp.inp[n].chatTamper = true)
    (calm : s.tmp.inp[n].state = .idle ∨ s.tmp.inp[n].state = .pendingA) :
    Ends (.tamperTransition n lv) s fun t => ∃ u, t = settle u ∧ TamperedTo s n { counted s.tmp.inp[n] lv with state := .chatter } u := by
  have watched : Watched s.tmp.inp[n].state := by
    rcases calm with h | h <;> rw [h] <;> exact ⟨by decide, by decide⟩
  have answered := exec_tamperTransition_beyond alive (lv := lv) watched beyond
  have entered := enterChatter_tampers good n (y := excursion s.tmp.inp[n] (counted s.tmp.inp[n] lv)) rfl tamper calm
  exact ⟨_, answered, _, rfl, entered.raised rfl⟩

/-! ### The filter, chatter and a tamper that lasts (R682-R685) -/

theorem exec_tamperFilterExpiry (s : State) (n : InputId) :
    let x := s.tmp.inp[n]
    (x.state = .pendingA → exec (.tamperFilterExpiry n) s = .next (settle (tamperAct (putIn s n { x with state := .asserted }) n))) ∧
    (x.state = .pendingD → exec (.tamperFilterExpiry n) s =
      .next (raiseEv (putIn s n { x with state := .idle, stuck := false, raised := false }) 310)) ∧
    (x.state ≠ .pendingA → x.state ≠ .pendingD → exec (.tamperFilterExpiry n) s = .next s) := by
  intro x
  show (_ → execTamperFilterExpiry n s = _) ∧ (_ → execTamperFilterExpiry n s = _) ∧ (_ → _ → execTamperFilterExpiry n s = _)
  unfold execTamperFilterExpiry
  refine ⟨fun h => ?_, fun h => ?_, fun notA notD => ?_⟩
  · rw [show s.tmp.inp[n].state = .pendingA from h]; rfl
  · rw [show s.tmp.inp[n].state = .pendingD from h]; rfl
  · split
    · next h => exact absurd h notA
    · next h => exact absurd h notD
    · rfl

theorem exec_chatterExit {s : State} {n : InputId} (chatters : s.tmp.inp[n].state = .chatter) :
    let x := s.tmp.inp[n]
    (x.level ≠ x.active → exec (.chatterExit n) s =
      .next (raiseEv (putIn s n { x with state := .idle, stuck := false, raised := false, windowCount := 0 }) 310)) ∧
    (x.level = x.active → x.raised = true → exec (.chatterExit n) s = .next (putIn s n { x with state := .asserted, windowCount := 0 })) ∧
    (x.level = x.active → x.raised = false → exec (.chatterExit n) s =
      .next (settle (tamperAct (putIn s n { x with state := .asserted, windowCount := 0 }) n))) := by
  intro x
  have active : inActive s.tmp.inp[n] = decide (x.level = x.active) := rfl
  have quiet : ¬ s.tmp.inp[n].state ≠ .chatter := not_not.2 chatters
  show (_ → execChatterExit n s = _) ∧ (_ → _ → execChatterExit n s = _) ∧ (_ → _ → execChatterExit n s = _)
  unfold execChatterExit
  dsimp only
  rw [if_neg quiet, active]
  refine ⟨fun rests => ?_, fun acts raised => ?_, fun acts fresh => ?_⟩
  · exact if_pos (by rw [decide_eq_false rests]; rfl)
  · exact (if_neg (by rw [decide_eq_true acts]; decide)).trans (congrArg _ (if_pos raised))
  · exact (if_neg (by rw [decide_eq_true acts]; decide)).trans (congrArg _ (if_neg fun raised => absurd (fresh.symm.trans raised) (by decide)))

/-- STUCK_TIMEOUT of a tamper that stands and has not been reported. -/
theorem exec_stuckTimeout {s : State} {n : InputId}
    (standing : s.tmp.inp[n].state = .asserted ∨ s.tmp.inp[n].state = .pendingD ∨ s.tmp.inp[n].state = .chatter)
    (notStuck : s.tmp.inp[n].stuck = false) (raised : s.tmp.inp[n].raised = true) :
    exec (.stuckTimeout n) s = .next (raiseEv (putIn s n { s.tmp.inp[n] with stuck := true }) 308) := by
  show execStuckTimeout n s = _
  have due : ¬ (s.tmp.inp[n].stuck || !s.tmp.inp[n].raised) = true := by rw [notStuck, raised]; decide
  unfold execStuckTimeout
  rw [setIn_eq_putIn]
  dsimp only
  rw [if_neg due]
  split
  case h_4 asserted pending chatters => rcases standing with h | h | h <;> contradiction
  all_goals rfl

theorem exec_stuckTimeout_done {s : State} {n : InputId} (done : s.tmp.inp[n].stuck = true ∨ s.tmp.inp[n].raised = false) :
    exec (.stuckTimeout n) s = .next s := by
  show execStuckTimeout n s = _
  have spent : (s.tmp.inp[n].stuck || !s.tmp.inp[n].raised) = true := by rcases done with h | h <;> simp only [h] <;> simp
  unfold execStuckTimeout
  dsimp only
  split
  case h_4 => rfl
  all_goals exact if_pos spent

/-! ### The obligation -/

/-- Settles O48. -/
theorem tamperInputsAct : Obligations.TamperInputsAct := by
  intro s n quiet good x goes tampers
  have watch {st : TmpState} (h : st = .idle ∨ st = .pendingA ∨ st = .asserted ∨ st = .pendingD) : Watched st := by
    rcases h with rfl | rfl | rfl | rfl <;> exact ⟨by decide, by decide⟩
  obtain ⟨qualifies, deasserts, idles⟩ := exec_tamperFilterExpiry s n
  refine ⟨fun alive lv => ?transition, fun off high lv => if_pos ⟨by rw [off]; rfl, by simp [batteryInput, Nat.not_lt.2 high]⟩, rfl,
    fun pending => ⟨_, qualifies pending, _, rfl, tamperAct_putIn good n rfl⟩,
    fun pending => ⟨_, deasserts pending, raised_goes good n _ (by decide) (by decide)⟩, idles, fun chatters => ?exit,
    fun other => if_pos other, fun standing notStuck raised =>
      ⟨_, exec_stuckTimeout standing notStuck raised, raised_goes good n _ (by decide) (by decide)⟩, exec_stuckTimeout_done⟩
  case exit =>
    obtain ⟨rests, stands, acts⟩ := exec_chatterExit chatters
    exact ⟨fun quiet => ⟨_, rests quiet, raised_goes good n _ (by decide) (by decide)⟩, stands,
      fun active fresh => ⟨_, acts active fresh, _, rfl, tamperAct_putIn good n rfl⟩⟩
  case transition =>
    obtain ⟨disabled, chatters, -⟩ := exec_tamperTransition (n := n) alive lv
    refine ⟨fun within => ⟨fun idle => ?_, fun pending => ?_, fun asserted => ?_, fun pending => ?_⟩,
      fun beyond => ⟨fun tampered => ?_, fun idle calm => ?_, fun pending calm => ?_, fun state tamper => ?_⟩, chatters, disabled⟩
    · exact tamperTransition_within alive (watch (.inl idle)) within (moved_idle idle lv)
    · exact tamperTransition_within alive (watch (.inr (.inl pending))) within (moved_raised lv (ne_of_eq_of_ne pending (by decide))
        (by rw [show s.tmp.inp[n].state = _ from pending]; exact afterLevel_pendingA ..))
    · exact tamperTransition_within alive (watch (.inr (.inr (.inl asserted)))) within (moved_raised lv (ne_of_eq_of_ne asserted (by decide))
        (by rw [show s.tmp.inp[n].state = _ from asserted]; exact afterLevel_asserted ..))
    · exact tamperTransition_within alive (watch (.inr (.inr (.inr pending)))) within (moved_raised lv (ne_of_eq_of_ne pending (by decide))
        (by rw [show s.tmp.inp[n].state = _ from pending]; exact afterLevel_pendingD ..))
    · have busy : s.tmp.inp[n].state ≠ .idle := by
        rcases tampered with h | h <;> exact ne_of_eq_of_ne h (by decide)
      exact tamperTransition_chatters quiet good alive (watch (.inr (.inr tampered))) beyond (excursion_busy busy rfl) (.inr tampered)
    · exact tamperTransition_chatters quiet good alive (watch (.inl idle)) beyond (excursion_idle idle) (.inl calm)
    · exact tamperTransition_chatters quiet good alive (watch (.inr (.inl pending))) beyond
        (excursion_busy (ne_of_eq_of_ne pending (by decide)) rfl) (.inl calm)
    · exact tamperTransition_tampers good alive beyond tamper state

end Sys2Proof.TamperMonitor

-- ==== Stores to local memory ====
namespace Sys2Proof.Manger
open Sys2Proof.Machine Sys2Proof.Safety

/-! ### An INVALID line that holds a write -/

/-- Line 0, INVALID, with a write of 5 to byte 1 still held: LinesSettled speaks of CLEAN and DIRTY lines alone. -/
def staleLine : Line :=
  { line := 0, state := .invalid, owner := none, writer := none, type := 0, foreign := false, valid := 0, dirty := 0, poison := 0,
    data := 0, presence := 0, acks := 0, writes := [(1, 5)], since := 0, fills := [], evict := false, lastUse := 0 }

/-- An ended request of stall 0 with one store left, of a 1 to local address 0. -/
def storingReq : Req :=
  { id := 0, chain := 0, pos := 0, members := 1, fn := .pf0, ring := 0, stall := 0, slot := 0, desc := { w := Vector.replicate 8 0 },
    epoch := 0, pasid := 0, alarm := false, reserve := false, admitAt := 0, deadline := 0, started := true, unit := none, coop := [],
    walks := [], srcSpans := none, dstSpans := none, aux := none, src := none, blob := none, key := none, keyTag := [],
    handle := none, tally := 0, granted := false, done := some { status := 0, detail := 0, outLen := 1, result := 0 },
    skipped := false, stores := [{ dest := .locl 0, bytes := [1] }], released := false, effect := false, readFail := false,
    wrote := [] }

/-- The device after reset with every domain ON, that line and that request. -/
def staleState : State :=
  { State.reset with pds := Vector.replicate 64 { Pd.reset with state := .on }, reqs := [storingReq]
                     mgr := { Mgr.reset with lines := [staleLine] } }

theorem staleState_settled : LinesSettled staleState := by
  intro x hx
  obtain rfl := List.mem_singleton.1 hx
  exact ⟨rfl, fun settled => absurd settled (by decide)⟩

theorem staleState_inOneLine : InOneLine staleState 0 1 := by
  refine ⟨by decide, rfl, by decide, ?_⟩
  change McState.off ≠ .fenced
  decide

/-- Byte 1 reads the held write (R541, R615). -/
theorem staleState_reads : coByte staleState 1 = 5 := by decide +kernel

/-- SLICE_WRITE of the store to byte 0 takes the line as a present one and leaves it without its held writes, so that byte 1
reads 0 (R619). -/
theorem staleState_sliceWrite : ∃ t, exec (.sliceWrite 0) staleState = .next t ∧ coByte t 1 = 0 := ⟨_, rfl, by decide +kernel⟩

/-- Refutes O58: LinesSettled leaves an INVALID line its held writes, which a store to another byte of the line drops, as in
`staleState`. -/
theorem not_storesLandAtTheirAddressOnly : ¬ Obligations.StoresLandAtTheirAddressOnly := by
  intro h
  obtain ⟨store, -⟩ := h staleState rfl staleState_settled rfl
  obtain ⟨⟨t, sent, -, others⟩, -⟩ :=
    store 0 storingReq _ _ _ 0 rfl rfl rfl rfl rfl (by decide +kernel) staleState_inOneLine
  obtain ⟨u, same, dropped⟩ := staleState_sliceWrite
  rw [sent] at same
  cases same
  have kept := others 1 (by decide) (.inr (by decide +kernel))
  rw [dropped, staleState_reads] at kept
  exact absurd kept (by decide)

end Sys2Proof.Manger

-- ==== What a plain row leaves alone ====
namespace Sys2Proof.PlainRows
open Sys2Proof.Machine Sys2Proof.Safety Sys2Proof.Waking Sys2Proof.HostLink Sys2Proof.TackRoom Sys2Proof.Rings Sys2Proof.Ciphers Sys2Proof.BigNumbers

/-! ### The part of the state that an operation of one request reaches -/

/-- A unit keeps its key but for the round keys expanded, its work, its fence and the lines of its crib. -/
def UnitKept (x y : UnitState) : Prop :=
  (y.keyReg.map fun k => { k with decKeys := false }) = (x.keyReg.map fun k => { k with decKeys := false }) ∧
    y.run = x.run ∧ y.fenced = x.fenced ∧ ∀ c, c ∈ y.crib ↔ c ∈ x.crib

theorem UnitKept.refl (x : UnitState) : UnitKept x x := ⟨rfl, rfl, rfl, fun _ => Iff.rfl⟩

theorem UnitKept.trans {x y z : UnitState} (h : UnitKept x y) (g : UnitKept y z) : UnitKept x z := by
  obtain ⟨hkey, hrun, hfence, hcrib⟩ := h
  obtain ⟨gkey, grun, gfence, gcrib⟩ := g
  exact ⟨gkey.trans hkey, grun.trans hrun, gfence.trans hfence, fun c => (gcrib c).trans (hcrib c)⟩

/-- Only the request, the units as `UnitKept` says, the intermediates of its chain and the free values change. -/
structure RowOnly (q : Req) (s t : State) : Prop where
  only : t = { s with reqs := t.reqs, units := t.units, inters := t.inters, free := t.free }
  others : ∀ j, j ≠ q.id → findReq t j = findReq s j
  units : ∀ u : UnitId, UnitKept s.units[u] t.units[u]
  inters : ∀ x ∈ t.inters, x ∈ s.inters ∨ x.chain = q.chain

section
variable {q : Req} {s t u : State}

theorem RowOnly.refl (q : Req) (s : State) : RowOnly q s s := ⟨rfl, fun _ _ => rfl, fun _ => .refl _, fun _ => .inl⟩

theorem RowOnly.trans (h : RowOnly q s t) (g : RowOnly q t u) : RowOnly q s u where
  only := by rw [g.only, h.only]
  others j other := (g.others j other).trans (h.others j other)
  units v := (h.units v).trans (g.units v)
  inters x hx := (g.inters x hx).elim (h.inters x) .inr

theorem RowOnly.ite {c : Prop} [Decidable c] (h : RowOnly q s t) (g : RowOnly q s u) : RowOnly q s (if c then t else u) := by
  split <;> assumption

/-- A change of one unit. -/
theorem setUnit_row (q : Req) (s : State) (v : UnitId) {g : UnitState → UnitState} (kept : ∀ x, UnitKept x (g x)) :
    RowOnly q s (setUnit s v g) where
  only := rfl
  others _ _ := rfl
  inters _ := .inl
  units w := by
    by_cases same : w = v
    · subst same
      rw [setUnit_units, upd_self]
      exact kept _
    · rw [setUnit_units, upd_other _ _ (Ne.symm same)]
      exact .refl _

/-- A change of the request that keeps its number. -/
theorem setReq_row (q : Req) (s : State) {g : Req → Req} (id : ∀ x, (g x).id = x.id) : RowOnly q s (setReq s q.id g) where
  only := rfl
  units _ := .refl _
  inters _ := .inl
  others j other := by
    have keeps (x : Req) : (if x.id = q.id then g x else x).id = x.id := by split <;> simp only [id]
    rw [findReq_of_map keeps rfl]
    cases found : findReq s j with
    | none => rfl
    | some x => exact congrArg some (if_neg fun same => other ((findReq_id found).symm.trans same))

/-! ### The steps of an operation -/

theorem finish_row (q : Req) (s : State) (status detail : Byte) (outLen result : Nat) (stores : List Store) :
    RowOnly q s (finish s q.id status detail outLen result stores) := setReq_row q s fun _ => rfl

theorem failReq_row (q : Req) (s : State) (status detail : Byte) : RowOnly q s (failReq s q.id status detail) :=
  setReq_row q s fun _ => rfl

theorem output_row (q : Req) (s : State) (bs : List Byte) (result : Nat) : RowOnly q s (output s q bs result) :=
  .ite (failReq_row q s _ _) (finish_row q s _ _ _ _ _)

theorem takeFree_row (q : Req) (s : State) (n : Nat) : RowOnly q s (takeFree s n) := ⟨rfl, fun _ _ => rfl, fun _ => .refl _, fun _ => .inl⟩

/-- A KEY intermediate of the request's chain takes its destination's place (R253). -/
theorem putKeyInter_row (q : Req) (s : State) (k : Key) : RowOnly q s (putKeyInter s q k) where
  only := rfl
  others _ _ := rfl
  units _ := .refl _
  inters x hx := by
    rcases List.mem_append.1 hx with old | new
    · exact .inl (List.mem_filter.1 old).1
    · obtain rfl := List.mem_singleton.1 new
      exact .inr rfl

theorem outputKey_row (q : Req) (s : State) (before : List Byte) (k : Key) (after : List Byte) (result : Nat) :
    RowOnly q s (outputKey s q before k after result) :=
  .ite (.ite (failReq_row q s _ _) ((putKeyInter_row q s k).trans (finish_row q _ _ _ _ _ _))) (output_row q s _ _)

/-- Input bytes are counted in a unit. -/
theorem countBytes_row (q : Req) (s : State) (n : Nat) : RowOnly q s (countBytes s q n) := by
  unfold countBytes
  split
  · exact .ite (setUnit_row q s _ fun x => .refl x) (.refl q s)
  · exact .refl q s

/-- The operations of a big-number unit count towards its next reseed (R468). -/
theorem countOps_row (q : Req) (s : State) : RowOnly q s (countOps s q) := by
  unfold countOps
  induction q.unit.toList ++ q.coop generalizing s with
  | nil => exact .refl q s
  | cons v l ih =>
    refine RowOnly.trans ?_ (ih _)
    exact setUnit_row q s v fun x => ⟨rfl, rfl, rfl, fun _ => Iff.rfl⟩

/-- Round keys for decryption are expanded in the key register. -/
theorem expandDec_row (q : Req) (s : State) : RowOnly q s (expandDec s q) := by
  unfold expandDec
  split
  · refine .ite (setUnit_row q s _ fun x => ⟨?_, rfl, rfl, fun _ => Iff.rfl⟩) (.refl q s)
    rw [Option.map_map]
    rfl
  · exact .refl q s

/-- The crib lines that a source meets become the last used (R548). -/
theorem cribUsed_row (q : Req) (s : State) : RowOnly q s (cribUsed s q) := by
  unfold cribUsed
  split
  · exact .refl q s
  · refine .ite (.refl q s) (setUnit_row q s _ fun x => ⟨rfl, rfl, rfl, fun c => ?_⟩)
    simp only [List.mem_append, List.mem_filter, Bool.not_eq_true']
    rw [← and_or_left, and_iff_left]
    exact (Bool.eq_false_or_eq_true _).symm

/-! ### The operations of the plain rows -/

variable (q : Req) (s : State) (src : List Byte)

/-- The output of a cipher, with free bytes where it overlaps its source (assumption 2). -/
theorem cipherBytes_row (bs : List Byte) : RowOnly q s (cipherBytes s q bs).1 := by
  unfold cipherBytes
  split
  · exact takeFree_row q s _
  · exact .refl q s

theorem cipherOut_row (bs : List Byte) (result : Nat) : RowOnly q s (cipherOut s q bs result) :=
  (cipherBytes_row q s bs).trans (output_row q _ _ _)

theorem aeadOpen_row : RowOnly q s (aeadOpen s q src) := by
  unfold aeadOpen
  exact .ite ((cipherBytes_row q s _).trans (output_row q _ _ _)) ((cipherBytes_row q s _).trans (finish_row q _ _ _ _ _ _))

theorem cipherRun_row : RowOnly q s (cipherRun s q src) := by
  have worked := (countBytes_row q s q.desc.srcLen).trans (expandDec_row q _)
  unfold cipherRun
  refine .ite (failReq_row q s _ _) (.ite (failReq_row q s _ _) (.ite (setReq_row q s fun _ => rfl) (worked.trans ?_)))
  exact .ite (cipherOut_row q _ _ _) (.ite (aeadOpen_row q _ src) (cipherOut_row q _ _ _))

theorem digestOut_row (bs : List Byte) : RowOnly q s (digestOut s q bs) :=
  .ite (failReq_row q s _ _) (.ite (finish_row q s _ _ _ _ _) (finish_row q s _ _ _ _ _))

theorem hashRun_row : RowOnly q s (hashRun s q src) := (countBytes_row q s _).trans (digestOut_row q _ _)

theorem hmacRun_row : RowOnly q s (hmacRun s q src) := (countBytes_row q s _).trans (digestOut_row q _ _)

theorem kmacRun_row : RowOnly q s (kmacRun s q src) :=
  .ite (failReq_row q s _ _) ((countBytes_row q s _).trans (digestOut_row q _ _))

theorem rsaPubRun_row : RowOnly q s (rsaPubRun s q src) := .ite (failReq_row q s _ _) (output_row q s _ _)

theorem modopRun_row : RowOnly q s (modopRun s q src) := by
  unfold modopRun
  refine .ite (failReq_row q s _ _) ?_
  split
  · exact output_row q s _ _
  · exact output_row q s _ _
  · exact output_row q s _ _
  · split
    · exact output_row q s _ _
    · exact failReq_row q s _ _
  · exact output_row q s _ _

theorem verifyRun_row (key sig ctx msg : List Byte) : RowOnly q s (verifyRun s q key sig ctx msg) :=
  .ite (failReq_row q s _ _) (.ite (failReq_row q s _ _) (.ite (finish_row q s _ _ _ _ _) (failReq_row q s _ _)))

theorem mldsaSignRun_row : RowOnly q s (mldsaSignRun s q src) := by
  unfold mldsaSignRun
  dsimp only
  split
  · exact output_row q s _ _
  · exact setReq_row q s fun _ => rfl

theorem ecdhRun_row : RowOnly q s (ecdhRun s q src) :=
  .ite (failReq_row q s _ _) (.ite (failReq_row q s _ _) (outputKey_row q s _ _ _ _))

theorem xdhRun_row : RowOnly q s (xdhRun s q src) :=
  .ite (failReq_row q s _ _) (.ite (failReq_row q s _ _) (outputKey_row q s _ _ _ _))

theorem mlkemEncapsRun_row : RowOnly q s (mlkemEncapsRun s q src) :=
  .ite (failReq_row q s _ _) (.ite ((putKeyInter_row q s _).trans (finish_row q _ _ _ _ _ _)) (outputKey_row q s _ _ _ _))

theorem mlkemDecapsRun_row : RowOnly q s (mlkemDecapsRun s q src) := outputKey_row q s _ _ _ _

/-- A key made by a request: from its key AUX block and IMM, or refused. -/
theorem newKey_row {made : KeyAux → State} (makes : ∀ a, RowOnly q s (made a)) :
    RowOnly q s (match keyAux q with
      | none => failReq s q.id 0x30 0x09
      | some a => match newKeyErr q.desc a with
        | some e => failReq s q.id e.1 e.2
        | none => made a) := by
  split
  · exact failReq_row q s _ _
  · split
    · exact failReq_row q s _ _
    · exact makes _

theorem keygenRun_row : RowOnly q s (keygenRun s q src) :=
  .ite (.ite (output_row q s _ _) (failReq_row q s _ _)) (newKey_row q s fun _ => outputKey_row q s _ _ _ _)

theorem newKeyOut_row (value : KeyAux → List Byte) : RowOnly q s (newKeyOut s q value) :=
  newKey_row q s fun _ => outputKey_row q s _ _ _ _

theorem keyDeriveRun_row : RowOnly q s (keyDeriveRun s q src) := by
  unfold keyDeriveRun
  split
  · exact .refl q s
  · exact .ite (failReq_row q s _ _) (newKeyOut_row q s _)

theorem blobWrapRun_row : RowOnly q s (blobWrapRun s q src) := by
  unfold blobWrapRun
  split
  · exact output_row q s _ _
  · split
    · exact failReq_row q s _ _
    · split
      · exact failReq_row q s _ _
      · exact output_row q s _ _

theorem copyRun_row : RowOnly q s (copyRun s q src) :=
  .ite ((takeFree_row q s _).trans (output_row q _ _ _)) (output_row q s _ _)

end

/-! ### The rows -/

/-- A command runs, on its request, an operation that reaches no more than `RowOnly` says. -/
def RunsPlainly (i : Nat) (c : Instr) (s : State) : Prop :=
  ∃ op run, exec c s = runOp s i op run ∧ ∀ q u src, (∀ d, noTables s d = noTables u d) → findReq s i = some q →
    RowOnly q u (run u q src)

theorem runsPlainly_of_run {i op : Nat} {c : Instr} {s : State} {run : State → Req → List Byte → State}
    (row : exec c s = runOp s i op run) (only : ∀ q u src, RowOnly q u (run u q src)) : RunsPlainly i c s :=
  ⟨op, run, row, fun q u src _ _ => only q u src⟩

/-- An operation of a big-number unit. -/
theorem runsPlainly_of_runBn {i op : Nat} {c : Instr} {s : State} {run : State → Req → List Byte → State}
    (row : exec c s = runBn s i op run) (only : ∀ q u src, RowOnly q u (run u q src)) : RunsPlainly i c s :=
  runsPlainly_of_run row fun q u src => (countOps_row q u).trans (only q _ src)

/-- An operation on the two AES cores, whose results agree (R315). -/
theorem runsPlainly_of_cores {i op : Nat} {c : Instr} {s : State} {run : State → Req → List Byte → State}
    (row : exec c s = runOp s i op (checkCores true run)) (only : ∀ q u src, RowOnly q u (run u q src)) : RunsPlainly i c s :=
  runsPlainly_of_run row only

/-- One of a big-number unit, whose results agree. -/
theorem runsPlainly_of_runBlob {i op : Nat} {c : Instr} {s : State} {run : State → Req → List Byte → State}
    (row : exec c s = runBlob s op ⟨i, true⟩ run) (only : ∀ q u src, RowOnly q u (run u q src)) : RunsPlainly i c s :=
  runsPlainly_of_runBn row only

/-- A fixed-base operation on the curve alone. -/
theorem runsPlainly_of_runBase {i op : Nat} {c : Instr} {s : State} {run : State → Req → List Byte → State}
    (row : exec c s = runBase s op ⟨i, true⟩ run) (only : ∀ q u src, RowOnly q u (run u q src))
    (bare : ∀ q, findReq s i = some q → noTables s q.desc = true) : RunsPlainly i c s := by
  refine ⟨op, _, row, fun q u src same found => ?_⟩
  have plain : RowOnly q u (run (countOps u q) q src) := (countOps_row q u).trans (only q _ src)
  unfold withTables
  split
  · exact plain
  · rw [← same, bare q found, if_pos rfl]
    exact plain

theorem plainRow_runs {i : Nat} {c : Instr} (row : c ∈ plainRows i) (s : State) : RunsPlainly i c s := by
  rcases List.mem_append.1 row with cipher | row
  · obtain ⟨⟨c, op⟩, mem, rfl⟩ := List.mem_map.1 cipher
    exact runsPlainly_of_run (exec_cipherRow mem s) cipherRun_row
  · simp only [List.mem_cons, List.not_mem_nil, or_false] at row
    rcases row with rfl | rfl | rfl | rfl | rfl | rfl | rfl | rfl | rfl | rfl | rfl | rfl | rfl | rfl | rfl | rfl | rfl | rfl | rfl |
      rfl | rfl | rfl | rfl | rfl | rfl | rfl
    · exact runsPlainly_of_run rfl hashRun_row
    · exact runsPlainly_of_run rfl hashRun_row
    · exact runsPlainly_of_run rfl hashRun_row
    · exact runsPlainly_of_run rfl hmacRun_row
    · exact runsPlainly_of_run rfl hmacRun_row
    · exact runsPlainly_of_run rfl kmacRun_row
    · exact runsPlainly_of_run rfl kmacRun_row
    · exact runsPlainly_of_runBn rfl rsaPubRun_row
    · exact runsPlainly_of_runBn rfl modopRun_row
    · exact runsPlainly_of_runBn rfl fun q u src => verifyRun_row q u ..
    · exact runsPlainly_of_runBn rfl fun q u src => verifyRun_row q u ..
    · exact runsPlainly_of_runBn rfl mldsaSignRun_row
    · exact runsPlainly_of_runBn rfl fun q u src => verifyRun_row q u ..
    · exact runsPlainly_of_runBlob rfl ecdhRun_row
    · exact runsPlainly_of_runBlob rfl xdhRun_row
    · exact runsPlainly_of_runBlob rfl mlkemEncapsRun_row
    · exact runsPlainly_of_runBlob rfl mlkemDecapsRun_row
    · exact runsPlainly_of_runBlob rfl keygenRun_row
    · exact runsPlainly_of_runBlob rfl keygenRun_row
    · exact runsPlainly_of_cores rfl blobWrapRun_row
    · exact runsPlainly_of_cores rfl keyDeriveRun_row
    · exact runsPlainly_of_cores rfl fun q u src => newKeyOut_row q u _
    · exact runsPlainly_of_cores rfl fun q u src => newKeyOut_row q u _
    · exact runsPlainly_of_run rfl copyRun_row
    · exact runsPlainly_of_run rfl fun q u src => output_row q u ..
    · exact runsPlainly_of_run rfl fun q u src => output_row q u ..

theorem baseRow_runs {i : Nat} {c : Instr} (row : c ∈ baseRows i) (s : State)
    (bare : ∀ q, findReq s i = some q → noTables s q.desc = true) : RunsPlainly i c s := by
  simp only [baseRows, List.mem_cons, List.not_mem_nil, or_false] at row
  rcases row with rfl | rfl | rfl
  · exact runsPlainly_of_runBase rfl (fun q u src => .ite (failReq_row q u _ _) (output_row q u _ _)) bare
  · exact runsPlainly_of_runBase rfl (fun q u src => output_row q u ..) bare
  · exact runsPlainly_of_runBase rfl keygenRun_row bare

/-- Such a command changes nothing, or its request alone. -/
theorem RunsPlainly.ends {i : Nat} {c : Instr} {s : State} (quiet : Quiet s) (runs : RunsPlainly i c s) :
    ∃ t, exec c s = .next t ∧ (t = s ∨ ∃ q, findReq s i = some q ∧ RowOnly q s t) := by
  obtain ⟨op, run, row, only⟩ := runs
  rw [row]
  unfold runOp
  split
  · exact ⟨s, rfl, .inl rfl⟩
  next q ready =>
    obtain ⟨found, -⟩ := readyReq_found ready
    have failed (st dt : Byte) : RowOnly q s (failReq s i st dt) := findReq_id found ▸ failReq_row q s st dt
    split
    · exact ⟨s, rfl, .inl rfl⟩
    next st dt _ => exact ⟨_, rfl, .inr ⟨q, found, failed st dt⟩⟩
    next b _ =>
      have same (d : Desc) : noTables s d = noTables (cribUsed s q) d := by rw [cribUsed_only s q]; rfl
      have did := (cribUsed_row q s).trans (only q (cribUsed s q) b same found)
      refine ⟨_, rfl, .inr ⟨q, found, ?_⟩⟩
      rwa [settle_of_quiet (by rw [did.only]; exact quiet)]

/-- Settles O59: every step of a plain row's operation is one of `RowOnly`. -/
theorem plainRowsTouchOnlyTheirRequest : Obligations.PlainRowsTouchOnlyTheirRequest := by
  intro s i c quiet row
  have runs : RunsPlainly i c s := row.elim (plainRow_runs · s) fun ⟨base, bare⟩ => baseRow_runs base s bare
  obtain ⟨t, done, rfl | ⟨q, found, only⟩⟩ := runs.ends quiet
  · exact ⟨t, done, rfl, fun _ => ⟨rfl, rfl⟩, fun _ _ => rfl, fun u => UnitKept.refl _, fun _ => .inl⟩
  · have memory : SameMemory s t := by
      rw [only.only]
      exact fun _ => ⟨rfl, rfl⟩
    refine ⟨t, done, only.only, memory, fun j other => only.others j (findReq_id found ▸ other), only.units, fun x hx => ?_⟩
    exact (only.inters x hx).imp id fun same => ⟨q, found, same⟩

end Sys2Proof.PlainRows

-- ==== Power domains ====
namespace Sys2Proof.Power
open Sys2Proof.Machine Sys2Proof.Safety Sys2Proof.Waking Sys2Proof.HostLink Sys2Proof.Rings Sys2Proof.Entropy

/-! ### Requests to gate and to wake -/

section
variable {s : State} {f : Fn} {d : PdId}

/-- PWR_OFF_REQ in READY is an off request. -/
theorem exec_pwrOffReq (served : WritesServed s f) (ready : s.boot.phase = .ready) (real : d.val ≠ 63) :
    exec (.pwrOffReq f d) s = .next (offRequest s f d) := by
  refine congrArg _ ((gateW_served served _).trans ?_)
  unfold wrDomCtl
  rw [if_neg real, if_neg (not_not_intro ready), if_pos (by decide)]

/-- PWR_ON_REQ in READY is an on request. -/
theorem exec_pwrOnReq (served : WritesServed s f) (ready : s.boot.phase = .ready) (real : d.val ≠ 63) :
    exec (.pwrOnReq f d) s = .next (onRequest s d) := by
  refine congrArg _ ((gateW_served served _).trans ?_)
  unfold wrDomCtl
  rw [if_neg real, if_neg (not_not_intro ready), if_neg (by decide)]

/-- The domain once an off request stands. -/
def offAsked (p : Pd) : Pd := { p with offReq := true, cancelled := false }

/-- The domain once an on request stands. -/
def onAsked (p : Pd) : Pd := { p with offReq := false, cancelled := false }

/-- An off request: refused on a failed or a pinned domain and to PF0 below the pool's minimum, and taken otherwise (R707). -/
theorem offRequest_cases (real : d.val ≠ 63) :
    (s.pds[d].offReq = true → offRequest s f d = s) ∧
    (s.pds[d].offReq = false → s.pds[d].fail = true → offRequest s f d = setPd s d fun x => { x with result := .denied }) ∧
    (s.pds[d].offReq = false → s.pds[d].fail = false → bit s.pwr.pin d.val = true → offRequest s f d = pdRefuse s f d) ∧
    (s.pds[d].offReq = false → s.pds[d].fail = false → bit s.pwr.pin d.val = false →
      (f = .pf0 → breaksMin s d = true → offRequest s f d = raiseEv (setPd s d fun p => { p with result := .denied }) 312) ∧
      ((f = .pf0 → breaksMin s d = false) →
        offRequest s f d = (match s.pds[d].state with
          | .on => gateStep (holdZero (setPd s d fun p => { offAsked p with result := .inProgress }) d) d
          | .off => raiseEv (setPd (setPd s d fun p => { offAsked p with result := .inProgress }) d fun p => { p with result := .done }) 311
          | _ => setPd s d fun p => { offAsked p with result := .inProgress }))) := by
  unfold offRequest
  dsimp only
  refine ⟨fun off => if_pos (.inr off), fun on fail => ?_, fun on sound pin => ?_, fun on sound free => ⟨fun pf0 least => ?_, fun kept => ?_⟩⟩
  all_goals rw [if_neg (by rw [on]; simpa using real)]
  · exact if_pos fail
  · rw [if_neg (by rw [sound]; decide), if_pos pin]
  · rw [if_neg (by rw [sound]; decide), if_neg (by rw [free]; decide), if_pos ⟨pf0, least⟩]
  · rw [if_neg (by rw [sound]; decide), if_neg (by rw [free]; decide), if_neg fun ⟨pf0, least⟩ => by rw [kept pf0] at least; cases least]
    rfl

/-- An on request: refused on a failed domain, and taken otherwise (R707). -/
theorem onRequest_cases (real : d.val ≠ 63) :
    (s.pds[d].offReq = false → onRequest s d = s) ∧
    (s.pds[d].offReq = true → s.pds[d].fail = true → onRequest s d = setPd s d fun x => { x with result := .denied }) ∧
    (s.pds[d].offReq = true → s.pds[d].fail = false →
      onRequest s d = (match s.pds[d].state with
        | .off => wake (setPd s d fun p => { onAsked p with result := .inProgress }) d false
        | .on | .draining | .secureHold => pdArrived (setPd s d fun p => { onAsked p with result := .inProgress }) d
        | _ => setPd s d fun p => { onAsked p with result := .inProgress })) := by
  unfold onRequest
  dsimp only
  refine ⟨fun on => if_pos (.inr (by rw [on]; rfl)), fun off fail => ?_, fun off sound => ?_⟩
  all_goals rw [if_neg (by rw [off]; simpa using real)]
  · exact if_pos fail
  · rw [if_neg (by rw [sound]; decide)]
    rfl

end

/-! ### What a raise and a domain's change leave -/

section
variable (s : State) (d : PdId)

/-- A domain changed twice. -/
theorem setPd_setPd (g h : Pd → Pd) : setPd (setPd s d g) d h = setPd s d fun p => h (g p) := by
  unfold setPd
  rw [upd_upd]

/-- A domain changed as its own value says. -/
theorem setPd_value (g : Pd → Pd) : setPd s d g = setPd s d fun _ => g s.pds[d] := rfl

/-- The domains after one changed. -/
theorem setPd_at (g : Pd → Pd) :
    (setPd s d g).pds[d] = g s.pds[d] ∧ ∀ e : PdId, e ≠ d → (setPd s d g).pds[e] = s.pds[e] :=
  ⟨upd_self _ _ _, fun _ other => upd_other _ _ other.symm⟩

/-- A raise leaves the domains. -/
theorem raiseEv_pds (k : EvId) : (raiseEv s k).pds = s.pds := by rw [raiseEv_only s k false]

/-- EV312 is raised on PF0 too. -/
theorem raiseEv_denied : (evSrc (raiseEv s 312) .pf0 312).cause = true := (raiseEv_self false rfl).1

/-- An off request refused: RESULT DENIED, and PF1 told by CFG_ERR, PF0 by EV312 (R707). -/
theorem pdRefuse_spec (f : Fn) : (pdRefuse s f d).pds[d] = { s.pds[d] with result := .denied } ∧
    (f = .pf1 → (pdRefuse s f d).pwr.cfgErr = true) ∧ (f = .pf0 → (evSrc (pdRefuse s f d) .pf0 312).cause = true) := by
  cases f with
  | pf0 =>
    refine ⟨?_, (fun c => nomatch c), fun _ => raiseEv_denied _⟩
    show (raiseEv _ 312).pds[d] = _
    rw [raiseEv_pds]
    exact (setPd_at s d _).1
  | pf1 => exact ⟨(setPd_at s d _).1, fun _ => rfl, (fun c => nomatch c)⟩

end

/-! ### A gate (R705, R720) -/

section
variable {s : State} {d : PdId}

/-- A domain moved leaves all but the domains and the marks of starved pools. -/
theorem pdMove_only (s : State) (d : PdId) (st : PdState) : pdMove s d st = { s with pds := (pdMove s d st).pds, disp := (pdMove s d st).disp } := rfl

/-- The domains after it. -/
theorem pdMove_pds (s : State) (d : PdId) (st : PdState) :
    (pdMove s d st).pds = upd s.pds d fun p => { p with state := st, result := if st = .secureHold then .pending else .inProgress,
                                                        hold := if st = .secureHold then secureState s d else 0 } := rfl

/-- The hold's zeroisation depends on nothing of the domains, and leaves them. -/
theorem holdZero_pds (s : State) (d : PdId) (pds : Vector Pd 64) : holdZero { s with pds := pds } d = { holdZero s d with pds := pds } := by
  have either (c : Bool) (u : UnitId) : (if c then zeroKeyReg { s with pds := pds } u else { s with pds := pds }) =
      { (if c then zeroKeyReg s u else s) with pds := pds } := by cases c <;> rfl
  unfold holdZero
  split
  · exact either _ _
  · rfl

/-- It changes the units alone. -/
theorem holdZero_only (s : State) (d : PdId) : UnitsOnly s (holdZero s d) := by
  unfold holdZero
  split
  · exact .ite rfl rfl
  · exact .refl s

/-- No work ends by it. -/
theorem drainLeft_holdZero (s : State) (d : PdId) : drainLeft (holdZero s d) d = drainLeft s d := by
  unfold drainLeft
  cases unit : pdUnit d with
  | none =>
    have same : holdZero s d = s := by unfold holdZero; rw [unit]
    rw [same]
  | some u =>
    have either (c : Bool) : (if c then zeroKeyReg s u else s).units[u].run = s.units[u].run ∧
        (if c then zeroKeyReg s u else s).units[u].suspended = s.units[u].suspended := by
      cases c with
      | false => exact ⟨rfl, rfl⟩
      | true =>
        have zeroed : (zeroKeyReg s u).units[u] = { s.units[u] with keyReg := none } := upd_self _ _ _
        show (zeroKeyReg s u).units[u].run = _ ∧ (zeroKeyReg s u).units[u].suspended = _
        rw [zeroed]
        exact ⟨rfl, rfl⟩
    have kept : (holdZero s d).units[u].run = s.units[u].run ∧ (holdZero s d).units[u].suspended = s.units[u].suspended := by
      unfold holdZero
      rw [unit]
      exact either _
    obtain ⟨run, suspended⟩ := kept
    have feed : feedActive (holdZero s d) = feedActive s := by rw [holdZero_only s d]; rfl
    dsimp only
    rw [run, suspended, feed]

/-- A gate goes as far as the domain's work and secure-world state allow. -/
structure Gates (s : State) (d : PdId) (x : Pd) (t : State) : Prop where
  holds : secureState (holdZero s d) d ≠ 0 → t.pds[d] = { x with state := .secureHold, result := .pending, hold := secureState (holdZero s d) d } ∧
    t.units = (holdZero s d).units
  drains : secureState (holdZero s d) d = 0 → drainLeft s d = true →
    t.pds[d] = { x with state := .draining, result := .inProgress, hold := 0 } ∧ t.units = (holdZero s d).units
  ends : secureState (holdZero s d) d = 0 → drainLeft s d = false →
    t.pds[d] = { x with state := .poweringDown, result := .inProgress, hold := 0 } ∧ t.units = (letGo (holdZero s d) d).units ∧
    t.dram = s.dram
  others : ∀ e : PdId, e ≠ d → t.pds[e] = s.pds[e]

/-- The gate of a domain whose request alone has been noted. -/
theorem gateStep_gates (s : State) (d : PdId) (g : Pd → Pd) {x : Pd} {r : PdResult} (noted : g s.pds[d] = { x with result := r }) :
    Gates s d x (gateStep (holdZero (setPd s d g) d) d) := by
  have zeroed : holdZero (setPd s d g) d = { holdZero s d with pds := upd s.pds d g } := holdZero_pds s d _
  have secure : secureState { holdZero s d with pds := upd s.pds d g } d = secureState (holdZero s d) d := rfl
  have drain : drainLeft { holdZero s d with pds := upd s.pds d g } d = drainLeft s d := drainLeft_holdZero s d
  have self : (upd s.pds d g)[d] = { x with result := r } := (upd_self _ _ _).trans noted
  have other (e : PdId) (ne : e ≠ d) : (upd s.pds d g)[e] = s.pds[e] := upd_other _ _ ne.symm
  have dram : (holdZero s d).dram = s.dram := by rw [holdZero_only s d]
  have letOnly (u : State) : UnitsOnly u (letGo u d) := by
    unfold letGo
    split <;> rfl
  have letPds : (letGo { holdZero s d with pds := upd s.pds d g } d).pds = upd s.pds d g := by rw [letOnly]
  have letDram : (letGo { holdZero s d with pds := upd s.pds d g } d).dram = s.dram := by rw [letOnly]; exact dram
  have letUnits : (letGo { holdZero s d with pds := upd s.pds d g } d).units = (letGo (holdZero s d) d).units := by
    unfold letGo
    split <;> rfl
  rw [zeroed]
  unfold gateStep
  rw [secure, drain]
  refine ⟨fun held => ?_, fun free work => ?_, fun free idle => ?_, fun e ne => ?_⟩
  · rw [if_pos held, pdMove_pds, upd_self, self, secure]
    exact ⟨rfl, rfl⟩
  · rw [if_neg (not_not_intro free), if_pos work, pdMove_pds, upd_self, self]
    exact ⟨rfl, rfl⟩
  · rw [if_neg (not_not_intro free), if_neg (by rw [idle]; decide), pdMove_pds, upd_self, letPds, self]
    exact ⟨rfl, letUnits, letDram⟩
  · have moved (u : State) (st : PdState) (pds : u.pds = upd s.pds d g) : (pdMove u d st).pds[e] = s.pds[e] := by
      rw [pdMove_pds, upd_other _ _ ne.symm, pds, other e ne]
    exact ite_keeps (g := fun t : State => t.pds[e]) (moved _ _ rfl)
      (ite_keeps (g := fun t : State => t.pds[e]) (moved _ _ rfl) (moved _ _ letPds))

/-- The gate of a domain as it stands. -/
theorem gateStep_gates_self (s : State) (d : PdId) : Gates s d s.pds[d] (gateStep (holdZero s d) d) := by
  have same : setPd s d id = s := by
    unfold setPd
    rw [upd_of_fixed rfl]
  have gates := gateStep_gates s d id (x := s.pds[d]) (r := s.pds[d].result) rfl
  rwa [same] at gates

end

/-! ### Requests that the state answers (R707, R708) -/

/-- The marks of starved pools are the Dispatcher's alone. -/
theorem clearStarved_kept (s : State) : (clearStarved s).pds = s.pds ∧ (clearStarved s).evt = s.evt := ⟨rfl, rfl⟩

/-- A domain that arrives is ON and done, and the others stand. -/
theorem pdArrived_pds (s : State) (d : PdId) :
    (pdArrived s d).pds = (setPd s d fun p => { p with state := .on, result := .done, hold := 0 }).pds := by
  unfold pdArrived
  rw [(clearStarved_kept _).1, raiseEv_pds]

/-- It is told by EV311. -/
theorem pdArrived_told (s : State) (d : PdId) : (evSrc (pdArrived s d) .pf1 311).cause = true := by
  unfold pdArrived
  rw [evSrc_congr (clearStarved_kept _).2]
  exact (raiseEv_device _ false (by decide) (by decide)).1

section
variable {s : State} {f : Fn} {d : PdId} (served : WritesServed s f) (ready : s.boot.phase = .ready) (real : d.val ≠ 63)
include served ready real

/-- PWR_OFF_REQ of a domain that may be gated. -/
theorem pwrOffReq_taken (sound : s.pds[d].fail = false) (on : s.pds[d].offReq = false) (free : bit s.pwr.pin d.val = false)
    (kept : f = .pf0 → breaksMin s d = false) :
    (s.pds[d].state = .on → ∃ t, exec (.pwrOffReq f d) s = .next t ∧ Gates s d (offAsked s.pds[d]) t) ∧
    (s.pds[d].state = .off → Ends (.pwrOffReq f d) s fun t => t.pds[d] = { offAsked s.pds[d] with result := .done } ∧
      (∀ e : PdId, e ≠ d → t.pds[e] = s.pds[e]) ∧ (evSrc t .pf1 311).cause = true) ∧
    (s.pds[d].state ≠ .on → s.pds[d].state ≠ .off →
      exec (.pwrOffReq f d) s = .next (setPd s d fun _ => { offAsked s.pds[d] with result := .inProgress })) := by
  obtain ⟨-, -, -, granted⟩ := offRequest_cases (s := s) (f := f) real
  obtain ⟨-, takes⟩ := granted on sound free
  have run := (exec_pwrOffReq served ready real).trans (congrArg _ (takes kept))
  refine ⟨fun st => ?_, fun st => ?_, fun notOn notOff => ?_⟩
  · rw [st] at run
    exact ⟨_, run, gateStep_gates s d _ rfl⟩
  · rw [st, setPd_setPd] at run
    obtain ⟨self, others⟩ := setPd_at s d fun p => { offAsked p with result := .done }
    refine ⟨_, run, ?_, fun e ne => ?_, (raiseEv_device _ false (by decide) (by decide)).1⟩
    · rw [raiseEv_pds]
      exact self
    · rw [raiseEv_pds]
      exact others e ne
  · refine run.trans (congrArg _ ?_)
    split
    next st => exact absurd st notOn
    next st => exact absurd st notOff
    next => rfl

/-- PWR_ON_REQ of a domain that is asked off. -/
theorem pwrOnReq_taken (sound : s.pds[d].fail = false) (off : s.pds[d].offReq = true) :
    (s.pds[d].state = .off → exec (.pwrOnReq f d) s =
      .next (setPd s d fun _ => { onAsked s.pds[d] with state := .waking, result := .inProgress, demand := false, hold := 0 })) ∧
    ((s.pds[d].state = .on ∨ s.pds[d].state = .draining ∨ s.pds[d].state = .secureHold) → Ends (.pwrOnReq f d) s fun t =>
      t.pds[d] = { onAsked s.pds[d] with state := .on, result := .done, hold := 0 } ∧ (∀ e : PdId, e ≠ d → t.pds[e] = s.pds[e]) ∧
      (evSrc t .pf1 311).cause = true) ∧
    ((s.pds[d].state = .poweringDown ∨ s.pds[d].state = .waking) →
      exec (.pwrOnReq f d) s = .next (setPd s d fun _ => { onAsked s.pds[d] with result := .inProgress })) := by
  obtain ⟨-, -, takes⟩ := onRequest_cases (s := s) real
  have run := (exec_pwrOnReq served ready real).trans (congrArg _ (takes off sound))
  have arrives (t : State) (done : t = pdArrived (setPd s d fun p => { onAsked p with result := .inProgress }) d) :
      t.pds[d] = { onAsked s.pds[d] with state := .on, result := .done, hold := 0 } ∧ (∀ e : PdId, e ≠ d → t.pds[e] = s.pds[e]) ∧
        (evSrc t .pf1 311).cause = true := by
    obtain ⟨self, others⟩ := setPd_at s d fun p => { onAsked p with state := .on, result := .done, hold := 0 }
    rw [done]
    refine ⟨?_, fun e ne => ?_, pdArrived_told _ d⟩
    · rw [pdArrived_pds, setPd_setPd]
      exact self
    · rw [pdArrived_pds, setPd_setPd]
      exact others e ne
  refine ⟨fun st => ?_, fun st => ⟨_, ?_, arrives _ rfl⟩, fun st => ?_⟩
  · rw [st] at run
    refine run.trans (congrArg _ ?_)
    exact setPd_setPd s d _ _
  · rcases st with st | st | st <;> rw [st] at run <;> exact run
  · rcases st with st | st <;> rw [st] at run <;> exact run

end

/-- The drain or hold of a domain that ends goes on as its gate does (R705, R720). -/
theorem drained_gates {s : State} {d : PdId} :
    (s.pds[d].state = .draining → s.pds[d].blockReset = false → ∃ t, exec (.domainDrainComplete d) s = .next t ∧ Gates s d s.pds[d] t) ∧
    (s.pds[d].state = .secureHold → ∃ t, exec (.secureHoldEnd d) s = .next t ∧ Gates s d s.pds[d] t) ∧
    (s.pds[d].state ≠ .secureHold → exec (.secureHoldEnd d) s = .next s) := by
  refine ⟨fun st plain => ⟨_, ?_, gateStep_gates_self s d⟩, fun st => ⟨_, ?_, gateStep_gates_self s d⟩, fun st => ?_⟩
  · show execDomainDrainComplete d s = _
    unfold execDomainDrainComplete
    simp only [plain, st, Bool.false_eq_true, if_false]
  · show execSecureHoldEnd d s = _
    unfold execSecureHoldEnd
    rw [st]
  · show execSecureHoldEnd d s = _
    unfold execSecureHoldEnd
    split
    next held => exact absurd held st
    next => rfl


/-! ### What loses and gains power -/

/-- The domains and the requests stand, and so does what waits at the Manger's input; with good routes the Halter is told
nothing. -/
structure Steady (s t : State) : Prop where
  pds : t.pds = s.pds
  reqs : t.reqs = s.reqs
  held : t.mgr.held = s.mgr.held
  missWaiting : t.mgr.missWaiting = s.mgr.missWaiting
  calm : Calm s t

section
variable {s t u : State}

theorem Steady.refl (s : State) : Steady s s := ⟨rfl, rfl, rfl, rfl, Calm.refl s⟩

theorem Steady.trans (h : Steady s t) (g : Steady t u) : Steady s u :=
  ⟨g.pds.trans h.pds, g.reqs.trans h.reqs, g.held.trans h.held, g.missWaiting.trans h.missWaiting, h.calm.trans g.calm⟩

theorem Steady.ite {c : Prop} [Decidable c] (h : Steady s t) (g : Steady s u) : Steady s (if c then t else u) := by
  split <;> assumption

theorem Steady.foldl {α : Type} {f : State → α → State} (hf : ∀ s a, Steady s (f s a)) (l : List α) (s : State) :
    Steady s (l.foldl f s) := by
  induction l generalizing s with
  | nil => exact .refl s
  | cons a l ih => exact (hf s a).trans (ih _)

/-- What an access waits for depends on no more. -/
theorem Steady.awaited (h : Steady s t) (g : ChanId) : groupAwaited t g = groupAwaited s g := by
  unfold groupAwaited
  rw [h.held, h.missWaiting, h.reqs]

end

theorem raiseEv_steady (s : State) (k : EvId) : Steady s (raiseEv s k) := by
  have calm := raiseEv_calm s k false
  have only := raiseEv_only s k false
  generalize raiseEv s k = t at calm only ⊢
  refine ⟨?_, ?_, ?_, ?_, calm⟩ <;> rw [only]

theorem entEnter_steady (s : State) (st : EntState) : Steady s (entEnter s st) := by
  unfold entEnter
  refine .ite (.refl s) (.trans ?_ (raiseEv_steady _ 302))
  exact ⟨rfl, rfl, rfl, rfl, Calm.of_eq rfl rfl⟩

theorem entZero_steady (s : State) : Steady s (entZero s) := ⟨rfl, rfl, rfl, rfl, Calm.of_eq rfl rfl⟩

/-- The Entropy Block following its sources (R503, R504). -/
theorem entUpdate_steady (s : State) : Steady s (entUpdate s) := by
  have halt : Steady s (entEnter (entZero s) .halted) := (entZero_steady s).trans (entEnter_steady _ _)
  have enter := entEnter_steady s
  unfold entUpdate
  dsimp only
  split
  · exact .refl s
  · exact .refl s
  · exact .ite halt (.refl s)
  · exact .ite (.refl s) (enter _)
  · exact .ite halt (.ite (enter _) (enter _))
  · exact .ite halt (.ite (enter _) (enter _))

/-- A source moved (R504). -/
theorem nsEnter_steady (s : State) (n : NsId) (st : NsState) : Steady s (nsEnter s n st) := by
  have set (g : Ns → Ns) : Steady s (setNs s n g) := ⟨rfl, rfl, rfl, rfl, Calm.of_eq rfl rfl⟩
  unfold nsEnter
  refine .ite (.refl s) (.trans ?_ (entUpdate_steady _))
  split
  · exact (set _).trans (raiseEv_steady _ 301)
  · exact (set _).trans (raiseEv_steady _ 301)
  · exact (set _).trans (raiseEv_steady _ 301)
  · exact set _

theorem dropLine_steady (s : State) (l : LineNo) : Steady s (dropLine s l) := ⟨rfl, rfl, rfl, rfl, Calm.of_eq rfl rfl⟩

theorem cribsDrop_steady (s : State) (l : LineNo) : Steady s (cribsDrop s l) := by
  unfold cribsDrop
  exact ⟨rfl, rfl, rfl, rfl, Calm.of_eq rfl rfl⟩

/-- Lines of a group dropped as its channel is fenced (R597). -/
theorem dropGroup_steady (s : State) (g : ChanId) : Steady s (dropGroup s g) := by
  have dropped (u : State) (l : LineNo) : Steady u (dropLine (cribsDrop u l) l) := (cribsDrop_steady u l).trans (dropLine_steady _ l)
  unfold dropGroup
  refine Steady.foldl (fun u x => ?_) _ s
  split
  · exact dropped u x.line
  · exact .refl u

/-- A channel moved. -/
theorem mcEnter_steady (s : State) (g : ChanId) (st : McState) : Steady s (mcEnter s g st) := by
  have set (u : State) (f : Mc → Mc) : Steady u (setMc u g f) := ⟨rfl, rfl, rfl, rfl, Calm.of_eq rfl rfl⟩
  have tables (u : State) : Steady u { u with tableOk := false } := ⟨rfl, rfl, rfl, rfl, Calm.of_eq rfl rfl⟩
  have shown (c : Bool) : Steady s (if c then raiseEv (setMc s g fun m => { m with state := st }) 306
      else setMc s g fun m => { m with state := st }) := .ite ((set s _).trans (raiseEv_steady _ 306)) (set s _)
  have dropped (c : Bool) := (shown c).trans ((dropGroup_steady _ g).trans (set _ fun m => { m with repairQ := [] }))
  unfold mcEnter
  exact .ite (.refl s) (.ite (shown _) (.ite ((dropped _).trans (tables _)) (dropped _)))

/-- A line's data all in the channel. -/
theorem lineOut_steady (s : State) (x : Line) : Steady s (lineOut s x) := by
  have page (u : State) (a : Nat) : Steady u (pageWritten u a) := ⟨rfl, rfl, rfl, rfl, Calm.of_eq rfl rfl⟩
  have stored (u v : State) (h : Steady u v) (m : Dram) : Steady u { v with dram := m } :=
    h.trans ⟨rfl, rfl, rfl, rfl, Calm.of_eq rfl rfl⟩
  have back : Steady s (writeBack s x) :=
    Steady.foldl (fun u k => .ite (.refl u) (stored u _ (page u _) _)) _ s
  unfold lineOut channelPut
  exact back.trans (.ite (.refl _) (stored _ _ (.ite (.refl _) (page _ _)) _))

/-- A group's lines all written back and dropped (R711). -/
theorem flushGroup_steady (s : State) (g : ChanId) : Steady s (flushGroup s g) := by
  unfold flushGroup
  exact Steady.foldl (fun u x => .ite ((lineOut_steady u x).trans ((cribsDrop_steady _ x.line).trans (dropLine_steady _ x.line))) (.refl u)) _ s

/-- The rotation of known-answer tests. -/
theorem katNext_steady (s : State) : Steady s (katNext s) := by
  have calm := katNext_calm s
  have only := (katNext_rotates s).only
  generalize katNext s = t at calm only ⊢
  refine ⟨?_, ?_, ?_, ?_, calm⟩ <;> rw [only]

theorem setUnit_steady (s : State) (u : UnitId) (g : UnitState → UnitState) : Steady s (setUnit s u g) :=
  ⟨rfl, rfl, rfl, rfl, Calm.of_eq rfl rfl⟩

theorem endTest_steady (s : State) (u : UnitId) : Steady s (endTest s u) := ⟨rfl, rfl, rfl, rfl, Calm.of_eq rfl rfl⟩

theorem cribEmpty_steady (s : State) (u : UnitId) : Steady s (cribEmpty s u) := ⟨rfl, rfl, rfl, rfl, Calm.of_eq rfl rfl⟩

/-- What a domain loses with its power (R711). -/
theorem powerLost_steady (s : State) (d : PdId) : Steady s (powerLost s d) := by
  unfold powerLost
  split
  · exact ((cribEmpty_steady s _).trans (endTest_steady _ _)).trans (setUnit_steady _ _ _)
  · split
    · exact (flushGroup_steady s _).trans (.ite (mcEnter_steady _ _ _) (.refl _))
    · split
      · exact nsEnter_steady s _ _
      · exact .ite ((entZero_steady s).trans (entEnter_steady _ _)) (.refl s)

/-- What it does on reaching ON. -/
theorem powerOn_steady (s : State) (d : PdId) : Steady s (powerOn s d) := by
  unfold powerOn
  split
  · exact setUnit_steady s _ _
  · split
    · split
      · exact mcEnter_steady s _ _
      · exact .refl s
    · split
      · exact nsEnter_steady s _ _
      · exact .ite (entEnter_steady s _) (.refl s)

/-- A unit that has lost its power: its key register, mask seed and crib are gone, and it is held no more. -/
theorem powerLost_unit {s : State} {d : PdId} {u : UnitId} (unit : pdUnit d = some u) :
    (powerLost s d).units[u].keyReg = none ∧ (powerLost s d).units[u].seeded = false ∧ (powerLost s d).units[u].crib = [] ∧
      (powerLost s d).units[u].held = false := by
  unfold pdUnit at unit
  split at unit
  next small =>
    cases unit
    unfold powerLost
    rw [dif_pos small]
    dsimp only
    rw [setUnit_units, upd_self]
    refine ⟨rfl, rfl, ?_, rfl⟩
    show (upd (cribEmpty s ⟨d.val, small⟩).units ⟨d.val, small⟩ _)[(⟨d.val, small⟩ : UnitId)].crib = []
    rw [upd_self]
    show (upd s.units ⟨d.val, small⟩ _)[(⟨d.val, small⟩ : UnitId)].crib = []
    rw [upd_self]
  next => cases unit

/-! ### Domains of units, groups and sources -/

section
variable {d : PdId}

/-- A unit's domain is no group's and no source's. -/
theorem pdUnit_some {u : UnitId} (h : pdUnit d = some u) : pdGroup d = none ∧ pdNs d = none ∧ d.val ≠ 62 ∧ d.val < 56 ∧ d.val = u.val := by
  unfold pdUnit at h
  split at h
  next small =>
    cases h
    exact ⟨dif_neg (by omega), dif_neg (by omega), by omega, small, rfl⟩
  next => cases h

/-- A group's domain is no unit's and no source's. -/
theorem pdGroup_some {g : ChanId} (h : pdGroup d = some g) :
    pdUnit d = none ∧ pdNs d = none ∧ d.val ≠ 62 ∧ 56 ≤ d.val ∧ d.val < 60 ∧ d.val - 56 = g.val := by
  unfold pdGroup at h
  split at h
  next small =>
    cases h
    exact ⟨dif_neg (by omega), dif_neg (by omega), by omega, small.1, small.2, rfl⟩
  next => cases h

/-- A source's domain is no unit's and no group's. -/
theorem pdNs_some {n : NsId} (h : pdNs d = some n) : pdUnit d = none ∧ pdGroup d = none ∧ d.val ≠ 62 := by
  unfold pdNs at h
  split at h
  next small =>
    cases h
    exact ⟨dif_neg (by omega), dif_neg (by omega), by omega⟩
  next => cases h

/-- Nor is PD62. -/
theorem pd62_none (h : d.val = 62) : pdUnit d = none ∧ pdGroup d = none ∧ pdNs d = none :=
  ⟨dif_neg (by omega), dif_neg (by omega), dif_neg (by omega)⟩

end


/-! ### POWER_DOWN_COMPLETE (R711) -/

/-- A domain just OFF. -/
def offNow (p : Pd) : Pd := { p with state := .off, gates := satInc p.gates, hold := 0 }

/-- The machine once a domain is OFF. -/
def poweredDown (s : State) (d : PdId) : State := katNext (setPd (powerLost s d) d offNow)

/-- Does an access wait for the group of a domain? -/
def domainAwaited (s : State) (d : PdId) : Bool := ((pdGroup d).map (groupAwaited s)).getD false

theorem domainAwaited_iff (s : State) (d : PdId) : domainAwaited s d = true ↔ ∃ g, pdGroup d = some g ∧ groupAwaited s g = true := by
  unfold domainAwaited
  cases pdGroup d with
  | none => simp
  | some g => simp

section
variable {s : State} {d : PdId}

/-- The domains then, what waits, and the unit of the domain. -/
theorem poweredDown_spec (s : State) (d : PdId) : (poweredDown s d).pds = upd s.pds d offNow ∧
    domainAwaited (poweredDown s d) d = domainAwaited s d ∧
    ∀ u, pdUnit d = some u → (poweredDown s d).units[u].keyReg = none ∧ (poweredDown s d).units[u].seeded = false ∧
      (poweredDown s d).units[u].crib = [] ∧ (poweredDown s d).units[u].held = false := by
  have lost := powerLost_steady s d
  have turns := katNext_steady (setPd (powerLost s d) d offNow)
  refine ⟨?_, ?_, fun u unit => ?_⟩
  · unfold poweredDown
    rw [turns.pds, setPd_pds, lost.pds]
  · unfold domainAwaited
    cases pdGroup d with
    | none => rfl
    | some g => exact (turns.awaited g).trans (lost.awaited g)
  · unfold poweredDown
    rw [(katNext_rotates _).units u]
    exact powerLost_unit unit

/-- POWER_DOWN_COMPLETE of a domain on its way down: it is OFF, or wakes again where it is wanted or awaited. -/
theorem exec_powerDownComplete (st : s.pds[d].state = .poweringDown) :
    exec (.powerDownComplete d) s = .next (if offWanted s.pds[d] = true then
        (if domainAwaited s d = true then
          raiseEv (wake (setPd (poweredDown s d) d fun p => { p with offReq := false, cancelled := false }) d true) 314
        else raiseEv (setPd (poweredDown s d) d fun p => { p with result := .done }) 311)
      else wake (poweredDown s d) d false) := by
  obtain ⟨pds, awaited, -⟩ := poweredDown_spec s d
  have wanted : offWanted (poweredDown s d).pds[d] = offWanted s.pds[d] := by
    rw [pds, upd_self]
    rfl
  show execPowerDownComplete d s = _
  unfold execPowerDownComplete
  rw [if_neg (not_not_intro st)]
  extract_lets u held
  have down : u = poweredDown s d := rfl
  have waits : held = domainAwaited u d := rfl
  clear_value u held
  subst down
  rw [waits, wanted, awaited]
  cases offWanted s.pds[d] with
  | false => exact if_pos rfl
  | true =>
    rw [if_pos rfl, if_neg (by decide)]
    split <;> rfl

/-- Its unit is empty, however it goes on. -/
theorem powerDownComplete_unit (st : s.pds[d].state = .poweringDown) {u : UnitId} (unit : pdUnit d = some u) :
    Ends (.powerDownComplete d) s fun t =>
      t.units[u].keyReg = none ∧ t.units[u].seeded = false ∧ t.units[u].crib = [] ∧ t.units[u].held = false := by
  obtain ⟨-, -, units⟩ := poweredDown_spec s d
  have raised (v : State) (k : EvId) (same : v.units = (poweredDown s d).units) : (raiseEv v k).units = (poweredDown s d).units := by
    rw [raiseEv_only v k false]
    exact same
  have kept : Ends (.powerDownComplete d) s fun t => t.units = (poweredDown s d).units := by
    refine ⟨_, exec_powerDownComplete st, ?_⟩
    have woken (v : State) (demand : Bool) : (wake v d demand).units = v.units := rfl
    generalize poweredDown s d = v at raised ⊢
    exact ite_keeps (g := State.units) (ite_keeps (g := State.units) (raised _ 314 (woken _ true)) (raised _ 311 (setPd_units v d _)))
      (woken v false)
  obtain ⟨t, run, same⟩ := kept
  refine ⟨t, run, ?_⟩
  beta_reduce
  rw [same]
  exact units u unit

/-- The domain then. -/
theorem powerDownComplete_ends (st : s.pds[d].state = .poweringDown) :
    let x : Pd := { s.pds[d] with gates := satInc s.pds[d].gates, hold := 0 }
    (offWanted s.pds[d] = true → domainAwaited s d = false → Ends (.powerDownComplete d) s fun t =>
      t.pds[d] = { x with state := .off, result := .done } ∧ (evSrc t .pf1 311).cause = true) ∧
    (offWanted s.pds[d] = true → domainAwaited s d = true → Ends (.powerDownComplete d) s fun t => (evSrc t .pf1 314).cause = true ∧
      t.pds[d] = { x with state := .waking, demand := true, result := .inProgress, offReq := false, cancelled := false }) ∧
    (offWanted s.pds[d] = false → Ends (.powerDownComplete d) s fun t =>
      t.pds[d] = { x with state := .waking, demand := false, result := .inProgress }) := by
  intro x
  obtain ⟨pds, -, -⟩ := poweredDown_spec s d
  have at_ : (poweredDown s d).pds[d] = offNow s.pds[d] := by rw [pds, upd_self]
  have run := exec_powerDownComplete st
  refine ⟨fun wanted free => ?_, fun wanted awaited => ?_, fun on => ?_⟩
  · rw [if_pos wanted, if_neg (by rw [free]; decide)] at run
    refine ⟨_, run, ?_, (raiseEv_device _ false (by decide) (by decide)).1⟩
    rw [raiseEv_pds, (setPd_at _ d _).1, at_]
    rfl
  · rw [if_pos wanted, if_pos awaited] at run
    refine ⟨_, run, (raiseEv_device _ false (by decide) (by decide)).1, ?_⟩
    rw [raiseEv_pds]
    unfold wake
    rw [setPd_setPd, (setPd_at _ d _).1, at_]
    rfl
  · rw [if_neg (by rw [on]; decide)] at run
    refine ⟨_, run, ?_⟩
    unfold wake
    beta_reduce
    rw [(setPd_at _ d _).1, at_]
    rfl

/-- Of a domain that is not on its way down it changes nothing. -/
theorem powerDownComplete_none (st : s.pds[d].state ≠ .poweringDown) : exec (.powerDownComplete d) s = .next s := if_pos st

end

/-! ### A domain that arrives (R302, R708) -/

/-- The devices stand, and with good routes the Halter is told nothing. -/
theorem pdArrived_rest (s : State) (d : PdId) : (pdArrived s d).units = s.units ∧ (pdArrived s d).mcs = s.mcs ∧
    (pdArrived s d).ns = s.ns ∧ (pdArrived s d).mgr = s.mgr ∧ Calm s (pdArrived s d) := by
  have clear (u : State) : (clearStarved u).units = u.units ∧ (clearStarved u).mcs = u.mcs ∧ (clearStarved u).ns = u.ns ∧
      (clearStarved u).mgr = u.mgr ∧ Calm u (clearStarved u) := ⟨rfl, rfl, rfl, rfl, Calm.of_eq rfl rfl⟩
  have noted : Calm s (setPd s d fun p => { p with state := .on, result := .done, hold := 0 }) := Calm.of_eq rfl rfl
  unfold pdArrived
  have only := raiseEv_only (setPd s d fun p => { p with state := .on, result := .done, hold := 0 }) 311 false
  have calm := raiseEv_calm (setPd s d fun p => { p with state := .on, result := .done, hold := 0 }) 311 false
  generalize raiseEv (setPd s d fun p => { p with state := .on, result := .done, hold := 0 }) 311 = t at only calm ⊢
  obtain ⟨units, mcs, ns, mgr, cleared⟩ := clear t
  refine ⟨units.trans ?_, mcs.trans ?_, ns.trans ?_, mgr.trans ?_, (noted.trans calm).trans cleared⟩ <;> rw [only] <;> rfl

/-! ### DOMAIN_POWER_STABLE (R596, R705) -/

/-- A domain just ON. -/
def onNow (p : Pd) : Pd := { p with state := .on, hold := 0 }

section
variable {s : State} {d : PdId}

/-- A domain with an empty Manger's input, once its power stands: the gate asked for meanwhile, or ON. -/
theorem exec_domainPowerStable (quiet : Quiet s) (good : RoutesGood s) (real : d.val ≠ 63) (st : s.pds[d].state = .waking)
    (filled : groupNotFilled s d = false) (empty : s.mgr.held = []) :
    (offWanted s.pds[d] = false → exec (.domainPowerStable d) s = .next (pdArrived (powerOn (setPd s d onNow) d) d)) ∧
    (offWanted s.pds[d] = true → ∃ t, exec (.domainPowerStable d) s = .next t ∧ Gates (powerOn (setPd s d onNow) d) d (onNow s.pds[d]) t) := by
  have on := powerOn_steady (setPd s d onNow) d
  have noted : Calm s (setPd s d onNow) := Calm.of_eq rfl rfl
  have at_ : (powerOn (setPd s d onNow) d).pds[d] = onNow s.pds[d] := by rw [on.pds, setPd_pds, upd_self]
  have wanted : offWanted (powerOn (setPd s d onNow) d).pds[d] = offWanted s.pds[d] := by
    rw [at_]
    rfl
  have run : exec (.domainPowerStable d) s = (if offWanted s.pds[d] then
      .next (settle (gateStep (holdZero (resumeHeld (powerOn (setPd s d onNow) d)) d) d))
      else .next (settle (resumeHeld (pdArrived (powerOn (setPd s d onNow) d) d)))) := by
    rw [← wanted]
    show execDomainPowerStable d s = _
    unfold execDomainPowerStable
    rw [if_neg (not_not_intro st), if_neg real, if_neg (by rw [filled]; decide)]
    rfl
  have held : (powerOn (setPd s d onNow) d).mgr.held = [] := on.held.trans empty
  refine ⟨fun no => ?_, fun yes => ?_⟩
  · obtain ⟨-, -, -, mgr, arrived⟩ := pdArrived_rest (powerOn (setPd s d onNow) d) d
    have calm : Calm s (pdArrived (powerOn (setPd s d onNow) d) d) := (noted.trans on.calm).trans arrived
    rw [run, no, if_neg Bool.false_ne_true, resumeHeld_none (by rw [mgr]; exact held), calm.settle quiet good]
  · rw [run, yes, if_pos rfl, resumeHeld_none held]
    have gates := gateStep_gates_self (powerOn (setPd s d onNow) d) d
    rw [at_] at gates
    have moved (u : State) (hu : u.hlt = (powerOn (setPd s d onNow) d).hlt) : (gateStep u d).hlt = s.hlt := by
      have kept : (letGo u d).hlt = u.hlt := by
        unfold letGo
        split <;> rfl
      refine Eq.trans ?_ (hu.trans ((noted.trans on.calm).hlt good))
      exact ite_keeps (g := State.hlt) rfl (ite_keeps (g := State.hlt) rfl kept)
    rw [settle_of_quiet (by rw [moved _ (by rw [holdZero_only])]; exact quiet)]
    exact ⟨_, rfl, gates⟩

end

section
variable {s : State} {d : PdId}

/-- A unit's domain has no channel to fill. -/
theorem groupNotFilled_none (none : pdGroup d = none) : groupNotFilled s d = false := by
  unfold groupNotFilled
  rw [none]

/-- A unit that gains power is due its known-answer test (R297). -/
theorem powerOn_unit {u : UnitId} (unit : pdUnit d = some u) : powerOn s d = setUnit s u fun x => { x with testDue := true } := by
  unfold powerOn
  rw [unit]

/-- A group that gains power runs its channel again. -/
theorem powerOn_group {g : ChanId} (group : pdGroup d = some g) (st : s.mcs[g].state = .selfRefresh) : powerOn s d = mcEnter s g .run := by
  obtain ⟨unit, -⟩ := pdGroup_some group
  unfold powerOn
  simp only [unit, group, st]

/-- A source that gains power begins its start-up test (R489). -/
theorem powerOn_ns {n : NsId} (source : pdNs d = some n) : powerOn s d = nsEnter s n .startup := by
  obtain ⟨unit, group, -⟩ := pdNs_some source
  unfold powerOn
  simp only [unit, group, source]

/-- A channel that leaves self-refresh runs. -/
theorem mcEnter_run {g : ChanId} (st : s.mcs[g].state = .selfRefresh) : (mcEnter s g .run).mcs[g].state = .run := by
  have raised (u : State) (c : Bool) : (if c then raiseEv u 306 else u).mcs = u.mcs :=
    ite_keeps (g := State.mcs) (by rw [raiseEv_only u 306 false]) rfl
  unfold mcEnter
  rw [if_neg (by rw [st]; decide)]
  dsimp only
  rw [if_pos (by decide), raised, setMc_mcs, upd_self]

/-- A source is in the state that it enters. -/
theorem nsEnter_state (s : State) (n : NsId) (st : NsState) : (nsEnter s n st).ns[n].state = st := by
  by_cases same : s.ns[n].state = st
  · unfold nsEnter
    rw [if_pos same]
    exact same
  · exact congrArg Ns.state ((SourceIs.refl s n).enter same).self

/-- A domain has come ON and is told, and the Halter hears nothing. -/
def Arrived (d : PdId) (s t : State) : Prop :=
  t.pds[d] = { s.pds[d] with state := .on, hold := 0, result := .done } ∧ (evSrc t .pf1 311).cause = true ∧ t.hlt = s.hlt

section
variable (quiet : Quiet s) (good : RoutesGood s) (real : d.val ≠ 63) (st : s.pds[d].state = .waking) (on : offWanted s.pds[d] = false)
  (empty : s.mgr.held = [])
include quiet good real st on empty

/-- DOMAIN_POWER_STABLE of a domain wanted ON, with nothing to fill. -/
theorem domainPowerStable_on (filled : groupNotFilled s d = false) :
    ∃ t, exec (.domainPowerStable d) s = .next t ∧ Arrived d s t ∧ t.units = (powerOn (setPd s d onNow) d).units ∧
      t.mcs = (powerOn (setPd s d onNow) d).mcs ∧ t.ns = (powerOn (setPd s d onNow) d).ns := by
  have powered := powerOn_steady (setPd s d onNow) d
  have noted : Calm s (setPd s d onNow) := Calm.of_eq rfl rfl
  obtain ⟨arrives, -⟩ := exec_domainPowerStable quiet good real st filled empty
  obtain ⟨units, mcs, ns, -, calm⟩ := pdArrived_rest (powerOn (setPd s d onNow) d) d
  refine ⟨_, arrives on, ⟨?_, pdArrived_told _ d, ((noted.trans powered.calm).trans calm).hlt good⟩, units, mcs, ns⟩
  rw [pdArrived_pds, (setPd_at _ d _).1, powered.pds, (setPd_at s d onNow).1]
  rfl

/-- Of a unit's domain. -/
theorem domainPowerStable_unit {u : UnitId} (unit : pdUnit d = some u) :
    Ends (.domainPowerStable d) s fun t => Arrived d s t ∧ t.units[u] = { s.units[u] with testDue := true } := by
  obtain ⟨group, -⟩ := pdUnit_some unit
  obtain ⟨t, run, now, units, -⟩ := domainPowerStable_on quiet good real st on empty (groupNotFilled_none group)
  refine ⟨t, run, now, ?_⟩
  rw [units, powerOn_unit unit, setUnit_units, upd_self]
  rfl

/-- Of a group whose channel is in self-refresh. -/
theorem domainPowerStable_group {g : ChanId} (group : pdGroup d = some g) (rests : s.mcs[g].state = .selfRefresh) :
    Ends (.domainPowerStable d) s fun t => Arrived d s t ∧ t.mcs[g].state = .run := by
  have filled : groupNotFilled s d = false := by
    unfold groupNotFilled
    rw [group]
    dsimp only
    rw [rests]
    rfl
  obtain ⟨t, run, now, -, mcs, -⟩ := domainPowerStable_on quiet good real st on empty filled
  refine ⟨t, run, now, ?_⟩
  rw [mcs, powerOn_group (s := setPd s d onNow) group rests]
  exact mcEnter_run (s := setPd s d onNow) rests

/-- Of a source. -/
theorem domainPowerStable_ns {n : NsId} (source : pdNs d = some n) :
    Ends (.domainPowerStable d) s fun t => Arrived d s t ∧ t.ns[n].state = .startup := by
  obtain ⟨-, group, -⟩ := pdNs_some source
  obtain ⟨t, run, now, -, -, ns⟩ := domainPowerStable_on quiet good real st on empty (groupNotFilled_none group)
  refine ⟨t, run, now, ?_⟩
  rw [ns, powerOn_ns source]
  exact nsEnter_state _ n .startup

end

/-- DOMAIN_POWER_STABLE of a group whose channel was never trained starts its training (R596). -/
theorem domainPowerStable_trains (real : d.val ≠ 63) (st : s.pds[d].state = .waking) {g : ChanId} (group : pdGroup d = some g)
    (off : s.mcs[g].state = .off) (enabled : s.mcs[g].enable = true) :
    Ends (.domainPowerStable d) s fun t => t.pds = s.pds ∧ t.mcs[g].state = .training := by
  have empty : groupNotFilled s d = true := by
    unfold groupNotFilled
    rw [group]
    dsimp only
    rw [off, enabled]
    rfl
  have run : exec (.domainPowerStable d) s = .next (mcEnter s g .training) := by
    show execDomainPowerStable d s = _
    unfold execDomainPowerStable
    rw [if_neg (not_not_intro st), if_neg real, if_pos empty, group]
    exact congrArg _ (if_pos off)
  refine ⟨_, run, ?_⟩
  rw [mcEnter_plain off (by decide) (by decide) (by decide)]
  refine ⟨rfl, ?_⟩
  rw [setMc_mcs, upd_self]

/-- Of a domain that is not waking it changes nothing. -/
theorem domainPowerStable_none (st : s.pds[d].state ≠ .waking) : exec (.domainPowerStable d) s = .next s := if_pos st

/-! ### A unit asked off while it woke -/

/-- Which key register a hold zeroises, and what secure-world state a unit has, depends on its work, its key register, the
requests, the stalls and the feed session. -/
theorem secureState_congr {t : State} {u : UnitId} (unit : pdUnit d = some u) (others : t = { s with units := t.units, pds := t.pds })
    (run : t.units[u].run = s.units[u].run) (suspended : t.units[u].suspended = s.units[u].suspended)
    (key : t.units[u].keyReg = s.units[u].keyReg) : secureState t d = secureState s d := by
  have reqs (i : Nat) : secureReq t i = secureReq s i := by rw [others]; rfl
  have stalls : t.stalls = s.stalls := by rw [others]
  have feed : t.feed = s.feed := by rw [others]
  unfold secureState
  simp only [unit, run, suspended, key, stalls, feed, funext reqs]

/-- Does the hold's zeroisation reach the key register of a unit? -/
def holdZeroes (s : State) (u : UnitId) : Bool :=
  (s.units[u].keyReg.map fun k => s.stalls[k.stall].secure &&
    !((s.units[u].run.toList ++ s.units[u].suspended.toList).any fun i =>
      ((findReq s i).map fun q => decide (q.stall = k.stall)).getD false)).getD false

/-- It zeroises it then. -/
theorem holdZero_eq {u : UnitId} (unit : pdUnit d = some u) : holdZero s d = if holdZeroes s u then zeroKeyReg s u else s := by
  unfold holdZero
  rw [unit]
  rfl

/-- The unit then. -/
theorem holdZero_unit {u : UnitId} (unit : pdUnit d = some u) : (holdZero s d).units[u] =
    { s.units[u] with keyReg := if holdZeroes s u then none else s.units[u].keyReg } := by
  rw [holdZero_eq unit]
  cases holdZeroes s u with
  | false => rfl
  | true => exact upd_self _ _ _

/-- A unit due a test has the same secure-world state, and the same work to drain. -/
theorem testDue_gate {u : UnitId} (unit : pdUnit d = some u) (pds : Vector Pd 64) :
    let t := setUnit { s with pds := pds } u fun x => { x with testDue := true }
    secureState (holdZero t d) d = secureState (holdZero s d) d ∧ drainLeft t d = drainLeft s d := by
  intro t
  have at_ : t.units[u] = { s.units[u] with testDue := true } := upd_self _ _ _
  have zeroes : holdZeroes t u = holdZeroes s u := by
    unfold holdZeroes
    rw [at_]
    rfl
  have held := holdZero_unit (s := t) unit
  have was := holdZero_unit (s := s) unit
  rw [at_, zeroes] at held
  have only := holdZero_only t d
  have before := holdZero_only s d
  have others : holdZero t d = { holdZero s d with units := (holdZero t d).units, pds := (holdZero t d).pds } := by
    rw [before]
    generalize (holdZero t d) = v at only ⊢
    rw [only]
    rfl
  refine ⟨secureState_congr unit others ?_ ?_ ?_, ?_⟩
  · rw [held, was]
  · rw [held, was]
  · rw [held, was]
  · unfold drainLeft
    rw [unit]
    dsimp only
    rw [at_]
    rfl

/-- DOMAIN_POWER_STABLE of an idle unit asked off goes on to power down (R722). -/
theorem domainPowerStable_off (quiet : Quiet s) (good : RoutesGood s) (st : s.pds[d].state = .waking) {u : UnitId}
    (unit : pdUnit d = some u) (off : offWanted s.pds[d] = true) (empty : s.mgr.held = []) (free : secureState (holdZero s d) d = 0)
    (idle : drainLeft s d = false) : Ends (.domainPowerStable d) s fun t =>
      t.pds[d] = { s.pds[d] with state := .poweringDown, result := .inProgress, hold := 0 } := by
  obtain ⟨group, -, -, small, -⟩ := pdUnit_some unit
  obtain ⟨-, gates⟩ := exec_domainPowerStable quiet good (by omega) st (groupNotFilled_none group) empty
  obtain ⟨secure, drain⟩ := testDue_gate (s := s) unit (upd s.pds d onNow)
  obtain ⟨t, run, gate⟩ := gates off
  rw [powerOn_unit unit] at gate
  obtain ⟨self, -⟩ := gate.ends (secure.trans free) (drain.trans idle)
  exact ⟨t, run, self⟩

end

/-! ### DOMAIN_TRANSITION_TIMEOUT (R723) -/

/-- A domain that has failed. -/
def failNow (p : Pd) : Pd := { p with fail := true }

/-- The unit of a failed domain, fenced. -/
def unitFailed (s : State) (u : UnitId) : State :=
  let t := endTest (setUnit s u fun x => { x with fenced := true, keyReg := none, held := false }) u
  katNext (if lastFenced s t u then raiseEv t 295 else t)

section
variable {s : State} {d : PdId}

/-- A domain that is in no transition fails in none. -/
theorem domainTransitionTimeout_none (waking : s.pds[d].state ≠ .waking) (down : s.pds[d].state ≠ .poweringDown) :
    exec (.domainTransitionTimeout d) s = .next s := by
  show execDomainTransitionTimeout d s = _
  unfold execDomainTransitionTimeout
  split
  next st => exact absurd st waking
  next st => exact absurd st down
  next => rfl

/-- The unit of a failed domain is fenced without a key, and the domains stand. -/
theorem unitFailed_spec (s : State) (u : UnitId) :
    (unitFailed s u).pds = s.pds ∧ (unitFailed s u).units[u].fenced = true ∧ (unitFailed s u).units[u].keyReg = none := by
  have ended (t : State) (c : Bool) : Steady t (if c then raiseEv t 295 else t) ∧ (if c then raiseEv t 295 else t).units = t.units :=
    ⟨.ite (raiseEv_steady t 295) (.refl t), ite_keeps (g := State.units) (by rw [raiseEv_only t 295 false]) rfl⟩
  unfold unitFailed
  extract_lets t
  have at_ : t.units[u].fenced = true ∧ t.units[u].keyReg = none := by
    have ended : t.units[u] = { (setUnit s u fun x => { x with fenced := true, keyReg := none, held := false }).units[u] with
        testDue := false, testing := false } := upd_self _ _ _
    rw [ended, setUnit_units, upd_self]
    exact ⟨rfl, rfl⟩
  have pds : t.pds = s.pds := rfl
  obtain ⟨steady, units⟩ := ended t (lastFenced s t u)
  have turns := katNext_steady (if lastFenced s t u then raiseEv t 295 else t)
  have rotated := (katNext_rotates (if lastFenced s t u then raiseEv t 295 else t)).units u
  refine ⟨turns.pds.trans (steady.pds.trans pds), ?_, ?_⟩
  · rw [rotated, units]
    exact at_.1
  · rw [rotated, units]
    exact at_.2

/-- The Entropy Block fenced. -/
theorem entFence_steady (s : State) : Steady s (entFence s) := by
  have marked (u : State) : Steady u { u with ent := { u.ent with fenced := true } } := ⟨rfl, rfl, rfl, rfl, Calm.of_eq rfl rfl⟩
  unfold entFence
  exact ((entZero_steady s).trans (marked _)).trans (entEnter_steady _ _)

/-- A transition that times out fails the domain and raises a Halter source, where the rest has a property. -/
def TimesOut (s : State) (d : PdId) (k : HsId) (p : State → Prop) : Prop :=
  Ends (.domainTransitionTimeout d) s fun t => ∃ w, t = settle (raiseHs w k none) ∧ w.pds[d] = failNow s.pds[d] ∧ p w

/-- What it does to what the domain powers. -/
theorem timesOut_of {f : State → State} {k : HsId} {p : State → Prop}
    (run : exec (.domainTransitionTimeout d) s = .next (settle (raiseHs (f (setPd s d failNow)) k none)))
    (pds : (f (setPd s d failNow)).pds = (setPd s d failNow).pds) (left : p (f (setPd s d failNow))) : TimesOut s d k p :=
  ⟨_, run, _, rfl, by rw [pds]; exact (setPd_at s d failNow).1, left⟩

variable (st : s.pds[d].state = .waking ∨ s.pds[d].state = .poweringDown)
include st

/-- Of a unit's domain. -/
theorem domainTransitionTimeout_unit {u : UnitId} (unit : pdUnit d = some u) :
    TimesOut s d (unitHs u) fun w => w.units[u].fenced = true ∧ w.units[u].keyReg = none := by
  obtain ⟨group, source, not62, -⟩ := pdUnit_some unit
  obtain ⟨pds, left⟩ := unitFailed_spec (setPd s d failNow) u
  refine timesOut_of (f := (unitFailed · u)) ?_ pds left
  show execDomainTransitionTimeout d s = _
  unfold execDomainTransitionTimeout pdHs
  rcases st with st | st <;> simp only [st, unit, group, source, not62, if_false] <;> rfl

/-- Of a group. -/
theorem domainTransitionTimeout_group {g : ChanId} (group : pdGroup d = some g) :
    TimesOut s d (chanHs g) fun w => w.mcs[g].state = .fenced := by
  obtain ⟨unit, source, not62, -⟩ := pdGroup_some group
  refine timesOut_of (f := (mcEnter · g .fenced)) ?_ (mcEnter_steady _ g .fenced).pds ?_
  · show execDomainTransitionTimeout d s = _
    unfold execDomainTransitionTimeout pdHs
    rcases st with st | st <;> simp only [st, unit, group, source, not62, if_false] <;> rfl
  · by_cases fenced : (setPd s d failNow).mcs[g].state = .fenced
    · unfold mcEnter
      rw [if_pos fenced]
      exact fenced
    · exact (mcEnter_fenced fenced).1

/-- Of a source. -/
theorem domainTransitionTimeout_ns {n : NsId} (source : pdNs d = some n) :
    TimesOut s d (nsHs n) fun w => w.ns[n].state = .failed := by
  obtain ⟨unit, group, not62⟩ := pdNs_some source
  refine timesOut_of (f := (nsEnter · n .failed)) ?_ (nsEnter_steady _ n .failed).pds (nsEnter_state _ n .failed)
  show execDomainTransitionTimeout d s = _
  unfold execDomainTransitionTimeout pdHs
  rcases st with st | st <;> simp only [st, unit, group, source, not62, if_false] <;> rfl

/-- Of the Entropy Block. -/
theorem domainTransitionTimeout_ent (ent : d.val = 62) : TimesOut s d 78 fun w => w.ent.state = .fenced := by
  obtain ⟨unit, group, source⟩ := pd62_none ent
  refine timesOut_of (f := entFence) ?_ (entFence_steady _).pds (entFence_empties (setPd s d failNow)).1
  show execDomainTransitionTimeout d s = _
  unfold execDomainTransitionTimeout pdHs
  rcases st with st | st <;> simp only [st, unit, group, source, ent, if_true] <;> rfl

end

/-! ### BLOCK_RESET (R624, R722) -/

/-- A domain power-cycled by a block reset. -/
def cycled (p : Pd) : Pd :=
  { p with hold := 0, state := if offWanted p then .off else .waking, gates := satInc p.gates, demand := false }

section
variable {s : State} {d : PdId}

/-- A domain that is OFF, waking or failed takes no block reset. -/
theorem blockReset_none (quiet : Quiet s) (st : s.pds[d].state = .off ∨ s.pds[d].state = .waking ∨ s.pds[d].fail = true) :
    exec (.blockReset d) s = .next s := by
  have same : blockReset s d = s := by
    unfold blockReset
    refine if_pos ?_
    rcases st with st | st | st
    · exact .inl st
    · exact .inr (.inr (.inl st))
    · exact .inr (.inl st)
  show Host.Outcome.next (settle (blockReset s d)) = _
  rw [same, settle_of_quiet quiet]

variable (real : d.val ≠ 63) (on : s.pds[d].state ≠ .off) (awake : s.pds[d].state ≠ .waking) (sound : s.pds[d].fail = false)
include real on awake sound

theorem blockReset_live : ¬ (s.pds[d].state = .off ∨ s.pds[d].fail = true ∨ s.pds[d].state = .waking ∨ d.val = 63) := by
  rintro (h | h | h | h)
  · exact on h
  · rw [sound] at h
    cases h
  · exact awake h
  · exact real h

variable (quiet : Quiet s)
include quiet

/-- A block reset of a unit with no feed session: its request ends INTERNAL, and its domain is power-cycled. -/
theorem blockReset_unit (good : RoutesGood s) {u : UnitId} (unit : pdUnit d = some u) (idle : feedActive s = false) :
    Ends (.blockReset d) s fun t => t.pds[d] = cycled s.pds[d] ∧ t.units[u].keyReg = none ∧
      (∀ e : PdId, e ≠ d → t.pds[e] = s.pds[e]) ∧
      ∀ i q, s.units[u].run = some i → findReq s i = some q → q.done = none → OutcomeIs t i 0x7F 0x02 0 0 := by
  obtain ⟨group, -, -, small, same⟩ := pdUnit_some unit
  obtain rfl : (⟨d.val, small⟩ : UnitId) = u := Fin.ext same
  have live := blockReset_live real on awake sound
  let ends (q : Req) : Req :=
    if (s.units[(⟨d.val, small⟩ : UnitId)].run.toList ++ s.units[(⟨d.val, small⟩ : UnitId)].suspended.toList).contains q.id ∧ q.done.isNone
    then endReq q 0x7F 0x02 else q
  have ended : (blockEnds s ⟨d.val, small⟩).reqs = s.reqs.map ends ∧ (blockEnds s ⟨d.val, small⟩).pds = s.pds ∧
      Calm s (blockEnds s ⟨d.val, small⟩) := by
    unfold blockEnds feedBlock
    dsimp only
    split
    · rw [if_neg (by show ¬ feedActive s = true; rw [idle]; decide)]
      exact ⟨rfl, rfl, Calm.of_eq rfl rfl⟩
    · exact ⟨rfl, rfl, Calm.of_eq rfl rfl⟩
  obtain ⟨reqs, pds, calm⟩ := ended
  have run : blockReset s d = katNext (setPd (powerLost (blockEnds s ⟨d.val, small⟩) d) d cycled) := by
    unfold blockReset
    rw [if_neg live, dif_neg (by omega), dif_pos small]
    rfl
  have lost := powerLost_steady (blockEnds s ⟨d.val, small⟩) d
  have turns := katNext_steady (setPd (powerLost (blockEnds s ⟨d.val, small⟩) d) d cycled)
  have told : Calm s (blockReset s d) := by
    rw [run]
    have noted : Calm (powerLost (blockEnds s ⟨d.val, small⟩) d) (setPd (powerLost (blockEnds s ⟨d.val, small⟩) d) d cycled) :=
      Calm.of_eq rfl rfl
    exact ((calm.trans lost.calm).trans noted).trans turns.calm
  have domains : (blockReset s d).pds = upd s.pds d cycled := by
    rw [run, turns.pds, setPd_pds, lost.pds, pds]
  refine ⟨_, congrArg Host.Outcome.next (told.settle quiet good), ?_, ?_, fun e other => ?_, fun i q runs found open' => ?_⟩
  · rw [domains, upd_self]
  · rw [run, (katNext_rotates _).units]
    exact (powerLost_unit unit).1
  · rw [domains, upd_other _ _ other.symm]
  · have id (y : Req) : (ends y).id = y.id := by
      show (if _ then endReq y 0x7F 0x02 else y).id = y.id
      split <;> rfl
    have kept : (blockReset s d).reqs = s.reqs.map ends := by
      rw [run, turns.reqs, setPd_reqs, lost.reqs, reqs]
    have hit : ends q = endReq q 0x7F 0x02 := by
      refine if_pos ⟨?_, ?_⟩
      · rw [runs, findReq_id found]
        simp
      · rw [open']
        rfl
    have left := findReq_of_map id kept i
    rw [found, Option.map_some, hit] at left
    unfold OutcomeIs
    rw [left]
    rfl

/-- Of a group with reserved lines it waits; without, the group is power-cycled. -/
theorem blockReset_group (good : RoutesGood s) {g : ChanId} (group : pdGroup d = some g) :
    (groupReserved s g ≠ 0 → exec (.blockReset d) s = .next (setPd s d fun y => { y with blockReset := true })) ∧
    (groupReserved s g = 0 → Ends (.blockReset d) s fun t => t.pds[d] = { cycled s.pds[d] with blockReset := false }) := by
  obtain ⟨-, -, -, lo, hi, same⟩ := pdGroup_some group
  have small : d.val - 56 < 4 := by omega
  obtain rfl : (⟨d.val - 56, small⟩ : ChanId) = g := Fin.ext same
  have live := blockReset_live real on awake sound
  refine ⟨fun reserved => ?_, fun free => ?_⟩
  · have run : blockReset s d = setPd s d fun y => { y with blockReset := true } := by
      unfold blockReset
      rw [if_neg live, dif_pos ⟨lo, hi⟩, if_pos reserved]
    show Host.Outcome.next (settle (blockReset s d)) = _
    rw [run, settle_of_quiet (by exact quiet)]
  · have run : blockReset s d = setPd (powerLost s d) d fun p => { cycled p with blockReset := false } := by
      unfold blockReset
      rw [if_neg live, dif_pos ⟨lo, hi⟩, if_neg (not_not_intro free)]
      rfl
    have lost := powerLost_steady s d
    have told : Calm s (blockReset s d) := by
      rw [run]
      exact lost.calm.trans (Calm.of_eq rfl rfl)
    refine ⟨_, congrArg Host.Outcome.next (told.settle quiet good), ?_⟩
    rw [run]
    beta_reduce
    rw [(setPd_at _ d _).1, lost.pds]

end

/-! ### Pins (R721) -/

/-- A domain on which a pin is set: a gate under way is cancelled, OFF_REQ keeping its value, and a domain that is OFF wakes
(assumption 68). -/
def pinned (p : Pd) : Pd :=
  let x : Pd := { p with cancelled := p.offReq }
  if p.fail = true then p
  else if p.state = .draining ∨ p.state = .secureHold then { x with state := .on, result := .inProgress, hold := 0 }
  else if p.state = .off then { x with state := .waking, demand := false, result := .inProgress, hold := 0 } else x

/-- Pins are set on some domains: these alone change, with the marks of starved pools. -/
structure PinsSet (c : PdId → Prop) [DecidablePred c] (s t : State) : Prop where
  only : t = { s with pds := t.pds, disp := t.disp }
  pds : ∀ d : PdId, t.pds[d] = if c d then pinned s.pds[d] else s.pds[d]

/-- A pin set on one. -/
theorem pinSet_set {s : State} (phase : s.boot.phase ≠ .apply) (d : PdId) : PinsSet (· = d) s (pinSet s d) := by
  have one (g : Pd → Pd) (same : g s.pds[d] = pinned s.pds[d]) (e : PdId) :
      (setPd s d g).pds[e] = if e = d then pinned s.pds[e] else s.pds[e] := by
    obtain ⟨self, others⟩ := setPd_at s d g
    split
    next h =>
      subst h
      rw [self, same]
    next h => exact others e h
  have noted : (setPd s d fun p => { p with cancelled := p.offReq }).pds[d] = { s.pds[d] with cancelled := s.pds[d].offReq } :=
    (setPd_at s d _).1
  unfold pinSet
  split
  next failed =>
    refine ⟨rfl, fun e => ?_⟩
    split
    next h =>
      subst h
      exact (if_pos failed).symm
    next => rfl
  next sound =>
    dsimp only
    rw [noted]
    cases st : s.pds[d].state with
    | draining =>
      rw [setPd_setPd]
      exact ⟨rfl, one _ (by simp only [pinned, sound, st]; rfl)⟩
    | secureHold =>
      rw [setPd_setPd]
      exact ⟨rfl, one _ (by simp only [pinned, sound, st]; rfl)⟩
    | off =>
      dsimp only
      rw [setPd_boot, if_neg phase]
      unfold wake
      rw [setPd_setPd]
      exact ⟨rfl, one _ (by simp only [pinned, sound, st]; rfl)⟩
    | on => exact ⟨rfl, one _ (by simp only [pinned, sound, st]; rfl)⟩
    | waking => exact ⟨rfl, one _ (by simp only [pinned, sound, st]; rfl)⟩
    | poweringDown => exact ⟨rfl, one _ (by simp only [pinned, sound, st]; rfl)⟩

/-- Pins set on the domains of a list, one after the other. -/
theorem foldl_pinsSet (c : PdId → Prop) [DecidablePred c] {l : List PdId} (nodup : l.Nodup) {s : State} (phase : s.boot.phase ≠ .apply) :
    PinsSet (fun d => d ∈ l ∧ c d) s (l.foldl (fun s d => if c d then pinSet s d else s) s) := by
  induction l generalizing s with
  | nil => exact ⟨rfl, fun d => (if_neg fun h => nomatch h.1).symm⟩
  | cons k l ih =>
    obtain ⟨fresh, nodup⟩ := List.nodup_cons.1 nodup
    have first : PinsSet (fun d => d = k ∧ c k) s (if c k then pinSet s k else s) := by
      split
      next takes =>
        obtain ⟨only, pds⟩ := pinSet_set phase k
        exact ⟨only, fun d => by rw [pds]; simp only [takes, and_true]⟩
      next leaves => exact ⟨rfl, fun d => (if_neg fun h => leaves h.2).symm⟩
    rw [List.foldl_cons]
    generalize (if c k then pinSet s k else s) = u at first ⊢
    have rest := ih nodup (s := u) (by rw [first.only]; exact phase)
    refine ⟨by rw [rest.only, first.only], fun d => ?_⟩
    rw [rest.pds, first.pds]
    by_cases same : d = k
    · subst same
      simp [fresh]
    · simp [same]

/-- The write of the pins by PF1. -/
theorem pwrPinWrite_pins {s : State} (served : WritesServed s .pf1) (v : BitVec 64) : Ends (.pwrPinWrite .pf1 v) s fun t =>
    t = { s with pwr := { s.pwr with pin := v.setWidth 63 }, pds := t.pds, disp := t.disp, fns := t.fns } ∧
    ∀ d : PdId, t.pds[d] = if d.val = 63 ∨ bit v d.val = false ∨ bit s.pwr.pin d.val = true then s.pds[d] else pinned s.pds[d] := by
  have phase : s.boot.phase ≠ .apply := by
    obtain ⟨-, -, held | ready⟩ := served
    · rw [held]; decide
    · rw [ready]; decide
  have set := foldl_pinsSet (fun d : PdId => d.val < 63 ∧ bit v d.val = true ∧ (!bit s.pwr.pin d.val) = true) (List.nodup_finRange 64)
    (s := { dropLow s .pf1 (BitVec.ofNat 20 0x02400) with pwr := { s.pwr with pin := v.setWidth 63 } }) phase
  refine ⟨_, congrArg Host.Outcome.next (gateW64_served served 0x02400 _), ?_⟩
  change PinsSet _ _ (wrPin (dropLow s .pf1 (BitVec.ofNat 20 0x02400)) .pf1 v) at set
  generalize wrPin (dropLow s .pf1 (BitVec.ofNat 20 0x02400)) .pf1 v = t at set ⊢
  refine ⟨by rw [set.only]; rfl, fun d => ?_⟩
  have below : d.val < 63 ↔ d.val ≠ 63 := by omega
  have chosen : (d ∈ List.finRange 64 ∧ d.val < 63 ∧ bit v d.val = true ∧ (!bit s.pwr.pin d.val) = true) ↔
      ¬ (d.val = 63 ∨ bit v d.val = false ∨ bit s.pwr.pin d.val = true) := by simp [below]
  exact (set.pds d).trans ((if_congr chosen rfl rfl).trans (ite_not _ _ _))

/-! ### DEMAND_WAKE (R716) -/

section
variable {s : State} {g : ChanId}

/-- An access wakes a sound group that is OFF. -/
theorem demandWake_wakes (off : s.pds[groupPd g].state = .off) (sound : s.pds[groupPd g].fail = false) :
    Ends (.demandWake g) s fun t => (evSrc t .pf1 314).cause = true ∧ t.mgr = s.mgr ∧ t.dram = s.dram ∧
      t.pds[groupPd g] = { s.pds[groupPd g] with offReq := false, cancelled := false, state := .waking, demand := true,
                                                 result := .inProgress, hold := 0 } := by
  have run : demandWake s g = raiseEv (setPd s (groupPd g) fun p => { p with offReq := false, cancelled := false, state := .waking,
                                                                             demand := true, result := .inProgress, hold := 0 }) 314 := by
    unfold demandWake wake
    rw [if_pos ⟨off, by rw [sound]; rfl⟩, setPd_setPd]
  have kept : (demandWake s g).mgr = s.mgr ∧ (demandWake s g).dram = s.dram := by
    rw [run, raiseEv_only _ 314 false]
    exact ⟨rfl, rfl⟩
  obtain ⟨mgr, dram⟩ := kept
  refine ⟨_, rfl, ?_, mgr, dram, ?_⟩
  · rw [run]
    exact (raiseEv_device _ false (by decide) (by decide)).1
  · rw [run, raiseEv_pds, (setPd_at s _ _).1]

/-- No other does. -/
theorem demandWake_none (no : s.pds[groupPd g].state ≠ .off ∨ s.pds[groupPd g].fail = true) : exec (.demandWake g) s = .next s := by
  refine congrArg Host.Outcome.next (if_neg ?_)
  rintro ⟨off, sound⟩
  rcases no with on | failed
  · exact on off
  · rw [failed] at sound
    cases sound

end

/-- Settles O43: the requests by the gate they begin, the transitions by what is lost and gained with power, pins and demand wakes
by the domain that they reach. -/
theorem powerDomainsAct : Obligations.PowerDomainsAct := by
  refine ⟨fun s f d _ real served ready => ?_, fun s d quiet good real => ?_, fun s good => ⟨fun served v => ?_, fun served v => ?_, fun g => ?_⟩⟩
  · intro p z others gates
    have gated {c : Instr} {x : Pd} (h : ∃ t, exec c s = .next t ∧ Gates s d x t) : gates c x := by
      obtain ⟨t, run, holds, drains, ends, rest⟩ := h
      exact ⟨fun secure => ⟨t, run, (holds secure).1, rest, (holds secure).2⟩,
        fun free work => ⟨t, run, (drains free work).1, rest, (drains free work).2⟩,
        fun free idle => ⟨t, run, (ends free idle).1, rest, (ends free idle).2⟩⟩
    obtain ⟨offStands, offFailed, offPinned, offFree⟩ := offRequest_cases (s := s) (f := f) (d := d) real
    obtain ⟨onStands, onFailed, -⟩ := onRequest_cases (s := s) (d := d) real
    have offRun := exec_pwrOffReq served ready real
    have onRun := exec_pwrOnReq served ready real
    obtain ⟨drain, hold, noHold⟩ := drained_gates (s := s) (d := d)
    refine ⟨fun off => offRun.trans (congrArg _ (offStands off)), fun on => onRun.trans (congrArg _ (onStands on)),
      fun failed => ⟨fun on => offRun.trans (congrArg _ (offFailed on failed)), fun off => onRun.trans (congrArg _ (onFailed off failed))⟩,
      fun sound on pin => ⟨_, offRun.trans (congrArg _ (offPinned on sound pin)), pdRefuse_spec s d f⟩,
      fun sound on free pf0 least => ?_, fun sound on free kept => ?_, fun sound off => pwrOnReq_taken served ready real sound off,
      fun st plain => gated (drain st plain), fun st => gated (hold st), noHold⟩
    · obtain ⟨breaks, -⟩ := offFree on sound free
      refine ⟨_, offRun.trans (congrArg _ (breaks pf0 least)), ?_, raiseEv_denied _⟩
      rw [raiseEv_pds]
      exact (setPd_at s d _).1
    · obtain ⟨gate, off, moves⟩ := pwrOffReq_taken served ready real sound on free kept
      exact ⟨fun st => gated (gate st), off, moves⟩
  · intro p
    refine ⟨fun st => ?_, powerDownComplete_none, fun st on empty => ?_, fun u unit st off empty free idle =>
        domainPowerStable_off quiet good st unit off empty free idle,
      fun st => ⟨domainPowerStable_none st, domainTransitionTimeout_none st⟩, fun st => ?_, blockReset_none quiet, fun off awake sound => ?_⟩
    · intro x awaited
      obtain ⟨rests, wakes, returns⟩ := powerDownComplete_ends st
      refine ⟨fun u unit => powerDownComplete_unit st unit, fun off no => rests off ?_, fun off yes => wakes off ?_, returns⟩
      · exact Bool.eq_false_iff.2 fun h => no ((domainAwaited_iff s d).1 h)
      · exact (domainAwaited_iff s d).2 yes
    · exact ⟨fun u unit => domainPowerStable_unit quiet good real st on empty unit,
        fun g group rests => domainPowerStable_group quiet good real st on empty group rests,
        fun g group off enabled => domainPowerStable_trains real st group off enabled,
        fun n source => domainPowerStable_ns quiet good real st on empty source⟩
    · exact ⟨fun u unit => domainTransitionTimeout_unit st unit, fun g group => domainTransitionTimeout_group st group,
        fun n source => domainTransitionTimeout_ns st source, fun ent _ => domainTransitionTimeout_ent st ent⟩
    · intro x
      exact ⟨fun u unit idle => blockReset_unit real off awake sound quiet good unit idle,
        fun g group => blockReset_group real off awake sound quiet good group⟩
  · exact congrArg Host.Outcome.next (gateW64_served served 0x02400 _)
  · obtain ⟨t, run, only, pds⟩ := pwrPinWrite_pins served v
    refine ⟨t, run, only, fun d => ?_⟩
    intro p x
    rw [pds]
    by_cases out : d.val = 63 ∨ bit v d.val = false ∨ bit s.pwr.pin d.val = true
    · rw [if_pos out, if_pos (by tauto)]
    · rw [if_neg out]
      by_cases failed : p.fail = true
      · rw [if_pos (by tauto)]
        exact if_pos failed
      · rw [if_neg (by tauto)]
        exact if_neg failed
  · exact ⟨demandWake_none, demandWake_wakes⟩

end Sys2Proof.Power
